-- ==== Sys2Proof/Word.lean ====
section
/-! DEFINITION. The word types of the chip set (R11, R605: registers are 32 bits wide) and the sparse tables that
hold registers, memories and records. -/
namespace Sys2Proof

/-- A register word (R605). -/
abbrev Word := BitVec 32

/-- A byte of a frame, a buffer or a memory. -/
abbrev Byte := BitVec 8

/-- A string of bytes as it passes on a line: a strand frame, a station frame, a Splice record. -/
abbrev Bytes := List (BitVec 8)

/-- A sparse table: key and value pairs, keys strictly rising, no entry equal to what an unlisted key reads as. The
default of each key is an argument of the operations on it (Machine/Ops.lean). -/
abbrev Sparse (α : Type) := List (Nat × α)

/-- Converter time in units of 2^-16 ns since the PTP epoch (R49: a 64-bit count of nanoseconds and a 16-bit
fraction). -/
abbrev Instant := Nat

/-- The two FD7200 units of a converter (R2). -/
inductive UnitId where
  | a
  | b
  deriving DecidableEq, Repr

/-- The partner of a unit (R10). -/
def UnitId.other : UnitId → UnitId
  | .a => .b
  | .b => .a

/-- A strand port side of a cell, A-side or B-side; it also names the unit that side faces (R17, R19). -/
abbrev Side := UnitId

/-- A cell by its strand (0 to 95) and hop index (0 to 63): R6, R16. -/
structure CellId where
  strand : Fin 96
  hop    : Fin 64
  deriving DecidableEq, Repr

/-- The key of a cell in the sparse tables of cells. -/
def CellId.key (c : CellId) : Nat := c.strand.val * 64 + c.hop.val

end Sys2Proof
end

