-- ==== Sys2Proof/Types.lean ====
section
/-! DEFINITION. The operand types of the commands: who makes an access, what a line carries, what the two units say to
each other over Splice. -/
namespace Sys2Proof

/-- The requesters of a unit's register space: the two PCIe functions and the four management cores (R479, R606). -/
inductive Requester where
  | pf0
  | pf1
  | core (n : Fin 4)
  deriving DecidableEq, Repr

/-- The key of a requester in the sparse table of read latches and write holds. -/
def Requester.key : Requester → Nat
  | .pf0 => 0
  | .pf1 => 1
  | .core n => 2 + n.val

/-- The function number of a PCIe requester; cores have none. -/
def Requester.fn? : Requester → Option Nat
  | .pf0 => some 0
  | .pf1 => some 1
  | .core _ => none

/-- The requesters of a cell's register space: its core, and each unit through management entries (R606). -/
inductive CellReq where
  | core
  | unit (u : UnitId)
  deriving DecidableEq, Repr

/-- The key of a cell requester in the sparse table of read latches and write holds. -/
def CellReq.key : CellReq → Nat
  | .core => 0
  | .unit .a => 1
  | .unit .b => 2

/-- Whether a requester is the cell's own core. -/
def CellReq.isCore : CellReq → Bool
  | .core => true
  | .unit _ => false

/-- Who accesses which register space: a requester of a unit, or a requester of a cell.
Log entry 223 (DESIGN CHOICE). -/
inductive RegPort where
  | unit (u : UnitId) (q : Requester)
  | cell (c : CellId) (r : CellReq)
  deriving DecidableEq, Repr

/-- One end of a link that takes or loses lock: a strand port of a unit, a strand port of a cell, or the receive side of
a physical Splice lane. -/
inductive LinkEnd where
  | unit (u : UnitId) (p : Fin 100)
  | cell (c : CellId) (side : Side)
  | lane (u : UnitId) (n : Fin 4)
  deriving DecidableEq, Repr

/-- A frame as a port has decoded it, and the code and disparity errors decoded on the port since its last one (R144,
R145).
Log entry 184 (DESIGN CHOICE). -/
structure RxFrame where
  bytes : Bytes
  errs  : BitVec 16 := 0
  deriving DecidableEq, Repr

/-- A frame decoded on a unit's port, and whether a fault set or the loss of lock has cut it.
Log entry 184 (DESIGN CHOICE). -/
structure RxCut extends RxFrame where
  cut : Bool := false
  deriving DecidableEq, Repr

/-- A fault set as a port has decoded it: its code byte and its origin (R117).
Log entry 185 (DEDUCED). -/
structure FaultCode where
  code   : Byte
  origin : UnitId
  deriving DecidableEq, Repr

/-- A receiver's loss of lock: the code and disparity errors since the last frame, and when.
Log entry 184 (DESIGN CHOICE). -/
structure LockLoss where
  errs : BitVec 16 := 0
  at_  : Instant
  deriving DecidableEq, Repr

/-- A side of a cell, and when. -/
structure SideAt where
  side : Side
  at_  : Instant
  deriving DecidableEq, Repr

/-- A cell, and when. -/
structure CellAt where
  cell : CellId
  at_  : Instant
  deriving DecidableEq, Repr

/-- What the self-supply senses at a turn-off: the voltage of the current-sense pin and VAUX, in mV. -/
structure SupSense where
  sscs : Nat
  vaux : Nat
  deriving DecidableEq, Repr

/-- Raw outputs of the slice that serves a channel and of the spare slice at one ready instant. -/
structure RawPair where
  main  : Int
  spare : Int
  deriving DecidableEq, Repr

/-- The launch of a unit's frames: when, and the ports on which the unit finds an error in the frame while it sends (R124).
Log entry 184 (DESIGN CHOICE). -/
structure Launch where
  at_    : Instant
  faulty : List (Fin 100) := []
  deriving DecidableEq, Repr

/-- The quantities of a sampled-value frame: value and quality (R509). -/
abbrev SvValues := List (Word × Word)

/-- The top-level elements of allData of a GOOSE message: a BOOLEAN, or an element of another type (R520). -/
abbrev GooseData := List (Option Bool)

/-- Eye margins by strand port: the horizontal margin in 1/64 UI and the vertical one in mV (R144). -/
abbrev EyeMargins := List (Nat × Nat × Nat)

/-- Where the entries of a CELLREGS block go (R570). -/
inductive CellScope where
  | all
  | arm (n : Nat)
  | strand (n : Nat)
  | cell (strand hop : Nat)
  deriving DecidableEq, Repr

/-- A block of the CONFIG section of an image (R570), as firmware reads it. The entries of `strands` are arm, NCELL and mask of
full-bridge cells by strand; those of `regs` are offset with the unit bits, value and mask.
Log entry 45 (DESIGN CHOICE). -/
inductive CfgBlock where
  | converter (t llen pref : Nat) (types : List Nat)
  | strands (entries : List (Nat × Nat × Nat))
  | regs (entries : List (Nat × Word × Word))
  | cellRegs (scope : CellScope) (entries : List (Nat × Word × Word))
  | maintKeys (keys : List Bytes)
  | lock (pages : List Nat)
  | unknown (btype : Nat)
  deriving DecidableEq, Repr

/-- The blocks of a CONFIG section, in order. -/
abbrev CfgBlocks := List CfgBlock

/-- What RESETN low brings: the unit whose pin it is, and the bytes an external programmer has put into its flash by then
(R624).
Log entry 214 (DESIGN CHOICE). -/
structure PinReset where
  unit : UnitId
  prog : List (Nat × Byte)
  deriving DecidableEq, Repr

/-- A part of the converter. -/
inductive Part where
  | unit (u : UnitId)
  | cell (c : CellId)
  deriving DecidableEq, Repr

/-- The LEASE message of R425: the sender's lease state, epoch, PN, configuration digest, READY, the level of its
ACTIVE line, the boundary of a hand-over it has committed to, and the physical lane it has retired (R424). -/
structure LeaseMsg where
  lstate  : Fin 4
  epoch   : BitVec 32
  pn      : BitVec 48
  cfgd    : BitVec 32
  ready   : Bool
  active  : Bool
  hov     : Option (BitVec 48)
  retired : Option (Fin 4)
  deriving DecidableEq, Repr

/-- What one unit says to the other over Splice (R426). -/
inductive SpliceMsg where
  | stopReq
  | fence
  | lease (m : LeaseMsg)
  | relay (strand : Nat) (frame : Bytes)
  | status (strand hop : Nat) (slot : Bytes)
  | hovReq (p : Nat)
  | hovAck (p : Nat)
  | swap (chan : Nat) (bank n pn : Nat)
  | swapRefusal (chan : Nat) (res : Nat)
  | setp (pn : Nat) (vals : List (Nat × Word))
  | clpCmd (op : Nat) (strand hop : Nat) (c esr : Word) (pn : Nat)
  | syncPn (pn : Nat)
  | trigFwd (num qual frac : Nat) (fall : Bool) (time : Nat)
  | resyncReq (arm : Nat)
  | resyncBlock (arm m blk : Nat) (data : Bytes)
  | mirror (record : Bytes)
  | commit (seq pn crc : Nat)
  | pchgReq (pn t : Nat)
  | pchgAnswer (pn : Nat)
  | pchgDrop (pn : Nat)
  | partnerReset
  | health (record : Bytes)
  deriving DecidableEq, Repr

/-- What a unit puts on its lines: strand frames by port, fault sets with the idle after them (R118), Splice messages, MSI-X messages, station
frames, the PTP messages it forms itself (R502), writes to host memory by the function that issues them and their relaxed-ordering
attribute (R461), pulses on PPSOUT with their width in 10 µs
units. -/
inductive Out where
  | frame (port : Nat) (bytes : Bytes)
  | sets (port : Nat) (bytes : Bytes)
  | splice (m : SpliceMsg)
  | msix (fn vec : Nat)
  | net (port : Nat) (bytes : Bytes)
  | hostWrite (fn : Nat) (relaxed : Bool) (addr : Nat) (bytes : Bytes)
  | pdelayReq (port seq : Nat)
  | pdelayResp (port seq src : Nat) (corr : Int)
  | pps (at_ : Instant) (width : Nat)
  deriving DecidableEq, Repr

/-- What a cell puts on its strand ports: a frame by the side it leaves on. -/
structure COut where
  side  : Side
  bytes : Bytes
  deriving DecidableEq, Repr

end Sys2Proof
end

