-- ==== Sys2Proof/Syntax.lean ====
section
/-! DEFINITION. The commands of the block: one constructor per row of the opcode table, with the operands that come
from outside (who acts, what a line carries, when). The summary of each row stands as its docstring. -/
namespace Sys2Proof

/-- A command of the chip set: an event at a pin, a frame on a line, a register access, or an instant of the period timeline. -/
inductive Instr where
  /-- R58: At t0 of each period a unit advances PN, issues the period token to its islands and changes ACTIVE and
      interlock levels as its lease state requires. -/
  | periodBoundary (u : UnitId)
  /-- R32: At compute start c a unit runs the Caliper fusion and projection pass, the loop engines and the lease and
      Headbox evaluations, without waiting for late frames. -/
  | computeStart (u : UnitId) (pact : Bool) (mis : (List Nat))
  /-- R270: After CHKN consecutive VCAP against VCHK disagreements Caliper sets CHKFAIL and raises a health event. -/
  | chkFail (u : UnitId) (c : CellId)
  /-- R281: When WEAR stays at or above RETTH for RETCONF updates Caliper retires the cell or defers the retirement
      with RETPEND. -/
  | wearRetire (u : UnitId) (c : CellId)
  /-- R265: When a sub-step mean arm current is available Caliper integrates the charge of every record of the arm. -/
  | substepIntegrate (u : UnitId) (arm : (Fin 6)) (at_ : Instant)
  /-- R407: A standby that judges the holder lost by START, FENCE, ACTIVE or NOFRAME enters CLAIM with epoch E + 1. -/
  | holderLostClaim (u : UnitId)
  /-- R128: After 16 consecutive whole, non-tail status frames the holder ends relay on the strand. -/
  | relayEnd (u : UnitId) (strand : (Fin 96))
  /-- R473: When the snapshot is written the unit writes the new generation to GEN and then to PCIE_REAMCUR. -/
  | reamPublishDone (u : UnitId)
  /-- R273: At c + 0.7 µs Calender latches its inputs, ranks the pool and emits every slot, toggle cell and
      measurement hold for each arm. -/
  | calenderRun (u : UnitId)
  /-- R274: When Caliper or Calender has not finished by its deadline the unit sets LATE and Headbox sends blocked
      slots. -/
  | stageDeadlineMiss (u : UnitId) (cal : Bool)
  /-- R389: At c + 0.62 µs each enabled Reel envelope mask tests its source and writes a mark after DWELL outside
      periods. -/
  | maskEvaluate (u : UnitId)
  /-- R442: At c + 1.2 µs each strand engine freezes the prefetch slot of eligible Headbox transactions for the
      period. -/
  | prefetchFreeze (u : UnitId)
  /-- R442: At c + 1.3 µs each strand engine builds the command or bulk frame from the prefetch slot, Calender's slots
      and the Watermark. -/
  | frameBuild (u : UnitId)
  /-- R418: From c + 1.3 µs the holder sends the mirror record over Splice and then COMMIT. -/
  | mirrorSend (u : UnitId)
  /-- R445: At c + 1.7 µs the unit launches its command frame on each strand port, setting base at the first launch
      after reset. -/
  | cmdFrameLaunch (u : UnitId) (l : Launch)
  /-- R113: At t0 + s each unit originates a status frame toward the partner on every strand. -/
  | statusFrameLaunch (u : UnitId) (l : Launch)
  /-- R111: A unit receives a status frame, uses slots on their CRC-8, matches replies and counts CRC-32 and tail
      frames. -/
  | statusFrameRx (u : UnitId) (p : Fin 100) (rx : RxFrame) (at_ : Instant) (cut : Bool)
  /-- R193: At a boundary the cell executes the held command, applies SYNC, SNAP, COMMIT and DEBLOCK and pending
      boundary-effective settings. -/
  | cellBoundary (c : CellId)
  /-- R191: At T − 0.3 µs the switching stage adopts the accepted command or a coast command for the next boundary. -/
  | cmdAdopt (c : CellId)
  /-- R403: At the adoption instant for boundary EXPPN + 1 the cell's lease expires and it becomes an orphan. -/
  | leaseExpire (c : CellId)
  /-- R231: After COAST boundaries as an orphan the cell enters the orphan block. -/
  | orphanBlock (c : CellId)
  /-- R234: When a cell stays an orphan for OTIME it fires its bypass with SRC 0b010. -/
  | orphanBypass (c : CellId) (at_ : Instant)
  /-- R65: At t0 + 0.4 µs the cell latches its status, latest results with AGE and one queued reply. -/
  | statusLatch (c : CellId)
  /-- R97: A cell receives a command or bulk frame, takes its slot, tests the Watermark against its lease record,
      stamps its arrival and executes the window on a correct CRC-32. -/
  | cmdFrameRx (c : CellId) (side : Side) (rx : RxFrame) (stamp : Instant) (done : Instant) (at_ : Instant)
  /-- R77: After 64 consecutive periods with error within 0.5 ns the servo moves from Acquire to Locked. -/
  | servoLocked (c : CellId)
  /-- R77: A period with no accepted frame on the time port moves a Locked servo to Holdover. -/
  | servoHoldover (c : CellId)
  /-- R110: A cell writes its latched status into each passing status frame and recomputes the CRC-32. -/
  | statusFramePass (c : CellId) (side : Side) (bytes : Bytes)
  /-- R114: A cell whose far receiver is out of lock or that saw no status header for 2 periods becomes the tail
      toward a unit. -/
  | tailBecome (c : CellId) (d : Side)
  /-- R114: At t0 + s a tail cell originates a status frame toward its unit with absent slots beyond it. -/
  | tailOriginate (c : CellId) (d : Side)
  /-- R116: After 2 consecutive periods with a valid incoming status frame the cell stops being the tail. -/
  | tailEnd (c : CellId) (d : Side)
  /-- R120: A cell that decodes a STOP fault set drives its gates off and enters Blocked. -/
  | stopRx (c : CellId) (side : Side) (o : UnitId) (cut : Bool) (at_ : Instant)
  /-- R122: A cell that decodes an ABORT fault set abandons the frame in progress; a set of another code byte counts as a
      code error (R117). -/
  | abortRx (c : CellId) (side : Side) (o : FaultCode) (cut : Bool)
  /-- R89: A strand port loses lock on loss of light or 8 undecodable symbols. -/
  | linkLockLoss (e : LinkEnd) (loss : LockLoss)
  /-- R89: A strand port regains lock after 1024 valid symbols, moving an Idle cell to Blocked at full rate. -/
  | linkLock (e : LinkEnd) (low : Bool) (at_ : Instant)
  /-- R251: A cell port that has not locked switches its search between full and low rate after 1 ms. -/
  | portSearchToggle (c : CellId) (p : SideAt)
  /-- R138: A cell whose receivers have both been out of lock for 10 ms starts searching at both rates. -/
  | cellLineSearch (c : CellId) (at_ : Instant)
  /-- R126: The partner receives a holder command frame over Splice and launches it from the tail end 0.25 µs after
      the command launch. -/
  | relayFrameRx (u : UnitId) (bytes : Bytes) (at_ : Instant)
  /-- R31: A unit receives over Splice the status of cells it cannot reach. -/
  | spliceStatusFwdRx (u : UnitId) (strand : (Fin 96)) (hop : (Fin 64)) (slot : Bytes)
  /-- R131: A cell receiving ASSIGN takes its hop index, forwards it with COUNT + 1 or returns it at a broken end. -/
  | enumAssign (c : CellId) (side : Side) (bytes : Bytes)
  /-- R131: The target cell returns an ECHO after exactly t_turn. -/
  | enumEcho (c : CellId) (side : Side) (bytes : Bytes)
  /-- R131: The target cell takes the challenge of an IDREQ and begins signing it. -/
  | enumIdreq (c : CellId) (side : Side) (bytes : Bytes)
  /-- R581: When its signature is complete the cell returns IDRSP with r and s. -/
  | cellIdrspSend (c : CellId)
  /-- R133: A unit receives a returned or arriving enumeration frame, records reach, round trip or identity and
      completes the transaction. -/
  | enumFrameRx (u : UnitId) (p : (Fin 100)) (bytes : Bytes) (at_ : Instant)
  /-- R136: STRP_CMD.REQ OFF takes the strand port dark. -/
  | portReqOff (u : UnitId) (q : Requester) (p : (Fin 100))
  /-- R136: STRP_CMD.REQ LOW moves an OFF port to low rate. -/
  | portReqLow (u : UnitId) (q : Requester) (p : (Fin 100))
  /-- R136: STRP_CMD.REQ TRAIN moves a LOW port to full-rate idle. -/
  | portReqTrain (u : UnitId) (q : Requester) (p : (Fin 100))
  /-- R136: STRP_CMD.REQ ENUM moves a TRAIN port in lock for 100 µs to ENUM. -/
  | portReqEnum (u : UnitId) (q : Requester) (p : (Fin 100)) (at_ : Instant)
  /-- R136: STRP_CMD.REQ ACTIVE moves a LOW port to ACTIVE once every cell has completed a RATE entry to full rate. -/
  | portReqActive (u : UnitId) (q : Requester) (p : (Fin 100))
  /-- R134: With d_P and a_P written to every reached cell the port sets STRP_DLY and enters ACTIVE. -/
  | portMeasureDone (u : UnitId) (p : (Fin 100))
  /-- R137: At the effective boundary of a RATE entry the cell and unit switch their ports to the new rate. -/
  | rateSwitch (p : Part)
  /-- R143: A write of STRP_ASSIGN.STRAND moves a strand to a spare port at the next boundary. -/
  | portAssignWrite (u : UnitId) (q : Requester) (p : (Fin 100)) (v : Word)
  /-- R102: A READ entry reads the register at ADDR and queues its value as reply. -/
  | entryRead (c : CellId) (u : UnitId) (tag : (Fin 8)) (addr : Word)
  /-- R102: A WRITE entry writes DATA under MASK to ADDR and queues the result code. -/
  | entryWrite (c : CellId) (u : UnitId) (tag : (Fin 8)) (addr : Word) (data : Word) (mask : Word) (at_ : Instant)
  /-- R102: A BYPASS entry from the holder with the key fires the cell's bypass. -/
  | entryBypass (c : CellId) (u : UnitId) (tag : (Fin 8)) (data : Word) (single : Bool) (holder : Bool)
  /-- R182: A CALREQ ROTATE starts a rotation step from READY. -/
  | calreqRotate (c : CellId) (u : UnitId) (tag : (Fin 8)) (at_ : Instant)
  /-- R182: A CALREQ SPARECAL restarts the spare's calibration. -/
  | calreqSparecal (c : CellId) (u : UnitId) (tag : (Fin 8))
  /-- R182: A CALREQ RELOAD makes the core reload CMEAS_CHCAL and CMEAS_TLIN from FRAM at the next boundary. -/
  | calreqReload (c : CellId) (u : UnitId) (tag : (Fin 8))
  /-- R169: An INJECT entry starts an injected conversion on the named channels. -/
  | entryInject (c : CellId) (u : UnitId) (tag : (Fin 8)) (data : Word) (at_ : Instant)
  /-- R656: A RESET entry with the key is answered OK and schedules the strand-commanded reset. -/
  | entryReset (c : CellId) (u : UnitId) (tag : (Fin 8)) (data : Word)
  /-- R656: After the RESET reply has been written into the period's status frames, or at T − 0.3 µs, the cell makes
      its strand-commanded reset. -/
  | cellStrandReset (c : CellId) (at_ : Instant)
  /-- R138: A RATE entry schedules a link rate change at a boundary or is refused. -/
  | entryRate (c : CellId) (u : UnitId) (tag : (Fin 8)) (addr : Word) (data : Word)
  /-- R106: A bulk block writes its payload into the cell's download buffer. -/
  | entryBulk (c : CellId) (u : UnitId) (tag : (Fin 8)) (len : (Fin 256)) (off : Word) (data : Bytes)
  /-- R62: A write of TIM_PCHG.REQ starts a period change or refuses it. -/
  | timPchgReq (u : UnitId) (q : Requester) (v : Word)
  /-- R62: The partner receives a period change request over Splice, queues it and answers. -/
  | pchgReqRx (u : UnitId) (pn : (BitVec 48)) (t : (BitVec 8))
  /-- R62: The requesting unit receives the partner's answer to its period change. -/
  | pchgAnswerRx (u : UnitId) (pn : (BitVec 48))
  /-- R62: At the compute start of PN_eff − 2 the unit confirms the period change or cancels it and tells the partner. -/
  | pchgDecide (u : UnitId)
  /-- R62: The partner receives a request to drop a queued period change. -/
  | pchgDropRx (u : UnitId) (pn : (BitVec 48))
  /-- R62: At PN_eff the unit sets the new base and T. -/
  | pchgEffect (u : UnitId)
  /-- R54: The standby receives the per-period two-way time transfer and aligns its converter time by rate. -/
  | spliceTimeTransfer (u : UnitId) (ofs : Int) (lat : Nat) (at_ : Instant)
  /-- R55: After 16 consecutive periods with offset above 0.3 ns the standby sets TIM_ERR.ALIGN. -/
  | alignError (u : UnitId)
  /-- R156: A cell channel decimator delivers an output, counting settling, applying the median and clipping. -/
  | decimOutput (c : CellId) (ch : Fin 4) (raw : RawPair) (at_ : Instant)
  /-- R164: At start plus delay the channel's decimator restarts and takes a new anchor. -/
  | windowRestart (c : CellId) (ch : (Fin 4))
  /-- R166: A write of CMEAS_SYNC.REQ causes a sync at the next boundary. -/
  | cmeasSyncReq (c : CellId) (r : CellReq)
  /-- R166: A rising edge on the CTMX sync pin with SRC 1 causes a sync at the next boundary. -/
  | syncPinEdge (c : CellId)
  /-- R169: A write of CMEAS_INJ starts an injected conversion or sets INJBUSY. -/
  | cmeasInjWrite (c : CellId) (r : CellReq) (v : Word) (at_ : Instant)
  /-- R170: An injected result becomes ready and is written to CMEAS_INJRES and CMEAS_INJT. -/
  | injResultReady (c : CellId) (ch : (Fin 4)) (raw : Int)
  /-- R605: A read of CMEAS_INJRES returns the result and clears NEW. -/
  | injresRead (c : CellId) (r : CellReq) (ch : (Fin 4))
  /-- R174: The spare's offset and gain calibration completes and it enters READY. -/
  | spareCalibDone (c : CellId) (ofs : (BitVec 16)) (gerr : (BitVec 16))
  /-- R175: When the rotation interval elapses the spare connects to the next target and enters SETTLE. -/
  | rotationStepStart (c : CellId) (at_ : Instant)
  /-- R173: After settling count plus L outputs the spare enters COMPARE. -/
  | spareSettled (c : CellId)
  /-- R176: After 64 compared outputs the spare agrees, defers or disagrees and recalibrates or retires a slice. -/
  | spareCompareDone (c : CellId) (at_ : Instant)
  /-- R177: At the first ready instant after agreement, or after a pending injection, the spare takes over the target
      channel. -/
  | sliceSwap (c : CellId) (at_ : Instant)
  /-- R178: When the injection is still pending one period after the due swap, the step is skipped. -/
  | swapSkip (c : CellId) (at_ : Instant)
  /-- R175: When 64 window outputs do not arrive within one rotation interval the step is skipped. -/
  | rotationStepSkip (c : CellId) (at_ : Instant)
  /-- R181: A write of CMEAS_RETIRE retires slices and moves channels to free slices at the next boundary. -/
  | cmeasRetireWrite (c : CellId) (r : CellReq) (v : Word)
  /-- R195: At a change's effective instant the stage turns off the gate of the leg state left, widening, merging or
      dropping as needed. -/
  | swChange (c : CellId) (leg : (Fin 2))
  /-- R197: DT after a change the called-for gate goes active if the leg is still commanded there, otherwise LDROP
      counts. -/
  | gateCall (c : CellId) (leg : (Fin 2))
  /-- R201: When an upper gate has been on for RINT the stage forces U to L on the leg. -/
  | refreshStart (c : CellId) (leg : (Fin 2))
  /-- R203: At R + DT + W_R the refresh ends and the leg follows the state commanded then. -/
  | refreshEnd (c : CellId) (leg : (Fin 2))
  /-- R206: At a carrier on-time edge the cell is commanded between bypassed and inserted. -/
  | carrierEdge (c : CellId) (at_ : Instant)
  /-- R210: At the first old-grid peak after a transfer the new carrier values take effect. -/
  | carrierTransferQ (c : CellId)
  /-- R214: A write of CSW_CFG is held pending with CPEND until a safe boundary. -/
  | cswCfgWrite (c : CellId) (r : CellReq) (v : Word)
  /-- R209: A write of CSW_CPER goes to the shadow and sets ARMED, or is discarded below 1 µs. -/
  | cswCperWrite (c : CellId) (r : CellReq) (v : Word)
  /-- R208: A write of CSW_CDUTY goes to the shadow and sets ARMED, or is discarded. -/
  | cswCdutyWrite (c : CellId) (r : CellReq) (v : Word)
  /-- R208: A write of CSW_CCMT.CMT commits the carrier shadows at the next boundary. -/
  | cswCcmtCmt (c : CellId) (r : CellReq)
  /-- R218: A local write of the key to CSW_BYPFIRE fires the bypass; other writes are discarded or refused. -/
  | cswBypfireWrite (c : CellId) (r : CellReq) (v : Word)
  /-- R222: An enabled trip, OV or UV source becomes active, drives the gates off and sets its latch bit. -/
  | cellTripInput (c : CellId) (n : (Fin 6)) (at_ : Instant)
  /-- R224: At the end of a blanking window a still-active TRIP input takes effect. -/
  | blankEnd (c : CellId) (n : (Fin 4)) (at_ : Instant)
  /-- R226: A source active for BYPDLY with ACT set fires the bypass with SRC 0b100. -/
  | tripBypassDelay (c : CellId) (n : (Fin 5)) (at_ : Instant)
  /-- R225: A write of CPROT_TRIPCLR clears inactive latch bits or sets CLRREF. -/
  | cprotTripclrWrite (c : CellId) (r : CellReq) (v : Word)
  /-- R238: The cell core watchdog expires and ALIVE stops. -/
  | cellCoreWdogExpire (c : CellAt)
  /-- R238: PROT's clock check fails and ALIVE stops. -/
  | protClockFail (c : CellId)
  /-- R243: The self-supply controller turns SSDRV on when its off-time and VAUX allow. -/
  | supTurnOn (c : CellId) (vaux : Nat) (at_ : Instant)
  /-- R243: The self-supply controller ends an on-time at TON or at the current limit. -/
  | supTurnOff (c : CellId) (v : SupSense) (at_ : Instant)
  /-- R244: At the end of the soft start SSDONE is set, UV is armed and SSFAIL is checked. -/
  | softStartEnd (c : CellId) (vaux : Nat) (at_ : Instant)
  /-- R245: VAUX above VOV stops switching until it falls below VSET. -/
  | supOvStop (c : CellId) (at_ : Instant)
  /-- R247: A write of CSUP_HU.REQ requests a hold-up measurement or is refused or empty. -/
  | holdupReq (c : CellId) (r : CellReq) (v : Word)
  /-- R246: After WIN or a fall of DROP the controller resumes and writes DV, DT and the hold-up. -/
  | holdupEnd (c : CellId) (at_ : Instant)
  /-- R252: A write of the key to CPROT_PWRREQ enters Dormant from Idle or is refused. -/
  | cprotPwrreqWrite (c : CellId) (r : CellReq) (v : Word)
  /-- R252: Both ports out of lock for 100 ms in Idle below VDORM enter Dormant. -/
  | dormantLinkTimeout (c : CellId) (at_ : Instant)
  /-- R253: Light on LDET for 50 µs wakes a Dormant cell through a cell reset. -/
  | cellWakeLight (c : CellId) (at_ : Instant)
  /-- R253: The OV input rising above VDORM wakes a Dormant cell through a cell reset. -/
  | cellWakeCharge (c : CellId) (at_ : Instant)
  /-- R590: 3.3 V rising above threshold resets the cell and enters Idle with a ROM boot. -/
  | cellPowerOnReset (c : CellId) (at_ : Instant)
  /-- R250: 3.3 V below the power-on threshold takes the cell to Off. -/
  | cellPowerLoss (c : CellId)
  /-- R404: A write of the key to CPROT_LCLR clears an expired or empty lease record or is refused. -/
  | leaseClear (c : CellId) (r : CellReq) (v : Word)
  /-- R590: A local write of the key to CGEN_RST makes a firmware cell reset. -/
  | cgenRstWrite (c : CellId) (r : CellReq) (v : Word) (at_ : Instant)
  /-- R578: A write of CGEN_PATCH.ACT verifies the patch signature and runs it from the next boundary, or refuses. -/
  | patchActivate (c : CellId) (r : CellReq)
  /-- R550: Every 24 h of Run or Blocked the core appends an operating-hours entry. -/
  | cellLedgerDaily (c : CellId)
  /-- R551: A write of CFLT_LREQ3 appends a unit entry to the cell ledger or is refused while busy. -/
  | ledgerReq (c : CellId) (r : CellReq) (v : Word)
  /-- R554: The cell collector latches a rising error line into CFLT_LATCH and starts its reaction. -/
  | cellFaultLatch (c : CellId) (at_ : Instant) (cyc : (BitVec 32))
  /-- R555: A cell MAJOR grace timer runs out and the cell makes CRESET or PROMOTE. -/
  | cellGraceExpire (c : CellId) (n : (Fin 11)) (at_ : Instant)
  /-- R556: At the end of a cell masking window a masked line that carries a class latches. -/
  | cellMaskWindowEnd (c : CellId) (at_ : Instant) (cyc : (BitVec 32))
  /-- R344: A central input decimator delivers a result with its effective instant, scaled value and flags, and
      crossing triggers test it. -/
  | minResult (u : UnitId) (n : (Fin 32)) (sum : Nat)
  /-- R351: A write of MIN_SYNC.REQ in the holder schedules SYNC in the next launch and sends the sync PN over Splice. -/
  | minSyncReq (u : UnitId) (q : Requester) (at_ : Instant)
  /-- R352: The standby learns a sync PN over Splice or from a holder frame and schedules its converter sync. -/
  | syncPnRx (u : UnitId) (pn : (BitVec 48))
  /-- R350: At the sync boundary all 32 decimators restart together. -/
  | converterSync (u : UnitId)
  /-- R356: No MCKIn edge for 16 MCKO periods puts the input in fault. -/
  | minNoclk (u : UnitId) (n : (Fin 32))
  /-- R356: STUCKN identical bits put the input in fault. -/
  | minStuck (u : UnitId) (n : (Fin 32))
  /-- R358: When the fault condition ends the decimator restarts and settles. -/
  | minFaultEnd (u : UnitId) (n : (Fin 32)) (at_ : Instant)
  /-- R346: An RTD change above 2 ns rechecks latency against LAT. -/
  | rtdChange (u : UnitId) (n : (Fin 32)) (rtd : (BitVec 12))
  /-- R360: A change on a watched trip input is stamped, latched and raises an event, with STOP for a converter trip. -/
  | tripInputChange (u : UnitId) (n : (Fin 16)) (level : Bool) (at_ : Instant)
  /-- R362: In Quiet AON records a trip input change and sends STOP for a converter trip. -/
  | quietTripChange (u : UnitId) (n : (Fin 16)) (level : Bool) (at_ : Instant)
  /-- R333: A write of LPE_CHCFG enables or disables a channel at the next boundary or is discarded. -/
  | lpeChcfgWrite (u : UnitId) (q : Requester) (c : (Fin 96)) (v : Word)
  /-- R316: A write of LPE_SWAP queues a bank swap, forwards it to the partner or refuses it. -/
  | lpeSwapReq (u : UnitId) (q : Requester) (v : Word)
  /-- R316: The partner checks and queues a forwarded swap or sends back its refusal. -/
  | swapReqRx (u : UnitId) (ch : (Fin 128)) (bank : (Fin 2)) (n : (Fin 8192)) (pn : (BitVec 48))
  /-- R316: The requesting unit receives the partner's refusal and sets SPLONE. -/
  | swapRefusalRx (u : UnitId) (ch : (Fin 128)) (res : (Fin 8))
  /-- R317: At its effective PN a queued swap starts a fade, retargets one or is removed. -/
  | swapEffect (u : UnitId)
  /-- R326: A write of LPE_SETPCMT.CMT takes the pending setpoints for commit at PN + 2 and sends them to the partner. -/
  | setpCommitReq (u : UnitId) (q : Requester)
  /-- R326: The partner receives setpoint values to commit at the same PN. -/
  | setpCommitRx (u : UnitId) (pn : (BitVec 48)) (vals : (List Word))
  /-- R326: At the compute start of the commit PN the setpoints become the committed values. -/
  | setpCommitEffect (u : UnitId)
  /-- R328: A saturation count reaching SWARN sets SATW. -/
  | satWarn (u : UnitId) (c : (Fin 96))
  /-- R328: A saturation count reaching SFAULT sets SATF. -/
  | satFault (u : UnitId) (c : (Fin 96))
  /-- R331: A write of LPE_MOVE moves a channel to a spare engine at the next boundary or refuses. -/
  | lpeMoveReq (u : UnitId) (q : Requester) (v : Word)
  /-- R269: CLP_CMD OP seed sets C, ESR and ESRT of the selected cell at the next computation. -/
  | clpCmdSeed (u : UnitId) (q : Requester)
  /-- R281: CLP_CMD OP retire retires the selected cell at the next computation without deferral. -/
  | clpCmdRetire (u : UnitId) (q : Requester)
  /-- R300: CLP_CMD OP clears RETIRED and RETPEND of the selected cell. -/
  | clpCmdUnretire (u : UnitId) (q : Requester)
  /-- R270: CLP_CMD OP clears CHKFAIL of the selected cell. -/
  | clpCmdClrchk (u : UnitId) (q : Requester)
  /-- R282: The partner receives a CLP_CMD operation with its effective PN over Splice. -/
  | clpCmdRx (u : UnitId) (op : (Fin 8)) (c : CellId) (cap : Word) (esr : Word) (pn : (BitVec 48))
  /-- R300: A read of CLP_REC0 returns word 0 and latches words 1 to 15 of the selected record. -/
  | clpRecRead (u : UnitId) (q : Requester)
  /-- R299: A write of CAL_FX sets or clears a cell's firmware exclusion at the next Calender run. -/
  | calFxWrite (u : UnitId) (q : Requester) (v : Word)
  /-- R371: At t0(PN+1) + 1.0 µs Reel places the record set of PN in staging or drops it, and ends a capture when due. -/
  | reelPeriodClose (u : UnitId)
  /-- R366: When the ring has room Reel moves records from staging to the ring and writes back WPTR. -/
  | reelRingWrite (u : UnitId)
  /-- R379: REEL_CMD OP START starts a capture at the next boundary or is refused. -/
  | reelStart (u : UnitId) (q : Requester)
  /-- R380: REEL_CMD OP HALT ends the capture with the next period to close. -/
  | reelHalt (u : UnitId) (q : Requester)
  /-- R387: REEL_CMD OP MARK writes a SOFT mark or is refused outside RUN and POSTING. -/
  | reelMark (u : UnitId) (q : Requester) (at_ : Instant)
  /-- R386: A unit receives a partner's forwarded trigger and writes a mark. -/
  | xtrigRx (u : UnitId) (num : (Fin 16)) (qual : (Fin 8)) (frac : (Fin 8)) (fall : Bool) (time : Nat)
  /-- R425: At t0 + 0.2 µs each unit sends its LEASE message over Splice. -/
  | leaseMsgSend (u : UnitId)
  /-- R425: A unit receives the partner's LEASE message, including lane retirement announcements. -/
  | leaseMsgRx (u : UnitId) (m : LeaseMsg)
  /-- R425: With no valid LEASE message in 2 periods Splice becomes down. -/
  | spliceDown (u : UnitId)
  /-- R407: A unit receives a FENCE message from the partner. -/
  | fenceRx (u : UnitId)
  /-- R121: A unit receives a STOP request over Splice and sends STOP on its strand ports. -/
  | stopReqRx (u : UnitId) (at_ : Instant)
  /-- R424: A lane that loses lock or exceeds BERTH errors per second is retired and announced. -/
  | spliceLaneRetire (u : UnitId) (n : (Fin 4)) (lost : Bool) (errs : (Fin 65536))
  /-- R424: At the second boundary after the announcement both units move the logical lane to a spare. -/
  | spliceLaneMove (u : UnitId)
  /-- R418: The standby receives COMMIT and makes the received record committed when complete and correct. -/
  | mirrorCommitRx (u : UnitId) (record : Bytes) (seq : (BitVec 32)) (pn : (BitVec 48)) (crc : (BitVec 32))
  /-- R421: The holder receives a resynchronisation request and starts sending the arm's records. -/
  | resyncReqRx (u : UnitId) (arm : (Fin 6))
  /-- R421: The standby receives a 4096-byte resynchronisation block. -/
  | resyncBlockRx (u : UnitId) (arm : (Fin 6)) (m : (BitVec 48)) (blk : Nat) (data : Bytes)
  /-- R421: At the compute start after the last block the standby applies the holder's records to the arm. -/
  | resyncApply (u : UnitId) (arm : (Fin 6))
  /-- R413: A write of LSE_HOV.REQ sends HOVREQ or refuses the hand-over. -/
  | handoverReq (u : UnitId) (q : Requester) (v : Word)
  /-- R413: The partner receives HOVREQ and answers HOVACK when in STANDBY and READY. -/
  | hovreqRx (u : UnitId) (p : (BitVec 48))
  /-- R413: The holder receives HOVACK and commits the hand-over. -/
  | hovackRx (u : UnitId) (p : (BitVec 48))
  /-- R413: At the compute start of P − 3 without HOVACK the hand-over is refused. -/
  | handoverDeadline (u : UnitId)
  /-- R414: At the compute start of P − 1 the holder enters STANDBY and the partner enters HOLDER with epoch E + 1. -/
  | handoverSwitch (u : UnitId)
  /-- R436: A write of HBX_SUBD7 submits a transaction descriptor and reports its result and ID. -/
  | hbxSubmit (u : UnitId) (q : Requester) (port : (Fin 6)) (v : Word)
  /-- R447: On the 1 µs tick Headbox releases due timed transactions into their queues. -/
  | hbxTimedRelease (u : UnitId) (at_ : Instant)
  /-- R449: After NREP status frames without a reply a cell is counted missing and its tag freed. -/
  | hbxReplyMissing (u : UnitId)
  /-- R449: A transaction's TMO runs out and it completes with TIMEOUT. -/
  | hbxTimeout (u : UnitId)
  /-- R451: A read of HBX_CPL0 returns and retires the oldest completion and latches its details. -/
  | hbxCplRead (u : UnitId) (q : Requester) (port : (Fin 6))
  /-- R453: A write of HBX_FLUSH completes a queue's unsent transactions with FLUSHED. -/
  | hbxFlush (u : UnitId) (q : Requester) (v : Word)
  /-- R466: A function level reset of PF0 resets its configuration space, advances its host epoch, clears PIN0 and
      ends a Reel capture. -/
  | pcieFlrPf0 (u : UnitId)
  /-- R466: A function level reset of PF1 resets its configuration space and ends the session. -/
  | pcieFlrPf1 (u : UnitId)
  /-- R466: Clearing PF0 bus master enable ends the Reel capture with LINK. -/
  | pcieBmeClear (u : UnitId)
  /-- R466: A hot reset, PERSTN or link down resets both configuration spaces, ends the session and clears both pins. -/
  | pcieLinkDown (u : UnitId)
  /-- R466: The link enters DL_Active. -/
  | pcieLinkUp (u : UnitId) (width : (BitVec 4)) (speed : (Fin 8)) (bme : Bool)
  /-- R469: PCIE_SESSCMD OP CHAL writes a fresh challenge. -/
  | sessChal (u : UnitId) (q : Requester)
  /-- R469: PCIE_SESSCMD OP OPEN starts verifying the signature with the selected key. -/
  | sessOpen (u : UnitId) (q : Requester) (key : (Fin 4))
  /-- R470: Verification completes and the session opens, locks or locks out. -/
  | sessOpenDone (u : UnitId)
  /-- R471: PCIE_SESSCMD OP CLOSE ends the session. -/
  | sessClose (u : UnitId) (q : Requester)
  /-- R468: 60 s in CHALLENGED without OPEN returns the session to LOCKED. -/
  | sessChalTimeout (u : UnitId)
  /-- R468: IDLE seconds without a PF1 access end the session. -/
  | sessIdleTimeout (u : UnitId)
  /-- R468: After LOCKSEC seconds LOCKOUT returns to LOCKED. -/
  | sessLockoutEnd (u : UnitId)
  /-- R476: A write of a Ream pin pins the current buffer or releases it. -/
  | reamPinWrite (u : UnitId) (q : Requester) (v : Word)
  /-- R606: A read of a low word loads the requester's latch with the paired high word or group. -/
  | lowWordRead (p : RegPort) (a : (BitVec 32))
  /-- R606: A read of a paired high word returns the latched value and releases it. -/
  | highWordRead (p : RegPort) (a : (BitVec 32))
  /-- R606: A write to a low word is held, replacing and discarding any earlier held write. -/
  | lowWordWrite (p : RegPort) (a : (BitVec 32)) (v : Word) (at_ : Instant)
  /-- R606: A write to a paired high word commits it with the held low word. -/
  | highWordWrite (p : RegPort) (a : (BitVec 32)) (v : Word) (at_ : Instant)
  /-- R481: A sender's write to a slot's CTRL posts the message with its epoch, or is empty or discarded. -/
  | mbxPost (u : UnitId) (q : Requester) (ch : (Fin 32)) (v : Word)
  /-- R482: The receiver's read of a slot's EPOCH clears FULL and sets the READ event. -/
  | mbxEpochRead (u : UnitId) (q : Requester) (ch : (Fin 32))
  /-- R483: A write of MBX_HEPINC.INC advances the writing function's host epoch. -/
  | mbxHepinc (u : UnitId) (q : Requester) (v : Word)
  /-- R488: A message FULL for AGEMAX ms sets the AGE event. -/
  | mbxAgeExpire (u : UnitId) (h2f : Bool) (ch : (Fin 32))
  /-- R489: A write to a doorbell SET register sets bits and the DB event for unmasked new bits. -/
  | mbxDbSet (u : UnitId) (q : Requester) (f : (Fin 2)) (v : Word)
  /-- R489: Unmasking a set doorbell bit sets the DB event. -/
  | mbxDbMaskWrite (u : UnitId) (q : Requester) (h2f : Bool) (f : (Fin 2)) (v : Word)
  /-- R492: A write to PCIE_VACK re-arms a vector and sends one further message while its sources are raised. -/
  | vectorRearm (u : UnitId) (q : Requester) (hi : Bool) (v : Word)
  /-- R498: A station port accepts, stamps and sorts a received frame or discards it. -/
  | netFrameRx (u : UnitId) (p : (Fin 2)) (bytes : Bytes) (fcs : Bool) (at_ : Instant)
  /-- R503: An accepted Sync forms an offset that locks, steps, slews or steers converter time. -/
  | ptpSyncRx (u : UnitId) (p : (Fin 2)) (domain : (BitVec 8)) (src : (BitVec 80)) (seq : (BitVec 16)) (t1 : Instant) (corr : Int) (twoStep : Bool) (at_ : Instant)
  /-- R501: An Announce runs the best master clock algorithm over both ports. -/
  | ptpAnnounceRx (u : UnitId) (p : (Fin 2)) (domain : (BitVec 8)) (src : (BitVec 80)) (gm : (BitVec 64)) (p1 : (BitVec 8)) (cls : (BitVec 8)) (acc : (BitVec 8)) (var : (BitVec 16)) (p2 : (BitVec 8)) (steps : (BitVec 16)) (at_ : Instant)
  /-- R501: Three Announce intervals without Announce change the port state. -/
  | ptpAnnounceTimeout (u : UnitId) (p : (Fin 2)) (at_ : Instant)
  /-- R502: Each enabled PTP port sends Pdelay_Req every second. -/
  | pdelayReqSend (u : UnitId) (p : (Fin 2)) (at_ : Instant)
  /-- R502: A port answers a Pdelay_Req with a one-step Pdelay_Resp. -/
  | pdelayReqRx (u : UnitId) (p : (Fin 2)) (seq : (BitVec 16)) (src : (BitVec 80)) (at_ : Instant)
  /-- R502: A Pdelay_Resp updates the port's mean path delay. -/
  | pdelayRespRx (u : UnitId) (p : (Fin 2)) (seq : (BitVec 16)) (turn : Int) (at_ : Instant)
  /-- R505: No Sync for SYNCTMO seconds clears PTP lock and holds the rate. -/
  | ptpSyncTimeout (u : UnitId) (at_ : Instant)
  /-- R507: At every whole second PPSOUT is driven high for WIDTH. -/
  | ppsOut (u : UnitId) (at_ : Instant)
  /-- R508: A PPSIN rising edge is stamped and compared with the whole second. -/
  | ppsinEdge (u : UnitId) (at_ : Instant)
  /-- R510: A sampled-value frame is placed at its instant, checked for validity and duplicates, and stored. -/
  | svFrameRx (u : UnitId) (p : (Fin 2)) (macl : (BitVec 16)) (appid : (BitVec 16)) (cnt : (BitVec 16)) (synch : (BitVec 8)) (vals : SvValues) (at_ : Instant)
  /-- R514: No valid sample within the timeout puts a stream in fault. -/
  | svStreamFault (u : UnitId) (n : (Fin 16)) (at_ : Instant)
  /-- R516: A write of NET_GPSEND starts a new state of a publication and sends it at once. -/
  | gooseNewState (u : UnitId) (q : Requester) (v : Word) (at_ : Instant)
  /-- R516: A publication's retransmission timer sends the frame again with sqNum + 1. -/
  | gooseRetransmit (u : UnitId) (n : (Fin 8)) (at_ : Instant)
  /-- R518: A GOOSE message is accepted or discarded, its fast bit decoded and GTRIP set. -/
  | gooseRx (u : UnitId) (p : (Fin 2)) (macl : (BitVec 16)) (appid : (BitVec 16)) (st : (BitVec 32)) (sq : (BitVec 32)) (tal : (BitVec 32)) (data : GooseData) (frame : Bytes) (at_ : Instant)
  /-- R519: timeAllowedtoLive runs out and TALX is set. -/
  | gooseTalExpire (u : UnitId) (n : (Fin 32)) (at_ : Instant)
  /-- R521: A write of NET_TXD3 submits a frame to a launch queue. -/
  | netTxSubmit (u : UnitId) (q : Requester) (v : Word)
  /-- R522: A queued frame leaves at its AT or when the port is free. -/
  | netTxLaunch (u : UnitId) (p : (Fin 2)) (at_ : Instant)
  /-- R523: A frame completes SENT, LATE or LINKDN with its egress stamp. -/
  | netTxComplete (u : UnitId) (p : (Fin 2)) (at_ : Instant)
  /-- R523: A read of NET_TXCPL0 retires a launch completion. -/
  | netTxcplRead (u : UnitId) (q : Requester)
  /-- R525: A station port's link goes up or down. -/
  | netLinkChange (u : UnitId) (p : (Fin 2)) (up : Bool)
  /-- R547: At each whole second a unit publishes its health record and sends it to the partner. -/
  | healthRecord (u : UnitId) (at_ : Instant) (tj : Int) (eyes : EyeMargins) (spleye : (List Nat))
  /-- R547: A unit receives the partner's health record into FLT_PHREC. -/
  | healthRecordRx (u : UnitId) (record : Bytes)
  /-- R529: The collector latches a rising error line, stamps the first latch and starts the class reaction. -/
  | faultLatch (u : UnitId) (at_ : Instant) (cyc : (BitVec 32))
  /-- R534: A MAJOR source's grace timer runs out and the unit carries out BLOCK, HANDOVER or RESET. -/
  | graceExpire (u : UnitId) (at_ : Instant)
  /-- R532: A write of 1 to a FLT_LATCH bit clears it when its line carries none, else sets CLRREF. -/
  | fltLatchClear (u : UnitId) (q : Requester) (v : Word)
  /-- R554: A write of 1 to a CFLT_LATCH bit clears it when its line carries none. -/
  | cellFltLatchClear (c : CellId) (r : CellReq) (v : Word)
  /-- R539: A write of FLT_WDOGn restarts the watchdog on the key or sets RANGE. -/
  | wdogKick (u : UnitId) (q : Requester) (n : (Fin 4)) (v : Word) (at_ : Instant)
  /-- R539: A core watchdog expires and its line carries MAJOR. -/
  | wdogExpire (u : UnitId) (n : (Fin 4)) (at_ : Instant)
  /-- R601: A write of CTRL.SRST resets a block and opens a masking window. -/
  | blockReset (p : RegPort) (a : (BitVec 32)) (en : Bool) (at_ : Instant)
  /-- R542: At the second token after release a masking window ends and lines that carry a class latch. -/
  | maskWindowEnd (u : UnitId) (at_ : Instant) (cyc : (BitVec 32))
  /-- R602: A write with bit 0 set to a page's LOCK register sets LOCKED. -/
  | lockWrite (p : RegPort) (a : (BitVec 32)) (v : Word) (at_ : Instant)
  /-- R545: An SRAM read finds a single- or double-bit error and corrects or reports it. -/
  | sramEccError (p : Part) (addr : (BitVec 26)) (double : Bool) (at_ : Instant)
  /-- R545: A scrub pass that does not end within PERIOD sets SCRUB. -/
  | scrubOverrun (u : UnitId)
  /-- R546: A row reaching ROWTH errors is copied to a spare row or NOSPARE is set. -/
  | rowRetire (u : UnitId) (row : (Fin 49152))
  /-- R546: When the row copy completes the mapping switches outside compute and RETIRE is set. -/
  | rowRetireSwitch (u : UnitId) (row : (Fin 49152)) (at_ : Instant)
  /-- R546: A row-table entry without errors for AGE hours is dropped. -/
  | rowEntryAgeDrop (u : UnitId) (row : (Fin 49152)) (at_ : Instant)
  /-- R546: A write of MEM_RETREQ retires the named row. -/
  | memRetreq (u : UnitId) (q : Requester) (v : Word)
  /-- R588: Supplies rising resets every island and ROM boots the chosen slot into Hold and STANDBY. -/
  | unitPowerOnReset (u : UnitId)
  /-- R588: RESETN low for 1 µs resets all islands except HOST. -/
  | unitPinReset (r : PinReset)
  /-- R588: A write of the key to GEN_RST makes a firmware reset. -/
  | genRstWrite (u : UnitId) (q : Requester) (v : Word)
  /-- R589: A write of the key to GEN_PRST requests the partner's reset over Splice. -/
  | genPrstWrite (u : UnitId) (q : Requester) (v : Word)
  /-- R589: A unit receives a partner-forced reset request and resets if PFEN and not HOLDER. -/
  | partnerResetRx (u : UnitId)
  /-- R566: A write of GEN_BOOT.CONFIRM ends the boot trial. -/
  | bootConfirm (u : UnitId) (q : Requester)
  /-- R566: BOOTTMO seconds in a trial without CONFIRM make an escalation reset. -/
  | bootTrialTimeout (u : UnitId)
  /-- R572: Firmware applies the CONFIG blocks and the unit refuses a configuration that breaks the rules. -/
  | configLoad (u : UnitId) (blocks : CfgBlocks) (sect : Bytes) (at_ : Instant)
  /-- R575: SEC_VCMD OP VERIFY starts an ECDSA signature verification. -/
  | secVerify (u : UnitId) (q : Requester) (ca : Bool)
  /-- R575: A verification completes with valid or invalid. -/
  | secVerifyDone (u : UnitId)
  /-- R567: SEC_VCMD OP RAISE sets SEC_MINVER to the booted VERSION or is refused in a trial. -/
  | secRaise (u : UnitId) (q : Requester)
  /-- R595: SEC_VCMD OP RANDOM writes 32 random bytes to SRAM. -/
  | secRandom (u : UnitId) (q : Requester)
  /-- R596: FLS_CMD OP ERASE erases 64 KiB sectors outside the booted slot. -/
  | flsErase (u : UnitId) (q : Requester)
  /-- R596: FLS_CMD OP PROGRAM writes flash from SRAM outside the booted slot. -/
  | flsProgram (u : UnitId) (q : Requester)
  /-- R596: FLS_CMD OP READ copies flash to SRAM. -/
  | flsRead (u : UnitId) (q : Requester)
  /-- R596: FLS_CMD OP CHECK tests a slot for validity. -/
  | flsCheck (u : UnitId) (q : Requester)
  /-- R596: A flash operation completes and RES reports its outcome. -/
  | flsOpDone (u : UnitId) (ecc : Bool)
  /-- R586: A PWR_REQ of Run leaves Hold when every PWR_COND condition is met. -/
  | pwrReqRun (u : UnitId) (q : Requester)
  /-- R586: A PWR_REQ of Hold leaves Run or Quiet. -/
  | pwrReqHold (u : UnitId) (q : Requester)
  /-- R586: A PWR_REQ of Quiet schedules Quiet at the next boundary when every port is LOW or OFF. -/
  | pwrReqQuiet (u : UnitId) (q : Requester)
  /-- R586: At the boundary the unit enters Quiet, turns islands off, ends Reel and cancels Headbox work. -/
  | quietEnter (u : UnitId)
  /-- R408: In Quiet the lease rules are evaluated at t0 + s of the first and thirty-third periods of each low-rate
      cycle. -/
  | quietLeaseEval (u : UnitId) (pact : Bool)
  /-- R643: 4 µs without a REF25 edge switches AON to its oscillator and the synthesiser to holdover. -/
  | refLoss (u : UnitId) (at_ : Instant)
  /-- R643: REF25 present again for 10 ms returns the synthesiser to it by frequency alone. -/
  | refReturn (u : UnitId) (at_ : Instant)
  /-- R651: A PLL loses lock and sets PLLCRIT or PLLLOSS. -/
  | pllUnlock (u : UnitId) (n : (Fin 7))
  /-- R651: The junction temperature crosses HI or CRIT. -/
  | tjThreshold (u : UnitId) (tj : (BitVec 10))
  /-- R648: JTAG instruction EXTEST drives boundary cells when allowed. -/
  | jtagExtest (p : Part) (low : Bool)
  /-- R646: JTAG instruction IDCODE selects the identification register. -/
  | jtagIdcode (p : Part)
  /-- R647: JTAG instruction SAMPLE/PRELOAD samples the boundary cells. -/
  | jtagSamplePreload (p : Part) (pins : Nat) (load : Nat)
  /-- R648: JTAG instruction HIGHZ floats outputs when allowed. -/
  | jtagHighz (p : Part) (low : Bool)
  /-- R648: JTAG instruction CLAMP holds outputs when allowed. -/
  | jtagClamp (p : Part) (low : Bool)
  /-- R649: JTAG instruction FLASHPROG connects the 66-bit access register when no image exists. -/
  | jtagFlashprog (p : Part)
  /-- R649: At Update-DR the FLASHPROG register makes its FLS page or SRAM access. -/
  | jtagFlashprogAccess (u : UnitId) (write : Bool) (sram : Bool) (addr : Word) (data : Word) (at_ : Instant)
  /-- R647: JTAG instruction DEBUG gives core debug access on open parts. -/
  | jtagDebug (p : Part)
  /-- R647: JTAG instruction BYPASS, or any unknown code, selects the bypass register. -/
  | jtagBypass (p : Part) (code : (BitVec 6))
  /-- R604: A write to a register without a row of its own sets its fields under the access codes, LOCK and denial
      rules. -/
  | regWrite (p : RegPort) (a : (BitVec 32)) (v : Word) (be : (BitVec 4)) (at_ : Instant)
  /-- R35: A unit receives the partner's command frame at the far end of a strand and takes the holder's insertions,
      time reference, PN and claim evidence from it. -/
  | partnerCmdFrameRx (u : UnitId) (p : Fin 100) (rx : RxCut) (at_ : Instant)
  /-- R503: A Follow_Up from a two-step master delivers preciseOriginTimestamp t1, from which the unit forms the
      offset of the Sync it follows. -/
  | ptpFollowUpRx (u : UnitId) (p : (Fin 2)) (domain : (BitVec 8)) (src : (BitVec 80)) (seq : (BitVec 16)) (t1 : Instant) (corr : Int) (at_ : Instant)
  /-- R634: A supply of the FD7200 falls below its falling threshold, the unit enters power-on reset and its pins take
      their reset states. -/
  | unitSupplyLoss (u : UnitId)
  /-- R226: A cell trip, OV or UV source's comparator output returns inactive, which stops its trip-to-bypass delay
      while the latch bit stays set. -/
  | tripSourceInactive (c : CellId) (n : (Fin 6))
  /-- R551: The cell finishes appending a ledger entry to FRAM, so CFLT_LREQ3.RES reads appended, or it sets
      CFRM_ERR.WRFAIL when the write is not confirmed. -/
  | framAppendComplete (c : CellId) (ok : Bool)
  deriving DecidableEq, Repr

end Sys2Proof
end

