-- ==== Sys2Proof/Config.lean ====
section
/-! DEFINITION. What one part, one pin strap or one boot fixes, and the free values the spec leaves open. Every
constant is opaque: nothing in Lean can prove a value of it. -/
namespace Sys2Proof

/-- `GEN_SERIAL` of a unit, from OTP (R593).
Log entry 10 (DESIGN CHOICE). -/
opaque Config.serial : UnitId → BitVec 64
/-- The unit's Ethernet address, from OTP (R525).
Log entry 10 (DESIGN CHOICE). -/
opaque Config.netMac : UnitId → BitVec 48
/-- Reset words whose source is OTP, the booted image, the repair record or the part itself, by register address:
certificate and its length, integrator key hash, OTP state, minimum version, slot states and versions, layout
versions (R599: per page, per part).
Log entry 10 (DESIGN CHOICE). -/
opaque Config.unitPart : UnitId → Nat → BitVec 32
/-- The same of a cell, by cell key and register address: serial, slice calibration, turnaround, FRAM contents, layout
versions.
Log entry 10 (DESIGN CHOICE). -/
opaque Config.cellPart : Nat → Nat → BitVec 32

/-- Whether an area of a cell's FRAM passes its check at boot: 0 header, 1 calibration, 2 certificate copy (R574, R577).
Log entry 164 (DESIGN CHOICE). -/
opaque Config.framOk : Nat → Nat → Bool

/-- Whether the debug fuse of a cell is closed (R647).
Log entry 62 (DESIGN CHOICE). -/
opaque Config.cellClosed : Nat → Bool

/-- The SerDes asymmetry trim of a cell by its port, from OTP, in 2^-16 ns (R75).
Log entry 33 (DESIGN CHOICE). -/
opaque Config.serdesTrim : Nat → Side → Int

/-- The filter of a cell's cross-check over the differences of the last 256 periods, newest first, in 2^-16 ns; its result in
2^-8 ns (R80). -/
opaque Config.crossFilter : List Int → Int

/-- What a unit's xSPI flash holds before anything has erased or programmed it (R562).
Log entry 15 (DESIGN CHOICE). -/
opaque Config.flash : UnitId → Nat → Byte
/-- The SRAM row that an entry of a unit's wear ledger retires, by the 28 bytes before its check, where it is such an entry: the
spec does not lay out the entries (R549, R569).
Log entry 229 (DESIGN CHOICE). -/
opaque Config.ledgerRow : Bytes → Option Nat
/-- Where ROM loads the section FW, or CONFIG, of an image in the SRAM (R568): the spec gives no address.
Log entry 229 (DESIGN CHOICE). -/
opaque Config.loadAt : Nat → Nat
/-- The data bytes of a cell's daily ledger entry from operating hours, the gate on-edge counts of `CSW_SW0` to `CSW_SW3` and the
highest TEMP: the spec does not lay them out (R550).
Log entry 163 (DESIGN CHOICE). -/
opaque Config.dailyData : Nat → List Nat → Int → Bytes
/-- The spare rows of an SRAM macro that the repair record leaves (R569); at most 32 count. -/
opaque Config.spareRows : UnitId → Nat → Nat

/-- Free values: what the spec leaves open, by the part that draws it and the number of the draw.
Log entry 11 (DESIGN CHOICE). -/
opaque Config.free : Nat → Nat → Nat

/-- Whether a result that the spec computes without naming a rounding goes to the neighbour away from zero: by the
precision of its format and its exact value as a fraction.
Log entry 12 (DESIGN CHOICE). -/
opaque Config.roundAway : Nat → Int → Nat → Bool

/-- Where in its 250 µs the ALIVE toggle of a unit stands at the start of its time: the spec gives no phase (R538).
Log entry 190 (DESIGN CHOICE). -/
opaque Config.alivePhase : UnitId → Nat

/-- SHA-384, which the spec names and does not define.
Log entry 13 (DESIGN CHOICE). -/
opaque Config.sha384 : Bytes → Bytes
/-- ECDSA P-384 verification with SHA-384 by key, message and signature, which the spec names and does not define.
Log entry 13 (DESIGN CHOICE). -/
opaque Config.verify : Bytes → Bytes → Bytes → Bool
/-- A part's signature with its device key: r and s of the message, 96 bytes.
Log entry 13 (DESIGN CHOICE). -/
opaque Config.sign : Nat → Bytes → Bytes
/-- Whether a message carries a valid signature of Holtonav's firmware key, held in ROM.
Log entry 13 (DESIGN CHOICE). -/
opaque Config.romVerify : Bytes → Bytes → Bool
/-- Whether a message carries a valid signature of the certification authority, whose key is held in ROM.
Log entry 13 (DESIGN CHOICE). -/
opaque Config.caVerify : Bytes → Bytes → Bool

end Sys2Proof
end

