-- ==== Sys2Proof/Machine/Fld.lean ====
section
/-! DEFINITION. A field of a register table: where it stands, how wide it is, its access code (R604) and its reset
value. A field may repeat, over registers (`count`, `stride`, and a second dimension `per`, `stride2`) and within one
register (`bitStride`, `perReg`). -/
namespace Sys2Proof.Machine

/-- The access codes of R604. -/
inductive Acc where
  | ro
  | rw
  | w1c
  | wo
  | rwl
  deriving DecidableEq, Repr

/-- One field of the register tables. -/
structure Fld where
  base      : Nat
  count     : Nat
  stride    : Nat
  per       : Nat
  stride2   : Nat
  lsb       : Nat
  width     : Nat
  bitStride : Nat
  perReg    : Nat
  acc       : Acc
  reset     : Nat
  deriving DecidableEq, Repr

/-- A field of a register that stands once. -/
abbrev Fld.one (base lsb width : Nat) (acc : Acc) (reset : Nat) : Fld :=
  ⟨base, 1, 4, 1, 0, lsb, width, 0, 1, acc, reset⟩

/-- A field of `count` registers, `stride` bytes apart. -/
abbrev Fld.arr (base count stride lsb width : Nat) (acc : Acc) (reset : Nat) : Fld :=
  ⟨base, count, stride, count, 0, lsb, width, 0, 1, acc, reset⟩

/-- The address of the register that holds copy `i` of the field. -/
def Fld.addr (f : Fld) (i : Nat) : Nat :=
  let r := i / f.perReg
  f.base + f.stride * (r % f.per) + f.stride2 * (r / f.per)

/-- The lowest bit of copy `i` of the field. -/
def Fld.lo (f : Fld) (i : Nat) : Nat := f.lsb + f.bitStride * (i % f.perReg)

/-- Whether some register of the field stands at address `a`. -/
def Fld.covers (f : Fld) (a : Nat) : Bool :=
  f.base ≤ a &&
    let q := (a - f.base) / f.stride2
    let r := (a - f.base) % f.stride2
    r % f.stride == 0 && r / f.stride < f.per && q * f.per + r / f.stride < f.count

/-- Which register of the field stands at address `a` (meaningful where `covers` holds). -/
def Fld.regIx (f : Fld) (a : Nat) : Nat :=
  (a - f.base) / f.stride2 * f.per + (a - f.base) % f.stride2 / f.stride

/-- The bits of its register that the field takes, all its copies in one register together. -/
def Fld.mask (f : Fld) : Nat :=
  (List.range f.perReg).foldl (fun m j => m ||| ((2 ^ f.width - 1) <<< (f.lsb + f.bitStride * j))) 0

/-- The field's reset value in every copy within a register. -/
def Fld.resetBits (f : Fld) : Nat :=
  (List.range f.perReg).foldl (fun m j => m ||| (f.reset <<< (f.lsb + f.bitStride * j))) 0

end Sys2Proof.Machine
end

