-- ==== Sys2Proof/Machine/RegMapCell.lean ====
section
/-! DEFINITION. The fields of the FD1600 registers (cell register addresses, R610). Each constant is one field of the register tables of spec/ (the rule is
named before its group), with its address, place, access code and reset value as the table gives them.
A reset the table words otherwise ("from OTP", "per boot", a rule) stands as 0 here and is replaced by
the reset functions of Machine/Ops.lean. -/
namespace Sys2Proof.Machine


/-! R85, page CTIM. -/
abbrev CTIM_NOW_LO.NS : Fld := .one 0x7040 0 32 .ro 0
abbrev CTIM_NOW_HI.NS : Fld := .one 0x7044 0 32 .ro 0
abbrev CTIM_NOW_FRAC.FRAC : Fld := .one 0x7048 0 16 .ro 0
abbrev CTIM_PN_LO.PN_LO : Fld := .one 0x704C 0 32 .ro 0
abbrev CTIM_PN_HI.PN_HI : Fld := .one 0x7050 0 16 .ro 0
abbrev CTIM_PERIOD.T : Fld := .one 0x7054 0 8 .ro 0x28
abbrev CTIM_PDLY_A.PDLY : Fld := .one 0x7058 0 32 .rwl 0
abbrev CTIM_PDLY_B.PDLY : Fld := .one 0x705C 0 32 .rwl 0
abbrev CTIM_ASYM_A.ASYM : Fld := .one 0x7060 0 32 .rwl 0
abbrev CTIM_ASYM_B.ASYM : Fld := .one 0x7064 0 32 .rwl 0
abbrev CTIM_TURN.TURN : Fld := .one 0x7068 0 16 .ro 0
abbrev CTIM_SERVO.LOCKCNT : Fld := .one 0x706C 8 8 .ro 0
abbrev CTIM_SERVO.TPORT : Fld := .one 0x706C 2 1 .ro 0
abbrev CTIM_SERVO.STATE : Fld := .one 0x706C 0 2 .ro 0
abbrev CTIM_ELAST.ELAST : Fld := .one 0x7070 0 32 .ro 0
abbrev CTIM_XCHK.XCHK : Fld := .one 0x7074 0 32 .ro 0
abbrev CTIM_CNT.PNMIS : Fld := .one 0x7078 16 16 .rw 0
abbrev CTIM_CNT.LATE : Fld := .one 0x7078 0 16 .rw 0
abbrev CTIM_PCHG.ARM : Fld := .one 0x707C 31 1 .rw 0
abbrev CTIM_PCHG.NEW_T : Fld := .one 0x707C 0 8 .rw 0
abbrev CTIM_PCHGPN.PN : Fld := .one 0x7080 0 32 .rw 0
abbrev CTIM_ERR.XCHK : Fld := .one 0x7014 2 1 .w1c 0
abbrev CTIM_ERR.UNLOCK : Fld := .one 0x7014 1 1 .w1c 0
abbrev CTIM_ERR.XING : Fld := .one 0x7014 0 1 .w1c 0

/-! R145, page CLNK. -/
abbrev CLNK_HOP.VALID : Fld := .arr 0x1040 2 4096 31 1 .ro 0
abbrev CLNK_HOP.ARM : Fld := .arr 0x1040 2 4096 24 3 .rwl 0
abbrev CLNK_HOP.STRAND : Fld := .arr 0x1040 2 4096 16 7 .ro 0
abbrev CLNK_HOP.NCELL : Fld := .arr 0x1040 2 4096 8 7 .ro 0
abbrev CLNK_HOP.HOP : Fld := .arr 0x1040 2 4096 0 6 .ro 0
abbrev CLNK_TAILOFS.STAT : Fld := .arr 0x1044 2 4096 0 13 .rwl 0x50
abbrev CLNK_CNT1.HCRC : Fld := .arr 0x1048 2 4096 16 16 .rw 0
abbrev CLNK_CNT1.SLOT : Fld := .arr 0x1048 2 4096 0 16 .rw 0
abbrev CLNK_CNT2.CRC32 : Fld := .arr 0x104C 2 4096 16 16 .rw 0
abbrev CLNK_CNT2.ABORT : Fld := .arr 0x104C 2 4096 0 16 .rw 0
abbrev CLNK_CNT3.CODE : Fld := .arr 0x1050 2 4096 16 16 .rw 0
abbrev CLNK_CNT3.TAILDROP : Fld := .arr 0x1050 2 4096 0 16 .rw 0
abbrev CLNK_FSYM.CODE : Fld := .arr 0x1054 2 4096 24 8 .ro 0
abbrev CLNK_FSYM.ORIG : Fld := .arr 0x1054 2 4096 16 1 .ro 0
abbrev CLNK_FSYM.CNT : Fld := .arr 0x1054 2 4096 0 16 .rw 0
abbrev CLNK_STAT.STOPB : Fld := .arr 0x1010 2 4096 3 1 .ro 0
abbrev CLNK_STAT.TAIL : Fld := .arr 0x1010 2 4096 2 1 .ro 0
abbrev CLNK_STAT.RATE : Fld := .arr 0x1010 2 4096 1 1 .ro 0
abbrev CLNK_STAT.LOCK : Fld := .arr 0x1010 2 4096 0 1 .ro 0
abbrev CLNK_ERR.HOPMIS : Fld := .arr 0x1014 2 4096 2 1 .w1c 0
abbrev CLNK_ERR.LOCKLOSS : Fld := .arr 0x1014 2 4096 1 1 .w1c 0
abbrev CLNK_ERR.XING : Fld := .arr 0x1014 2 4096 0 1 .w1c 0

/-! R184, page CMEAS. -/
abbrev CMEAS_CHCFG.TTYPE : Fld := .one 0x3048 24 1 .rwl 0
abbrev CMEAS_CHCFG.TIMDIV : Fld := .arr 0x3040 4 4 16 4 .rwl 1
abbrev CMEAS_CHCFG.EVSEL : Fld := .arr 0x3040 4 4 12 3 .rwl 0
abbrev CMEAS_CHCFG.MEDIAN : Fld := .arr 0x3040 4 4 8 2 .rwl 0
abbrev CMEAS_CHCFG.PRESET : Fld := .arr 0x3040 4 4 4 2 .rwl 0
abbrev CMEAS_CHCFG.MODE : Fld := .arr 0x3040 4 4 0 2 .rwl 0
abbrev CMEAS_WDLY.DELAY : Fld := .arr 0x3050 4 4 0 16 .rwl 0
abbrev CMEAS_MAP.SPARE : Fld := .one 0x3060 16 3 .ro 4
abbrev CMEAS_MAP.CH3 : Fld := .one 0x3060 12 3 .ro 3
abbrev CMEAS_MAP.CH2 : Fld := .one 0x3060 8 3 .ro 2
abbrev CMEAS_MAP.CH1 : Fld := .one 0x3060 4 3 .ro 1
abbrev CMEAS_MAP.CH0 : Fld := .one 0x3060 0 3 .ro 0
abbrev CMEAS_RETIRE.RET : Fld := .one 0x3064 0 5 .rwl 0
abbrev CMEAS_ROT.STATE : Fld := .one 0x3068 24 3 .ro 0
abbrev CMEAS_ROT.TARGET : Fld := .one 0x3068 16 2 .ro 0
abbrev CMEAS_ROT.INTERVAL : Fld := .one 0x3068 0 16 .rwl 0x64
abbrev CMEAS_CMPTH.PTH : Fld := .one 0x306C 16 16 .rwl 0x40
abbrev CMEAS_CMPTH.MTH : Fld := .one 0x306C 0 16 .rwl 8
abbrev CMEAS_SLCAL.GERR : Fld := .arr 0x3070 5 4 16 16 .ro 0
abbrev CMEAS_SLCAL.OFS : Fld := .arr 0x3070 5 4 0 16 .ro 0
abbrev CMEAS_CHCAL.GERR : Fld := .arr 0x3084 4 4 16 16 .rwl 0
abbrev CMEAS_CHCAL.OFS : Fld := .arr 0x3084 4 4 0 16 .rwl 0
abbrev CMEAS_TLIN.CODE : Fld := .arr 0x3094 17 4 16 16 .rwl 0
abbrev CMEAS_TLIN.DEGC : Fld := .arr 0x3094 17 4 0 10 .rwl 0
abbrev CMEAS_INJ.BUSY : Fld := .one 0x30D8 8 4 .ro 0
abbrev CMEAS_INJ.PRESET : Fld := .one 0x30D8 4 2 .wo 0
abbrev CMEAS_INJ.CH : Fld := .one 0x30D8 0 4 .wo 0
abbrev CMEAS_INJCFG.SNAPCH : Fld := .one 0x30DC 24 4 .rwl 3
abbrev CMEAS_INJCFG.PRESET : Fld := .one 0x30DC 16 2 .rwl 1
abbrev CMEAS_INJCFG.DELAY : Fld := .one 0x30DC 0 16 .rwl 0
abbrev CMEAS_INJRES.NEW : Fld := .arr 0x30E0 4 4 31 1 .ro 0
abbrev CMEAS_INJRES.VALUE : Fld := .arr 0x30E0 4 4 0 24 .ro 0
abbrev CMEAS_INJT_LO.NS : Fld := .one 0x30F0 0 32 .ro 0
abbrev CMEAS_INJT_HI.NS : Fld := .one 0x30F4 0 32 .ro 0
abbrev CMEAS_INJT_FRAC.FRAC : Fld := .one 0x30F8 0 16 .ro 0
abbrev CMEAS_RES.SETTLE : Fld := .arr 0x3100 4 4 31 1 .ro 0
abbrev CMEAS_RES.VALUE : Fld := .arr 0x3100 4 4 0 24 .ro 0
abbrev CMEAS_CNT.SWSKIP : Fld := .one 0x3110 24 8 .rw 0
abbrev CMEAS_CNT.SWDEF : Fld := .one 0x3110 16 8 .rw 0
abbrev CMEAS_CNT.WREP : Fld := .one 0x3110 8 8 .rw 0
abbrev CMEAS_CNT.CMPFAIL : Fld := .one 0x3110 0 8 .rw 0
abbrev CMEAS_CNT2.SNAPREF : Fld := .one 0x3114 0 8 .rw 0
abbrev CMEAS_SYNC.REQ : Fld := .one 0x3118 8 1 .wo 0
abbrev CMEAS_SYNC.SRC : Fld := .one 0x3118 0 1 .rwl 0
abbrev CMEAS_STAT.NOSPARE : Fld := .one 0x3010 4 1 .ro 0
abbrev CMEAS_STAT.SETTLE : Fld := .one 0x3010 0 4 .ro 0
abbrev CMEAS_ERR.INJBUSY : Fld := .one 0x3014 6 1 .w1c 0
abbrev CMEAS_ERR.TLIN : Fld := .one 0x3014 5 1 .w1c 0
abbrev CMEAS_ERR.RANGE : Fld := .one 0x3014 4 1 .w1c 0
abbrev CMEAS_ERR.OVLD : Fld := .one 0x3014 3 1 .w1c 0
abbrev CMEAS_ERR.SLRET : Fld := .one 0x3014 2 1 .w1c 0
abbrev CMEAS_ERR.CMP : Fld := .one 0x3014 1 1 .w1c 0
abbrev CMEAS_ERR.XING : Fld := .one 0x3014 0 1 .w1c 0

/-! R220, page CSW. -/
abbrev CSW_CFG.GPOL : Fld := .one 0x4040 16 4 .rwl 0
abbrev CSW_CFG.REFR : Fld := .one 0x4040 13 1 .rwl 0
abbrev CSW_CFG.EAT : Fld := .one 0x4040 12 1 .rwl 1
abbrev CSW_CFG.ZSEL : Fld := .one 0x4040 8 2 .rwl 0
abbrev CSW_CFG.BRIDGE : Fld := .one 0x4040 4 1 .rwl 0
abbrev CSW_CFG.MODE : Fld := .one 0x4040 0 1 .rwl 0
abbrev CSW_DT.DT : Fld := .one 0x4044 0 14 .rwl 0xfa0
abbrev CSW_MINP.MINP : Fld := .one 0x4048 0 14 .rwl 0x1770
abbrev CSW_REFR.RINT : Fld := .one 0x404C 16 16 .rwl 0x7d0
abbrev CSW_REFR.REFW : Fld := .one 0x404C 0 14 .rwl 0x1f40
abbrev CSW_CPER.PER : Fld := .one 0x4050 0 27 .rw 0
abbrev CSW_CDUTY.SIGN : Fld := .one 0x4054 31 1 .rw 0
abbrev CSW_CDUTY.ON : Fld := .one 0x4054 4 27 .rw 0
abbrev CSW_CDUTY.DITH : Fld := .one 0x4054 0 4 .rw 0
abbrev CSW_CPHASE.PHASE : Fld := .one 0x4058 0 16 .rwl 0
abbrev CSW_CCMT.ARMED : Fld := .one 0x405C 8 1 .ro 0
abbrev CSW_CCMT.CMT : Fld := .one 0x405C 0 1 .wo 0
abbrev CSW_CPER_ACT.PER : Fld := .one 0x4060 0 27 .ro 0
abbrev CSW_CDUTY_ACT.DUTY : Fld := .one 0x4064 0 32 .ro 0
abbrev CSW_STATE.LEG2 : Fld := .one 0x4068 14 2 .ro 0
abbrev CSW_STATE.LEG1 : Fld := .one 0x4068 12 2 .ro 0
abbrev CSW_STATE.CSTATE : Fld := .one 0x4068 8 2 .ro 3
abbrev CSW_STATE.HOLD : Fld := .one 0x4068 4 1 .ro 1
abbrev CSW_STATE.GATES : Fld := .one 0x4068 0 4 .ro 0
abbrev CSW_LAST_LO.SLOT_LO : Fld := .one 0x406C 0 32 .ro 0
abbrev CSW_LAST_HI.SLOT_HI : Fld := .one 0x4070 0 16 .ro 0
abbrev CSW_CNT1.DROP : Fld := .one 0x4074 16 16 .rw 0
abbrev CSW_CNT1.WIDEN : Fld := .one 0x4074 0 16 .rw 0
abbrev CSW_CNT2.LDROP : Fld := .one 0x4078 16 16 .rw 0
abbrev CSW_CNT2.ORDER : Fld := .one 0x4078 0 16 .rw 0
abbrev CSW_CNT3.BEYOND : Fld := .one 0x407C 16 16 .rw 0
abbrev CSW_CNT3.BADST : Fld := .one 0x407C 0 16 .rw 0
abbrev CSW_CNT4.REFR : Fld := .one 0x4080 16 16 .rw 0
abbrev CSW_CNT4.CLAMP : Fld := .one 0x4080 0 16 .rw 0
abbrev CSW_SW_LO.ON_LO : Fld := .arr 0x4084 4 8 0 32 .ro 0
abbrev CSW_SW_HI.ON_HI : Fld := .arr 0x4088 4 8 0 32 .ro 0
abbrev CSW_BYPFIRE.KEY : Fld := .one 0x40A4 0 32 .wo 0
abbrev CSW_BYPSTAT.FIRED : Fld := .one 0x40A8 8 1 .ro 0
abbrev CSW_BYPSTAT.SRC : Fld := .one 0x40A8 0 3 .ro 0
abbrev CSW_STAT.CPEND : Fld := .one 0x4010 1 1 .ro 0
abbrev CSW_STAT.TPEND : Fld := .one 0x4010 0 1 .ro 0
abbrev CSW_ERR.CLAMP : Fld := .one 0x4014 4 1 .w1c 0
abbrev CSW_ERR.BADST : Fld := .one 0x4014 3 1 .w1c 0
abbrev CSW_ERR.RANGE : Fld := .one 0x4014 2 1 .w1c 0
abbrev CSW_ERR.BYP : Fld := .one 0x4014 1 1 .w1c 0
abbrev CSW_ERR.XING : Fld := .one 0x4014 0 1 .w1c 0

/-! R256, page CPROT. -/
abbrev CPROT_TRIPCFG.EN : Fld := .arr 0x5040 4 4 31 1 .rwl 0
abbrev CPROT_TRIPCFG.ACT : Fld := .arr 0x5040 4 4 30 1 .rwl 0
abbrev CPROT_TRIPCFG.BLANK : Fld := .arr 0x5040 4 4 16 14 .rwl 0x1f40
abbrev CPROT_TRIPCFG.ASSOC : Fld := .arr 0x5040 4 4 12 4 .rwl 0
abbrev CPROT_TRIPCFG.POL : Fld := .arr 0x5040 4 4 8 1 .rwl 0
abbrev CPROT_TRIPCFG.THR : Fld := .arr 0x5040 4 4 0 8 .rwl 0x80
abbrev CPROT_OVCFG.EN : Fld := .one 0x5050 31 1 .rwl 1
abbrev CPROT_OVCFG.ACT : Fld := .one 0x5050 30 1 .rwl 1
abbrev CPROT_OVCFG.THR : Fld := .one 0x5050 0 12 .rwl 0xf00
abbrev CPROT_BYPDLY.BYPDLY : Fld := .one 0x5054 0 16 .rwl 0x64
abbrev CPROT_LATCH.LATCH : Fld := .one 0x5058 0 6 .ro 0
abbrev CPROT_TRIPCLR.CLR : Fld := .one 0x505C 0 6 .wo 0
abbrev CPROT_ORPH.OTIME : Fld := .one 0x5060 16 16 .rwl 0x32
abbrev CPROT_ORPH.COAST : Fld := .one 0x5060 0 8 .rwl 4
abbrev CPROT_OSTAT.OELAPSED : Fld := .one 0x5064 16 16 .ro 0
abbrev CPROT_OSTAT.OBLK : Fld := .one 0x5064 9 1 .ro 0
abbrev CPROT_OSTAT.ORPHAN : Fld := .one 0x5064 8 1 .ro 0
abbrev CPROT_OSTAT.COASTCNT : Fld := .one 0x5064 0 8 .ro 0
abbrev CPROT_PWR.VDORM : Fld := .one 0x5068 16 16 .rwl 0x64
abbrev CPROT_PWR.STATE : Fld := .one 0x5068 0 3 .ro 2
abbrev CPROT_PWRREQ.KEY : Fld := .one 0x506C 0 32 .wo 0
abbrev CPROT_CNT.TRIPS : Fld := .one 0x5070 16 16 .rw 0
abbrev CPROT_CNT.ORPH : Fld := .one 0x5070 0 16 .rw 0
abbrev CPROT_STAT.RAW : Fld := .one 0x5010 8 6 .ro 0
abbrev CPROT_STAT.ALIVESTOP : Fld := .one 0x5010 1 1 .ro 0
abbrev CPROT_STAT.TRIP : Fld := .one 0x5010 0 1 .ro 0
abbrev CPROT_ERR.RANGE : Fld := .one 0x5014 6 1 .w1c 0
abbrev CPROT_ERR.CLRREF : Fld := .one 0x5014 4 1 .w1c 0
abbrev CPROT_ERR.DORMREF : Fld := .one 0x5014 3 1 .w1c 0
abbrev CPROT_ERR.WDOG : Fld := .one 0x5014 2 1 .w1c 0
abbrev CPROT_ERR.BYPTRIP : Fld := .one 0x5014 1 1 .w1c 0
abbrev CPROT_ERR.XING : Fld := .one 0x5014 0 1 .w1c 0

/-! R257, page CSUP. -/
abbrev CSUP_CFG.EN : Fld := .one 0x6040 31 1 .rwl 1
abbrev CSUP_CFG.UVEN : Fld := .one 0x6040 8 1 .rwl 1
abbrev CSUP_CFG.SST : Fld := .one 0x6040 4 4 .rwl 4
abbrev CSUP_CFG.MODE : Fld := .one 0x6040 0 1 .rwl 0
abbrev CSUP_TIME.TOFF : Fld := .one 0x6044 16 16 .rwl 0x50
abbrev CSUP_TIME.TON : Fld := .one 0x6044 0 16 .rwl 0xa0
abbrev CSUP_LIM.LEB : Fld := .one 0x6048 8 8 .rwl 0xc
abbrev CSUP_LIM.IPK : Fld := .one 0x6048 0 8 .rwl 0x7d
abbrev CSUP_VSET.VUV : Fld := .one 0x604C 16 10 .rwl 0x1c2
abbrev CSUP_VSET.VSET : Fld := .one 0x604C 0 10 .rwl 0x258
abbrev CSUP_VOV.VOV : Fld := .one 0x6050 0 10 .rwl 0x2bc
abbrev CSUP_HU.REQ : Fld := .one 0x6054 31 1 .wo 0
abbrev CSUP_HU.RES : Fld := .one 0x6054 24 2 .ro 0
abbrev CSUP_HU.DROP : Fld := .one 0x6054 16 8 .rw 0x19
abbrev CSUP_HU.WIN : Fld := .one 0x6054 0 16 .rw 0xc8
abbrev CSUP_HURES.DV : Fld := .one 0x6058 16 16 .ro 0
abbrev CSUP_HURES.DT : Fld := .one 0x6058 0 16 .ro 0
abbrev CSUP_HOLD.VALID : Fld := .one 0x605C 31 1 .ro 0
abbrev CSUP_HOLD.HOLD : Fld := .one 0x605C 0 16 .ro 0
abbrev CSUP_CNT.ILIM : Fld := .one 0x6060 16 16 .rw 0
abbrev CSUP_CNT.OVSTOP : Fld := .one 0x6060 0 16 .rw 0
abbrev CSUP_STAT.SSDONE : Fld := .one 0x6010 2 1 .ro 0
abbrev CSUP_STAT.REG : Fld := .one 0x6010 1 1 .ro 0
abbrev CSUP_STAT.RUN : Fld := .one 0x6010 0 1 .ro 0
abbrev CSUP_ERR.HUREF : Fld := .one 0x6014 3 1 .w1c 0
abbrev CSUP_ERR.OV : Fld := .one 0x6014 2 1 .w1c 0
abbrev CSUP_ERR.SSFAIL : Fld := .one 0x6014 1 1 .w1c 0
abbrev CSUP_ERR.XING : Fld := .one 0x6014 0 1 .w1c 0

/-! R432, page CPROT. -/
abbrev CPROT_LEASE.LLEN : Fld := .one 0x5080 8 4 .ro 0
abbrev CPROT_LEASE.ABD : Fld := .one 0x5080 3 1 .ro 0
abbrev CPROT_LEASE.EXP : Fld := .one 0x5080 2 1 .ro 0
abbrev CPROT_LEASE.HOLDER : Fld := .one 0x5080 0 2 .ro 0
abbrev CPROT_LEPOCH.EPOCH : Fld := .one 0x5084 0 32 .ro 0
abbrev CPROT_LCLR.KEY : Fld := .one 0x5098 0 32 .wo 0
abbrev CPROT_LEXP_LO.PN_LO : Fld := .one 0x5088 0 32 .ro 0
abbrev CPROT_LEXP_HI.PN_HI : Fld := .one 0x508C 0 16 .ro 0
abbrev CPROT_LABD_LO.PN_LO : Fld := .one 0x5090 0 32 .ro 0
abbrev CPROT_LABD_HI.PN_HI : Fld := .one 0x5094 0 16 .ro 0
abbrev CPROT_LCNT1.EARLY : Fld := .one 0x509C 16 16 .rw 0
abbrev CPROT_LCNT1.EPOCH : Fld := .one 0x509C 0 16 .rw 0
abbrev CPROT_LCNT2.UNIT : Fld := .one 0x50A0 16 16 .rw 0
abbrev CPROT_LCNT2.LBAD : Fld := .one 0x50A0 0 16 .rw 0
abbrev CPROT_LCNT3.TAKE : Fld := .one 0x50A4 16 16 .rw 0
abbrev CPROT_LCNT3.CLR : Fld := .one 0x50A4 0 16 .rw 0

/-! R559, page CFLT. -/
abbrev CFLT_LATCH.LATCH : Fld := .one 0x8040 0 32 .w1c 0
abbrev CFLT_FSRC.FSRC : Fld := .one 0x8044 0 32 .ro 0
abbrev CFLT_CONSQ.CONSQ : Fld := .one 0x8048 0 32 .w1c 0
abbrev CFLT_LCLS.CLS : Fld := ⟨0x804C, 2, 4, 2, 0, 0, 2, 2, 16, .ro, 0⟩
abbrev CFLT_FIRST_LO.NS : Fld := .one 0x8054 0 32 .ro 0
abbrev CFLT_FIRST_HI.NS : Fld := .one 0x8058 0 32 .ro 0
abbrev CFLT_FCYC.FCYC : Fld := .one 0x805C 0 32 .ro 0
abbrev CFLT_CNT.CONSQ : Fld := .one 0x8060 16 16 .rw 0
abbrev CFLT_CNT.ECCC : Fld := .one 0x8060 0 16 .rw 0
abbrev CFLT_SCFG.ESC : Fld := .arr 0x8080 16 4 20 2 .rwl 0
abbrev CFLT_SCFG.GRACE : Fld := .arr 0x8080 16 4 0 17 .rwl 0x3e8
abbrev CFLT_DCLS.CLS : Fld := .arr 0x80C0 16 4 0 32 .rwl 0
abbrev CFLT_LREQ0.DATA : Fld := .arr 0x8100 3 4 0 32 .rw 0
abbrev CFLT_LREQ3.RES : Fld := .one 0x810C 30 2 .ro 0
abbrev CFLT_LREQ3.SUB : Fld := .one 0x810C 16 8 .wo 0
abbrev CFLT_LREQ3.KIND : Fld := .one 0x810C 0 8 .wo 0
abbrev CFLT_STAT.FATAL : Fld := .one 0x8010 1 1 .ro 0
abbrev CFLT_STAT.MAJOR : Fld := .one 0x8010 0 1 .ro 0
abbrev CFLT_ERR.RANGE : Fld := .one 0x8014 5 1 .w1c 0
abbrev CFLT_ERR.CLRREF : Fld := .one 0x8014 4 1 .w1c 0
abbrev CFLT_ERR.ECCU : Fld := .one 0x8014 3 1 .w1c 0
abbrev CFLT_ERR.ECCC : Fld := .one 0x8014 2 1 .w1c 0
abbrev CFLT_ERR.XING : Fld := .one 0x8014 0 1 .w1c 0

/-! R597, page CGEN. -/
abbrev CGEN_SERIAL_LO.SER : Fld := .one 0x40 0 32 .ro 0
abbrev CGEN_SERIAL_HI.SER : Fld := .one 0x44 0 32 .ro 0
abbrev CGEN_RSTCAUSE.CORERST : Fld := .one 0x48 8 1 .ro 0
abbrev CGEN_RSTCAUSE.KIND : Fld := .one 0x48 0 3 .ro 0
abbrev CGEN_RST.KEY : Fld := .one 0x4C 0 32 .wo 0
abbrev CGEN_PATCH.ACT : Fld := .one 0x50 31 1 .wo 0
abbrev CGEN_PATCH.RES : Fld := .one 0x50 24 3 .ro 0
abbrev CGEN_PIMG.IMAGE : Fld := .one 0x54 0 32 .rw 0
abbrev CGEN_PLEN.PLEN : Fld := .one 0x58 0 19 .rw 0
abbrev CGEN_PVER.PVER : Fld := .one 0x5C 0 32 .ro 0
abbrev CGEN_RSTLATCH.LATCH : Fld := .one 0x60 0 32 .ro 0
abbrev CGEN_ERR.RANGE : Fld := .one 0x14 2 1 .w1c 0
abbrev CGEN_ERR.PATCH : Fld := .one 0x14 1 1 .w1c 0
abbrev CGEN_ERR.XING : Fld := .one 0x14 0 1 .w1c 0

/-! R598, page CFRM. -/
abbrev CFRM_CFG.DIV : Fld := .one 0x9040 0 8 .rwl 4
abbrev CFRM_SIZE.SIZE : Fld := .one 0x9044 0 16 .ro 0
abbrev CFRM_LEDG.RINGN : Fld := .one 0x9048 16 16 .ro 0
abbrev CFRM_LEDG.NEXT : Fld := .one 0x9048 0 16 .ro 0
abbrev CFRM_CERTLEN.LEN : Fld := .one 0x904C 0 11 .ro 0
abbrev CFRM_CERT.CERT : Fld := .arr 0x9400 256 4 0 32 .ro 0
abbrev CFRM_ERR.WRFAIL : Fld := .one 0x9014 4 1 .w1c 0
abbrev CFRM_ERR.CERT : Fld := .one 0x9014 3 1 .w1c 0
abbrev CFRM_ERR.CAL : Fld := .one 0x9014 2 1 .w1c 0
abbrev CFRM_ERR.HDR : Fld := .one 0x9014 1 1 .w1c 0
abbrev CFRM_ERR.XING : Fld := .one 0x9014 0 1 .w1c 0

/-! R653, page CTMX. -/
abbrev CTMX_ERR.RANGE : Fld := .one 0xA014 1 1 .w1c 0
abbrev CTMX_ERR.XING : Fld := .one 0xA014 0 1 .w1c 0
abbrev CTMX_DSEL.SEL : Fld := .arr 0xA040 2 4 0 5 .rw 0
abbrev CTMX_ASEL.SEL : Fld := .arr 0xA048 2 4 0 3 .rw 0

/-! R432, page CPROT. -/
abbrev CPROT_ERR.LCLRREF : Fld := .one 0x5014 5 1 .w1c 0

def fieldsCTIM0 : List Fld :=
  [CTIM_NOW_LO.NS, CTIM_NOW_HI.NS, CTIM_NOW_FRAC.FRAC, CTIM_PN_LO.PN_LO,
   CTIM_PN_HI.PN_HI, CTIM_PERIOD.T, CTIM_PDLY_A.PDLY, CTIM_PDLY_B.PDLY,
   CTIM_ASYM_A.ASYM, CTIM_ASYM_B.ASYM, CTIM_TURN.TURN, CTIM_SERVO.LOCKCNT,
   CTIM_SERVO.TPORT, CTIM_SERVO.STATE, CTIM_ELAST.ELAST, CTIM_XCHK.XCHK,
   CTIM_CNT.PNMIS, CTIM_CNT.LATE, CTIM_PCHG.ARM, CTIM_PCHG.NEW_T,
   CTIM_PCHGPN.PN, CTIM_ERR.XCHK, CTIM_ERR.UNLOCK, CTIM_ERR.XING]
/-- The fields of page CTIM, header detail bits included. -/
def fieldsCTIM : List Fld := fieldsCTIM0

def fieldsCLNK0 : List Fld :=
  [CLNK_HOP.VALID, CLNK_HOP.ARM, CLNK_HOP.STRAND, CLNK_HOP.NCELL,
   CLNK_HOP.HOP, CLNK_TAILOFS.STAT, CLNK_CNT1.HCRC, CLNK_CNT1.SLOT,
   CLNK_CNT2.CRC32, CLNK_CNT2.ABORT, CLNK_CNT3.CODE, CLNK_CNT3.TAILDROP,
   CLNK_FSYM.CODE, CLNK_FSYM.ORIG, CLNK_FSYM.CNT, CLNK_STAT.STOPB,
   CLNK_STAT.TAIL, CLNK_STAT.RATE, CLNK_STAT.LOCK, CLNK_ERR.HOPMIS,
   CLNK_ERR.LOCKLOSS, CLNK_ERR.XING]
/-- The fields of page CLNK, header detail bits included. -/
def fieldsCLNK : List Fld := fieldsCLNK0

def fieldsCMEAS0 : List Fld :=
  [CMEAS_CHCFG.TTYPE, CMEAS_CHCFG.TIMDIV, CMEAS_CHCFG.EVSEL, CMEAS_CHCFG.MEDIAN,
   CMEAS_CHCFG.PRESET, CMEAS_CHCFG.MODE, CMEAS_WDLY.DELAY, CMEAS_MAP.SPARE,
   CMEAS_MAP.CH3, CMEAS_MAP.CH2, CMEAS_MAP.CH1, CMEAS_MAP.CH0,
   CMEAS_RETIRE.RET, CMEAS_ROT.STATE, CMEAS_ROT.TARGET, CMEAS_ROT.INTERVAL,
   CMEAS_CMPTH.PTH, CMEAS_CMPTH.MTH, CMEAS_SLCAL.GERR, CMEAS_SLCAL.OFS,
   CMEAS_CHCAL.GERR, CMEAS_CHCAL.OFS, CMEAS_TLIN.CODE, CMEAS_TLIN.DEGC]
def fieldsCMEAS1 : List Fld :=
  [CMEAS_INJ.BUSY, CMEAS_INJ.PRESET, CMEAS_INJ.CH, CMEAS_INJCFG.SNAPCH,
   CMEAS_INJCFG.PRESET, CMEAS_INJCFG.DELAY, CMEAS_INJRES.NEW, CMEAS_INJRES.VALUE,
   CMEAS_INJT_LO.NS, CMEAS_INJT_HI.NS, CMEAS_INJT_FRAC.FRAC, CMEAS_RES.SETTLE,
   CMEAS_RES.VALUE, CMEAS_CNT.SWSKIP, CMEAS_CNT.SWDEF, CMEAS_CNT.WREP,
   CMEAS_CNT.CMPFAIL, CMEAS_CNT2.SNAPREF, CMEAS_SYNC.REQ, CMEAS_SYNC.SRC,
   CMEAS_STAT.NOSPARE, CMEAS_STAT.SETTLE, CMEAS_ERR.INJBUSY, CMEAS_ERR.TLIN]
def fieldsCMEAS2 : List Fld :=
  [CMEAS_ERR.RANGE, CMEAS_ERR.OVLD, CMEAS_ERR.SLRET, CMEAS_ERR.CMP,
   CMEAS_ERR.XING]
/-- The fields of page CMEAS, header detail bits included. -/
def fieldsCMEAS : List Fld := fieldsCMEAS0 ++ fieldsCMEAS1 ++ fieldsCMEAS2

def fieldsCSW0 : List Fld :=
  [CSW_CFG.GPOL, CSW_CFG.REFR, CSW_CFG.EAT, CSW_CFG.ZSEL,
   CSW_CFG.BRIDGE, CSW_CFG.MODE, CSW_DT.DT, CSW_MINP.MINP,
   CSW_REFR.RINT, CSW_REFR.REFW, CSW_CPER.PER, CSW_CDUTY.SIGN,
   CSW_CDUTY.ON, CSW_CDUTY.DITH, CSW_CPHASE.PHASE, CSW_CCMT.ARMED,
   CSW_CCMT.CMT, CSW_CPER_ACT.PER, CSW_CDUTY_ACT.DUTY, CSW_STATE.LEG2,
   CSW_STATE.LEG1, CSW_STATE.CSTATE, CSW_STATE.HOLD, CSW_STATE.GATES]
def fieldsCSW1 : List Fld :=
  [CSW_LAST_LO.SLOT_LO, CSW_LAST_HI.SLOT_HI, CSW_CNT1.DROP, CSW_CNT1.WIDEN,
   CSW_CNT2.LDROP, CSW_CNT2.ORDER, CSW_CNT3.BEYOND, CSW_CNT3.BADST,
   CSW_CNT4.REFR, CSW_CNT4.CLAMP, CSW_SW_LO.ON_LO, CSW_SW_HI.ON_HI,
   CSW_BYPFIRE.KEY, CSW_BYPSTAT.FIRED, CSW_BYPSTAT.SRC, CSW_STAT.CPEND,
   CSW_STAT.TPEND, CSW_ERR.CLAMP, CSW_ERR.BADST, CSW_ERR.RANGE,
   CSW_ERR.BYP, CSW_ERR.XING]
/-- The fields of page CSW, header detail bits included. -/
def fieldsCSW : List Fld := fieldsCSW0 ++ fieldsCSW1

def fieldsCPROT0 : List Fld :=
  [CPROT_TRIPCFG.EN, CPROT_TRIPCFG.ACT, CPROT_TRIPCFG.BLANK, CPROT_TRIPCFG.ASSOC,
   CPROT_TRIPCFG.POL, CPROT_TRIPCFG.THR, CPROT_OVCFG.EN, CPROT_OVCFG.ACT,
   CPROT_OVCFG.THR, CPROT_BYPDLY.BYPDLY, CPROT_LATCH.LATCH, CPROT_TRIPCLR.CLR,
   CPROT_ORPH.OTIME, CPROT_ORPH.COAST, CPROT_OSTAT.OELAPSED, CPROT_OSTAT.OBLK,
   CPROT_OSTAT.ORPHAN, CPROT_OSTAT.COASTCNT, CPROT_PWR.VDORM, CPROT_PWR.STATE,
   CPROT_PWRREQ.KEY, CPROT_CNT.TRIPS, CPROT_CNT.ORPH, CPROT_STAT.RAW]
def fieldsCPROT1 : List Fld :=
  [CPROT_STAT.ALIVESTOP, CPROT_STAT.TRIP, CPROT_ERR.RANGE, CPROT_ERR.CLRREF,
   CPROT_ERR.DORMREF, CPROT_ERR.WDOG, CPROT_ERR.BYPTRIP, CPROT_ERR.XING,
   CPROT_LEASE.LLEN, CPROT_LEASE.ABD, CPROT_LEASE.EXP, CPROT_LEASE.HOLDER,
   CPROT_LEPOCH.EPOCH, CPROT_LCLR.KEY, CPROT_LEXP_LO.PN_LO, CPROT_LEXP_HI.PN_HI,
   CPROT_LABD_LO.PN_LO, CPROT_LABD_HI.PN_HI, CPROT_LCNT1.EARLY, CPROT_LCNT1.EPOCH,
   CPROT_LCNT2.UNIT, CPROT_LCNT2.LBAD, CPROT_LCNT3.TAKE, CPROT_LCNT3.CLR]
def fieldsCPROT2 : List Fld :=
  [CPROT_ERR.LCLRREF]
/-- The fields of page CPROT, header detail bits included. -/
def fieldsCPROT : List Fld := fieldsCPROT0 ++ fieldsCPROT1 ++ fieldsCPROT2

def fieldsCSUP0 : List Fld :=
  [CSUP_CFG.EN, CSUP_CFG.UVEN, CSUP_CFG.SST, CSUP_CFG.MODE,
   CSUP_TIME.TOFF, CSUP_TIME.TON, CSUP_LIM.LEB, CSUP_LIM.IPK,
   CSUP_VSET.VUV, CSUP_VSET.VSET, CSUP_VOV.VOV, CSUP_HU.REQ,
   CSUP_HU.RES, CSUP_HU.DROP, CSUP_HU.WIN, CSUP_HURES.DV,
   CSUP_HURES.DT, CSUP_HOLD.VALID, CSUP_HOLD.HOLD, CSUP_CNT.ILIM,
   CSUP_CNT.OVSTOP, CSUP_STAT.SSDONE, CSUP_STAT.REG, CSUP_STAT.RUN]
def fieldsCSUP1 : List Fld :=
  [CSUP_ERR.HUREF, CSUP_ERR.OV, CSUP_ERR.SSFAIL, CSUP_ERR.XING]
/-- The fields of page CSUP, header detail bits included. -/
def fieldsCSUP : List Fld := fieldsCSUP0 ++ fieldsCSUP1

def fieldsCFLT0 : List Fld :=
  [CFLT_LATCH.LATCH, CFLT_FSRC.FSRC, CFLT_CONSQ.CONSQ, CFLT_LCLS.CLS,
   CFLT_FIRST_LO.NS, CFLT_FIRST_HI.NS, CFLT_FCYC.FCYC, CFLT_CNT.CONSQ,
   CFLT_CNT.ECCC, CFLT_SCFG.ESC, CFLT_SCFG.GRACE, CFLT_DCLS.CLS,
   CFLT_LREQ0.DATA, CFLT_LREQ3.RES, CFLT_LREQ3.SUB, CFLT_LREQ3.KIND,
   CFLT_STAT.FATAL, CFLT_STAT.MAJOR, CFLT_ERR.RANGE, CFLT_ERR.CLRREF,
   CFLT_ERR.ECCU, CFLT_ERR.ECCC, CFLT_ERR.XING]
/-- The fields of page CFLT, header detail bits included. -/
def fieldsCFLT : List Fld := fieldsCFLT0

def fieldsCGEN0 : List Fld :=
  [CGEN_SERIAL_LO.SER, CGEN_SERIAL_HI.SER, CGEN_RSTCAUSE.CORERST, CGEN_RSTCAUSE.KIND,
   CGEN_RST.KEY, CGEN_PATCH.ACT, CGEN_PATCH.RES, CGEN_PIMG.IMAGE,
   CGEN_PLEN.PLEN, CGEN_PVER.PVER, CGEN_RSTLATCH.LATCH, CGEN_ERR.RANGE,
   CGEN_ERR.PATCH, CGEN_ERR.XING]
/-- The fields of page CGEN, header detail bits included. -/
def fieldsCGEN : List Fld := fieldsCGEN0

def fieldsCFRM0 : List Fld :=
  [CFRM_CFG.DIV, CFRM_SIZE.SIZE, CFRM_LEDG.RINGN, CFRM_LEDG.NEXT,
   CFRM_CERTLEN.LEN, CFRM_CERT.CERT, CFRM_ERR.WRFAIL, CFRM_ERR.CERT,
   CFRM_ERR.CAL, CFRM_ERR.HDR, CFRM_ERR.XING]
/-- The fields of page CFRM, header detail bits included. -/
def fieldsCFRM : List Fld := fieldsCFRM0

def fieldsCTMX0 : List Fld :=
  [CTMX_ERR.RANGE, CTMX_ERR.XING, CTMX_DSEL.SEL, CTMX_ASEL.SEL]
/-- The fields of page CTMX, header detail bits included. -/
def fieldsCTMX : List Fld := fieldsCTMX0

end Sys2Proof.Machine
end

