-- ==== Sys2Proof/Machine/RegMapUnit.lean ====
section
/-! DEFINITION. The fields of the FD7200 registers (BAR 0 addresses, R607). Each constant is one field of the register tables of spec/ (the rule is
named before its group), with its address, place, access code and reset value as the table gives them.
A reset the table words otherwise ("from OTP", "per boot", a rule) stands as 0 here and is replaced by
the reset functions of Machine/Ops.lean. -/
namespace Sys2Proof.Machine


/-! R84, page TIM. -/
abbrev TIM_NOW_HI.NS_HI : Fld := .one 0x4044 0 32 .ro 0
abbrev TIM_NOW_LO.NS_LO : Fld := .one 0x4040 0 32 .ro 0
abbrev TIM_NOW_FRAC.FRAC : Fld := .one 0x4048 0 16 .ro 0
abbrev TIM_BASE_HI.NS_HI : Fld := .one 0x4054 0 32 .ro 0
abbrev TIM_BASE_LO.NS_LO : Fld := .one 0x4050 0 32 .ro 0
abbrev TIM_BASE_FRAC.FRAC : Fld := .one 0x4058 0 16 .ro 0
abbrev TIM_PN_LO.PN_LO : Fld := .one 0x405C 0 32 .ro 0
abbrev TIM_PN_HI.PN_HI : Fld := .one 0x4060 0 16 .ro 0
abbrev TIM_PERIOD.T : Fld := .one 0x4064 0 8 .ro 0x28
abbrev TIM_PCHG.REQ : Fld := .one 0x4068 31 1 .rw 0
abbrev TIM_PCHG.RES : Fld := .one 0x4068 24 3 .ro 0
abbrev TIM_PCHG.NEW_T : Fld := .one 0x4068 0 8 .rw 0
abbrev TIM_PCHG_PN_LO.PN_LO : Fld := .one 0x406C 0 32 .rw 0
abbrev TIM_PCHG_PN_HI.PN_HI : Fld := .one 0x4070 0 16 .rw 0
abbrev TIM_OFS1.COMP : Fld := .one 0x4074 16 13 .rwl 0x1cc
abbrev TIM_OFS1.STAT : Fld := .one 0x4074 0 13 .rwl 0x50
abbrev TIM_OFS2.CMD : Fld := .one 0x4078 16 13 .ro 0x276
abbrev TIM_OFS2.MARGIN : Fld := .one 0x4078 0 13 .rwl 0x1e
abbrev TIM_SRC.FREERUN : Fld := .one 0x407C 6 1 .rwl 0
abbrev TIM_SRC.SLEW : Fld := .one 0x407C 5 1 .ro 0
abbrev TIM_SRC.STEPPED : Fld := .one 0x407C 4 1 .ro 0
abbrev TIM_SRC.ALIGN : Fld := .one 0x407C 2 2 .ro 0
abbrev TIM_SRC.PARTNER : Fld := .one 0x407C 1 1 .ro 0
abbrev TIM_SRC.PTPLOCK : Fld := .one 0x407C 0 1 .ro 0
abbrev TIM_RATE.RATE : Fld := .one 0x4080 0 32 .ro 0
abbrev TIM_PTPOFS.PTPOFS : Fld := .one 0x4084 0 32 .ro 0
abbrev TIM_PARTOFS.PARTOFS : Fld := .one 0x4088 0 32 .ro 0
abbrev TIM_STAT.BSTRAND : Fld := .one 0x4010 0 7 .ro 0
abbrev TIM_ERR.ALIGN : Fld := .one 0x4014 3 1 .w1c 0
abbrev TIM_ERR.BUDGET : Fld := .one 0x4014 2 1 .w1c 0
abbrev TIM_ERR.RANGE : Fld := .one 0x4014 1 1 .w1c 0
abbrev TIM_ERR.XING : Fld := .one 0x4014 0 1 .w1c 0

/-! R144, page STRP. -/
abbrev STRP_ASSIGN.ARM : Fld := .arr 0x100040 100 4096 24 3 .rwl 0
abbrev STRP_ASSIGN.NCELL : Fld := .arr 0x100040 100 4096 8 7 .rwl 0
abbrev STRP_ASSIGN.STRAND : Fld := .arr 0x100040 100 4096 0 7 .rw 0
abbrev STRP_DLY.DLY : Fld := .arr 0x100044 100 4096 0 32 .ro 0
abbrev STRP_CMD.REQ : Fld := .arr 0x100048 100 4096 0 3 .wo 0
abbrev STRP_CNT1.CRC8 : Fld := .arr 0x10004C 100 4096 16 16 .rw 0
abbrev STRP_CNT1.CRC32 : Fld := .arr 0x10004C 100 4096 0 16 .rw 0
abbrev STRP_CNT2.ABORT : Fld := .arr 0x100050 100 4096 16 16 .rw 0
abbrev STRP_CNT2.CODE : Fld := .arr 0x100050 100 4096 0 16 .rw 0
abbrev STRP_CNT3.MISS : Fld := .arr 0x100054 100 4096 16 16 .rw 0
abbrev STRP_CNT3.TAILF : Fld := .arr 0x100054 100 4096 0 16 .rw 0
abbrev STRP_EYE.HMIN : Fld := .arr 0x100058 100 4096 24 8 .rw 0x10
abbrev STRP_EYE.HMARG : Fld := .arr 0x100058 100 4096 16 8 .ro 0
abbrev STRP_EYE.VMARG : Fld := .arr 0x100058 100 4096 0 8 .ro 0
abbrev STRP_STAT.ORIG : Fld := .arr 0x100010 100 4096 24 7 .ro 0x7f
abbrev STRP_STAT.REACH : Fld := .arr 0x100010 100 4096 16 7 .ro 0
abbrev STRP_STAT.TAIL : Fld := .arr 0x100010 100 4096 6 1 .ro 0
abbrev STRP_STAT.RELAY : Fld := .arr 0x100010 100 4096 5 1 .ro 0
abbrev STRP_STAT.RATE : Fld := .arr 0x100010 100 4096 4 1 .ro 0
abbrev STRP_STAT.LOCK : Fld := .arr 0x100010 100 4096 3 1 .ro 0
abbrev STRP_STAT.STATE : Fld := .arr 0x100010 100 4096 0 3 .ro 0
abbrev STRP_ERR.REQ : Fld := .arr 0x100014 100 4096 5 1 .w1c 0
abbrev STRP_ERR.NCELL : Fld := .arr 0x100014 100 4096 4 1 .w1c 0
abbrev STRP_ERR.EYE : Fld := .arr 0x100014 100 4096 3 1 .w1c 0
abbrev STRP_ERR.BREAK : Fld := .arr 0x100014 100 4096 2 1 .w1c 0
abbrev STRP_ERR.LOCKLOSS : Fld := .arr 0x100014 100 4096 1 1 .w1c 0
abbrev STRP_ERR.XING : Fld := .arr 0x100014 100 4096 0 1 .w1c 0

/-! R299, page CAL. -/
abbrev CAL_ARMCFG.EN : Fld := .arr 0x21040 6 4 31 1 .rwl 0
abbrev CAL_ARMCFG.TYPE : Fld := .arr 0x21040 6 4 28 2 .rwl 0
abbrev CAL_ARMCFG.NREQ : Fld := .arr 0x21040 6 4 16 11 .rwl 0
abbrev CAL_ARMCFG.ROT : Fld := .arr 0x21040 6 4 8 8 .rwl 0x10
abbrev CAL_ARMCFG.DTCOMP : Fld := .arr 0x21040 6 4 0 1 .rwl 1
abbrev CAL_BAND.ZBAND : Fld := .arr 0x21058 6 4 16 16 .rwl 0x14
abbrev CAL_BAND.BAND : Fld := .arr 0x21058 6 4 0 16 .rwl 0xc8
abbrev CAL_ARMSW.EAT : Fld := .arr 0x21070 6 4 31 1 .rwl 1
abbrev CAL_ARMSW.REFR : Fld := .arr 0x21070 6 4 30 1 .rwl 0
abbrev CAL_ARMSW.MINP : Fld := .arr 0x21070 6 4 16 14 .rwl 0x1770
abbrev CAL_ARMSW.ZSEL : Fld := .arr 0x21070 6 4 14 2 .rwl 0
abbrev CAL_ARMSW.DT : Fld := .arr 0x21070 6 4 0 14 .rwl 0xfa0
abbrev CAL_ARMREF.RINT : Fld := .arr 0x21088 6 4 16 16 .rwl 0x7d0
abbrev CAL_ARMREF.REFW : Fld := .arr 0x21088 6 4 0 14 .rwl 0x1f40
abbrev CAL_ASTAT.SATP : Fld := .arr 0x210A0 6 4 31 1 .ro 0
abbrev CAL_ASTAT.SATN : Fld := .arr 0x210A0 6 4 30 1 .ro 0
abbrev CAL_ASTAT.LOW : Fld := .arr 0x210A0 6 4 29 1 .ro 0
abbrev CAL_ASTAT.DIR : Fld := .arr 0x210A0 6 4 28 1 .ro 0
abbrev CAL_ASTAT.POL : Fld := .arr 0x210A0 6 4 27 1 .ro 0
abbrev CAL_ASTAT.NSEL : Fld := .arr 0x210A0 6 4 16 11 .ro 0
abbrev CAL_ASTAT.TOGGLE : Fld := .arr 0x210A0 6 4 0 11 .ro 0x7ff
abbrev CAL_AVAIL.FB : Fld := .arr 0x210B8 6 4 16 11 .ro 0
abbrev CAL_AVAIL.HB : Fld := .arr 0x210B8 6 4 0 11 .ro 0
abbrev CAL_FX.SET : Fld := .one 0x210D0 31 1 .wo 0
abbrev CAL_FX.STRAND : Fld := .one 0x210D0 16 7 .wo 0
abbrev CAL_FX.HOP : Fld := .one 0x210D0 0 6 .wo 0
abbrev CAL_CNT1.CLAMP : Fld := .one 0x210D4 16 16 .rw 0
abbrev CAL_CNT1.TOGRND : Fld := .one 0x210D4 0 16 .rw 0
abbrev CAL_CNT2.HOLDBRK : Fld := .one 0x210D8 16 16 .rw 0
abbrev CAL_CNT2.NOCMD : Fld := .one 0x210D8 0 16 .rw 0
abbrev CAL_STAT.SAT : Fld := .one 0x21010 0 6 .ro 0
abbrev CAL_ERR.LOW : Fld := .one 0x21014 5 1 .w1c 0
abbrev CAL_ERR.TYPE : Fld := .one 0x21014 4 1 .w1c 0
abbrev CAL_ERR.DNAN : Fld := .one 0x21014 3 1 .w1c 0
abbrev CAL_ERR.LATE : Fld := .one 0x21014 2 1 .w1c 0
abbrev CAL_ERR.XING : Fld := .one 0x21014 0 1 .w1c 0

/-! R300, page CLP. -/
abbrev CLP_ARMI.NEG : Fld := .arr 0x22040 6 4 31 1 .rwl 0
abbrev CLP_ARMI.SRC : Fld := .arr 0x22040 6 4 24 5 .rwl 0
abbrev CLP_ARMI.LAT : Fld := .arr 0x22040 6 4 0 16 .rwl 0x32
abbrev CLP_ILOAD.ILOAD : Fld := .one 0x22058 0 16 .rwl 0x19
abbrev CLP_FCFG.KGAIN : Fld := .one 0x2205C 24 8 .rwl 0x20
abbrev CLP_FCFG.STALEMAX : Fld := .one 0x2205C 16 8 .rwl 2
abbrev CLP_FCFG.OUTN : Fld := .one 0x2205C 12 4 .rwl 3
abbrev CLP_FCFG.OUTTH : Fld := .one 0x2205C 0 12 .rwl 0x190
abbrev CLP_CHK.CHKN : Fld := .one 0x22060 24 8 .rwl 0x40
abbrev CLP_CHK.CHKTH : Fld := .one 0x22060 0 12 .rwl 0xc8
abbrev CLP_CCFG.CEN : Fld := .one 0x22064 31 1 .rwl 1
abbrev CLP_CCFG.CGAIN : Fld := .one 0x22064 24 4 .rwl 4
abbrev CLP_CCFG.HOLD : Fld := .one 0x22064 16 8 .rwl 6
abbrev CLP_CCFG.HOLDGAP : Fld := .one 0x22064 0 16 .rwl 0x64
abbrev CLP_CCFG2.DVMIN : Fld := .one 0x22068 0 16 .rwl 0xc8
abbrev CLP_ECFG.EGAIN : Fld := .one 0x2206C 24 4 .rwl 8
abbrev CLP_ECFG.EIMIN : Fld := .one 0x2206C 0 16 .rwl 0x64
abbrev CLP_CNOM.CNOM : Fld := .arr 0x22070 6 4 0 32 .rwl 0
abbrev CLP_ENOM.ENOM : Fld := .arr 0x22088 6 4 0 32 .rwl 0
abbrev CLP_WCFG.CRET : Fld := .one 0x220A0 24 8 .rwl 0x32
abbrev CLP_WCFG.ERET : Fld := .one 0x220A0 16 8 .rwl 0x64
abbrev CLP_WCFG.RETCONF : Fld := .one 0x220A0 8 4 .rwl 3
abbrev CLP_WTH.RETTH : Fld := .one 0x220A4 16 16 .rwl 0x1000
abbrev CLP_WTH.WARNTH : Fld := .one 0x220A4 0 16 .rwl 0xccd
abbrev CLP_SEL.STRAND : Fld := .one 0x220A8 16 7 .rw 0
abbrev CLP_SEL.HOP : Fld := .one 0x220A8 0 6 .rw 0
abbrev CLP_REC.WORD : Fld := .arr 0x220B0 16 4 0 32 .ro 0
abbrev CLP_CSEED.C : Fld := .one 0x220F0 0 32 .rw 0
abbrev CLP_ESEED.ESR : Fld := .one 0x220F4 0 32 .rw 0
abbrev CLP_CMD.RES : Fld := .one 0x220F8 24 3 .ro 0
abbrev CLP_CMD.OP : Fld := .one 0x220F8 0 3 .wo 0
abbrev CLP_CNT1.OUTL : Fld := .one 0x220FC 16 16 .rw 0
abbrev CLP_CNT1.RESEED : Fld := .one 0x220FC 0 16 .rw 0
abbrev CLP_CNT2.CPAIR : Fld := .one 0x22100 16 16 .rw 0
abbrev CLP_CNT2.HOLDABN : Fld := .one 0x22100 0 16 .rw 0
abbrev CLP_STAT.RETPEND : Fld := .one 0x22010 1 1 .ro 0
abbrev CLP_STAT.SEEDING : Fld := .one 0x22010 0 1 .ro 0
abbrev CLP_ERR.IARM : Fld := .one 0x22014 6 1 .w1c 0
abbrev CLP_ERR.LATE : Fld := .one 0x22014 5 1 .w1c 0
abbrev CLP_ERR.WARN : Fld := .one 0x22014 4 1 .w1c 0
abbrev CLP_ERR.RETPEND : Fld := .one 0x22014 3 1 .w1c 0
abbrev CLP_ERR.RETIRE : Fld := .one 0x22014 2 1 .w1c 0
abbrev CLP_ERR.CHK : Fld := .one 0x22014 1 1 .w1c 0
abbrev CLP_ERR.XING : Fld := .one 0x22014 0 1 .w1c 0

/-! R336, page LPE. -/
abbrev LPE_CFG.SPOTEN : Fld := .one 0x23040 0 1 .rwl 1
abbrev LPE_SWAP.BANK : Fld := .one 0x23044 31 1 .wo 0
abbrev LPE_SWAP.IMM : Fld := .one 0x23044 30 1 .wo 0
abbrev LPE_SWAP.LEN : Fld := .one 0x23044 16 13 .wo 0
abbrev LPE_SWAP.CH : Fld := .one 0x23044 0 7 .wo 0
abbrev LPE_SWAPPN_LO.PN_LO : Fld := .one 0x23048 0 32 .rw 0
abbrev LPE_SWAPPN_HI.PN_HI : Fld := .one 0x2304C 0 16 .rw 0
abbrev LPE_SWAPRES.RES : Fld := .one 0x23050 0 3 .ro 0
abbrev LPE_SETPCMT.CMT : Fld := .one 0x23054 0 1 .wo 0
abbrev LPE_MOVE.RES : Fld := .one 0x23058 24 2 .ro 0
abbrev LPE_MOVE.ENG : Fld := .one 0x23058 8 7 .wo 0
abbrev LPE_MOVE.CH : Fld := .one 0x23058 0 7 .wo 0
abbrev LPE_SATCH.FCH : Fld := .one 0x2305C 16 7 .ro 0
abbrev LPE_SATCH.WCH : Fld := .one 0x2305C 0 7 .ro 0
abbrev LPE_RETIRE.RET : Fld := .arr 0x23060 4 4 0 32 .rwl 0
abbrev LPE_MAP.ENG3 : Fld := .arr 0x23070 24 4 24 7 .ro 0
abbrev LPE_MAP.ENG2 : Fld := .arr 0x23070 24 4 16 7 .ro 0
abbrev LPE_MAP.ENG1 : Fld := .arr 0x23070 24 4 8 7 .ro 0
abbrev LPE_MAP.ENG0 : Fld := .arr 0x23070 24 4 0 7 .ro 0
abbrev LPE_ARMD.SRC : Fld := .arr 0x230D0 6 4 0 13 .rwl 0
abbrev LPE_ARMK.KL : Fld := .arr 0x230E8 6 4 0 32 .rwl 0
abbrev LPE_FCS.SRC1 : Fld := .arr 0x23100 6 4 16 13 .rwl 0
abbrev LPE_FCS.SRC0 : Fld := .arr 0x23100 6 4 0 13 .rwl 0
abbrev LPE_FCK.KF : Fld := .arr 0x23118 6 4 0 32 .rwl 0
abbrev LPE_GCFG.EN : Fld := .arr 0x23130 16 4 31 1 .rwl 0
abbrev LPE_GCFG.WIN : Fld := .arr 0x23130 16 4 16 7 .ro 0x7f
abbrev LPE_GCFG.RAMP : Fld := .arr 0x23130 16 4 8 1 .ro 0
abbrev LPE_GCFG.NMEM : Fld := .arr 0x23130 16 4 0 4 .ro 0
abbrev LPE_GHYST.HYST : Fld := .arr 0x23170 16 4 0 32 .rwl 0
abbrev LPE_GRATE.GRATE : Fld := .arr 0x231B0 16 4 0 32 .rwl 0x7f800000
abbrev LPE_GOUT.G : Fld := .arr 0x231F0 16 4 0 32 .ro 0
abbrev LPE_SETP.SETP : Fld := .arr 0x23230 64 4 0 32 .rw 0
abbrev LPE_CNT1.NAN : Fld := .one 0x23330 16 16 .rw 0
abbrev LPE_CNT1.SPOTMIS : Fld := .one 0x23330 0 16 .rw 0
abbrev LPE_CNT2.SWAPS : Fld := .one 0x23334 16 16 .rw 0
abbrev LPE_CNT2.RETGT : Fld := .one 0x23334 0 16 .rw 0
abbrev LPE_STAT.OWN : Fld := .one 0x23010 1 1 .ro 0
abbrev LPE_STAT.NOSPARE : Fld := .one 0x23010 0 1 .ro 0
abbrev LPE_ERR.SPLONE : Fld := .one 0x23014 10 1 .w1c 0
abbrev LPE_ERR.ENGRET : Fld := .one 0x23014 9 1 .w1c 0
abbrev LPE_ERR.SPRET : Fld := .one 0x23014 8 1 .w1c 0
abbrev LPE_ERR.SPOT : Fld := .one 0x23014 7 1 .w1c 0
abbrev LPE_ERR.SATF : Fld := .one 0x23014 6 1 .w1c 0
abbrev LPE_ERR.SATW : Fld := .one 0x23014 5 1 .w1c 0
abbrev LPE_ERR.NAN : Fld := .one 0x23014 4 1 .w1c 0
abbrev LPE_ERR.CFG : Fld := .one 0x23014 3 1 .w1c 0
abbrev LPE_ERR.SRC : Fld := .one 0x23014 2 1 .w1c 0
abbrev LPE_ERR.BANKBUSY : Fld := .one 0x23014 1 1 .w1c 0
abbrev LPE_ERR.XING : Fld := .one 0x23014 0 1 .w1c 0

/-! R337, page LPECH. -/
abbrev LPE_CHCFG.EN : Fld := ⟨0x24040, 96, 384, 10, 4096, 31, 1, 0, 1, .rw, 0⟩
abbrev LPE_CHCFG.RANK : Fld := ⟨0x24040, 96, 384, 10, 4096, 28, 2, 0, 1, .rw, 0⟩
abbrev LPE_CHCFG.GRP : Fld := ⟨0x24040, 96, 384, 10, 4096, 24, 4, 0, 1, .rw, 0⟩
abbrev LPE_CHCFG.GEN : Fld := ⟨0x24040, 96, 384, 10, 4096, 23, 1, 0, 1, .rw, 0⟩
abbrev LPE_CHCFG.R1EN : Fld := ⟨0x24040, 96, 384, 10, 4096, 20, 1, 0, 1, .rw, 0⟩
abbrev LPE_CHCFG.R2EN : Fld := ⟨0x24040, 96, 384, 10, 4096, 19, 1, 0, 1, .rw, 0⟩
abbrev LPE_CHCFG.FEN : Fld := ⟨0x24040, 96, 384, 10, 4096, 18, 1, 0, 1, .rw, 0⟩
abbrev LPE_CHSRC1.SRCY : Fld := ⟨0x24044, 96, 384, 10, 4096, 16, 13, 0, 1, .rw, 0⟩
abbrev LPE_CHSRC1.SRCR : Fld := ⟨0x24044, 96, 384, 10, 4096, 0, 13, 0, 1, .rw, 0⟩
abbrev LPE_CHSRC2.SRCV : Fld := ⟨0x24048, 96, 384, 10, 4096, 0, 13, 0, 1, .rw, 0⟩
abbrev LPE_CHINIT.INIT : Fld := ⟨0x2404C, 96, 384, 10, 4096, 0, 32, 0, 1, .rw, 0⟩
abbrev LPE_CHSWARN.DECR : Fld := ⟨0x24050, 96, 384, 10, 4096, 24, 8, 0, 1, .rw, 1⟩
abbrev LPE_CHSWARN.SWARN : Fld := ⟨0x24050, 96, 384, 10, 4096, 0, 24, 0, 1, .rw, 0⟩
abbrev LPE_CHSFLT.SFAULT : Fld := ⟨0x24054, 96, 384, 10, 4096, 0, 24, 0, 1, .rw, 0⟩
abbrev LPE_CHSATCNT.CNT : Fld := ⟨0x24058, 96, 384, 10, 4096, 0, 24, 0, 1, .rw, 0⟩
abbrev LPE_CHSTAT.FPOS : Fld := ⟨0x2405C, 96, 384, 10, 4096, 16, 13, 0, 1, .ro, 0⟩
abbrev LPE_CHSTAT.HELD : Fld := ⟨0x2405C, 96, 384, 10, 4096, 6, 1, 0, 1, .ro, 0⟩
abbrev LPE_CHSTAT.WIN : Fld := ⟨0x2405C, 96, 384, 10, 4096, 5, 1, 0, 1, .ro, 0⟩
abbrev LPE_CHSTAT.XSAT : Fld := ⟨0x2405C, 96, 384, 10, 4096, 4, 1, 0, 1, .ro, 0⟩
abbrev LPE_CHSTAT.SAT : Fld := ⟨0x2405C, 96, 384, 10, 4096, 3, 1, 0, 1, .ro, 0⟩
abbrev LPE_CHSTAT.FADE : Fld := ⟨0x2405C, 96, 384, 10, 4096, 2, 1, 0, 1, .ro, 0⟩
abbrev LPE_CHSTAT.TGT : Fld := ⟨0x2405C, 96, 384, 10, 4096, 1, 1, 0, 1, .ro, 0⟩
abbrev LPE_CHSTAT.ACT : Fld := ⟨0x2405C, 96, 384, 10, 4096, 0, 1, 0, 1, .ro, 0⟩
abbrev LPE_CHOUT.O : Fld := ⟨0x24060, 96, 384, 10, 4096, 0, 32, 0, 1, .ro, 0⟩
abbrev LPE_CHUPRE.UC : Fld := ⟨0x24064, 96, 384, 10, 4096, 0, 32, 0, 1, .ro, 0⟩
abbrev LPE_CHERRV.E : Fld := ⟨0x24068, 96, 384, 10, 4096, 0, 32, 0, 1, .ro, 0⟩
abbrev LPE_CHI_LO.I_LO : Fld := ⟨0x24070, 96, 384, 10, 4096, 0, 32, 0, 1, .ro, 0⟩
abbrev LPE_CHI_HI.I_HI : Fld := ⟨0x24074, 96, 384, 10, 4096, 0, 32, 0, 1, .ro, 0⟩

/-! R364, page MIN. -/
abbrev MIN_CHCFG.EN : Fld := .arr 0x30040 32 4 31 1 .rwl 0
abbrev MIN_CHCFG.CKSRC : Fld := .arr 0x30040 32 4 30 1 .rwl 0
abbrev MIN_CHCFG.CKOEN : Fld := .arr 0x30040 32 4 29 1 .rwl 0
abbrev MIN_CHCFG.FVAL : Fld := .arr 0x30040 32 4 28 1 .rwl 0
abbrev MIN_CHCFG.DIV : Fld := .arr 0x30040 32 4 16 6 .rwl 0x19
abbrev MIN_CHCFG.ORD : Fld := .arr 0x30040 32 4 12 1 .rwl 0
abbrev MIN_CHCFG.K : Fld := .arr 0x30040 32 4 8 4 .rwl 5
abbrev MIN_CHCFG.STUCKN : Fld := .arr 0x30040 32 4 0 8 .rwl 0x40
abbrev MIN_CHDLY.CLIPTH : Fld := .arr 0x300C0 32 4 24 8 .rwl 0xe6
abbrev MIN_CHDLY.RTDSET : Fld := .arr 0x300C0 32 4 12 12 .rwl 0
abbrev MIN_CHDLY.DLY : Fld := .arr 0x300C0 32 4 0 12 .rwl 0
abbrev MIN_CHGAIN.GAIN : Fld := .arr 0x30140 32 4 0 32 .rwl 0x3f800000
abbrev MIN_CHOFS.OFS : Fld := .arr 0x301C0 32 4 0 32 .rwl 0
abbrev MIN_CHRES.V : Fld := .arr 0x30240 32 4 0 32 .ro 0
abbrev MIN_CHSTAT.RTD : Fld := .arr 0x302C0 32 4 16 12 .ro 0
abbrev MIN_CHSTAT.NOCLK : Fld := .arr 0x302C0 32 4 4 1 .ro 0
abbrev MIN_CHSTAT.STUCK : Fld := .arr 0x302C0 32 4 3 1 .ro 0
abbrev MIN_CHSTAT.FLT : Fld := .arr 0x302C0 32 4 2 1 .ro 0
abbrev MIN_CHSTAT.CLIP : Fld := .arr 0x302C0 32 4 1 1 .ro 0
abbrev MIN_CHSTAT.SETTLE : Fld := .arr 0x302C0 32 4 0 1 .ro 0
abbrev MIN_FLT.FLT : Fld := .one 0x30340 0 32 .ro 0
abbrev MIN_SYNC.REQ : Fld := .one 0x30344 31 1 .wo 0
abbrev MIN_SYNC.RES : Fld := .one 0x30344 24 2 .ro 0
abbrev MIN_TRIPCFG.CLASS : Fld := .one 0x30348 0 32 .rwl 0
abbrev MIN_TRIPSTAT.LATCH : Fld := .one 0x3034C 16 16 .ro 0
abbrev MIN_TRIPSTAT.LVL : Fld := .one 0x3034C 0 16 .ro 0
abbrev MIN_TRIPCLR.CLR : Fld := .one 0x30350 0 16 .wo 0
abbrev MIN_CNT.FLTEV : Fld := .one 0x30354 16 16 .rw 0
abbrev MIN_CNT.SYNCS : Fld := .one 0x30354 0 16 .rw 0
abbrev MIN_SYNCPN_LO.PN_LO : Fld := .one 0x30358 0 32 .ro 0
abbrev MIN_SYNCPN_HI.PN_HI : Fld := .one 0x3035C 0 16 .ro 0
abbrev MIN_STAT.SETTLE : Fld := .one 0x30010 1 1 .ro 0
abbrev MIN_STAT.FLT : Fld := .one 0x30010 0 1 .ro 0
abbrev MIN_ERR.LAT : Fld := .one 0x30014 4 1 .w1c 0
abbrev MIN_ERR.CFG : Fld := .one 0x30014 3 1 .w1c 0
abbrev MIN_ERR.STUCK : Fld := .one 0x30014 2 1 .w1c 0
abbrev MIN_ERR.NOCLK : Fld := .one 0x30014 1 1 .w1c 0
abbrev MIN_ERR.XING : Fld := .one 0x30014 0 1 .w1c 0

/-! R397, page REEL. -/
abbrev REEL_CFG.LOOPEN : Fld := .one 0x31040 31 1 .rw 0
abbrev REEL_CFG.ARMEN : Fld := .one 0x31040 30 1 .rw 0
abbrev REEL_CFG.EVEN : Fld := .one 0x31040 29 1 .rw 0
abbrev REEL_CFG.CELLDIV : Fld := .one 0x31040 16 4 .rw 1
abbrev REEL_CFG.INDIV : Fld := .one 0x31040 8 4 .rw 1
abbrev REEL_CELLSEL.STR : Fld := .arr 0x31044 3 4 0 32 .rw 0
abbrev REEL_INSEL.IN : Fld := .one 0x31050 0 32 .rw 0
abbrev REEL_LOOPSEL.CH : Fld := .arr 0x31054 3 4 0 32 .rw 0
abbrev REEL_GRPSEL.GRP : Fld := .one 0x31060 0 16 .rw 0
abbrev REEL_EVSEL.EV : Fld := .arr 0x31064 16 4 0 32 .rw 0
abbrev REEL_RBASE_LO.ADDR_LO : Fld := .one 0x310A4 0 32 .rw 0
abbrev REEL_RBASE_HI.ADDR_HI : Fld := .one 0x310A8 0 32 .rw 0
abbrev REEL_RSIZE.SIZE : Fld := .one 0x310AC 0 32 .rw 0
abbrev REEL_WPTR.WPTR : Fld := .one 0x310B0 0 32 .ro 0
abbrev REEL_RPTR.RPTR : Fld := .one 0x310B4 0 32 .rw 0
abbrev REEL_WBADDR_LO.WB_LO : Fld := .one 0x310B8 0 32 .rw 0
abbrev REEL_WBADDR_HI.WB_HI : Fld := .one 0x310BC 0 32 .rw 0
abbrev REEL_CMD.RES : Fld := .one 0x310C0 24 3 .ro 0
abbrev REEL_CMD.OP : Fld := .one 0x310C0 0 2 .wo 0
abbrev REEL_FBWIN.FBWIN : Fld := .one 0x310C4 0 7 .rw 0
abbrev REEL_FILL.HTH : Fld := .one 0x310C8 24 8 .rw 0xc0
abbrev REEL_FILL.STG : Fld := .one 0x310C8 0 15 .ro 0
abbrev REEL_SEQ.SEQ : Fld := .one 0x310CC 0 32 .ro 0
abbrev REEL_TRIGCFG.EN : Fld := .arr 0x310D0 16 4 31 1 .rw 0
abbrev REEL_TRIGCFG.STOP : Fld := .arr 0x310D0 16 4 30 1 .rw 0
abbrev REEL_TRIGCFG.XTRIG : Fld := .arr 0x310D0 16 4 29 1 .rw 0
abbrev REEL_TRIGCFG.FBEN : Fld := .arr 0x310D0 16 4 28 1 .rw 0
abbrev REEL_TRIGCFG.KIND : Fld := .arr 0x310D0 16 4 25 3 .rw 0
abbrev REEL_TRIGCFG.DIR : Fld := .arr 0x310D0 16 4 23 2 .rw 1
abbrev REEL_TRIGCFG.FBTRIP : Fld := .arr 0x310D0 16 4 16 4 .rw 0
abbrev REEL_TRIGCFG.INDEX : Fld := .arr 0x310D0 16 4 0 9 .rw 0
abbrev REEL_TRIGLVL.LVL : Fld := .arr 0x31110 16 4 0 32 .rw 0
abbrev REEL_TRIGHYS.HYST : Fld := .arr 0x31150 16 4 0 32 .rw 0
abbrev REEL_TRIGSLP.SLOPE : Fld := .arr 0x31190 16 4 0 32 .rw 0
abbrev REEL_TRIGPOST.POST : Fld := .arr 0x311D0 16 4 0 32 .rw 0
abbrev REEL_MCFG.EN : Fld := .arr 0x31210 32 4 31 1 .rw 0
abbrev REEL_MCFG.STOP : Fld := .arr 0x31210 32 4 30 1 .rw 0
abbrev REEL_MCFG.SRC : Fld := .arr 0x31210 32 4 16 13 .rw 0
abbrev REEL_MCFG.DWELL : Fld := .arr 0x31210 32 4 13 3 .rw 1
abbrev REEL_MCFG.CEN : Fld := .arr 0x31210 32 4 0 13 .rw 0
abbrev REEL_MHI.MHI : Fld := .arr 0x31290 32 4 0 32 .rw 0
abbrev REEL_MLO.MLO : Fld := .arr 0x31310 32 4 0 32 .rw 0
abbrev REEL_MPOST.POST : Fld := .arr 0x31390 32 4 0 32 .rw 0
abbrev REEL_CNT1.LOSSP : Fld := .one 0x31410 16 16 .rw 0
abbrev REEL_CNT1.LOSSR : Fld := .one 0x31410 0 16 .rw 0
abbrev REEL_CNT2.MARKS : Fld := .one 0x31414 16 16 .rw 0
abbrev REEL_CNT2.MARKDROP : Fld := .one 0x31414 0 16 .rw 0
abbrev REEL_CNT3.EVDROP : Fld := .one 0x31418 16 16 .rw 0
abbrev REEL_CNT3.FBNONE : Fld := .one 0x31418 0 16 .rw 0
abbrev REEL_CNT4.MVIOL : Fld := .one 0x3141C 0 16 .rw 0
abbrev REEL_STAT.STALL : Fld := .one 0x31010 8 1 .ro 0
abbrev REEL_STAT.CAP : Fld := .one 0x31010 0 3 .ro 0
abbrev REEL_ERR.LINK : Fld := .one 0x31014 4 1 .w1c 0
abbrev REEL_ERR.MSTOP : Fld := .one 0x31014 3 1 .w1c 0
abbrev REEL_ERR.BUSY : Fld := .one 0x31014 2 1 .w1c 0
abbrev REEL_ERR.CFG : Fld := .one 0x31014 1 1 .w1c 0
abbrev REEL_ERR.XING : Fld := .one 0x31014 0 1 .w1c 0
abbrev REEL_EVT.STOP : Fld := .one 0x3101C 3 1 .w1c 0
abbrev REEL_EVT.LOSS : Fld := .one 0x3101C 2 1 .w1c 0
abbrev REEL_EVT.FILL : Fld := .one 0x3101C 1 1 .w1c 0
abbrev REEL_EVT.MARK : Fld := .one 0x3101C 0 1 .w1c 0

/-! R430, page LSE. -/
abbrev LSE_CFG.AUTOCLR : Fld := .one 0x32040 31 1 .rwl 1
abbrev LSE_CFG.CLRDLY : Fld := .one 0x32040 16 8 .rwl 0x10
abbrev LSE_CFG.PREF : Fld := .one 0x32040 8 1 .rwl 0
abbrev LSE_CFG.LLEN : Fld := .one 0x32040 0 4 .rwl 3
abbrev LSE_EPOCH.EPOCH : Fld := .one 0x32044 0 32 .ro 0
abbrev LSE_HOV.REQ : Fld := .one 0x32048 31 1 .wo 0
abbrev LSE_HOV.IMM : Fld := .one 0x32048 30 1 .wo 0
abbrev LSE_HOV.RES : Fld := .one 0x32048 24 3 .ro 0
abbrev LSE_HOVPN_LO.PN_LO : Fld := .one 0x3204C 0 32 .rw 0
abbrev LSE_HOVPN_HI.PN_HI : Fld := .one 0x32050 0 16 .rw 0
abbrev LSE_HOLDPN_LO.PN_LO : Fld := .one 0x32054 0 32 .ro 0
abbrev LSE_HOLDPN_HI.PN_HI : Fld := .one 0x32058 0 16 .ro 0
abbrev LSE_LOST.CAUSE : Fld := .one 0x3205C 0 2 .ro 0
abbrev LSE_MIRSEQ.SEQ : Fld := .one 0x32060 0 32 .ro 0
abbrev LSE_MIRPN_LO.PN_LO : Fld := .one 0x32064 0 32 .ro 0
abbrev LSE_MIRPN_HI.PN_HI : Fld := .one 0x32068 0 16 .ro 0
abbrev LSE_CNT1.CLAIMS : Fld := .one 0x3206C 16 16 .rw 0
abbrev LSE_CNT1.YIELDS : Fld := .one 0x3206C 0 16 .rw 0
abbrev LSE_CNT2.HOV : Fld := .one 0x32070 16 16 .rw 0
abbrev LSE_CNT2.DIGMIS : Fld := .one 0x32070 0 16 .rw 0
abbrev LSE_CNT3.NOMIR : Fld := .one 0x32074 16 16 .rw 0
abbrev LSE_CNT3.ACLR : Fld := .one 0x32074 0 16 .rw 0
abbrev LSE_ARM.START : Fld := .one 0x32078 0 1 .rw 0
abbrev LSE_STAT.DSYNC : Fld := .one 0x32010 16 6 .ro 0
abbrev LSE_STAT.READY : Fld := .one 0x32010 8 1 .ro 0
abbrev LSE_STAT.PACT : Fld := .one 0x32010 5 1 .ro 0
abbrev LSE_STAT.UNIT : Fld := .one 0x32010 4 1 .ro 0
abbrev LSE_STAT.STATE : Fld := .one 0x32010 0 2 .ro 0
abbrev LSE_ERR.HOVREF : Fld := .one 0x32014 6 1 .w1c 0
abbrev LSE_ERR.NOMIR : Fld := .one 0x32014 5 1 .w1c 0
abbrev LSE_ERR.CLAIMAB : Fld := .one 0x32014 4 1 .w1c 0
abbrev LSE_ERR.YIELD : Fld := .one 0x32014 3 1 .w1c 0
abbrev LSE_ERR.DIGEST : Fld := .one 0x32014 2 1 .w1c 0
abbrev LSE_ERR.CFG : Fld := .one 0x32014 1 1 .w1c 0
abbrev LSE_ERR.XING : Fld := .one 0x32014 0 1 .w1c 0

/-! R431, page SPL. -/
abbrev SPL_LANEMAP.AUTOSP : Fld := .one 0x33040 31 1 .rwl 1
abbrev SPL_LANEMAP.LOG1 : Fld := .one 0x33040 4 2 .ro 1
abbrev SPL_LANEMAP.LOG0 : Fld := .one 0x33040 0 2 .ro 0
abbrev SPL_LSTAT.RET : Fld := ⟨0x33044, 1, 4, 1, 0, 2, 1, 8, 4, .ro, 0⟩
abbrev SPL_LSTAT.USE : Fld := ⟨0x33044, 1, 4, 1, 0, 1, 1, 8, 4, .ro, 0⟩
abbrev SPL_LSTAT.LOCK : Fld := ⟨0x33044, 1, 4, 1, 0, 0, 1, 8, 4, .ro, 0⟩
abbrev SPL_BERTH.BERTH : Fld := .one 0x33048 0 16 .rwl 0x10
abbrev SPL_LAT.LAT : Fld := .one 0x3304C 0 16 .ro 0
abbrev SPL_RELAY.RMAX : Fld := .one 0x33050 16 4 .ro 8
abbrev SPL_RELAY.RNUM : Fld := .one 0x33050 0 7 .ro 0
abbrev SPL_RMASK.STR : Fld := .arr 0x33054 3 4 0 32 .ro 0
abbrev SPL_CNT1.BLKERR : Fld := .one 0x33060 16 16 .rw 0
abbrev SPL_CNT1.LANESW : Fld := .one 0x33060 0 16 .rw 0
abbrev SPL_CNT2.DOWN : Fld := .one 0x33064 16 16 .rw 0
abbrev SPL_CNT2.MSGCRC : Fld := .one 0x33064 0 16 .rw 0
abbrev SPL_STAT.LANES : Fld := .one 0x33010 1 2 .ro 0
abbrev SPL_STAT.UP : Fld := .one 0x33010 0 1 .ro 0
abbrev SPL_ERR.CFGD : Fld := .one 0x33014 5 1 .w1c 0
abbrev SPL_ERR.LAT : Fld := .one 0x33014 4 1 .w1c 0
abbrev SPL_ERR.RCAP : Fld := .one 0x33014 3 1 .w1c 0
abbrev SPL_ERR.LANE : Fld := .one 0x33014 2 1 .w1c 0
abbrev SPL_ERR.DOWN : Fld := .one 0x33014 1 1 .w1c 0
abbrev SPL_ERR.XING : Fld := .one 0x33014 0 1 .w1c 0

/-! R457, page HBX. -/
abbrev HBX_CFG.MODE : Fld := .one 0x20040 24 2 .rw 1
abbrev HBX_CFG.NREP : Fld := .one 0x20040 16 5 .rwl 0x10
abbrev HBX_CFG.TMODEF : Fld := .one 0x20040 0 16 .rw 0x7d0
abbrev HBX_FLUSH.BCAST : Fld := .one 0x20044 31 1 .wo 0
abbrev HBX_FLUSH.STRAND : Fld := .one 0x20044 0 7 .wo 0
abbrev HBX_BEXCL.STR : Fld := .arr 0x20048 3 4 0 32 .rw 0
abbrev HBX_QSTAT.DL : Fld := .one 0x20054 16 13 .ro 0
abbrev HBX_QSTAT.BQ : Fld := .one 0x20054 0 9 .ro 0
abbrev HBX_QD.ODD : Fld := .arr 0x20058 48 4 16 9 .ro 0
abbrev HBX_QD.EVEN : Fld := .arr 0x20058 48 4 0 9 .ro 0
abbrev HBX_CNT1.REFUSE : Fld := .one 0x20118 16 16 .rw 0
abbrev HBX_CNT1.RESEND : Fld := .one 0x20118 0 16 .rw 0
abbrev HBX_CNT2.NOREPLY : Fld := .one 0x2011C 16 16 .rw 0
abbrev HBX_CNT2.TIMEOUT : Fld := .one 0x2011C 0 16 .rw 0
abbrev HBX_CNT3.LATEREP : Fld := .one 0x20120 16 16 .rw 0
abbrev HBX_CNT3.CANCEL : Fld := .one 0x20120 0 16 .rw 0
abbrev HBX_STAT.MODE : Fld := .one 0x20010 0 2 .ro 1
abbrev HBX_ERR.RANGE : Fld := .one 0x20014 2 1 .w1c 0
abbrev HBX_ERR.REFUSE : Fld := .one 0x20014 1 1 .w1c 0
abbrev HBX_ERR.XING : Fld := .one 0x20014 0 1 .w1c 0
abbrev HBX_EVT.REF : Fld := .one 0x2001C 8 6 .w1c 0
abbrev HBX_EVT.CPL : Fld := .one 0x2001C 0 6 .w1c 0

/-! R494, page PCIE. -/
abbrev PCIE_LINK.WIDTH : Fld := .one 0x10040 16 4 .ro 0
abbrev PCIE_LINK.SPEED : Fld := .one 0x10040 8 3 .ro 0
abbrev PCIE_LINK.BME0 : Fld := .one 0x10040 1 1 .ro 0
abbrev PCIE_LINK.UP : Fld := .one 0x10040 0 1 .ro 0
abbrev PCIE_ACC.PF0RO : Fld := .one 0x10044 0 1 .rwl 0
abbrev PCIE_REAMCUR.BUF : Fld := .one 0x10048 31 1 .ro 0
abbrev PCIE_REAMCUR.GEN : Fld := .one 0x10048 0 31 .ro 0
abbrev PCIE_REAMPIN.PBUF : Fld := .one 0x1004C 9 1 .ro 0
abbrev PCIE_REAMPIN.PINNED : Fld := .one 0x1004C 8 1 .ro 0
abbrev PCIE_REAMPIN.PIN1 : Fld := .one 0x1004C 1 1 .rw 0
abbrev PCIE_REAMPIN.PIN0 : Fld := .one 0x1004C 0 1 .rw 0
abbrev PCIE_REAMPGEN.PGEN : Fld := .one 0x10050 0 31 .ro 0
abbrev PCIE_SESSCMD.RES : Fld := .one 0x10054 24 3 .ro 0
abbrev PCIE_SESSCMD.KEYSEL : Fld := .one 0x10054 4 2 .wo 0
abbrev PCIE_SESSCMD.OP : Fld := .one 0x10054 0 3 .wo 0
abbrev PCIE_SESSSTAT.LOCKREM : Fld := .one 0x10058 16 16 .ro 0
abbrev PCIE_SESSSTAT.FAILS : Fld := .one 0x10058 8 2 .ro 0
abbrev PCIE_SESSSTAT.STATE : Fld := .one 0x10058 0 2 .ro 0
abbrev PCIE_SESSCFG.LOCKSEC : Fld := .one 0x1005C 16 8 .rwl 0x3c
abbrev PCIE_SESSCFG.IDLE : Fld := .one 0x1005C 0 16 .rwl 0x384
abbrev PCIE_SCHAL.CHAL : Fld := .arr 0x10060 8 4 0 32 .ro 0
abbrev PCIE_SRESP.RESP : Fld := .arr 0x10080 24 4 0 32 .wo 0
abbrev PCIE_VACK_LO.VLO : Fld := .one 0x100E0 0 32 .wo 0
abbrev PCIE_VACK_HI.VHI : Fld := .one 0x100E4 0 32 .wo 0
abbrev PCIE_CNT1.DENY : Fld := .one 0x100E8 16 16 .rw 0
abbrev PCIE_CNT1.HALF : Fld := .one 0x100E8 0 16 .rw 0
abbrev PCIE_CNT2.SESSFAIL : Fld := .one 0x100EC 16 16 .rw 0
abbrev PCIE_CNT2.LINKDN : Fld := .one 0x100EC 0 16 .rw 0
abbrev PCIE_IMAP.EN1 : Fld := .arr 0x10400 256 4 31 1 .rw 0
abbrev PCIE_IMAP.FN1 : Fld := .arr 0x10400 256 4 30 1 .rw 0
abbrev PCIE_IMAP.VEC1 : Fld := .arr 0x10400 256 4 16 6 .rw 0
abbrev PCIE_IMAP.EN0 : Fld := .arr 0x10400 256 4 15 1 .rw 0
abbrev PCIE_IMAP.FN0 : Fld := .arr 0x10400 256 4 14 1 .rw 0
abbrev PCIE_IMAP.VEC0 : Fld := .arr 0x10400 256 4 0 6 .rw 0
abbrev PCIE_STAT.LINKUP : Fld := .one 0x10010 1 1 .ro 0
abbrev PCIE_STAT.SESS : Fld := .one 0x10010 0 1 .ro 0
abbrev PCIE_ERR.SESSFAIL : Fld := .one 0x10014 5 1 .w1c 0
abbrev PCIE_ERR.LINKDN : Fld := .one 0x10014 4 1 .w1c 0
abbrev PCIE_ERR.HALF : Fld := .one 0x10014 3 1 .w1c 0
abbrev PCIE_ERR.DENY : Fld := .one 0x10014 2 1 .w1c 0
abbrev PCIE_ERR.RANGE : Fld := .one 0x10014 1 1 .w1c 0
abbrev PCIE_ERR.XING : Fld := .one 0x10014 0 1 .w1c 0
abbrev PCIE_EVT.SESSEND : Fld := .one 0x1001C 3 1 .w1c 0
abbrev PCIE_EVT.SESSOPEN : Fld := .one 0x1001C 2 1 .w1c 0
abbrev PCIE_EVT.LINKUP : Fld := .one 0x1001C 1 1 .w1c 0
abbrev PCIE_EVT.LINKDN : Fld := .one 0x1001C 0 1 .w1c 0

/-! R495, page MBX. -/
abbrev MBX_FEPOCH.EPOCH : Fld := .one 0x11040 0 32 .ro 1
abbrev MBX_HEPINC.INC : Fld := .one 0x1104C 0 1 .wo 0
abbrev MBX_RES.RES : Fld := .one 0x11050 0 2 .ro 0
abbrev MBX_H2FFULL.FULL : Fld := .one 0x11054 0 32 .ro 0
abbrev MBX_F2HFULL.FULL : Fld := .one 0x11058 0 32 .ro 0
abbrev MBX_H2FSTALE.STALE : Fld := .one 0x1105C 0 32 .ro 0
abbrev MBX_F2HSTALE.STALE : Fld := .one 0x11060 0 32 .ro 0
abbrev MBX_AGE.AGEMAX : Fld := .one 0x11064 0 16 .rwl 0
abbrev MBX_CNT.AGE : Fld := .one 0x11068 0 16 .rw 0
abbrev MBX_ERR.RANGE : Fld := .one 0x11014 2 1 .w1c 0
abbrev MBX_ERR.BUSY : Fld := .one 0x11014 1 1 .w1c 0
abbrev MBX_ERR.XING : Fld := .one 0x11014 0 1 .w1c 0
abbrev MBX_EVT.AGE : Fld := .one 0x1101C 12 1 .w1c 0
abbrev MBX_EVT.HREAD : Fld := ⟨0x1101C, 1, 4, 1, 0, 5, 1, 6, 2, .w1c, 0⟩
abbrev MBX_EVT.FPOST : Fld := ⟨0x1101C, 1, 4, 1, 0, 4, 1, 6, 2, .w1c, 0⟩
abbrev MBX_EVT.FDB : Fld := ⟨0x1101C, 1, 4, 1, 0, 3, 1, 6, 2, .w1c, 0⟩
abbrev MBX_EVT.FREAD : Fld := ⟨0x1101C, 1, 4, 1, 0, 2, 1, 6, 2, .w1c, 0⟩
abbrev MBX_EVT.HPOST : Fld := ⟨0x1101C, 1, 4, 1, 0, 1, 1, 6, 2, .w1c, 0⟩
abbrev MBX_EVT.HDB : Fld := ⟨0x1101C, 1, 4, 1, 0, 0, 1, 6, 2, .w1c, 0⟩

/-! R525, page NET. -/
abbrev NET_PCFG.EN : Fld := .arr 0x14040 2 4 31 1 .rwl 0
abbrev NET_PCFG.MODE : Fld := .arr 0x14040 2 4 24 2 .rwl 2
abbrev NET_PCFG.VLANEN : Fld := .arr 0x14040 2 4 15 1 .rwl 0
abbrev NET_PCFG.PCP : Fld := .arr 0x14040 2 4 12 3 .rwl 4
abbrev NET_PCFG.VID : Fld := .arr 0x14040 2 4 0 12 .rwl 0
abbrev NET_MAC_LO.MAC_LO : Fld := .one 0x14048 0 32 .rwl 0
abbrev NET_MAC_HI.MAC_HI : Fld := .one 0x1404C 0 16 .rwl 0
abbrev NET_CNT.FCS : Fld := .arr 0x14050 2 4 16 16 .rw 0
abbrev NET_CNT.DROP : Fld := .arr 0x14050 2 4 0 16 .rw 0
abbrev NET_CNT2.SVDUP : Fld := .one 0x14058 16 16 .rw 0
abbrev NET_CNT2.SVLATE : Fld := .one 0x14058 0 16 .rw 0
abbrev NET_CNT3.GDUP : Fld := .one 0x1405C 16 16 .rw 0
abbrev NET_RXBASE.BASE : Fld := .one 0x14060 0 32 .rwl 0
abbrev NET_RXWP.WP : Fld := .one 0x14064 0 8 .ro 0
abbrev NET_RXRP.RP : Fld := .one 0x14068 0 8 .rw 0
abbrev NET_SVCFG.EN : Fld := .arr 0x14080 16 4 31 1 .rwl 0
abbrev NET_SVCFG.PORTS : Fld := .arr 0x14080 16 4 29 2 .rwl 3
abbrev NET_SVCFG.SYNCMIN : Fld := .arr 0x14080 16 4 27 2 .rwl 2
abbrev NET_SVCFG.TEST : Fld := .arr 0x14080 16 4 26 1 .rwl 0
abbrev NET_SVCFG.APPID : Fld := .arr 0x14080 16 4 0 16 .rwl 0x4000
abbrev NET_SVRATE.MACL : Fld := .arr 0x140C0 16 4 16 16 .rwl 0
abbrev NET_SVRATE.RATE : Fld := .arr 0x140C0 16 4 0 16 .rwl 0x12c0
abbrev NET_SVAGE.MAXAGE : Fld := .arr 0x14100 16 4 0 16 .rwl 0x7d0
abbrev NET_SVOFS.SVOFS : Fld := .arr 0x14140 16 4 0 32 .rwl 0
abbrev NET_SVSTAT.FLT : Fld := .arr 0x14180 16 4 31 1 .ro 0
abbrev NET_SVSTAT.SMPCNT : Fld := .arr 0x14180 16 4 0 16 .ro 0
abbrev NET_SVSC.SC : Fld := .arr 0x14200 128 4 0 32 .rwl 0x3f800000
abbrev NET_GSCFG.EN : Fld := .arr 0x14400 32 4 31 1 .rwl 0
abbrev NET_GSCFG.PORTS : Fld := .arr 0x14400 32 4 29 2 .rwl 3
abbrev NET_GSCFG.FTRIP : Fld := .arr 0x14400 32 4 28 1 .rwl 0
abbrev NET_GSCFG.FDEF : Fld := .arr 0x14400 32 4 27 1 .rwl 0
abbrev NET_GSCFG.FPOS : Fld := .arr 0x14400 32 4 16 8 .rwl 0xff
abbrev NET_GSCFG.APPID : Fld := .arr 0x14400 32 4 0 16 .rwl 0
abbrev NET_GSMAC.MACL : Fld := .arr 0x14480 32 4 0 16 .rwl 0
abbrev NET_GSSTAT.TALX : Fld := .arr 0x14500 32 4 31 1 .ro 0
abbrev NET_GSSTAT.FAST : Fld := .arr 0x14500 32 4 30 1 .ro 0
abbrev NET_GSSTAT.VALID : Fld := .arr 0x14500 32 4 29 1 .ro 0
abbrev NET_GSSTN.STNUM : Fld := .arr 0x14580 32 4 0 32 .ro 0
abbrev NET_GSBASE.BASE : Fld := .one 0x14600 0 32 .rwl 0
abbrev NET_GFAST.FAST : Fld := .one 0x14604 0 32 .ro 0
abbrev NET_GPCFG.EN : Fld := .arr 0x14610 8 4 31 1 .rwl 0
abbrev NET_GPCFG.STBY : Fld := .arr 0x14610 8 4 30 1 .rwl 0
abbrev NET_GPCFG.PORTS : Fld := .arr 0x14610 8 4 28 2 .rwl 3
abbrev NET_GPCFG.T1 : Fld := .arr 0x14610 8 4 16 12 .rwl 2
abbrev NET_GPCFG.T0 : Fld := .arr 0x14610 8 4 0 16 .rwl 0x3e8
abbrev NET_GPOFS.STOFS : Fld := .arr 0x14630 8 4 16 11 .rwl 0
abbrev NET_GPOFS.SQOFS : Fld := .arr 0x14630 8 4 0 11 .rwl 0
abbrev NET_GPTOFS.TOFS : Fld := .arr 0x146E0 8 4 0 11 .rwl 0
abbrev NET_GPBUF.BUF : Fld := .arr 0x14650 8 4 0 32 .rwl 0
abbrev NET_GPLEN.LEN : Fld := .arr 0x14670 8 4 0 11 .rwl 0
abbrev NET_GPSTN.STNUM : Fld := .arr 0x14690 8 4 0 32 .ro 0
abbrev NET_GPSEND.PUB : Fld := .one 0x146B0 0 3 .wo 0
abbrev NET_TXD0.ADDR : Fld := .one 0x146C0 0 32 .rw 0
abbrev NET_TXD1.PORT : Fld := .one 0x146C4 16 1 .rw 0
abbrev NET_TXD1.LEN : Fld := .one 0x146C4 0 11 .rw 0
abbrev NET_TXD2.AT_LO : Fld := .one 0x146C8 0 32 .rw 0
abbrev NET_TXD3.AT_HI : Fld := .one 0x146CC 0 32 .rw 0
abbrev NET_TXRES.CODE : Fld := .one 0x146D0 24 8 .ro 0
abbrev NET_TXRES.ID : Fld := .one 0x146D0 0 16 .ro 0
abbrev NET_TXCPL0.VALID : Fld := .one 0x146D4 31 1 .ro 0
abbrev NET_TXCPL0.STATUS : Fld := .one 0x146D4 24 2 .ro 0
abbrev NET_TXCPL0.ID : Fld := .one 0x146D4 0 16 .ro 0
abbrev NET_TXCPL1.TS_LO : Fld := .one 0x146D8 0 32 .ro 0
abbrev NET_TXCPL2.TS_HI : Fld := .one 0x146DC 0 32 .ro 0
abbrev NET_STAT.LINK : Fld := .one 0x14010 0 2 .ro 0
abbrev NET_ERR.GTRIP : Fld := .one 0x14014 5 1 .w1c 0
abbrev NET_ERR.GTAL : Fld := .one 0x14014 4 1 .w1c 0
abbrev NET_ERR.SVFLT : Fld := .one 0x14014 3 1 .w1c 0
abbrev NET_ERR.LINKDN : Fld := .one 0x14014 2 1 .w1c 0
abbrev NET_ERR.RANGE : Fld := .one 0x14014 1 1 .w1c 0
abbrev NET_ERR.XING : Fld := .one 0x14014 0 1 .w1c 0
abbrev NET_EVT.FAST : Fld := .one 0x1401C 5 1 .w1c 0
abbrev NET_EVT.GNEW : Fld := .one 0x1401C 4 1 .w1c 0
abbrev NET_EVT.SVFLT : Fld := .one 0x1401C 3 1 .w1c 0
abbrev NET_EVT.RX : Fld := .one 0x1401C 2 1 .w1c 0
abbrev NET_EVT.TXCPL : Fld := .one 0x1401C 1 1 .w1c 0
abbrev NET_EVT.LINK : Fld := .one 0x1401C 0 1 .w1c 0

/-! R526, page PTP. -/
abbrev PTP_CFG.EN : Fld := .one 0x15040 31 1 .rwl 0
abbrev PTP_CFG.DOMAIN : Fld := .one 0x15040 16 8 .rwl 0
abbrev PTP_CFG.PORTS : Fld := .one 0x15040 8 2 .rwl 3
abbrev PTP_INTV.SYNCTMO : Fld := .one 0x15044 0 8 .rwl 3
abbrev PTP_ASYM.ASYM : Fld := .arr 0x15048 2 4 0 32 .rwl 0
abbrev PTP_LAT.INLAT : Fld := .arr 0x15050 2 4 16 16 .rwl 0
abbrev PTP_LAT.EGLAT : Fld := .arr 0x15050 2 4 0 16 .rwl 0
abbrev PTP_MPD.MPD : Fld := .arr 0x15058 2 4 0 32 .ro 0
abbrev PTP_PSTATE.P1 : Fld := .one 0x15060 8 3 .ro 0
abbrev PTP_PSTATE.P0 : Fld := .one 0x15060 0 3 .ro 0
abbrev PTP_GMID_LO.ID_LO : Fld := .one 0x15064 0 32 .ro 0
abbrev PTP_GMID_HI.ID_HI : Fld := .one 0x15068 0 32 .ro 0
abbrev PTP_CNT1.SYNCRX : Fld := .one 0x1506C 16 16 .rw 0
abbrev PTP_CNT1.OUTL : Fld := .one 0x1506C 0 16 .rw 0
abbrev PTP_CNT2.PDTX : Fld := .one 0x15070 16 16 .rw 0
abbrev PTP_CNT2.PDFAIL : Fld := .one 0x15070 0 16 .rw 0
abbrev PTP_PPSOUT.EN : Fld := .one 0x15080 31 1 .rwl 0
abbrev PTP_PPSOUT.WIDTH : Fld := .one 0x15080 0 16 .rwl 0x2710
abbrev PTP_PPSIN.EN : Fld := .one 0x15084 31 1 .rwl 0
abbrev PTP_PPSIN.TH : Fld := .one 0x15084 0 16 .rwl 0x3e8
abbrev PTP_PPSIN_LO.NS_LO : Fld := .one 0x15088 0 32 .ro 0
abbrev PTP_PPSIN_HI.NS_HI : Fld := .one 0x1508C 0 32 .ro 0
abbrev PTP_PPSDIF.DIF : Fld := .one 0x15090 0 32 .ro 0
abbrev PTP_STAT.SLAVE : Fld := .one 0x15010 1 1 .ro 0
abbrev PTP_STAT.LOCK : Fld := .one 0x15010 0 1 .ro 0
abbrev PTP_ERR.PPS : Fld := .one 0x15014 3 1 .w1c 0
abbrev PTP_ERR.GMCHG : Fld := .one 0x15014 2 1 .w1c 0
abbrev PTP_ERR.NOSYNC : Fld := .one 0x15014 1 1 .w1c 0
abbrev PTP_ERR.XING : Fld := .one 0x15014 0 1 .w1c 0

/-! R557, page FLT. -/
abbrev FLT_LATCH_LO.LATCH : Fld := .one 0x3040 0 32 .w1c 0
abbrev FLT_LATCH_HI.LATCH : Fld := .one 0x3044 0 32 .w1c 0
abbrev FLT_FSRC_LO.FSRC : Fld := .one 0x3048 0 32 .ro 0
abbrev FLT_FSRC_HI.FSRC : Fld := .one 0x304C 0 32 .ro 0
abbrev FLT_CONSQ_LO.CONSQ : Fld := .one 0x3050 0 32 .w1c 0
abbrev FLT_CONSQ_HI.CONSQ : Fld := .one 0x3054 0 32 .w1c 0
abbrev FLT_FIRST_LO.NS : Fld := .one 0x3058 0 32 .ro 0
abbrev FLT_FIRST_HI.NS : Fld := .one 0x305C 0 32 .ro 0
abbrev FLT_FCYC.FCYC : Fld := .one 0x3060 0 32 .ro 0
abbrev FLT_CYC.CYC : Fld := .one 0x3064 0 32 .ro 0
abbrev FLT_LCLS.CLS : Fld := ⟨0x3068, 4, 4, 4, 0, 0, 2, 2, 16, .ro, 0⟩
abbrev FLT_GSTAT_LO.RUN : Fld := .one 0x3078 0 32 .ro 0
abbrev FLT_GSTAT_HI.RUN : Fld := .one 0x307C 0 32 .ro 0
abbrev FLT_ESCLAST.ACT : Fld := .one 0x3080 8 2 .ro 0
abbrev FLT_ESCLAST.SRC : Fld := .one 0x3080 0 6 .ro 0
abbrev FLT_CNT.CONSQ : Fld := .one 0x3084 16 16 .rw 0
abbrev FLT_CNT.ESC : Fld := .one 0x3084 0 16 .rw 0
abbrev FLT_WDOG.TMO : Fld := .arr 0x3088 4 4 16 16 .rwl 0
abbrev FLT_WDOG.KICK : Fld := .arr 0x3088 4 4 0 16 .wo 0
abbrev FLT_SCFG.ESC : Fld := .arr 0x3100 64 4 20 2 .rwl 0
abbrev FLT_SCFG.GRACE : Fld := .arr 0x3100 64 4 0 17 .rwl 0
abbrev FLT_DCLS.CLS : Fld := .arr 0x3200 64 4 0 32 .rwl 0
abbrev FLT_STAT.FENCED : Fld := .one 0x3010 2 1 .ro 0
abbrev FLT_STAT.ALIVE : Fld := .one 0x3010 1 1 .ro 0
abbrev FLT_STAT.FAULT : Fld := .one 0x3010 0 1 .ro 0
abbrev FLT_ERR.RANGE : Fld := .one 0x3014 2 1 .w1c 0
abbrev FLT_ERR.CLRREF : Fld := .one 0x3014 1 1 .w1c 0
abbrev FLT_ERR.XING : Fld := .one 0x3014 0 1 .w1c 0
abbrev FLT_EVT.PHEALTH : Fld := .one 0x301C 3 1 .w1c 0
abbrev FLT_EVT.HEALTH : Fld := .one 0x301C 2 1 .w1c 0
abbrev FLT_EVT.ESC : Fld := .one 0x301C 1 1 .w1c 0
abbrev FLT_EVT.LATCH : Fld := .one 0x301C 0 1 .w1c 0

/-! R558, page MEM. -/
abbrev MEM_SCRUB.EN : Fld := .one 0x7040 31 1 .rwl 1
abbrev MEM_SCRUB.PERIOD : Fld := .one 0x7040 0 8 .rwl 0xa
abbrev MEM_ROWTH.AGE : Fld := .one 0x7044 8 16 .rwl 0x18
abbrev MEM_ROWTH.ROWTH : Fld := .one 0x7044 0 4 .rwl 3
abbrev MEM_CNT.CE : Fld := .one 0x7048 16 16 .rw 0
abbrev MEM_CNT.UE : Fld := .one 0x7048 0 16 .rw 0
abbrev MEM_CEADDR.ADDR : Fld := .one 0x704C 0 26 .ro 0
abbrev MEM_UEADDR.ADDR : Fld := .one 0x7050 0 26 .ro 0
abbrev MEM_SPARE.RETIRED : Fld := .one 0x7054 16 11 .ro 0
abbrev MEM_SPARE.LEFT : Fld := .one 0x7054 0 11 .ro 0
abbrev MEM_RETREQ.RES : Fld := .one 0x7058 24 2 .ro 0
abbrev MEM_RETREQ.ROW : Fld := .one 0x7058 0 16 .wo 0
abbrev MEM_LASTRET.ROW : Fld := .one 0x705C 0 16 .ro 0
abbrev MEM_STAT.SCRUBBING : Fld := .one 0x7010 0 1 .ro 0
abbrev MEM_ERR.SCRUB : Fld := .one 0x7014 5 1 .w1c 0
abbrev MEM_ERR.NOSPARE : Fld := .one 0x7014 4 1 .w1c 0
abbrev MEM_ERR.RETIRE : Fld := .one 0x7014 3 1 .w1c 0
abbrev MEM_ERR.UE : Fld := .one 0x7014 2 1 .w1c 0
abbrev MEM_ERR.CE : Fld := .one 0x7014 1 1 .w1c 0
abbrev MEM_ERR.XING : Fld := .one 0x7014 0 1 .w1c 0

/-! R593, page GEN. -/
abbrev GEN_SERIAL_LO.SER : Fld := .one 0x40 0 32 .ro 0
abbrev GEN_SERIAL_HI.SER : Fld := .one 0x44 0 32 .ro 0
abbrev GEN_RSTCAUSE.KIND : Fld := .one 0x48 0 3 .ro 0
abbrev GEN_RST.KEY : Fld := .one 0x4C 0 32 .wo 0
abbrev GEN_PRST.RES : Fld := .one 0x50 24 2 .ro 0
abbrev GEN_PRST.KEY : Fld := .one 0x50 0 16 .wo 0
abbrev GEN_CFG.PFEN : Fld := .one 0x54 31 1 .rwl 0
abbrev GEN_CFG.BOOTTMO : Fld := .one 0x54 0 16 .rwl 0x3c
abbrev GEN_BOOT.CONFIRM : Fld := .one 0x58 31 1 .wo 0
abbrev GEN_BOOT.TRIAL : Fld := .one 0x58 2 1 .ro 1
abbrev GEN_BOOT.FB : Fld := .one 0x58 1 1 .ro 0
abbrev GEN_BOOT.SLOT : Fld := .one 0x58 0 1 .ro 0
abbrev GEN_IMGVER.VERSION : Fld := .one 0x5C 0 32 .ro 0
abbrev GEN_CFGD.CFGD : Fld := .arr 0x60 12 4 0 32 .ro 0
abbrev GEN_RSTLATCH_LO.LATCH : Fld := .one 0x90 0 32 .ro 0
abbrev GEN_RSTLATCH_HI.LATCH : Fld := .one 0x94 0 32 .ro 0
abbrev GEN_CERTLEN.LEN : Fld := .one 0x98 0 11 .ro 0
abbrev GEN_CERT.CERT : Fld := .arr 0x400 256 4 0 32 .ro 0
abbrev GEN_STAT.CONFIRMED : Fld := .one 0x10 0 1 .ro 0
abbrev GEN_ERR.RANGE : Fld := .one 0x14 2 1 .w1c 0
abbrev GEN_ERR.BOOTFB : Fld := .one 0x14 1 1 .w1c 0
abbrev GEN_ERR.XING : Fld := .one 0x14 0 1 .w1c 0

/-! R594, page PWR. -/
abbrev PWR_REQ.RES : Fld := .one 0x2040 24 3 .ro 0
abbrev PWR_REQ.STATE : Fld := .one 0x2040 0 2 .wo 0
abbrev PWR_COND.NOFENCE : Fld := .one 0x2044 4 1 .ro 1
abbrev PWR_COND.BUDGET : Fld := .one 0x2044 3 1 .ro 0
abbrev PWR_COND.CFGD : Fld := .one 0x2044 2 1 .ro 0
abbrev PWR_COND.TIME : Fld := .one 0x2044 1 1 .ro 0
abbrev PWR_COND.LOADED : Fld := .one 0x2044 0 1 .ro 0
abbrev PWR_QTRIP.CHG : Fld := .one 0x2048 16 16 .w1c 0
abbrev PWR_QTRIP.LVL : Fld := .one 0x2048 0 16 .ro 0
abbrev PWR_QTRIPT_LO.NS_LO : Fld := .one 0x204C 0 32 .ro 0
abbrev PWR_QTRIPT_HI.NS_HI : Fld := .one 0x2050 0 32 .ro 0
abbrev PWR_STAT.STATE : Fld := .one 0x2010 0 2 .ro 1
abbrev PWR_ERR.QTRIP : Fld := .one 0x2014 2 1 .w1c 0
abbrev PWR_ERR.REQREF : Fld := .one 0x2014 1 1 .w1c 0
abbrev PWR_ERR.XING : Fld := .one 0x2014 0 1 .w1c 0

/-! R595, page SEC. -/
abbrev SEC_OTPSTAT.CLOSED : Fld := .one 0x5040 1 1 .ro 0
abbrev SEC_OTPSTAT.IKEY : Fld := .one 0x5040 0 1 .ro 0
abbrev SEC_MINVER.MINVER : Fld := .one 0x5044 0 32 .ro 0
abbrev SEC_IKH.IKH : Fld := .arr 0x5048 12 4 0 32 .ro 0
abbrev SEC_VCMD.RES : Fld := .one 0x5078 24 3 .ro 0
abbrev SEC_VCMD.KSRC : Fld := .one 0x5078 4 1 .wo 0
abbrev SEC_VCMD.OP : Fld := .one 0x5078 0 3 .wo 0
abbrev SEC_VMSG.VMSG : Fld := .one 0x507C 0 32 .rw 0
abbrev SEC_VLEN.VLEN : Fld := .one 0x5080 0 16 .rw 0
abbrev SEC_VKEY.VKEY : Fld := .one 0x5084 0 32 .rw 0
abbrev SEC_VSIG.VSIG : Fld := .one 0x5088 0 32 .rw 0
abbrev SEC_ERR.RANGE : Fld := .one 0x5014 2 1 .w1c 0
abbrev SEC_ERR.VFAIL : Fld := .one 0x5014 1 1 .w1c 0
abbrev SEC_ERR.XING : Fld := .one 0x5014 0 1 .w1c 0

/-! R596, page FLS. -/
abbrev FLS_SLOTST0.VALID : Fld := .one 0x6040 31 1 .ro 0
abbrev FLS_SLOTST1.VALID : Fld := .one 0x6044 31 1 .ro 0
abbrev FLS_SLOTST0.FAIL : Fld := .one 0x6040 25 6 .ro 0
abbrev FLS_SLOTST1.FAIL : Fld := .one 0x6044 25 6 .ro 0
abbrev FLS_VER0.VERSION : Fld := .one 0x6048 0 32 .ro 0
abbrev FLS_VER1.VERSION : Fld := .one 0x604C 0 32 .ro 0
abbrev FLS_CMD.RES : Fld := .one 0x6050 24 3 .ro 0
abbrev FLS_CMD.OP : Fld := .one 0x6050 0 3 .wo 0
abbrev FLS_ADDR.ADDR : Fld := .one 0x6054 0 32 .rw 0
abbrev FLS_SRAM.SRAM : Fld := .one 0x6058 0 32 .rw 0
abbrev FLS_LEN.LEN : Fld := .one 0x605C 0 32 .rw 0
abbrev FLS_ERR.NOIMG : Fld := .one 0x6014 3 1 .w1c 0
abbrev FLS_ERR.ECC : Fld := .one 0x6014 2 1 .w1c 0
abbrev FLS_ERR.RANGE : Fld := .one 0x6014 1 1 .w1c 0
abbrev FLS_ERR.XING : Fld := .one 0x6014 0 1 .w1c 0

/-! R651, page CLK. -/
abbrev CLK_REF.PRESENT : Fld := .one 0x1040 31 1 .ro 0
abbrev CLK_REF.LOSSCNT : Fld := .one 0x1040 0 16 .rw 0
abbrev CLK_PLL.LOCK : Fld := .one 0x1044 0 7 .ro 0
abbrev CLK_HOLD.ELAPSED : Fld := .one 0x1048 0 16 .ro 0
abbrev CLK_TJ.PEAK : Fld := .one 0x104C 16 10 .rw 0
abbrev CLK_TJ.TJ : Fld := .one 0x104C 0 10 .ro 0
abbrev CLK_TJTH.CRIT : Fld := .one 0x1050 16 10 .rwl 0x1e0
abbrev CLK_TJTH.HI : Fld := .one 0x1050 0 10 .rwl 0x1a4
abbrev CLK_STAT.HOLD : Fld := .one 0x1010 0 1 .ro 0
abbrev CLK_ERR.TJCRIT : Fld := .one 0x1014 5 1 .w1c 0
abbrev CLK_ERR.TJHI : Fld := .one 0x1014 4 1 .w1c 0
abbrev CLK_ERR.PLLCRIT : Fld := .one 0x1014 3 1 .w1c 0
abbrev CLK_ERR.PLLLOSS : Fld := .one 0x1014 2 1 .w1c 0
abbrev CLK_ERR.REFLOSS : Fld := .one 0x1014 1 1 .w1c 0
abbrev CLK_ERR.XING : Fld := .one 0x1014 0 1 .w1c 0

/-! R652, page TMX. -/
abbrev TMX_DSEL.SEL : Fld := .arr 0x8040 8 4 0 8 .rw 0
abbrev TMX_ERR.RANGE : Fld := .one 0x8014 1 1 .w1c 0
abbrev TMX_ERR.XING : Fld := .one 0x8014 0 1 .w1c 0

/-! R364, page MIN. -/
abbrev MIN_TTS_LO.NS_LO : Fld := .arr 0x30360 16 12 0 32 .ro 0
abbrev MIN_TTS_HI.NS_HI : Fld := .arr 0x30364 16 12 0 32 .ro 0
abbrev MIN_TTS_F.DIR : Fld := .arr 0x30368 16 12 8 1 .ro 0
abbrev MIN_TTS_F.FRAC : Fld := .arr 0x30368 16 12 0 3 .ro 0

/-! R457, page HBX. -/
abbrev HBX_SUBD.D : Fld := ⟨0x20200, 48, 4, 8, 64, 0, 32, 0, 1, .rw, 0⟩
abbrev HBX_SUBRES.CODE : Fld := .arr 0x20220 6 64 24 8 .ro 0
abbrev HBX_SUBRES.ID : Fld := .arr 0x20220 6 64 0 16 .ro 0
abbrev HBX_CPL0.VALID : Fld := .arr 0x20224 6 64 31 1 .ro 0
abbrev HBX_CPL0.STATUS : Fld := .arr 0x20224 6 64 16 8 .ro 0
abbrev HBX_CPL0.ID : Fld := .arr 0x20224 6 64 0 16 .ro 0
abbrev HBX_CPL1.RDATA : Fld := .arr 0x20228 6 64 0 32 .ro 0
abbrev HBX_CPL2.NREP : Fld := .arr 0x2022C 6 64 16 16 .ro 0
abbrev HBX_CPL2.NFAIL : Fld := .arr 0x2022C 6 64 0 16 .ro 0
abbrev HBX_CPL3.NMISS : Fld := .arr 0x20230 6 64 16 16 .ro 0
abbrev HBX_CPL3.PN : Fld := .arr 0x20230 6 64 0 16 .ro 0
abbrev HBX_PSTAT.CPLCNT : Fld := .arr 0x20234 6 64 16 7 .ro 0
abbrev HBX_PSTAT.OUT : Fld := .arr 0x20234 6 64 0 7 .ro 0

/-! R495, page MBX. -/
abbrev MBX_H2FDBSET.SET : Fld := .arr 0x11080 2 32 0 32 .wo 0
abbrev MBX_F2HDBSET.SET : Fld := .arr 0x1108C 2 32 0 32 .wo 0
abbrev MBX_H2FDB.DB : Fld := .arr 0x11084 2 32 0 32 .w1c 0
abbrev MBX_F2HDB.DB : Fld := .arr 0x11090 2 32 0 32 .w1c 0
abbrev MBX_H2FDBMSK.MSK : Fld := .arr 0x11088 2 32 0 32 .rw 0xffffffff
abbrev MBX_F2HDBMSK.MSK : Fld := .arr 0x11094 2 32 0 32 .rw 0xffffffff
abbrev MBX_HEPOCH.EPOCH : Fld := .arr 0x11044 2 4 0 32 .ro 1

/-! R496, page MBXH. -/
abbrev MBXH_DATA.DATA : Fld := ⟨0x12100, 448, 4, 14, 64, 0, 32, 0, 1, .rw, 0⟩
abbrev MBXH_CTRL.TAG : Fld := .arr 0x12138 32 64 16 16 .rw 0
abbrev MBXH_CTRL.LEN : Fld := .arr 0x12138 32 64 0 6 .rw 0
abbrev MBXH_EPOCH.EPOCH : Fld := .arr 0x1213C 32 64 0 32 .ro 0

/-! R496, page MBXF. -/
abbrev MBXF_DATA.DATA : Fld := ⟨0x13100, 448, 4, 14, 64, 0, 32, 0, 1, .rw, 0⟩
abbrev MBXF_CTRL.TAG : Fld := .arr 0x13138 32 64 16 16 .rw 0
abbrev MBXF_CTRL.LEN : Fld := .arr 0x13138 32 64 0 6 .rw 0
abbrev MBXF_EPOCH.EPOCH : Fld := .arr 0x1313C 32 64 0 32 .ro 0

/-! R337, page LPECH. -/
abbrev LPE_CHB0.KP : Fld := ⟨0x24080, 96, 384, 10, 4096, 0, 32, 0, 1, .rw, 0⟩
abbrev LPE_CHB0.KI : Fld := ⟨0x24084, 96, 384, 10, 4096, 0, 32, 0, 1, .rw, 0⟩
abbrev LPE_CHB0.KF : Fld := ⟨0x24088, 96, 384, 10, 4096, 0, 32, 0, 1, .rw, 0⟩
abbrev LPE_CHB0.UMAX : Fld := ⟨0x2408C, 96, 384, 10, 4096, 0, 32, 0, 1, .rw, 0x7f7fffff⟩
abbrev LPE_CHB0.UMIN : Fld := ⟨0x24090, 96, 384, 10, 4096, 0, 32, 0, 1, .rw, 0xff7fffff⟩
abbrev LPE_CHB0.R1B0 : Fld := ⟨0x24094, 96, 384, 10, 4096, 0, 32, 0, 1, .rw, 0⟩
abbrev LPE_CHB0.R1B1 : Fld := ⟨0x24098, 96, 384, 10, 4096, 0, 32, 0, 1, .rw, 0⟩
abbrev LPE_CHB0.R1B2 : Fld := ⟨0x2409C, 96, 384, 10, 4096, 0, 32, 0, 1, .rw, 0⟩
abbrev LPE_CHB0.R1A1 : Fld := ⟨0x240A0, 96, 384, 10, 4096, 0, 32, 0, 1, .rw, 0⟩
abbrev LPE_CHB0.R1A2 : Fld := ⟨0x240A4, 96, 384, 10, 4096, 0, 32, 0, 1, .rw, 0⟩
abbrev LPE_CHB0.R2B0 : Fld := ⟨0x240A8, 96, 384, 10, 4096, 0, 32, 0, 1, .rw, 0⟩
abbrev LPE_CHB0.R2B1 : Fld := ⟨0x240AC, 96, 384, 10, 4096, 0, 32, 0, 1, .rw, 0⟩
abbrev LPE_CHB0.R2B2 : Fld := ⟨0x240B0, 96, 384, 10, 4096, 0, 32, 0, 1, .rw, 0⟩
abbrev LPE_CHB0.R2A1 : Fld := ⟨0x240B4, 96, 384, 10, 4096, 0, 32, 0, 1, .rw, 0⟩
abbrev LPE_CHB0.R2A2 : Fld := ⟨0x240B8, 96, 384, 10, 4096, 0, 32, 0, 1, .rw, 0⟩
abbrev LPE_CHB0.FB0 : Fld := ⟨0x240BC, 96, 384, 10, 4096, 0, 32, 0, 1, .rw, 0x3f800000⟩
abbrev LPE_CHB0.FB1 : Fld := ⟨0x240C0, 96, 384, 10, 4096, 0, 32, 0, 1, .rw, 0⟩
abbrev LPE_CHB0.FB2 : Fld := ⟨0x240C4, 96, 384, 10, 4096, 0, 32, 0, 1, .rw, 0⟩
abbrev LPE_CHB0.FA1 : Fld := ⟨0x240C8, 96, 384, 10, 4096, 0, 32, 0, 1, .rw, 0⟩
abbrev LPE_CHB0.FA2 : Fld := ⟨0x240CC, 96, 384, 10, 4096, 0, 32, 0, 1, .rw, 0⟩
abbrev LPE_CHB1.KP : Fld := ⟨0x24100, 96, 384, 10, 4096, 0, 32, 0, 1, .rw, 0⟩
abbrev LPE_CHB1.KI : Fld := ⟨0x24104, 96, 384, 10, 4096, 0, 32, 0, 1, .rw, 0⟩
abbrev LPE_CHB1.KF : Fld := ⟨0x24108, 96, 384, 10, 4096, 0, 32, 0, 1, .rw, 0⟩
abbrev LPE_CHB1.UMAX : Fld := ⟨0x2410C, 96, 384, 10, 4096, 0, 32, 0, 1, .rw, 0x7f7fffff⟩
abbrev LPE_CHB1.UMIN : Fld := ⟨0x24110, 96, 384, 10, 4096, 0, 32, 0, 1, .rw, 0xff7fffff⟩
abbrev LPE_CHB1.R1B0 : Fld := ⟨0x24114, 96, 384, 10, 4096, 0, 32, 0, 1, .rw, 0⟩
abbrev LPE_CHB1.R1B1 : Fld := ⟨0x24118, 96, 384, 10, 4096, 0, 32, 0, 1, .rw, 0⟩
abbrev LPE_CHB1.R1B2 : Fld := ⟨0x2411C, 96, 384, 10, 4096, 0, 32, 0, 1, .rw, 0⟩
abbrev LPE_CHB1.R1A1 : Fld := ⟨0x24120, 96, 384, 10, 4096, 0, 32, 0, 1, .rw, 0⟩
abbrev LPE_CHB1.R1A2 : Fld := ⟨0x24124, 96, 384, 10, 4096, 0, 32, 0, 1, .rw, 0⟩
abbrev LPE_CHB1.R2B0 : Fld := ⟨0x24128, 96, 384, 10, 4096, 0, 32, 0, 1, .rw, 0⟩
abbrev LPE_CHB1.R2B1 : Fld := ⟨0x2412C, 96, 384, 10, 4096, 0, 32, 0, 1, .rw, 0⟩
abbrev LPE_CHB1.R2B2 : Fld := ⟨0x24130, 96, 384, 10, 4096, 0, 32, 0, 1, .rw, 0⟩
abbrev LPE_CHB1.R2A1 : Fld := ⟨0x24134, 96, 384, 10, 4096, 0, 32, 0, 1, .rw, 0⟩
abbrev LPE_CHB1.R2A2 : Fld := ⟨0x24138, 96, 384, 10, 4096, 0, 32, 0, 1, .rw, 0⟩
abbrev LPE_CHB1.FB0 : Fld := ⟨0x2413C, 96, 384, 10, 4096, 0, 32, 0, 1, .rw, 0x3f800000⟩
abbrev LPE_CHB1.FB1 : Fld := ⟨0x24140, 96, 384, 10, 4096, 0, 32, 0, 1, .rw, 0⟩
abbrev LPE_CHB1.FB2 : Fld := ⟨0x24144, 96, 384, 10, 4096, 0, 32, 0, 1, .rw, 0⟩
abbrev LPE_CHB1.FA1 : Fld := ⟨0x24148, 96, 384, 10, 4096, 0, 32, 0, 1, .rw, 0⟩
abbrev LPE_CHB1.FA2 : Fld := ⟨0x2414C, 96, 384, 10, 4096, 0, 32, 0, 1, .rw, 0⟩

/-! R652, page TMX. -/
abbrev TMX_ASEL.SEL : Fld := .arr 0x8060 2 4 0 4 .rw 0

/-! R557, page FLT. -/
abbrev FLT_HREC.WORD : Fld := .arr 0x3800 64 4 0 32 .ro 0
abbrev FLT_PHREC.WORD : Fld := .arr 0x3900 64 4 0 32 .ro 0

def fieldsTIM0 : List Fld :=
  [TIM_NOW_HI.NS_HI, TIM_NOW_LO.NS_LO, TIM_NOW_FRAC.FRAC, TIM_BASE_HI.NS_HI,
   TIM_BASE_LO.NS_LO, TIM_BASE_FRAC.FRAC, TIM_PN_LO.PN_LO, TIM_PN_HI.PN_HI,
   TIM_PERIOD.T, TIM_PCHG.REQ, TIM_PCHG.RES, TIM_PCHG.NEW_T,
   TIM_PCHG_PN_LO.PN_LO, TIM_PCHG_PN_HI.PN_HI, TIM_OFS1.COMP, TIM_OFS1.STAT,
   TIM_OFS2.CMD, TIM_OFS2.MARGIN, TIM_SRC.FREERUN, TIM_SRC.SLEW,
   TIM_SRC.STEPPED, TIM_SRC.ALIGN, TIM_SRC.PARTNER, TIM_SRC.PTPLOCK]
def fieldsTIM1 : List Fld :=
  [TIM_RATE.RATE, TIM_PTPOFS.PTPOFS, TIM_PARTOFS.PARTOFS, TIM_STAT.BSTRAND,
   TIM_ERR.ALIGN, TIM_ERR.BUDGET, TIM_ERR.RANGE, TIM_ERR.XING]
/-- The fields of page TIM, header detail bits included. -/
def fieldsTIM : List Fld := fieldsTIM0 ++ fieldsTIM1

def fieldsSTRP0 : List Fld :=
  [STRP_ASSIGN.ARM, STRP_ASSIGN.NCELL, STRP_ASSIGN.STRAND, STRP_DLY.DLY,
   STRP_CMD.REQ, STRP_CNT1.CRC8, STRP_CNT1.CRC32, STRP_CNT2.ABORT,
   STRP_CNT2.CODE, STRP_CNT3.MISS, STRP_CNT3.TAILF, STRP_EYE.HMIN,
   STRP_EYE.HMARG, STRP_EYE.VMARG, STRP_STAT.ORIG, STRP_STAT.REACH,
   STRP_STAT.TAIL, STRP_STAT.RELAY, STRP_STAT.RATE, STRP_STAT.LOCK,
   STRP_STAT.STATE, STRP_ERR.REQ, STRP_ERR.NCELL, STRP_ERR.EYE]
def fieldsSTRP1 : List Fld :=
  [STRP_ERR.BREAK, STRP_ERR.LOCKLOSS, STRP_ERR.XING]
/-- The fields of page STRP, header detail bits included. -/
def fieldsSTRP : List Fld := fieldsSTRP0 ++ fieldsSTRP1

def fieldsCAL0 : List Fld :=
  [CAL_ARMCFG.EN, CAL_ARMCFG.TYPE, CAL_ARMCFG.NREQ, CAL_ARMCFG.ROT,
   CAL_ARMCFG.DTCOMP, CAL_BAND.ZBAND, CAL_BAND.BAND, CAL_ARMSW.EAT,
   CAL_ARMSW.REFR, CAL_ARMSW.MINP, CAL_ARMSW.ZSEL, CAL_ARMSW.DT,
   CAL_ARMREF.RINT, CAL_ARMREF.REFW, CAL_ASTAT.SATP, CAL_ASTAT.SATN,
   CAL_ASTAT.LOW, CAL_ASTAT.DIR, CAL_ASTAT.POL, CAL_ASTAT.NSEL,
   CAL_ASTAT.TOGGLE, CAL_AVAIL.FB, CAL_AVAIL.HB, CAL_FX.SET]
def fieldsCAL1 : List Fld :=
  [CAL_FX.STRAND, CAL_FX.HOP, CAL_CNT1.CLAMP, CAL_CNT1.TOGRND,
   CAL_CNT2.HOLDBRK, CAL_CNT2.NOCMD, CAL_STAT.SAT, CAL_ERR.LOW,
   CAL_ERR.TYPE, CAL_ERR.DNAN, CAL_ERR.LATE, CAL_ERR.XING]
/-- The fields of page CAL, header detail bits included. -/
def fieldsCAL : List Fld := fieldsCAL0 ++ fieldsCAL1

def fieldsCLP0 : List Fld :=
  [CLP_ARMI.NEG, CLP_ARMI.SRC, CLP_ARMI.LAT, CLP_ILOAD.ILOAD,
   CLP_FCFG.KGAIN, CLP_FCFG.STALEMAX, CLP_FCFG.OUTN, CLP_FCFG.OUTTH,
   CLP_CHK.CHKN, CLP_CHK.CHKTH, CLP_CCFG.CEN, CLP_CCFG.CGAIN,
   CLP_CCFG.HOLD, CLP_CCFG.HOLDGAP, CLP_CCFG2.DVMIN, CLP_ECFG.EGAIN,
   CLP_ECFG.EIMIN, CLP_CNOM.CNOM, CLP_ENOM.ENOM, CLP_WCFG.CRET,
   CLP_WCFG.ERET, CLP_WCFG.RETCONF, CLP_WTH.RETTH, CLP_WTH.WARNTH]
def fieldsCLP1 : List Fld :=
  [CLP_SEL.STRAND, CLP_SEL.HOP, CLP_REC.WORD, CLP_CSEED.C,
   CLP_ESEED.ESR, CLP_CMD.RES, CLP_CMD.OP, CLP_CNT1.OUTL,
   CLP_CNT1.RESEED, CLP_CNT2.CPAIR, CLP_CNT2.HOLDABN, CLP_STAT.RETPEND,
   CLP_STAT.SEEDING, CLP_ERR.IARM, CLP_ERR.LATE, CLP_ERR.WARN,
   CLP_ERR.RETPEND, CLP_ERR.RETIRE, CLP_ERR.CHK, CLP_ERR.XING]
/-- The fields of page CLP, header detail bits included. -/
def fieldsCLP : List Fld := fieldsCLP0 ++ fieldsCLP1

def fieldsLPE0 : List Fld :=
  [LPE_CFG.SPOTEN, LPE_SWAP.BANK, LPE_SWAP.IMM, LPE_SWAP.LEN,
   LPE_SWAP.CH, LPE_SWAPPN_LO.PN_LO, LPE_SWAPPN_HI.PN_HI, LPE_SWAPRES.RES,
   LPE_SETPCMT.CMT, LPE_MOVE.RES, LPE_MOVE.ENG, LPE_MOVE.CH,
   LPE_SATCH.FCH, LPE_SATCH.WCH, LPE_RETIRE.RET, LPE_MAP.ENG3,
   LPE_MAP.ENG2, LPE_MAP.ENG1, LPE_MAP.ENG0, LPE_ARMD.SRC,
   LPE_ARMK.KL, LPE_FCS.SRC1, LPE_FCS.SRC0, LPE_FCK.KF]
def fieldsLPE1 : List Fld :=
  [LPE_GCFG.EN, LPE_GCFG.WIN, LPE_GCFG.RAMP, LPE_GCFG.NMEM,
   LPE_GHYST.HYST, LPE_GRATE.GRATE, LPE_GOUT.G, LPE_SETP.SETP,
   LPE_CNT1.NAN, LPE_CNT1.SPOTMIS, LPE_CNT2.SWAPS, LPE_CNT2.RETGT,
   LPE_STAT.OWN, LPE_STAT.NOSPARE, LPE_ERR.SPLONE, LPE_ERR.ENGRET,
   LPE_ERR.SPRET, LPE_ERR.SPOT, LPE_ERR.SATF, LPE_ERR.SATW,
   LPE_ERR.NAN, LPE_ERR.CFG, LPE_ERR.SRC, LPE_ERR.BANKBUSY]
def fieldsLPE2 : List Fld :=
  [LPE_ERR.XING]
/-- The fields of page LPE, header detail bits included. -/
def fieldsLPE : List Fld := fieldsLPE0 ++ fieldsLPE1 ++ fieldsLPE2

def fieldsLPECH0 : List Fld :=
  [LPE_CHCFG.EN, LPE_CHCFG.RANK, LPE_CHCFG.GRP, LPE_CHCFG.GEN,
   LPE_CHCFG.R1EN, LPE_CHCFG.R2EN, LPE_CHCFG.FEN, LPE_CHSRC1.SRCY,
   LPE_CHSRC1.SRCR, LPE_CHSRC2.SRCV, LPE_CHINIT.INIT, LPE_CHSWARN.DECR,
   LPE_CHSWARN.SWARN, LPE_CHSFLT.SFAULT, LPE_CHSATCNT.CNT, LPE_CHSTAT.FPOS,
   LPE_CHSTAT.HELD, LPE_CHSTAT.WIN, LPE_CHSTAT.XSAT, LPE_CHSTAT.SAT,
   LPE_CHSTAT.FADE, LPE_CHSTAT.TGT, LPE_CHSTAT.ACT, LPE_CHOUT.O]
def fieldsLPECH1 : List Fld :=
  [LPE_CHUPRE.UC, LPE_CHERRV.E, LPE_CHI_LO.I_LO, LPE_CHI_HI.I_HI,
   LPE_CHB0.KP, LPE_CHB0.KI, LPE_CHB0.KF, LPE_CHB0.UMAX,
   LPE_CHB0.UMIN, LPE_CHB0.R1B0, LPE_CHB0.R1B1, LPE_CHB0.R1B2,
   LPE_CHB0.R1A1, LPE_CHB0.R1A2, LPE_CHB0.R2B0, LPE_CHB0.R2B1,
   LPE_CHB0.R2B2, LPE_CHB0.R2A1, LPE_CHB0.R2A2, LPE_CHB0.FB0,
   LPE_CHB0.FB1, LPE_CHB0.FB2, LPE_CHB0.FA1, LPE_CHB0.FA2]
def fieldsLPECH2 : List Fld :=
  [LPE_CHB1.KP, LPE_CHB1.KI, LPE_CHB1.KF, LPE_CHB1.UMAX,
   LPE_CHB1.UMIN, LPE_CHB1.R1B0, LPE_CHB1.R1B1, LPE_CHB1.R1B2,
   LPE_CHB1.R1A1, LPE_CHB1.R1A2, LPE_CHB1.R2B0, LPE_CHB1.R2B1,
   LPE_CHB1.R2B2, LPE_CHB1.R2A1, LPE_CHB1.R2A2, LPE_CHB1.FB0,
   LPE_CHB1.FB1, LPE_CHB1.FB2, LPE_CHB1.FA1, LPE_CHB1.FA2]
/-- The fields of page LPECH, header detail bits included. -/
def fieldsLPECH : List Fld := fieldsLPECH0 ++ fieldsLPECH1 ++ fieldsLPECH2

def fieldsMIN0 : List Fld :=
  [MIN_CHCFG.EN, MIN_CHCFG.CKSRC, MIN_CHCFG.CKOEN, MIN_CHCFG.FVAL,
   MIN_CHCFG.DIV, MIN_CHCFG.ORD, MIN_CHCFG.K, MIN_CHCFG.STUCKN,
   MIN_CHDLY.CLIPTH, MIN_CHDLY.RTDSET, MIN_CHDLY.DLY, MIN_CHGAIN.GAIN,
   MIN_CHOFS.OFS, MIN_CHRES.V, MIN_CHSTAT.RTD, MIN_CHSTAT.NOCLK,
   MIN_CHSTAT.STUCK, MIN_CHSTAT.FLT, MIN_CHSTAT.CLIP, MIN_CHSTAT.SETTLE,
   MIN_FLT.FLT, MIN_SYNC.REQ, MIN_SYNC.RES, MIN_TRIPCFG.CLASS]
def fieldsMIN1 : List Fld :=
  [MIN_TRIPSTAT.LATCH, MIN_TRIPSTAT.LVL, MIN_TRIPCLR.CLR, MIN_CNT.FLTEV,
   MIN_CNT.SYNCS, MIN_SYNCPN_LO.PN_LO, MIN_SYNCPN_HI.PN_HI, MIN_STAT.SETTLE,
   MIN_STAT.FLT, MIN_ERR.LAT, MIN_ERR.CFG, MIN_ERR.STUCK,
   MIN_ERR.NOCLK, MIN_ERR.XING, MIN_TTS_LO.NS_LO, MIN_TTS_HI.NS_HI,
   MIN_TTS_F.DIR, MIN_TTS_F.FRAC]
/-- The fields of page MIN, header detail bits included. -/
def fieldsMIN : List Fld := fieldsMIN0 ++ fieldsMIN1

def fieldsREEL0 : List Fld :=
  [REEL_CFG.LOOPEN, REEL_CFG.ARMEN, REEL_CFG.EVEN, REEL_CFG.CELLDIV,
   REEL_CFG.INDIV, REEL_CELLSEL.STR, REEL_INSEL.IN, REEL_LOOPSEL.CH,
   REEL_GRPSEL.GRP, REEL_EVSEL.EV, REEL_RBASE_LO.ADDR_LO, REEL_RBASE_HI.ADDR_HI,
   REEL_RSIZE.SIZE, REEL_WPTR.WPTR, REEL_RPTR.RPTR, REEL_WBADDR_LO.WB_LO,
   REEL_WBADDR_HI.WB_HI, REEL_CMD.RES, REEL_CMD.OP, REEL_FBWIN.FBWIN,
   REEL_FILL.HTH, REEL_FILL.STG, REEL_SEQ.SEQ, REEL_TRIGCFG.EN]
def fieldsREEL1 : List Fld :=
  [REEL_TRIGCFG.STOP, REEL_TRIGCFG.XTRIG, REEL_TRIGCFG.FBEN, REEL_TRIGCFG.KIND,
   REEL_TRIGCFG.DIR, REEL_TRIGCFG.FBTRIP, REEL_TRIGCFG.INDEX, REEL_TRIGLVL.LVL,
   REEL_TRIGHYS.HYST, REEL_TRIGSLP.SLOPE, REEL_TRIGPOST.POST, REEL_MCFG.EN,
   REEL_MCFG.STOP, REEL_MCFG.SRC, REEL_MCFG.DWELL, REEL_MCFG.CEN,
   REEL_MHI.MHI, REEL_MLO.MLO, REEL_MPOST.POST, REEL_CNT1.LOSSP,
   REEL_CNT1.LOSSR, REEL_CNT2.MARKS, REEL_CNT2.MARKDROP, REEL_CNT3.EVDROP]
def fieldsREEL2 : List Fld :=
  [REEL_CNT3.FBNONE, REEL_CNT4.MVIOL, REEL_STAT.STALL, REEL_STAT.CAP,
   REEL_ERR.LINK, REEL_ERR.MSTOP, REEL_ERR.BUSY, REEL_ERR.CFG,
   REEL_ERR.XING, REEL_EVT.STOP, REEL_EVT.LOSS, REEL_EVT.FILL,
   REEL_EVT.MARK]
/-- The fields of page REEL, header detail bits included. -/
def fieldsREEL : List Fld := fieldsREEL0 ++ fieldsREEL1 ++ fieldsREEL2

def fieldsLSE0 : List Fld :=
  [LSE_CFG.AUTOCLR, LSE_CFG.CLRDLY, LSE_CFG.PREF, LSE_CFG.LLEN,
   LSE_EPOCH.EPOCH, LSE_HOV.REQ, LSE_HOV.IMM, LSE_HOV.RES,
   LSE_HOVPN_LO.PN_LO, LSE_HOVPN_HI.PN_HI, LSE_HOLDPN_LO.PN_LO, LSE_HOLDPN_HI.PN_HI,
   LSE_LOST.CAUSE, LSE_MIRSEQ.SEQ, LSE_MIRPN_LO.PN_LO, LSE_MIRPN_HI.PN_HI,
   LSE_CNT1.CLAIMS, LSE_CNT1.YIELDS, LSE_CNT2.HOV, LSE_CNT2.DIGMIS,
   LSE_CNT3.NOMIR, LSE_CNT3.ACLR, LSE_ARM.START, LSE_STAT.DSYNC]
def fieldsLSE1 : List Fld :=
  [LSE_STAT.READY, LSE_STAT.PACT, LSE_STAT.UNIT, LSE_STAT.STATE,
   LSE_ERR.HOVREF, LSE_ERR.NOMIR, LSE_ERR.CLAIMAB, LSE_ERR.YIELD,
   LSE_ERR.DIGEST, LSE_ERR.CFG, LSE_ERR.XING]
/-- The fields of page LSE, header detail bits included. -/
def fieldsLSE : List Fld := fieldsLSE0 ++ fieldsLSE1

def fieldsSPL0 : List Fld :=
  [SPL_LANEMAP.AUTOSP, SPL_LANEMAP.LOG1, SPL_LANEMAP.LOG0, SPL_LSTAT.RET,
   SPL_LSTAT.USE, SPL_LSTAT.LOCK, SPL_BERTH.BERTH, SPL_LAT.LAT,
   SPL_RELAY.RMAX, SPL_RELAY.RNUM, SPL_RMASK.STR, SPL_CNT1.BLKERR,
   SPL_CNT1.LANESW, SPL_CNT2.DOWN, SPL_CNT2.MSGCRC, SPL_STAT.LANES,
   SPL_STAT.UP, SPL_ERR.CFGD, SPL_ERR.LAT, SPL_ERR.RCAP,
   SPL_ERR.LANE, SPL_ERR.DOWN, SPL_ERR.XING]
/-- The fields of page SPL, header detail bits included. -/
def fieldsSPL : List Fld := fieldsSPL0

def fieldsHBX0 : List Fld :=
  [HBX_CFG.MODE, HBX_CFG.NREP, HBX_CFG.TMODEF, HBX_FLUSH.BCAST,
   HBX_FLUSH.STRAND, HBX_BEXCL.STR, HBX_QSTAT.DL, HBX_QSTAT.BQ,
   HBX_QD.ODD, HBX_QD.EVEN, HBX_CNT1.REFUSE, HBX_CNT1.RESEND,
   HBX_CNT2.NOREPLY, HBX_CNT2.TIMEOUT, HBX_CNT3.LATEREP, HBX_CNT3.CANCEL,
   HBX_STAT.MODE, HBX_ERR.RANGE, HBX_ERR.REFUSE, HBX_ERR.XING,
   HBX_EVT.REF, HBX_EVT.CPL, HBX_SUBD.D, HBX_SUBRES.CODE]
def fieldsHBX1 : List Fld :=
  [HBX_SUBRES.ID, HBX_CPL0.VALID, HBX_CPL0.STATUS, HBX_CPL0.ID,
   HBX_CPL1.RDATA, HBX_CPL2.NREP, HBX_CPL2.NFAIL, HBX_CPL3.NMISS,
   HBX_CPL3.PN, HBX_PSTAT.CPLCNT, HBX_PSTAT.OUT]
/-- The fields of page HBX, header detail bits included. -/
def fieldsHBX : List Fld := fieldsHBX0 ++ fieldsHBX1

def fieldsPCIE0 : List Fld :=
  [PCIE_LINK.WIDTH, PCIE_LINK.SPEED, PCIE_LINK.BME0, PCIE_LINK.UP,
   PCIE_ACC.PF0RO, PCIE_REAMCUR.BUF, PCIE_REAMCUR.GEN, PCIE_REAMPIN.PBUF,
   PCIE_REAMPIN.PINNED, PCIE_REAMPIN.PIN1, PCIE_REAMPIN.PIN0, PCIE_REAMPGEN.PGEN,
   PCIE_SESSCMD.RES, PCIE_SESSCMD.KEYSEL, PCIE_SESSCMD.OP, PCIE_SESSSTAT.LOCKREM,
   PCIE_SESSSTAT.FAILS, PCIE_SESSSTAT.STATE, PCIE_SESSCFG.LOCKSEC, PCIE_SESSCFG.IDLE,
   PCIE_SCHAL.CHAL, PCIE_SRESP.RESP, PCIE_VACK_LO.VLO, PCIE_VACK_HI.VHI]
def fieldsPCIE1 : List Fld :=
  [PCIE_CNT1.DENY, PCIE_CNT1.HALF, PCIE_CNT2.SESSFAIL, PCIE_CNT2.LINKDN,
   PCIE_IMAP.EN1, PCIE_IMAP.FN1, PCIE_IMAP.VEC1, PCIE_IMAP.EN0,
   PCIE_IMAP.FN0, PCIE_IMAP.VEC0, PCIE_STAT.LINKUP, PCIE_STAT.SESS,
   PCIE_ERR.SESSFAIL, PCIE_ERR.LINKDN, PCIE_ERR.HALF, PCIE_ERR.DENY,
   PCIE_ERR.RANGE, PCIE_ERR.XING, PCIE_EVT.SESSEND, PCIE_EVT.SESSOPEN,
   PCIE_EVT.LINKUP, PCIE_EVT.LINKDN]
/-- The fields of page PCIE, header detail bits included. -/
def fieldsPCIE : List Fld := fieldsPCIE0 ++ fieldsPCIE1

def fieldsMBX0 : List Fld :=
  [MBX_FEPOCH.EPOCH, MBX_HEPINC.INC, MBX_RES.RES, MBX_H2FFULL.FULL,
   MBX_F2HFULL.FULL, MBX_H2FSTALE.STALE, MBX_F2HSTALE.STALE, MBX_AGE.AGEMAX,
   MBX_CNT.AGE, MBX_ERR.RANGE, MBX_ERR.BUSY, MBX_ERR.XING,
   MBX_EVT.AGE, MBX_EVT.HREAD, MBX_EVT.FPOST, MBX_EVT.FDB,
   MBX_EVT.FREAD, MBX_EVT.HPOST, MBX_EVT.HDB, MBX_H2FDBSET.SET,
   MBX_F2HDBSET.SET, MBX_H2FDB.DB, MBX_F2HDB.DB, MBX_H2FDBMSK.MSK]
def fieldsMBX1 : List Fld :=
  [MBX_F2HDBMSK.MSK, MBX_HEPOCH.EPOCH]
/-- The fields of page MBX, header detail bits included. -/
def fieldsMBX : List Fld := fieldsMBX0 ++ fieldsMBX1

def fieldsNET0 : List Fld :=
  [NET_PCFG.EN, NET_PCFG.MODE, NET_PCFG.VLANEN, NET_PCFG.PCP,
   NET_PCFG.VID, NET_MAC_LO.MAC_LO, NET_MAC_HI.MAC_HI, NET_CNT.FCS,
   NET_CNT.DROP, NET_CNT2.SVDUP, NET_CNT2.SVLATE, NET_CNT3.GDUP,
   NET_RXBASE.BASE, NET_RXWP.WP, NET_RXRP.RP, NET_SVCFG.EN,
   NET_SVCFG.PORTS, NET_SVCFG.SYNCMIN, NET_SVCFG.TEST, NET_SVCFG.APPID,
   NET_SVRATE.MACL, NET_SVRATE.RATE, NET_SVAGE.MAXAGE, NET_SVOFS.SVOFS]
def fieldsNET1 : List Fld :=
  [NET_SVSTAT.FLT, NET_SVSTAT.SMPCNT, NET_SVSC.SC, NET_GSCFG.EN,
   NET_GSCFG.PORTS, NET_GSCFG.FTRIP, NET_GSCFG.FDEF, NET_GSCFG.FPOS,
   NET_GSCFG.APPID, NET_GSMAC.MACL, NET_GSSTAT.TALX, NET_GSSTAT.FAST,
   NET_GSSTAT.VALID, NET_GSSTN.STNUM, NET_GSBASE.BASE, NET_GFAST.FAST,
   NET_GPCFG.EN, NET_GPCFG.STBY, NET_GPCFG.PORTS, NET_GPCFG.T1,
   NET_GPCFG.T0, NET_GPOFS.STOFS, NET_GPOFS.SQOFS, NET_GPTOFS.TOFS]
def fieldsNET2 : List Fld :=
  [NET_GPBUF.BUF, NET_GPLEN.LEN, NET_GPSTN.STNUM, NET_GPSEND.PUB,
   NET_TXD0.ADDR, NET_TXD1.PORT, NET_TXD1.LEN, NET_TXD2.AT_LO,
   NET_TXD3.AT_HI, NET_TXRES.CODE, NET_TXRES.ID, NET_TXCPL0.VALID,
   NET_TXCPL0.STATUS, NET_TXCPL0.ID, NET_TXCPL1.TS_LO, NET_TXCPL2.TS_HI,
   NET_STAT.LINK, NET_ERR.GTRIP, NET_ERR.GTAL, NET_ERR.SVFLT,
   NET_ERR.LINKDN, NET_ERR.RANGE, NET_ERR.XING, NET_EVT.FAST]
def fieldsNET3 : List Fld :=
  [NET_EVT.GNEW, NET_EVT.SVFLT, NET_EVT.RX, NET_EVT.TXCPL,
   NET_EVT.LINK]
/-- The fields of page NET, header detail bits included. -/
def fieldsNET : List Fld := fieldsNET0 ++ fieldsNET1 ++ fieldsNET2 ++ fieldsNET3

def fieldsPTP0 : List Fld :=
  [PTP_CFG.EN, PTP_CFG.DOMAIN, PTP_CFG.PORTS, PTP_INTV.SYNCTMO,
   PTP_ASYM.ASYM, PTP_LAT.INLAT, PTP_LAT.EGLAT, PTP_MPD.MPD,
   PTP_PSTATE.P1, PTP_PSTATE.P0, PTP_GMID_LO.ID_LO, PTP_GMID_HI.ID_HI,
   PTP_CNT1.SYNCRX, PTP_CNT1.OUTL, PTP_CNT2.PDTX, PTP_CNT2.PDFAIL,
   PTP_PPSOUT.EN, PTP_PPSOUT.WIDTH, PTP_PPSIN.EN, PTP_PPSIN.TH,
   PTP_PPSIN_LO.NS_LO, PTP_PPSIN_HI.NS_HI, PTP_PPSDIF.DIF, PTP_STAT.SLAVE]
def fieldsPTP1 : List Fld :=
  [PTP_STAT.LOCK, PTP_ERR.PPS, PTP_ERR.GMCHG, PTP_ERR.NOSYNC,
   PTP_ERR.XING]
/-- The fields of page PTP, header detail bits included. -/
def fieldsPTP : List Fld := fieldsPTP0 ++ fieldsPTP1

def fieldsFLT0 : List Fld :=
  [FLT_LATCH_LO.LATCH, FLT_LATCH_HI.LATCH, FLT_FSRC_LO.FSRC, FLT_FSRC_HI.FSRC,
   FLT_CONSQ_LO.CONSQ, FLT_CONSQ_HI.CONSQ, FLT_FIRST_LO.NS, FLT_FIRST_HI.NS,
   FLT_FCYC.FCYC, FLT_CYC.CYC, FLT_LCLS.CLS, FLT_GSTAT_LO.RUN,
   FLT_GSTAT_HI.RUN, FLT_ESCLAST.ACT, FLT_ESCLAST.SRC, FLT_CNT.CONSQ,
   FLT_CNT.ESC, FLT_WDOG.TMO, FLT_WDOG.KICK, FLT_SCFG.ESC,
   FLT_SCFG.GRACE, FLT_DCLS.CLS, FLT_STAT.FENCED, FLT_STAT.ALIVE]
def fieldsFLT1 : List Fld :=
  [FLT_STAT.FAULT, FLT_ERR.RANGE, FLT_ERR.CLRREF, FLT_ERR.XING,
   FLT_EVT.PHEALTH, FLT_EVT.HEALTH, FLT_EVT.ESC, FLT_EVT.LATCH,
   FLT_HREC.WORD, FLT_PHREC.WORD]
/-- The fields of page FLT, header detail bits included. -/
def fieldsFLT : List Fld := fieldsFLT0 ++ fieldsFLT1

def fieldsMEM0 : List Fld :=
  [MEM_SCRUB.EN, MEM_SCRUB.PERIOD, MEM_ROWTH.AGE, MEM_ROWTH.ROWTH,
   MEM_CNT.CE, MEM_CNT.UE, MEM_CEADDR.ADDR, MEM_UEADDR.ADDR,
   MEM_SPARE.RETIRED, MEM_SPARE.LEFT, MEM_RETREQ.RES, MEM_RETREQ.ROW,
   MEM_LASTRET.ROW, MEM_STAT.SCRUBBING, MEM_ERR.SCRUB, MEM_ERR.NOSPARE,
   MEM_ERR.RETIRE, MEM_ERR.UE, MEM_ERR.CE, MEM_ERR.XING]
/-- The fields of page MEM, header detail bits included. -/
def fieldsMEM : List Fld := fieldsMEM0

def fieldsGEN0 : List Fld :=
  [GEN_SERIAL_LO.SER, GEN_SERIAL_HI.SER, GEN_RSTCAUSE.KIND, GEN_RST.KEY,
   GEN_PRST.RES, GEN_PRST.KEY, GEN_CFG.PFEN, GEN_CFG.BOOTTMO,
   GEN_BOOT.CONFIRM, GEN_BOOT.TRIAL, GEN_BOOT.FB, GEN_BOOT.SLOT,
   GEN_IMGVER.VERSION, GEN_CFGD.CFGD, GEN_RSTLATCH_LO.LATCH, GEN_RSTLATCH_HI.LATCH,
   GEN_CERTLEN.LEN, GEN_CERT.CERT, GEN_STAT.CONFIRMED, GEN_ERR.RANGE,
   GEN_ERR.BOOTFB, GEN_ERR.XING]
/-- The fields of page GEN, header detail bits included. -/
def fieldsGEN : List Fld := fieldsGEN0

def fieldsPWR0 : List Fld :=
  [PWR_REQ.RES, PWR_REQ.STATE, PWR_COND.NOFENCE, PWR_COND.BUDGET,
   PWR_COND.CFGD, PWR_COND.TIME, PWR_COND.LOADED, PWR_QTRIP.CHG,
   PWR_QTRIP.LVL, PWR_QTRIPT_LO.NS_LO, PWR_QTRIPT_HI.NS_HI, PWR_STAT.STATE,
   PWR_ERR.QTRIP, PWR_ERR.REQREF, PWR_ERR.XING]
/-- The fields of page PWR, header detail bits included. -/
def fieldsPWR : List Fld := fieldsPWR0

def fieldsSEC0 : List Fld :=
  [SEC_OTPSTAT.CLOSED, SEC_OTPSTAT.IKEY, SEC_MINVER.MINVER, SEC_IKH.IKH,
   SEC_VCMD.RES, SEC_VCMD.KSRC, SEC_VCMD.OP, SEC_VMSG.VMSG,
   SEC_VLEN.VLEN, SEC_VKEY.VKEY, SEC_VSIG.VSIG, SEC_ERR.RANGE,
   SEC_ERR.VFAIL, SEC_ERR.XING]
/-- The fields of page SEC, header detail bits included. -/
def fieldsSEC : List Fld := fieldsSEC0

def fieldsFLS0 : List Fld :=
  [FLS_SLOTST0.VALID, FLS_SLOTST1.VALID, FLS_SLOTST0.FAIL, FLS_SLOTST1.FAIL,
   FLS_VER0.VERSION, FLS_VER1.VERSION, FLS_CMD.RES, FLS_CMD.OP,
   FLS_ADDR.ADDR, FLS_SRAM.SRAM, FLS_LEN.LEN, FLS_ERR.NOIMG,
   FLS_ERR.ECC, FLS_ERR.RANGE, FLS_ERR.XING]
/-- The fields of page FLS, header detail bits included. -/
def fieldsFLS : List Fld := fieldsFLS0

def fieldsCLK0 : List Fld :=
  [CLK_REF.PRESENT, CLK_REF.LOSSCNT, CLK_PLL.LOCK, CLK_HOLD.ELAPSED,
   CLK_TJ.PEAK, CLK_TJ.TJ, CLK_TJTH.CRIT, CLK_TJTH.HI,
   CLK_STAT.HOLD, CLK_ERR.TJCRIT, CLK_ERR.TJHI, CLK_ERR.PLLCRIT,
   CLK_ERR.PLLLOSS, CLK_ERR.REFLOSS, CLK_ERR.XING]
/-- The fields of page CLK, header detail bits included. -/
def fieldsCLK : List Fld := fieldsCLK0

def fieldsTMX0 : List Fld :=
  [TMX_DSEL.SEL, TMX_ERR.RANGE, TMX_ERR.XING, TMX_ASEL.SEL]
/-- The fields of page TMX, header detail bits included. -/
def fieldsTMX : List Fld := fieldsTMX0

def fieldsMBXH0 : List Fld :=
  [MBXH_DATA.DATA, MBXH_CTRL.TAG, MBXH_CTRL.LEN, MBXH_EPOCH.EPOCH]
/-- The fields of page MBXH, header detail bits included. -/
def fieldsMBXH : List Fld := fieldsMBXH0

def fieldsMBXF0 : List Fld :=
  [MBXF_DATA.DATA, MBXF_CTRL.TAG, MBXF_CTRL.LEN, MBXF_EPOCH.EPOCH]
/-- The fields of page MBXF, header detail bits included. -/
def fieldsMBXF : List Fld := fieldsMBXF0

end Sys2Proof.Machine
end

