-- ==== Sys2Proof/Machine/Pages.lean ====
section
/-! DEFINITION. The pages of both parts (R599 to R603, R607 to R611): base, type, island, event sources, which of the
header fields are fixed, and the fields each page holds; the 64-bit pairs and groups (R606); the default fault
classes (R543, R554). -/
namespace Sys2Proof.Machine

/-- The clock islands of the FD7200 (R36). -/
inductive Island where
  | aon
  | host
  | net
  | time
  | str0
  | str1
  | str2
  | str3
  | spl
  | hbx
  | clp
  | cal
  | lpe
  | min
  | reel
  | mem0
  | mem1
  | core0
  | core1
  | core2
  | core3
  | sec
  | fls
  | fab
  deriving DecidableEq, Repr

/-- The clock islands of the FD1600 (R37). -/
inductive CIsland where
  | aon
  | lnk
  | tim
  | meas
  | sw
  | prot
  | core
  | sup
  deriving DecidableEq, Repr

/-- One page, or one group of like pages, of a register space. -/
structure PageInfo where
  base    : Nat
  insts   : Nat
  type    : Nat
  evtSrc  : Nat
  evtn    : Nat
  errn    : Nat
  enRO    : Bool
  srstRO  : Bool
  exempt  : Bool
  fields  : List Fld

/-- The FD7200 pages in address order (R607, R600, R601). -/
def unitPages : List PageInfo :=
  [
   ⟨0x0, 1, 0x101, 8, 8, 3, true, true, false, fieldsGEN⟩,
   ⟨0x1000, 1, 0x102, 16, 8, 6, true, true, false, fieldsCLK⟩,
   ⟨0x2000, 1, 0x103, 24, 8, 3, true, true, false, fieldsPWR⟩,
   ⟨0x3000, 1, 0x104, 0, 8, 3, true, true, false, fieldsFLT⟩,
   ⟨0x4000, 1, 0x105, 32, 8, 4, true, false, false, fieldsTIM⟩,
   ⟨0x5000, 1, 0x106, 160, 8, 3, true, true, false, fieldsSEC⟩,
   ⟨0x6000, 1, 0x107, 168, 8, 4, true, false, false, fieldsFLS⟩,
   ⟨0x7000, 1, 0x108, 176, 8, 6, false, false, false, fieldsMEM⟩,
   ⟨0x8000, 1, 0x109, 184, 8, 2, false, false, true, fieldsTMX⟩,
   ⟨0x10000, 1, 0x110, 120, 8, 6, true, false, false, fieldsPCIE⟩,
   ⟨0x11000, 1, 0x111, 128, 16, 3, true, false, false, fieldsMBX⟩,
   ⟨0x12000, 1, 0x112, 512, 0, 1, true, false, false, fieldsMBXH⟩,
   ⟨0x13000, 1, 0x113, 512, 0, 1, true, false, false, fieldsMBXF⟩,
   ⟨0x14000, 1, 0x114, 144, 8, 6, false, false, true, fieldsNET⟩,
   ⟨0x15000, 1, 0x115, 152, 8, 4, false, false, true, fieldsPTP⟩,
   ⟨0x20000, 1, 0x120, 40, 16, 3, false, false, false, fieldsHBX⟩,
   ⟨0x21000, 1, 0x121, 56, 8, 6, false, false, false, fieldsCAL⟩,
   ⟨0x22000, 1, 0x122, 64, 8, 7, false, false, false, fieldsCLP⟩,
   ⟨0x23000, 1, 0x123, 72, 8, 11, false, false, false, fieldsLPE⟩,
   ⟨0x24000, 10, 0x124, 512, 0, 1, false, false, false, fieldsLPECH⟩,
   ⟨0x30000, 1, 0x130, 80, 16, 5, false, false, false, fieldsMIN⟩,
   ⟨0x31000, 1, 0x131, 96, 8, 5, false, false, true, fieldsREEL⟩,
   ⟨0x32000, 1, 0x132, 104, 8, 7, false, false, false, fieldsLSE⟩,
   ⟨0x33000, 1, 0x133, 112, 8, 6, false, false, false, fieldsSPL⟩,
   ⟨0x100000, 100, 0x140, 192, 2, 6, false, false, false, fieldsSTRP⟩]

/-- The FD1600 pages in address order (R610, R600, R601). -/
def cellPages : List PageInfo :=
  [
   ⟨0x0, 1, 0x201, 0, 4, 3, true, true, false, fieldsCGEN⟩,
   ⟨0x1000, 2, 0x202, 4, 4, 3, false, false, false, fieldsCLNK⟩,
   ⟨0x3000, 1, 0x203, 12, 8, 7, false, false, false, fieldsCMEAS⟩,
   ⟨0x4000, 1, 0x204, 20, 8, 5, false, false, false, fieldsCSW⟩,
   ⟨0x5000, 1, 0x205, 28, 8, 7, true, true, false, fieldsCPROT⟩,
   ⟨0x6000, 1, 0x206, 36, 4, 4, false, false, false, fieldsCSUP⟩,
   ⟨0x7000, 1, 0x207, 40, 4, 3, false, false, false, fieldsCTIM⟩,
   ⟨0x8000, 1, 0x208, 44, 8, 6, true, true, false, fieldsCFLT⟩,
   ⟨0x9000, 1, 0x209, 52, 4, 5, false, false, false, fieldsCFRM⟩,
   ⟨0xA000, 1, 0x20A, 56, 4, 2, false, false, true, fieldsCTMX⟩]

/-- The island of the FD7200 page at an address (R607); the strand ports lie in four islands of 25 (R36). -/
def unitIsland (a : Nat) : Island :=
  match a / 0x1000 with
  | 0x04 => .time
  | 0x05 => .sec
  | 0x06 => .fls
  | 0x07 => .mem0
  | 0x10 | 0x11 | 0x12 | 0x13 => .host
  | 0x14 | 0x15 => .net
  | 0x20 => .hbx
  | 0x21 => .cal
  | 0x22 => .clp
  | 0x30 => .min
  | 0x31 => .reel
  | 0x32 => .fab
  | 0x33 => .spl
  | p => if 0x23 ≤ p ∧ p ≤ 0x2D then .lpe
         else if 0x100 ≤ p then
           (if p < 0x119 then .str0 else if p < 0x132 then .str1 else if p < 0x14B then .str2 else .str3)
         else .aon

/-- The island of the FD1600 page at a cell register address (R610); `CSW_BYPSTAT` is served from AON (R611). -/
def cellIsland (a : Nat) : CIsland :=
  if a = 0x40A8 then .aon else
  match a / 0x1000 with
  | 1 | 2 => .lnk
  | 3 => .meas
  | 4 => .sw
  | 5 => .prot
  | 6 => .sup
  | 7 => .tim
  | 9 => .core
  | _ => .aon

/-- The low words of the 64-bit pairs and groups, each with the offsets of the words a read of it latches (R606).
Log entry 22 (DEDUCED). -/
def unitPairs : List (Fld × List Nat) :=
  [(TIM_NOW_LO.NS_LO, [4, 8]),
   (TIM_BASE_LO.NS_LO, [4, 8]),
   (TIM_PN_LO.PN_LO, [4]),
   (TIM_PCHG_PN_LO.PN_LO, [4]),
   (LPE_SWAPPN_LO.PN_LO, [4]),
   (LPE_CHI_LO.I_LO, [4]),
   (MIN_SYNCPN_LO.PN_LO, [4]),
   (REEL_RBASE_LO.ADDR_LO, [4]),
   (REEL_WBADDR_LO.WB_LO, [4]),
   (LSE_HOVPN_LO.PN_LO, [4]),
   (LSE_HOLDPN_LO.PN_LO, [4]),
   (LSE_MIRPN_LO.PN_LO, [4]),
   (PCIE_VACK_LO.VLO, [4]),
   (NET_MAC_LO.MAC_LO, [4]),
   (PTP_GMID_LO.ID_LO, [4]),
   (PTP_PPSIN_LO.NS_LO, [4]),
   (FLT_LATCH_LO.LATCH, [4]),
   (FLT_FSRC_LO.FSRC, [4]),
   (FLT_CONSQ_LO.CONSQ, [4]),
   (FLT_FIRST_LO.NS, [4]),
   (FLT_GSTAT_LO.RUN, [4]),
   (GEN_SERIAL_LO.SER, [4]),
   (GEN_RSTLATCH_LO.LATCH, [4]),
   (PWR_QTRIPT_LO.NS_LO, [4]),
   (MIN_TTS_LO.NS_LO, [4, 8])]

/-- The low words of the 64-bit pairs and groups, each with the offsets of the words a read of it latches (R606). -/
def cellPairs : List (Fld × List Nat) :=
  [(CTIM_NOW_LO.NS, [4, 8]),
   (CTIM_PN_LO.PN_LO, [4]),
   (CMEAS_INJT_LO.NS, [4, 8]),
   (CSW_LAST_LO.SLOT_LO, [4]),
   (CSW_SW_LO.ON_LO, [4]),
   (CPROT_LEXP_LO.PN_LO, [4]),
   (CPROT_LABD_LO.PN_LO, [4]),
   (CFLT_FIRST_LO.NS, [4]),
   (CGEN_SERIAL_LO.SER, [4])]

/-- Default of `FLT_DCLSn` (R543; the classes of R593 to R596, R651, R652). -/
def dclsDefault : Nat → Nat
  | 0 => 0x1
  | 1 => 0x5
  | 2 => 0x9D9
  | 3 => 0x11
  | 4 => 0x51
  | 5 => 0x155
  | 6 => 0x155
  | 7 => 0x155
  | 8 => 0x155
  | 9 => 0x1
  | 10 => 0x461
  | 11 => 0x1855
  | 12 => 0x156501
  | 13 => 0x229
  | 14 => 0x141
  | 15 => 0x551
  | 16 => 0x555
  | 17 => 0x501
  | 18 => 0x1
  | 19 => 0x951
  | 20 => 0x55
  | 21 => 0x1
  | 22 => 0xD1
  | 23 => 0x571
  | 24 => 0x1
  | _ => 0

/-- Default of `CFLT_DCLSn` (R554; the classes of R597, R598, R653). -/
def cdclsDefault : Nat → Nat
  | 0 => 0xC1
  | 1 => 0x1
  | 2 => 0x15
  | 3 => 0x15
  | 4 => 0x455
  | 5 => 0x45
  | 6 => 0x35
  | 7 => 0x19
  | 8 => 0x15
  | 9 => 0x155
  | 10 => 0x1
  | _ => 0

/-- Default of `FLT_SCFGn`, ESC in bits 21:20 and GRACE in bits 16:0 (R543, R651). -/
def scfgDefault : Nat → Nat
  | 2 => 0x100000 + 100
  | 10 => 0x100000 + 50
  | 11 => 0x100000 + 50
  | 13 => 100
  | 19 => 1
  | 25 | 26 | 27 | 28 => 0x200000 + 1000
  | _ => 1000

end Sys2Proof.Machine
end

