-- ==== Sys2Proof/Machine/State.lean ====
section
/-! DEFINITION. The state of a converter built from the chip set: two FD7200 units and the FD1600 cells on their
strands, plain data throughout. A register is held in the register file of its part under its address (the tables of
RegMapUnit and RegMapCell name every one); what the spec describes beside the registers is a field of its own. -/
namespace Sys2Proof.Machine

/-- What one requester holds: the words latched by its last low-word read, the low word it holds for a pair write, the
word its last read returned, and the result of its last mailbox post or cell write (R606, R479, R495, R103). -/
structure ReqSt where
  latch  : List (Nat × Word) := []
  hold   : Option (Nat × Word) := none
  rdata  : Word := 0
  res : Nat := 0
  deriving DecidableEq, Repr

/-- Why a run stops. No meaning of this model faults: the spec gives every command an effect or an answer. -/
inductive Fault where
  /-- Raised by no command; the type has a constructor so that it can be named. Safe. -/
  | none
  deriving DecidableEq, Repr

/-- Why a command is not carried out. -/
inductive Refusal where
  /-- Raised by a command that has no meaning yet. Safe: the run ends. -/
  | notModelled (mnemonic : String)
  deriving DecidableEq, Repr

/-- The configuration a unit holds beside its registers (R16, R17, R76, R467, R570): arm types, full-bridge cells, path
asymmetries of its own side by cell key in 2^-8 ns, the maintenance keys by slot, and whether the last configuration was
refused. -/
structure ConfSt where
  types      : List Nat := []
  fullBridge : List Nat := []
  asym       : Sparse Int := []
  mkeys      : Sparse Bytes := []
  refused    : Bool := false
  deriving DecidableEq, Repr

/-- Converter time of a unit beside the TIM registers: whether base is set and periods are counted, whether strand
frames have been launched since the power-on reset (R51, R60), the period change the unit has asked for and the one it has
queued for its partner (R62), consecutive periods out of alignment (R55), whether a source has aligned the unit since the
last compute start (R54), and the last rate correction, where corrections go on (R51). -/
structure TimSt where
  baseSet   : Bool := false
  counting  : Bool := false
  launched  : Bool := false
  firstLock : Bool := false
  pchg      : Option (Nat × Nat) := none
  peer      : Option (Nat × Nat) := none
  pchgGo    : Bool := false
  pchgAns   : Bool := false
  pchgIds   : List Nat := []
  misalign  : Nat := 0
  aligned   : Bool := false
  rateAt    : Option Instant := none
  deriving DecidableEq, Repr

/-- What the engine of a strand port has taken for the next frame (R442, R443): transaction IDs in window order, the
window bytes, MGMT, BFLAGS [3:0], whether it is a bulk frame, and an enumeration frame in place of it. -/
structure Prefetch where
  ids    : List Nat := []
  window : Bytes := []
  mgmt   : Bool := false
  bflags : Nat := 0
  bulk   : Bool := false
  enum   : Option Bytes := none
  deriving DecidableEq, Repr

/-- A strand port of a unit beside its STRP registers: its strand and the one it takes at the next boundary (R143), whether it
is new to its strand, own reach and the count its own frame arrived with at the partner, the partner's reach and the count the
partner's frame arrived with, whether the partner's port can relay (R284), an NCELL error found (R133), when
the ECHO in flight left and what MEASURE has (R134), the last status frame received (period, tail-originated, every slot
valid, slots arrived), relay, periods without a fault (R128), frames in the making and in flight and whether the slots cells take
from them are blocked (R263), a RATE entry (R138), the partner's last command frame (R35), lock, and the period from which frames
at a new rate start (R137). -/
structure PortSt where
  strand    : Nat
  newStrand : Option Nat := none
  reach     : Option Nat := none
  arrived   : Option Nat := none
  preach    : Option Nat := none
  parrived  : Option Nat := none
  canRelay  : Bool := false
  moved     : Bool := false
  ncellBad  : Bool := false
  echo      : Option Instant := none
  echoN     : Nat := 0
  echoSum   : Nat := 0
  echoHops  : List Nat := []
  measIds   : List Nat := []
  gotPn     : Option Nat := none
  gotTail   : Bool := false
  gotAll    : Bool := false
  gotN      : Nat := 0
  relay     : Bool := false
  clean     : Nat := 0
  pre       : Prefetch := {}
  built     : Bytes := []
  blk       : Bool := true
  launched  : Option (Instant × Nat × List Nat) := none
  ratePend  : Option (Nat × Nat) := none
  rateOk    : List Nat := []
  partnerCmd : Sparse Nat := []
  partnerPn : Option Nat := none
  lockAt    : Option Instant := none
  wantActive : Bool := false
  rateFrom  : Nat := 0
  rateGo    : Bool := false
  deriving DecidableEq, Repr

/-- What a unit knows of one cell: its last valid status slot and the period it came in, how it came, whether its last slot was
absent (R115), how long it has reported no holder (R412), and whether it has been reset (R454). -/
structure CellView where
  slot    : Bytes := []
  slotPn  : Option Nat := none
  viaSpl  : Bool := false
  absent  : Bool := false
  noHold  : Nat := 0
  clrAt   : Option Nat := none
  gone    : Bool := false
  tags    : List (Nat × Nat × Nat) := []
  deriving DecidableEq, Repr

/-- A Headbox descriptor (R433). -/
structure Desc where
  kind   : Nat
  op     : Nat
  bcast  : Bool
  aftok  : Bool
  timed  : Bool
  strand : Nat
  hop    : Nat
  addr   : Word
  data   : Word
  mask   : Word
  buf    : Nat
  tmo    : Nat
  after  : Nat
  at_    : Nat
  deriving DecidableEq, Repr

/-- How far one addressed cell of a transaction has come (R448, R449, R454). -/
inductive PartSt where
  | unsent
  | sent
  | replied (code : Word) (rdata : Word)
  | missing
  deriving DecidableEq, Repr

/-- A transaction that Headbox holds (R439): its parts are the addressed cells by key. -/
structure Txn where
  id     : Nat
  desc   : Desc
  stamp   : Nat := 0
  subAt   : Instant := 0
  strands : List Nat := []
  parts   : List (Nat × PartSt) := []
  sentOn  : List Nat := []
  tag     : Nat := 0
  age     : Nat := 0
  deriving DecidableEq, Repr

/-- A completion as a port's FIFO holds it (R450, R451). -/
structure Cpl where
  id     : Nat
  status : Nat
  rdata  : Word
  nrep   : Nat
  nfail  : Nat
  nmiss  : Nat
  pn     : Nat
  deriving DecidableEq, Repr

/-- Headbox beside its registers (R439, R447, R451): held transactions in stamp order, the delay list in release
order, completion FIFOs by port, sequence numbers, the IDs each port submitted last, and how they ended. -/
structure HbxSt where
  held   : List Txn := []
  delay  : List Txn := []
  stamp  : Nat := 0
  fifo   : Sparse (List Cpl) := []
  seq    : Sparse Nat := []
  last   : Sparse (List Nat) := []
  ended  : List (Nat × Nat) := []
  deriving DecidableEq, Repr

/-- A resynchronisation being received (R421): the arm, PN m, the records so far, and the unit's own VF and Q of PN m. -/
structure RsRx where
  arm  : Nat
  m    : Nat
  data : Bytes
  own  : List (Word × BitVec 64)
  deriving DecidableEq, Repr

/-- The lease block beside the LSE registers: its own epoch, the largest epoch seen, evidence about the partner for
R407, the hand-over in progress (R413), the ACTIVE output, the partner's configuration digest (R19), the mirror record received and committed (R418), arm digests of the
last computation (R420), and of resynchronisations (R421): arms the partner has asked for, records on their way to it (arm, m,
bytes left, block), arms asked of the partner, own values of recent computations (PN, arm, VF and Q), and blocks received. -/
structure LseSt where
  epoch     : Nat := 0
  seen      : Option Nat := none
  active    : Bool := false
  pactPrev  : Bool := false
  clmNow    : Bool := false
  relNow    : Bool := false
  clmQuiet  : Nat := 0
  partLse   : Nat := 0
  partStby  : Nat := 0
  partHold  : Bool := false
  fenceRx   : Bool := false
  waitAct   : Nat := 0
  waitNof   : Nat := 0
  partReady : Bool := false
  namedAgo  : Option Nat := none
  claimAt   : Option Nat := none
  clmAfter  : Bool := false
  hovP      : Option Nat := none
  hovAcked  : Bool := false
  hovMine   : Bool := false
  lostNow   : Option Nat := none
  validNow  : Bool := false
  ownNow    : Bool := false
  partNow   : Bool := false
  noneNow   : Bool := false
  mirRx     : Option Bytes := none
  mirror    : Bytes := []
  mirSeq    : Nat := 0
  digPrev   : List (Nat × Nat) := []
  cfgdDiff  : Bool := false
  partCfgd  : Option Nat := none
  rsAsk     : List Nat := []
  rsTx      : List (Nat × Nat × Bytes × Nat) := []
  rsWant    : List Nat := []
  rsOwn     : List (Nat × Nat × List (Word × BitVec 64)) := []
  rsRx      : List RsRx := []
  deriving DecidableEq, Repr

/-- Splice beside the SPL registers: periods since the last valid LEASE message, the retired lane to announce, the lane
moves due and the boundary they fall on. -/
structure SplSt where
  silent   : Nat := 2
  announce : Option (Fin 4) := none
  moves    : List (Nat × Nat) := []
  relayReq : List Nat := []
  deriving DecidableEq, Repr

/-- What the health record of the running second counts (R548). -/
structure HealthSt where
  minors  : Nat := 0
  consq   : Nat := 0
  ce      : Nat := 0
  tjmax   : Option Int := none
  spot    : Nat := 0
  spotMis : Nat := 0
  armbits : Sparse Nat := []
  gen     : Nat := 0
  pgen    : Nat := 0
  deriving DecidableEq, Repr

/-- The fault collector beside the FLT registers: the class each line carried at the last cycle, masking windows and the
tokens they have seen since release (R540 to R542), when each grace timer started, expired watchdogs and when each was
last kicked, the source whose escalation waits for its hand-over, and the boundary an escalation reset waits for (R535). -/
structure FltSt where
  seen    : Sparse Nat := []
  masked  : Sparse Nat := []
  graceAt : Sparse Instant := []
  expired : List Nat := []
  kickAt  : Sparse Instant := []
  escWait : Option Nat := none
  rstWait : Option Nat := none
  health  : HealthSt := {}
  deriving DecidableEq, Repr

/-- The SRAM beside the MEM registers: its bytes, the table of rows with correctable errors (row, errors, hour of the
last), rows whose copy runs and whether `MEM_RETREQ` asked for it, rows mapped to spare rows, spare rows taken per macro
(R545, R546), and when the scrub pass in hand began (R544). -/
structure MemSt where
  sram   : Sparse Byte := []
  rows   : List (Nat × Nat × Nat) := []
  copy   : List (Nat × Bool) := []
  mapped : List Nat := []
  used   : Sparse Nat := []
  scrubAt : Instant := 0
  deriving DecidableEq, Repr

/-- One Ream buffer (R473): its bytes, GEN included. -/
structure ReamBuf where
  gen   : Nat := 0
  bytes : Sparse Byte := []
  deriving DecidableEq, Repr

/-- The host interface beside the PCIE and MBX registers: the generation last published and the publication in
progress with its contents once its period has ended, the two Ream buffers, whether a pin waits for a buffer, the OPEN being
verified, whether an OPEN has used the challenge, when LOCKOUT was entered, and the messages that have aged. -/
structure HostSt where
  ream0    : ReamBuf := {}
  ream1    : ReamBuf := {}
  reamGen  : Nat := 0
  reamBusy : Option Nat := none
  reamHeld : Option (Sparse Byte) := none
  pinNext  : Bool := false
  opening  : Option Nat := none
  spent    : Bool := false
  lockAt   : Instant := 0
  aged     : List Nat := []
  deriving DecidableEq, Repr

/-- The configuration space of a PCIe function and its MSI-X table (R459, R460, R466, R492): device ID, MSI-X enable, payload and
read request sizes in bytes, the vectors' mask and pending bits, and the message words of the table by offset. The reset values
are those of the PCIe base specification that R492 names.
Log entry 228 (PRESUMED). -/
structure FnSt where
  device  : Nat
  msix    : Bool := false
  payload : Nat := 128
  readReq : Nat := 512
  masks   : BitVec 64 := 0xFFFFFFFFFFFFFFFF
  pba     : BitVec 64 := 0
  table   : Sparse Word := []
  deriving DecidableEq, Repr

/-- The two PCIe functions of a unit (R459), and the bus master enable of PF1; that of PF0 is `PCIE_LINK.BME0`.
Log entry 228 (PRESUMED). -/
structure PciSt where
  fn0  : FnSt := { device := 0x7200 }
  fn1  : FnSt := { device := 0x7201 }
  bme1 : Bool := false
  deriving DecidableEq, Repr

/-- Whether a unit's ROM has booted an image (R568): no slot was valid, or the supplies are below their thresholds.
Log entry 9 (DEDUCED). -/
inductive Boot where
  | up
  | noImage
  | off
  deriving DecidableEq, Repr

/-- A flash operation in progress (R596): the operation, flash address, SRAM address and length it was given. -/
structure FlsOp where
  op   : Nat
  addr : Nat
  sram : Nat
  len  : Nat
  deriving DecidableEq, Repr

/-- One output of a central input as its consumers see it (R344, R347, R348, R353, R357): v, x in 2^-40 of full scale, te,
when it becomes available, its index since the restart that began run `run`, and the flags CLIP, SETTLE and FLT. -/
structure MinRes where
  v      : Word
  x      : Int
  te     : Instant
  avail  : Instant
  oidx   : Nat
  run    : Nat
  clip   : Bool
  settle : Bool
  flt    : Bool
  deriving DecidableEq, Repr

/-- A central input beside its registers (R349 to R358): the words of `MIN_CHCFG` and `MIN_CHDLY` in force, the anchor of its
decimator and the outputs since, the number of restarts, whether a fault condition stands, its recent outputs, newest
first, and its last valid result. -/
structure MinCh where
  cfg    : Word := 0x190540
  dly    : Word := 0xE6000000
  anchor : Instant := 0
  idx    : Nat := 0
  run    : Nat := 0
  cond   : Bool := false
  hist   : List MinRes := []
  last   : Option MinRes := none
  deriving DecidableEq, Repr

/-- The central inputs beside the MIN registers: the channels, the last eight stamps of each trip input in 125 ps units
(R384), the PNs of converter syncs to come (R351, R352), whether the island has returned from off (R355), and whether from Quiet
(R362). -/
structure MinSt where
  chs    : Sparse MinCh := []
  stamps : Sparse (List Nat) := []
  syncs  : List Nat := []
  back   : Bool := false
  qback  : Bool := false
  deriving DecidableEq, Repr

/-- A mark to be written (R385): TIME in ns, QUAL, FRAC, SRC kind and number, STOP, DIR, VALUE, its POST, and the period in
whose set it stands. -/
structure Mark where
  time  : Nat
  qual  : Nat
  frac  : Nat
  kind  : Nat
  num   : Nat
  stop  : Bool
  fall  : Bool
  value : Word
  post  : Nat
  pn    : Nat
  deriving DecidableEq, Repr

/-- A pair on which a crossing detector has fired, to be placed at the period close (R384). -/
structure Fired where
  trig : Nat
  fall : Bool
  r0   : MinRes
  r1   : MinRes
  deriving DecidableEq, Repr

/-- A record in staging (R369, R394): its type, PN, SUB, RFLAGS and payload, whether it is the last of its set (R368), and
whether it stands in the reserve. -/
structure ReelRec where
  rtype : Nat
  pn    : Nat
  sub   : Nat
  flags : Nat
  body  : Bytes
  last  : Bool
  spare : Bool
  deriving DecidableEq, Repr

/-- Periods dropped in a row (R396): first with its RFLAGS, last, number, marks and event entries lost. -/
structure ReelGap where
  first : Nat
  flags : Nat
  last  : Nat
  nper  : Nat
  nmark : Nat
  nevt  : Nat
  deriving DecidableEq, Repr

/-- What a period leaves for its close at the boundary that ends it (R370, R372): PN, t0, T, RFLAGS, the status byte and the
epoch of PERIOD, and the CELLS, LOOP and ARMS payloads by SUB.
Log entry 208 (DEDUCED). -/
structure ReelSnap where
  pn    : Nat
  t0    : Instant
  t     : Nat
  flags : Nat
  stat  : Nat
  epoch : Nat
  cells : List (Nat × Bytes)
  loop  : Bytes
  arms  : Bytes
  deriving DecidableEq, Repr

/-- Whether an envelope mask is armed, and its runs of periods outside and inside (R390). -/
structure MaskSt where
  armed : Bool := true
  out   : Nat := 0
  inn   : Nat := 0
  deriving DecidableEq, Repr

/-- Reel beside the REEL registers (R371 to R396): START accepted for the next boundary, whether the first set is due, HALT
or another end with the next close by its cause, the end that governs POSTING (ENDPN, cause, number), the trigger and
mask registers in force, armed detectors by trigger (bit 0 rising, bit 1 falling), masks, fired pairs, marks and event
stamps waiting, event sources raised at the last collector cycle, the period that waits for its close, the last period
closed, staging oldest first, the gap in progress, marks since START, a LINK end whose STOP record waits for the
link, and whether the unit held the lease at t0 of the last periods, by PN (R369). -/
structure ReelSt where
  start    : Bool := false
  fresh    : Bool := false
  ending   : Option Nat := none
  stopAt   : Option (Nat × Nat × Nat) := none
  eff      : Sparse Word := []
  det      : Sparse Nat := []
  masks    : Sparse MaskSt := []
  fired    : List Fired := []
  marks    : List Mark := []
  events   : List (Nat × Instant) := []
  raised   : List Nat := []
  snap     : Option ReelSnap := none
  closed   : Nat := 0
  staging  : List ReelRec := []
  gap      : Option ReelGap := none
  markSeq  : Nat := 0
  linkStop : Option (Nat × Nat) := none
  held     : List (Nat × Bool) := []
  deriving DecidableEq, Repr

/-- The states of one bank of a loop channel (R308, R315), binary64: integrator, resonant terms, output filter. -/
structure BankSt where
  i   : BitVec 64 := 0
  r1a : BitVec 64 := 0
  r1b : BitVec 64 := 0
  r2a : BitVec 64 := 0
  r2b : BitVec 64 := 0
  fa  : BitVec 64 := 0
  fb  : BitVec 64 := 0
  deriving DecidableEq, Repr

/-- A swap request (R316): channel, bank, N, effective PN, and whether it is the last request written. -/
structure SwapReq where
  ch   : Nat
  bank : Nat
  n    : Nat
  pn   : Nat
  last : Bool
  deriving DecidableEq, Repr

/-- A loop channel beside its registers: its banks, whether its enable is in force, its enable has been cleared since the last
boundary and its first computation is due (R333), the words of `LPE_CHCFG`, `LPE_CHSRC1` and `LPE_CHSRC2` in force, N of its
fade, swaps whose effective PN has come (R307, R317), and whether each threshold of R328 has acted.
Log entry 210 (DEDUCED). -/
structure ChanSt where
  b0     : BankSt := {}
  b1     : BankSt := {}
  on     : Bool := false
  cleared : Bool := false
  start  : Bool := false
  cfg    : Word := 0
  src1   : Word := 0
  src2   : Word := 0
  fadeN  : Nat := 0
  due    : List SwapReq := []
  warned : Bool := false
  failed : Bool := false
  deriving DecidableEq, Repr

/-- The loop engines beside the LPE registers: channels, queued swaps in the order written, committed setpoints and commits to
come by PN (R326), groups that have formed an output since their enable (R322), moves due (channel, engine: R330, R331),
the channel the next spot check takes and checks to be repeated (channel, first spare, engine: R329, R330), the demand and the
forecasts of each arm (R311, R312), the outputs of the period before, and whether the unit has not entered Run since its last
reset (R335). -/
structure LpeSt where
  chs     : Sparse ChanSt := []
  queue   : List SwapReq := []
  setp    : Sparse Word := []
  commits : List (Nat × List (Nat × Word)) := []
  groups  : List Nat := []
  moves   : List (Nat × Nat) := []
  spot    : Nat := 0
  again   : List (Nat × Nat × Nat) := []
  dem     : Sparse Word := []
  fc      : Sparse (List Word) := []
  prev    : Sparse Word := []
  fresh   : Bool := true
  deriving DecidableEq, Repr

/-- A sample of a sampled-value stream (R510, R511): smpCnt, its instant, its receive stamp, and the values delivered. -/
structure SvSample where
  cnt  : Nat
  at_  : Instant
  rx   : Instant
  vals : List Word
  deriving DecidableEq, Repr

/-- A sampled-value stream: the last 64 samples, newest received first, smpCnt and stamp of the samples of the last second
(R512), and when the last valid sample came (R514). -/
structure SvSt where
  samples : List SvSample := []
  seen    : List (Nat × Instant) := []
  validAt : Instant := 0
  deriving DecidableEq, Repr

/-- A GOOSE subscription beside its registers (R518): stNum and sqNum of the last message accepted, and when its
timeAllowedtoLive ends. -/
structure GsSt where
  st     : Nat := 0
  sq     : Nat := 0
  talEnd : Instant := 0
  deriving DecidableEq, Repr

/-- A GOOSE publication that is being sent (R516): sqNum of the next copy, when it is due, the interval before it in ms, the time of
the new state's launch (of its write until the first copy leaves), and whether a copy has left. -/
structure GpSt where
  sq    : Nat
  due   : Instant
  ival  : Nat
  start : Instant
  sent  : Bool := false
  deriving DecidableEq, Repr

/-- A frame in a launch queue (R521 to R523): its ID, bytes, AT in ns, and whether its AT had passed when it reached the head. -/
structure TxItem where
  id    : Nat
  bytes : Bytes
  at_   : Nat
  late  : Bool
  deriving DecidableEq, Repr

/-- A frame the unit itself sends on a station port: a copy of a publication with its sqNum (R516), a Pdelay_Req by its sequence
number, or a Pdelay_Resp by sequence number, requester and stamp of the request (R502). -/
inductive NetJob where
  | goose (n sq : Nat)
  | pdReq (seq : Nat)
  | pdResp (seq src : Nat) (rx : Instant)
  deriving DecidableEq, Repr

/-- An entry of the firmware receive ring (R500): frame, port and stamp. -/
structure RxEntry where
  bytes : Bytes
  port  : Nat
  at_   : Instant
  deriving DecidableEq, Repr

/-- The station ports beside the NET registers: streams, subscriptions, publications in progress, launch queues by port, the
frame each port is sending and when it left, completions (ID, status, egress stamp) oldest first, the last ID given,
the mode each port was last enabled with (R497), the unit's own frames that wait for their port, and the receive ring by
entry with whether it is full. -/
structure NetSt where
  sv     : Sparse SvSt := []
  gs     : Sparse GsSt := []
  gp     : Sparse (Option GpSt) := []
  tx     : Sparse (List TxItem) := []
  busy   : Sparse (Option (TxItem × Instant)) := []
  cpl    : List (Nat × Nat × Nat) := []
  lastId : Nat := 0
  mode   : Sparse Nat := []
  wait   : Sparse (List NetJob) := []
  ring   : Sparse (Option RxEntry) := []
  rxFull : Bool := false
  deriving DecidableEq, Repr

/-- A master heard on a PTP port (R501): the identity of the sending port, the grandmaster, priority1, clock class, accuracy,
variance, priority2, stepsRemoved, and when its last two Announce messages came. -/
structure PtpMaster where
  src   : Nat
  gm    : Nat
  p1    : Nat
  cls   : Nat
  acc   : Nat
  var   : Nat
  p2    : Nat
  steps : Nat
  last  : Instant
  prev  : Option Instant
  deriving DecidableEq, Repr

/-- A PTP port (R501, R502): masters heard, the sequence number of Pdelay_Req and the one in flight with its
stamp, twice the mean path delay in 2^-16 ns, and a two-step Sync that waits for its Follow_Up (sequence number, stamp,
correction). -/
structure PtpPort where
  masters : List PtpMaster := []
  seq     : Nat := 0
  asked   : Bool := false
  req     : Option (Nat × Instant) := none
  mpd2    : Option Int := none
  sync    : Option (Nat × Instant × Int) := none
  deriving DecidableEq, Repr

/-- PTP beside its registers (R503 to R505): its ports, the master selected (port and sender), the grandmaster last selected,
twice the offsets since lock was last sought, newest first, outliers in a row, and the last accepted Sync. -/
structure PtpSt where
  ports  : Sparse PtpPort := []
  master : Option (Nat × Nat) := none
  gm     : Option Nat := none
  offs   : List Int := []
  outl   : Nat := 0
  syncAt : Instant := 0
  deriving DecidableEq, Repr

/-- The power state of a cell (R250); Run and Blocked are both `on` and differ in the holds of R212. -/
inductive CPow where
  | off
  | idle
  | on
  | dormant
  deriving DecidableEq, Repr

/-- A leg state of the switching stage (R186). -/
inductive Leg where
  | off
  | up
  | lo
  deriving DecidableEq, Repr

/-- A change of a leg: its scheduled instant, the leg state it goes to, the cell state it belongs to, and the instant
from which it is held (R200). -/
structure Chg where
  at_  : Instant
  leg  : Leg
  code : Nat
  held : Instant
  deriving DecidableEq, Repr

/-- One leg: the state it is commanded to, changes that have not taken effect, gates called for and when they are due
(R197), and of a refresh in progress its start, the end of the lower gate's pulse and the dead time (R201, R203). -/
structure LegSt where
  cmd   : Leg := .off
  sched : List Chg := []
  calls : List (Instant × Leg) := []
  refr  : Option (Instant × Instant × Nat) := none
  deriving DecidableEq, Repr

/-- The command adopted for the next boundary (R191): its slot, none where no slot has ever been executed, whether it is
a coast (R230), the adoption instant. -/
structure Adopt where
  slot  : Option Nat
  coast : Bool
  at_   : Instant
  deriving DecidableEq, Repr

/-- The switching stage beside the CSW registers: the legs; the cell state commanded by the end of what has been
scheduled and the zero pair in use (R188), and the scheduled instant of the change that `CSW_STATE.CSTATE` shows; when each gate last turned on, and since when it has been on; the adopted
command; whether a slot has been adopted and one executed since the last reset, and `CSW_CFG` taken since (R192, R214,
R628); what was in force
before the running boundary (R654); the commit due (R208); the carrier transfer: PER, DUTY and Q, and the grid's start
after Q (R210). -/
structure SwSt where
  leg1    : LegSt := {}
  leg2    : LegSt := {}
  last    : Nat := 3
  zup     : Bool := false
  codeAt  : Instant := 0
  onAt    : Sparse (Option Instant) := []
  lastOn  : Sparse (Option Instant) := []
  adopted : Option Adopt := none
  ever    : Bool := false
  ran     : Bool := false
  cfgDone : Bool := false
  cfgPend : Option Word := none
  oldDt   : Word := 0xFA0
  oldMinp : Word := 0x1770
  oldRefr : Word := 0x7D01F40
  cmtNext : Bool := false
  xfer    : Option (Nat × Word × Instant) := none
  gridAt  : Option Instant := none
  deriving DecidableEq, Repr

/-- What a cell has accepted for the boundary of period `pn` (R97 to R100): the slots of the frames from the two sides,
the BFLAGS of frames whose CRC-32 was correct, and whether a STOP has come since the last of them with DEBLOCK (R120). -/
structure AccSt where
  pn    : Nat := 0
  slotA : Option Nat := none
  slotB : Option Nat := none
  flags : Nat := 0
  stopped : Bool := false
  deriving DecidableEq, Repr

/-- Cell time beside the CTIM registers: t0 of the running period; of this period's accepted frames on each side the arrival
error and whether the PN passes R64 (R73, R77); the error of this period's last command frame on each side (R74); the
differences in the filter of the cross-check, newest first (R80); whether the time port has corrected in the period, and
whether the last period had no accepted frame. -/
structure CTimSt where
  t0    : Instant := 0
  seenA : Option (Int × Bool) := none
  seenB : Option (Int × Bool) := none
  errA  : Option Int := none
  errB  : Option Int := none
  xdiff : List Int := []
  done  : Bool := false
  none_ : Bool := false
  deriving DecidableEq, Repr

/-- One strand port of a cell beside its CLNK page: when it last lost lock (R138, R252), the rate of its search and when
that began (R251), periods without a status header, consecutive periods with a good one, and what the running period
has brought (R114, R116), the fault sets acted on among it (R119). -/
structure CLnkSt where
  lostAt  : Option Instant := some 0
  search  : Bool := true
  srchLow : Bool := false
  srchAt  : Instant := 0
  quiet   : Nat := 0
  good    : Nat := 0
  seen    : Bool := false
  goodNow : Bool := false
  acted   : List (Nat × Nat) := []
  deriving DecidableEq, Repr

/-- A reply waiting in a cell (R105): requester, tag, RDATA and RERR, the period in which its entry was executed, and whether it
answers a RESET entry that will be made (R656).
Log entry 186 (DEDUCED). -/
structure Reply where
  req   : UnitId
  tag   : Nat
  rdata : Word
  rerr  : Bool
  pn    : Nat
  reset : Bool := false
  deriving DecidableEq, Repr

/-- A strand-commanded reset whose reply has been latched (R656): the period of the latch, T − 0.3 µs of that period, and in
which status frames the reply has left.
Log entry 186 (DEDUCED). -/
structure RstPend where
  pn  : Nat
  due : Instant
  toA : Bool := false
  toB : Bool := false
  deriving DecidableEq, Repr

/-- One measurement channel beside the CMEAS registers (R156 to R167): its anchor, outputs still to pass over, whether it
has a valid result and its effective instant, the outputs for the median, window starts waiting, an injection (preset
and start), an injected result for the next latch, whether a sync, a change under R154 or the first Locked boundary has
set its anchor (R157), and whether it waits for a window start after a sync (R166).
Log entry 197 (DEDUCED). -/
structure ChSt where
  anchor : Instant := 0
  pass   : Nat := 7
  valid  : Bool := false
  eff    : Instant := 0
  hist   : List Int := []
  starts : List Instant := []
  inj    : Option (Nat × Instant) := none
  injRes : Option (Int × Instant) := none
  anch   : Bool := false
  wait   : Bool := false
  deriving DecidableEq, Repr

/-- Spare-slice rotation beside `CMEAS_ROT` (R173 to R179): the target of the next step, disagreements on it, the target
under doubt after a second one, the due instant of a deferred swap, whether a swap follows agreement or a takeover
without comparison, and when the last step started; the spare's main decimator, which runs on the anchor of its target:
outputs still to pass over, outputs for the median; the differences compared, newest first, the instant of the last of
them or of a takeover's settling, and when an injected result that deferred a swap was ready. -/
structure RotSt where
  next   : Nat := 0
  fails  : Nat := 0
  doubt  : Option Nat := none
  due    : Option Instant := none
  agreed : Bool := false
  take   : Bool := false
  stepAt : Instant := 0
  pass   : Nat := 0
  hist   : List Int := []
  diffs  : List Int := []
  doneAt : Instant := 0
  injAt  : Option Instant := none
  deriving DecidableEq, Repr

/-- The ALIVE pin of a cell (R237 to R239): not driven, driven low after a stop condition, or toggling since an instant, 50 µs
high, then 50 µs low. -/
inductive AlivePin where
  | undriven
  | low
  | toggles (since : Instant)
  deriving DecidableEq, Repr

/-- Local protection beside the CPROT registers: since when each source has been active and effective (R226), the orphan's
expiry and boundaries since (R231, R234), whether a latch waits to be shown in a status (R222), the ALIVE pin, when CORE last
started, from which its watchdog counts (R238), and when its boot steps after a reset or a wake began (R579). -/
structure CProtSt where
  since  : Sparse (Option Instant) := []
  orphAt : Instant := 0
  orphN  : Nat := 0
  tripNew : Bool := false
  alive  : AlivePin := .toggles 0
  coreAt : Instant := 0
  bootAt : Instant := 0
  deriving DecidableEq, Repr

/-- The self-supply controller beside the CSUP registers: SSDRV on, when its on-time or off-time began, whether no off-time runs,
VAUX in mV as last seen, whether it is stopped above VOV, soft-start start, a hold-up measurement requested or running with its first VAUX result and start. -/
structure SupSt where
  drv    : Bool := false
  since  : Instant := 0
  ready  : Bool := true
  vaux   : Nat := 0
  ovStop : Bool := false
  ssAt   : Instant := 0
  huReq  : Bool := false
  hu     : Option (Int × Instant) := none
  deriving DecidableEq, Repr

/-- The cell's fault collector beside the CFLT registers: the class each line carried at the last cycle, masked sources
with the tokens seen since release, grace starts, and collector cycles whose timers are stopped. -/
structure CFltSt where
  seen    : Sparse Nat := []
  masked  : Sparse Nat := []
  graceAt : Sparse Instant := []
  deriving DecidableEq, Repr

/-- FRAM and core memory of a cell: event ledger and ring ledger, oldest first, the entry being appended (R550, R551),
the SRAM, in which the download buffer lies (R8), whether a verified patch waits for the boundary (R578), whether a RELOAD does (R182), the time in Run or Blocked, that of the last daily entry, and the highest TEMP since then,
in half degrees (R550).
Log entry 187 (DESIGN CHOICE). -/
structure CMemSt where
  event  : List Bytes := []
  ring   : List Bytes := []
  append : Option (Bool × Bytes) := none
  queue  : List (Bool × Bytes) := []
  sram   : Sparse Byte := []
  patch  : Bool := false
  reload : Bool := false
  opTime : Nat := 0
  dailyAt : Nat := 0
  tempMax : Option Int := none
  deriving DecidableEq, Repr

/-- What the FRAM and the records made from it keep over a reset of the cell. -/
def CMemSt.kept (m : CMemSt) : CMemSt :=
  { event := m.event, ring := m.ring, opTime := m.opTime, dailyAt := m.dailyAt, tempMax := m.tempMax }

/-- The test access port of a part (R646 to R649): instruction register, the data register as last captured, the boundary
register as last loaded, and the data of the last FLASHPROG read.
Log entry 60 (PRESUMED). -/
structure JtagSt where
  ir  : Nat := 1
  dr  : Nat := 0
  bsr : Nat := 0
  rd  : Word := 0
  deriving DecidableEq, Repr

/-- One FD1600: its key, registers and blocks, replies and the latched status, the RATE entry that waits and the instant from
which frames at a new rate start (R137), whether it has stayed in Idle since a reset or a wake (R250), whether
measurement leaves Idle at the next boundary (R183), the side whose ASSIGN gave its hop index (R132), writes that wait for the boundary, the challenges it holds by unit, oldest first, its pages disabled at the last token,
and the test access port.
Log entries 181 (DEDUCED), 188 (DEDUCED), 198 (DEDUCED). -/
structure CellSt where
  key   : Nat
  regs  : Sparse Word := []
  reqs  : Sparse ReqSt := []
  out   : List COut := []
  free  : Nat := 0
  pow   : CPow := .idle
  tim   : CTimSt := {}
  lnkA  : CLnkSt := {}
  lnkB  : CLnkSt := {}
  hdr   : Nat × Nat × Nat := (0, 0, 0)
  acc   : AccSt := {}
  sw    : SwSt := {}
  chs   : Sparse ChSt := []
  rot   : RotSt := {}
  prot  : CProtSt := {}
  sup   : SupSt := {}
  flt   : CFltSt := {}
  mem   : CMemSt := {}
  replies : List Reply := []
  status  : Option (Nat × Bytes) := none
  nocmd   : Bool := false
  rstPend : Option RstPend := none
  rate    : Option (Nat × Nat) := none
  rateFrom : Instant := 0
  waking  : Bool := true
  resume  : Bool := false
  hopSide : Option Side := none
  bpend   : List (Nat × Word) := []
  sync    : Bool := false
  chal    : List (UnitId × Bytes) := []
  disabled : List Nat := []
  jtag  : JtagSt := {}
  deriving DecidableEq, Repr

/-- A value: not a number, an infinity, or a signed fraction; the sign of a zero is kept. -/
inductive Val where
  | nan
  | inf (neg : Bool)
  | fin (neg : Bool) (n d : Nat)
  deriving DecidableEq, Repr

/-- A sub-step integrated into a record (R265): its PN, start and end, the mean current, VF and Q at its end, and the gates of
the reconstructed stage from each instant on: bits 3:0 as `CSW_STATE.GATES`, bit 4 the fired bypass. -/
structure ClpSub where
  pn    : Nat
  from_ : Instant
  to_   : Instant
  cur   : Val
  vf    : Word
  q     : BitVec 64
  segs  : List (Instant × Nat)
  deriving DecidableEq, Repr

/-- A record as it stood when its front crossed the boundary of period `pn`: VF, Q, the reconstructed stage and the slot it
last executed. -/
structure ClpMark where
  pn  : Nat
  vf  : Word
  q   : BitVec 64
  sw  : CellSt
  ran : Nat
  deriving DecidableEq, Repr

/-- A Caliper record (R258) beside its words: whether C and ESR are kept at the next seeding (R272, R298), C and ESR last
written under `CLP_CMD`, the instant of TLAST, whether a pair is open (R278), the last 40 sub-steps, newest first, the
codes for the boundaries to come by PN (a slot of R96, or one of 2^40 all gates off, 2^41 bypass fired, 2^42 the slot
executed before: R263), and the reconstructed switching stage at the front. -/
structure ClpRec where
  seeded   : Bool := false
  stale    : Bool := false
  unreach  : Bool := false
  retired  : Bool := false
  retpend  : Bool := false
  warn     : Bool := false
  chkfail  : Bool := false
  hold     : Bool := false
  fxcl     : Bool := false
  toggle   : Bool := false
  ins      : Bool := false
  neg      : Bool := false
  outcnt   : Nat := 0
  stalecnt : Nat := 0
  chkcnt   : Nat := 0
  vf       : Word := 0
  vx       : Word := 0
  c        : Word := 0
  esr      : Word := 0
  esrt     : Word := 0
  q        : BitVec 64 := 0
  va       : Word := 0
  qa       : BitVec 64 := 0
  tlast    : Instant := 0
  wear     : Nat := 0
  rcnt     : Nat := 0
  chkd     : Word := 0
  vm       : Word := 0
  keep     : Bool := false
  given    : Option (Word × Word) := none
  pair     : Bool := false
  hist     : List ClpSub := []
  codes    : List (Nat × Nat) := []
  sw       : CellSt
  ran      : Nat := 3
  mark     : Option ClpMark := none
  deriving DecidableEq, Repr

/-- A `CLP_CMD` operation that waits for the computation of period `pn` (R282, R300), with C and ESR of a seed, and whether it
was written here. -/
structure ClpOp where
  op  : Nat
  key : Nat
  c   : Word
  esr : Word
  pn  : Nat
  own : Bool
  deriving DecidableEq, Repr

/-- A measurement hold whose result Caliper awaits (R276): arm, cell, first hold period and length in periods. -/
structure ClpMeas where
  arm : Nat
  key : Nat
  pn0 : Nat
  n   : Nat
  deriving DecidableEq, Repr

/-- Caliper beside the CLP registers: the records by cell key, the periods whose sub-steps may still be integrated (PN, t0,
sub-step length) in order, the next sub-step of each arm as 10 × PN + j, forecasts by the PN they are for (R271), arms whose
input is in fault (R266), operations and holds that wait, the PN of the last computation, and whether the records are still
those of the last reset (R298). -/
structure ClpSt where
  recs  : Sparse ClpRec := []
  spans : List (Nat × Instant × Nat) := []
  front : Sparse Nat := []
  fcs   : List (Nat × Sparse (List Word)) := []
  iarm  : List Nat := []
  cmds  : List ClpOp := []
  meas  : List ClpMeas := []
  done  : Option Nat := none
  fresh : Bool := true
  deriving DecidableEq, Repr

/-- The carry state of an arm (R297, R419): whether the arm has started, whether it has not yet run since (R298), ε in 2^-16 ns,
the toggle cell as an arm-local index and its periods, form E, discharging, negative polarity, A of the period before as a
fraction, the held cell and the hold periods that remain, the last cell held (0x7FF: none) and the periods since the last hold start. -/
structure Carry where
  on    : Bool := false
  first : Bool := true
  eps   : Int := 0
  tog   : Option Nat := none
  tcnt  : Nat := 0
  formE : Bool := false
  dis   : Bool := false
  neg   : Bool := false
  prevA : Option (Nat × Nat) := none
  held  : Option Nat := none
  rem   : Nat := 0
  last  : Nat := 0x7FF
  since : Nat := 65535
  deriving DecidableEq, Repr

/-- Calender beside the CAL registers: the command slots of the last computation by cell key (an unlisted cell's slot is
blocked, BSTATE 0b11), the slots of the period before, whether those are sent with BSTATE 0b11 because a deadline was missed (R274), the arm aggregates
of R305 in binary32 by arm, the carry state of each arm, and the exclusions written since the last run (R299). -/
structure CalSt where
  slots : Sparse Nat := []
  prev  : Sparse Nat := []
  late  : Bool := false
  agg   : Sparse (List Word) := []
  carry : Sparse Carry := []
  fx    : List (Nat × Bool) := []
  deriving DecidableEq, Repr

/-- One FD7200: its registers and blocks, the pages whose EN was 0 at the last period token, the boot, flash, the verification
and flash operation in progress, when the holdover began (R643), whether Quiet is due at the next boundary (R586), whether
a trip input has changed in the present Quiet (R362), and the test access port.
Log entry 207 (DEDUCED). -/
structure UnitSt where
  id    : UnitId
  regs  : Sparse Word := []
  reqs  : Sparse ReqSt := []
  out   : List Out := []
  free  : Nat := 0
  conf  : ConfSt := {}
  tim   : TimSt := {}
  ports : Sparse PortSt := []
  views : Sparse CellView := []
  hbx   : HbxSt := {}
  lse   : LseSt := {}
  spl   : SplSt := {}
  flt   : FltSt := {}
  mem   : MemSt := {}
  host  : HostSt := {}
  pci   : PciSt := {}
  clp   : ClpSt := {}
  cal   : CalSt := {}
  mins  : MinSt := {}
  reel  : ReelSt := {}
  lpe   : LpeSt := {}
  net   : NetSt := {}
  ptp   : PtpSt := {}
  disabled : List Nat := []
  boot  : Boot := .up
  flash : Sparse Byte := []
  verif : Option Bool := none
  fls   : Option FlsOp := none
  clkAt : Instant := 0
  quietDue : Bool := false
  quietTrip : Bool := false
  jtag  : JtagSt := {}
  deriving DecidableEq, Repr

/-- The converter, and the queue of commands, first in, first out. -/
structure State where
  a       : UnitSt
  b       : UnitSt
  cells   : Sparse CellSt := []
  pending : List Instr := []
  deriving DecidableEq, Repr

/-- A strand port after a power-on reset: ports 0 to 95 carry the strand of their number, ports 96 to 99 none (R144). -/
def PortSt.reset (p : Nat) : PortSt := { strand := if p < 96 then p else 0x7F }

/-- A unit after a power-on reset.
Log entries 8 (DESIGN CHOICE), 9 (DEDUCED). -/
def UnitSt.reset (u : UnitId) : UnitSt := { id := u }

/-- A cell after a power-on reset.
Log entries 6 (DESIGN CHOICE), 8 (DESIGN CHOICE). -/
def CellSt.reset (k : Nat) : CellSt := { key := k }

/-- The converter after power-on: every register at its reset value, nothing listed, no command waiting. -/
def State.reset : State := { a := .reset .a, b := .reset .b }

end Sys2Proof.Machine
end

