-- ==== Sys2Proof/Machine/Ops.lean ====
section
/-! DEFINITION. The named operations over the state: sparse tables, register words and fields, counters, error and
event bits, access to a part by name. -/
namespace Sys2Proof.Machine

/-! Sparse tables. -/

/-- Reads key `k`; an unlisted key reads as `d k`. -/
def sget {α : Type} (d : Nat → α) : Sparse α → Nat → α
  | [], k => d k
  | (j, v) :: m, k => if j = k then v else sget d m k

/-- Leaves out key `k`, or lists `v` at it, before the first key above it. -/
def sput {α : Type} (out : Bool) : Sparse α → Nat → α → Sparse α
  | [], k, v => if out then [] else [(k, v)]
  | (j, w) :: m, k, v =>
    if k = j then (if out then sput out m k v else (k, v) :: m)
    else if out || decide (j < k) then (j, w) :: sput out m k v
    else (k, v) :: (j, w) :: m

/-- Writes key `k`, keeping the keys rising and listing no default value. -/
def sset {α : Type} [DecidableEq α] (d : Nat → α) (m : Sparse α) (k : Nat) (v : α) : Sparse α :=
  sput (decide (v = d k)) m k v

/-- Every listed key is above `lo`, keys rise, and no entry equals its default. -/
def sortedFrom {α : Type} [DecidableEq α] (d : Nat → α) : Nat → Sparse α → Bool
  | _, [] => true
  | lo, (j, v) :: m => decide (lo ≤ j) && decide (v ≠ d j) && sortedFrom d (j + 1) m

/-- The canonical form of a sparse table. -/
def swf {α : Type} [DecidableEq α] (d : Nat → α) (m : Sparse α) : Bool := sortedFrom d 0 m

/-! Numbers. -/

/-- The signed value of the low `w` bits of `n`. -/
def toInt (w n : Nat) : Int :=
  let m := n % 2 ^ w
  if m < 2 ^ (w - 1) then (m : Int) else (m : Int) - (2 ^ w : Nat)

/-- The two's-complement `w`-bit pattern of `z`. -/
def ofInt (w : Nat) (z : Int) : Nat := (z % (2 ^ w : Nat)).toNat

/-- Clamps `z` into `lo` to `hi`. -/
def clampInt (lo hi z : Int) : Int := if z < lo then lo else if hi < z then hi else z

/-- 0 or 1. -/
def b2n (b : Bool) : Nat := if b then 1 else 0

/-- Adds one, staying at the largest value of `w` bits (R144, R604: saturating counters). -/
def satInc (w n : Nat) : Nat := if n + 1 < 2 ^ w then n + 1 else 2 ^ w - 1

/-- Bit `i` of `n`. -/
def bitAt (n i : Nat) : Bool := n.testBit i

/-- The bits set in `m` are set in the result. -/
def orBit (n i : Nat) : Nat := n ||| (1 <<< i)

/-- The bit numbers below `w` that are set in `n`, rising. -/
def bitsOf (w n : Nat) : List Nat := (List.range w).filter (fun i => n.testBit i)

/-! Fields of a register word. -/

/-- Copy `i` of field `f` in the word `w`. -/
def Fld.get (f : Fld) (w : Word) (i : Nat) : Nat := (w.toNat >>> f.lo i) % 2 ^ f.width

/-- The word `w` with copy `i` of field `f` set to `v` (its low bits). -/
def Fld.put (f : Fld) (w : Word) (i v : Nat) : Word :=
  (w &&& ~~~(BitVec.ofNat 32 ((2 ^ f.width - 1) <<< f.lo i))) |||
    BitVec.ofNat 32 ((v % 2 ^ f.width) <<< f.lo i)

/-! Reset values (R604, R607, R610 and the rules the reset columns cite). -/

/-- The page that holds address `a`, if any. -/
def pageOf (ps : List PageInfo) (a : Nat) : Option PageInfo :=
  ps.find? (fun p => decide (p.base ≤ a) && decide (a < p.base + p.insts * 0x1000))

/-- The header registers of a page at reset (R599). -/
def headerReset (part : Nat → Word) (p : PageInfo) (a : Nat) : Word :=
  match a % 0x1000 with
  | 0x000 =>
    let n := (a - p.base) / 0x1000
    BitVec.ofNat 32 (p.type * 0x10000 + n)
  | 0x004 => part a &&& (if p.base = 0 then 0xFFFFFF else 0xFFFF)
  | 0x008 => BitVec.ofNat 32 (p.errn * 256 + p.evtn)
  | 0x00C => 1
  | _ => 0

/-- The OR of the reset values of the fields of a page that stand at `a`. -/
def fieldsReset (fs : List Fld) (a : Nat) : Nat :=
  fs.foldl (fun w f => if f.reset != 0 && f.covers a then w ||| f.resetBits else w) 0

/-- A unit's register words after a power-on reset (R604).
Log entry 17 (DESIGN CHOICE). -/
def unitReset (u : UnitId) (a : Nat) : Word :=
  if 0x100040 ≤ a ∧ a < 0x164000 ∧ a % 0x1000 = 0x040 then
    let s := (a - 0x100000) / 0x1000
    BitVec.ofNat 32 (fieldsReset fieldsSTRP a) ||| BitVec.ofNat 32 (if s < 96 then s else 0x7F)
  else if 0x23070 ≤ a ∧ a ≤ 0x230CC then
    let m := (a - 0x23070) / 4
    BitVec.ofNat 32 ((4 * m) + (4 * m + 1) * 2 ^ 8 + (4 * m + 2) * 2 ^ 16 + (4 * m + 3) * 2 ^ 24)
  else if 0x3100 ≤ a ∧ a ≤ 0x31FC then BitVec.ofNat 32 (scfgDefault ((a - 0x3100) / 4))
  else if 0x3200 ≤ a ∧ a ≤ 0x32FC then BitVec.ofNat 32 (dclsDefault ((a - 0x3200) / 4))
  else if 0x400 ≤ a ∧ a ≤ 0x7FF then Config.unitPart u a
  else
    match a with
    | 0x40 => (Config.serial u).truncate 32
    | 0x44 => ((Config.serial u) >>> 32).truncate 32
    | 0x32010 => if u = .b then (LSE_STAT.UNIT.put 0 0 1) else 0
    | 0x33044 => BitVec.ofNat 32 0x0202
    | 0x14048 => ((Config.netMac u).truncate 32)
    | 0x1404C => ((Config.netMac u) >>> 32).truncate 32
    | 0x58 => (Config.unitPart u a &&& 1) ||| BitVec.ofNat 32 (fieldsReset fieldsGEN a)
    | 0x98 => Config.unitPart u a &&& 0x7FF
    | 0x5040 => Config.unitPart u a &&& 3
    | 0x6040 | 0x6044 => Config.unitPart u a &&& 0xFE000000
    | 0x7054 => BitVec.ofNat 32 ((List.range 48).foldl (fun n m => n + min 32 (Config.spareRows u m)) 0)
    | 0x5C | 0x5044 | 0x5048 | 0x504C | 0x5050 | 0x5054 | 0x5058 | 0x505C | 0x5060 | 0x5064
    | 0x5068 | 0x506C | 0x5070 | 0x5074 | 0x6048 | 0x604C => Config.unitPart u a
    | _ =>
      match pageOf unitPages a with
      | none => 0
      | some p =>
        if a % 0x1000 < 0x040 then headerReset (Config.unitPart u) p a ||| BitVec.ofNat 32 (fieldsReset p.fields a)
        else BitVec.ofNat 32 (fieldsReset p.fields a)

/-- A cell's register words after a power-on reset (R604).
Log entry 17 (DESIGN CHOICE). -/
def cellReset (k : Nat) (a : Nat) : Word :=
  if 0x3040 ≤ a ∧ a ≤ 0x304C then
    BitVec.ofNat 32 (fieldsReset fieldsCMEAS a) |||
      CMEAS_CHCFG.PRESET.put 0 0 (if a < 0x3048 then 2 else 3)
  else if 0x3070 ≤ a ∧ a ≤ 0x3080 then Config.cellPart k a
  else if 0x80C0 ≤ a ∧ a ≤ 0x80FC then BitVec.ofNat 32 (cdclsDefault ((a - 0x80C0) / 4))
  else if 0x9400 ≤ a ∧ a ≤ 0x97FF then Config.cellPart k a
  else
    match a with
    | 0x7068 | 0x9044 => Config.cellPart k a &&& 0xFFFF
    | 0x40 | 0x44 | 0x9048 => Config.cellPart k a
    | _ =>
      match pageOf cellPages a with
      | none => 0
      | some p =>
        if a % 0x1000 < 0x040 then headerReset (Config.cellPart k) p a ||| BitVec.ofNat 32 (fieldsReset p.fields a)
        else BitVec.ofNat 32 (fieldsReset p.fields a)

/-! Registers of a unit. -/

/-- The register word of a unit at address `a`. -/
def UnitSt.word (x : UnitSt) (a : Nat) : Word := sget (unitReset x.id) x.regs a

/-- Replaces the register word at address `a`.
Log entry 17 (DESIGN CHOICE). -/
def UnitSt.setWord (x : UnitSt) (a : Nat) (v : Word) : UnitSt :=
  { x with regs := sset (unitReset x.id) x.regs a v }

/-- Copy `i` of field `f` of a unit. -/
def UnitSt.fld (x : UnitSt) (f : Fld) (i : Nat := 0) : Nat := f.get (x.word (f.addr i)) i

/-- Whether copy `i` of a flag or field is non-zero. -/
def UnitSt.bit (x : UnitSt) (f : Fld) (i : Nat := 0) : Bool := x.fld f i != 0

/-- Sets copy `i` of field `f` of a unit to `v`. -/
def UnitSt.set (x : UnitSt) (f : Fld) (v : Nat) (i : Nat := 0) : UnitSt :=
  x.setWord (f.addr i) (f.put (x.word (f.addr i)) i v)

/-- Counts one event in a saturating counter field. -/
def UnitSt.inc (x : UnitSt) (f : Fld) (i : Nat := 0) : UnitSt := x.set f (satInc f.width (x.fld f i)) i

/-- The value of a pair of fields, low word first. -/
def UnitSt.pair (x : UnitSt) (lo hi : Fld) (i : Nat := 0) : Nat := x.fld lo i + x.fld hi i * 2 ^ 32

/-- Sets a pair of fields. -/
def UnitSt.setPair (x : UnitSt) (lo hi : Fld) (v : Nat) (i : Nat := 0) : UnitSt :=
  (x.set lo (v % 2 ^ 32) i).set hi (v / 2 ^ 32) i

/-! Registers of a cell. -/

/-- The register word of a cell at address `a`. -/
def CellSt.word (x : CellSt) (a : Nat) : Word := sget (cellReset x.key) x.regs a

/-- Replaces the register word at address `a`.
Log entry 17 (DESIGN CHOICE). -/
def CellSt.setWord (x : CellSt) (a : Nat) (v : Word) : CellSt :=
  { x with regs := sset (cellReset x.key) x.regs a v }

/-- Copy `i` of field `f` of a cell. -/
def CellSt.fld (x : CellSt) (f : Fld) (i : Nat := 0) : Nat := f.get (x.word (f.addr i)) i

/-- Whether copy `i` of a flag or field is non-zero. -/
def CellSt.bit (x : CellSt) (f : Fld) (i : Nat := 0) : Bool := x.fld f i != 0

/-- Sets copy `i` of field `f` of a cell to `v`. -/
def CellSt.set (x : CellSt) (f : Fld) (v : Nat) (i : Nat := 0) : CellSt :=
  x.setWord (f.addr i) (f.put (x.word (f.addr i)) i v)

/-- Counts one event in a saturating counter field. -/
def CellSt.inc (x : CellSt) (f : Fld) (i : Nat := 0) : CellSt := x.set f (satInc f.width (x.fld f i)) i

/-- The value of a pair of fields, low word first. -/
def CellSt.pair (x : CellSt) (lo hi : Fld) (i : Nat := 0) : Nat := x.fld lo i + x.fld hi i * 2 ^ 32

/-- Sets a pair of fields. -/
def CellSt.setPair (x : CellSt) (lo hi : Fld) (v : Nat) (i : Nat := 0) : CellSt :=
  (x.set lo (v % 2 ^ 32) i).set hi (v / 2 ^ 32) i

/-! The parts of the converter. -/

/-- A unit of the converter. -/
def State.unit (s : State) : UnitId → UnitSt
  | .a => s.a
  | .b => s.b

/-- Replaces a unit. -/
def State.setUnit (s : State) (u : UnitId) (x : UnitSt) : State :=
  match u with
  | .a => { s with a := x }
  | .b => { s with b := x }

/-- Applies `f` to a unit. -/
def State.onUnit (s : State) (u : UnitId) (f : UnitSt → UnitSt) : State := s.setUnit u (f (s.unit u))

/-- A cell of the converter. -/
def State.cell (s : State) (c : CellId) : CellSt := sget CellSt.reset s.cells c.key

/-- Replaces a cell. -/
def State.setCell (s : State) (c : CellId) (x : CellSt) : State :=
  { s with cells := sset CellSt.reset s.cells c.key x }

/-- Applies `f` to a cell. -/
def State.onCell (s : State) (c : CellId) (f : CellSt → CellSt) : State := s.setCell c (f (s.cell c))

/-- The outcome of a command that only changes one unit. -/
def unitStep (s : State) (u : UnitId) (f : UnitSt → UnitSt) : Host.Outcome State Fault Refusal := .next (s.onUnit u f)

/-- The outcome of a command that only changes one cell. -/
def cellStep (s : State) (c : CellId) (f : CellSt → CellSt) : Host.Outcome State Fault Refusal := .next (s.onCell c f)

end Sys2Proof.Machine
end

