-- ==== Sys2Proof/Machine/Events.lean ====
section
/-! DEFINITION. Error lines, event bits and interrupt messages (R490 to R492, R527, R528, R608), free values, port
views, the period timeline as instants, and what a unit puts on its lines. -/
namespace Sys2Proof.Machine

/-! Free values. -/

/-- A free value of a unit: the counter of the part advances with every draw.
Log entry 11 (DESIGN CHOICE). -/
def UnitSt.draw (x : UnitSt) : Nat × UnitSt :=
  (Config.free (match x.id with | .a => 0x10000 | .b => 0x10001) x.free, { x with free := x.free + 1 })

/-- A free value of a cell.
Log entry 11 (DESIGN CHOICE). -/
def CellSt.draw (x : CellSt) : Nat × CellSt := (Config.free x.key x.free, { x with free := x.free + 1 })

/-! Lines of a unit. -/

/-- Puts something on a line of the unit.
Log entry 7 (DESIGN CHOICE). -/
def UnitSt.emit (x : UnitSt) (o : Out) : UnitSt := { x with out := o :: x.out }

/-- Puts a Splice message on the line (R425). The caller checks that Splice is up where the spec asks for it. -/
def UnitSt.say (x : UnitSt) (m : SpliceMsg) : UnitSt := x.emit (.splice m)

/-- The strand port `p` beside its registers. -/
def UnitSt.port (x : UnitSt) (p : Nat) : PortSt := sget PortSt.reset x.ports p

/-- Replaces the strand port `p`. -/
def UnitSt.setPort (x : UnitSt) (p : Nat) (v : PortSt) : UnitSt :=
  { x with ports := sset PortSt.reset x.ports p v }

/-- Applies `f` to the strand port `p`. -/
def UnitSt.onPort (x : UnitSt) (p : Nat) (f : PortSt → PortSt) : UnitSt := x.setPort p (f (x.port p))

/-- What the unit knows of the cell with key `k`. -/
def UnitSt.view (x : UnitSt) (k : Nat) : CellView := sget (fun _ => {}) x.views k

/-- Replaces what the unit knows of the cell with key `k`. -/
def UnitSt.setView (x : UnitSt) (k : Nat) (v : CellView) : UnitSt :=
  { x with views := sset (fun _ => {}) x.views k v }

/-- Applies `f` to what the unit knows of the cell with key `k`. -/
def UnitSt.onView (x : UnitSt) (k : Nat) (f : CellView → CellView) : UnitSt := x.setView k (f (x.view k))

/-- Applies `f`, given the key, to everything the unit knows of a cell. -/
def UnitSt.mapViews (x : UnitSt) (f : Nat → CellView → CellView) : UnitSt :=
  x.views.foldl (fun x kv => x.onView kv.1 (f kv.1)) x

/-! Power state (R586) and islands (R36). -/

/-- `PWR_STAT.STATE`: 0 Run, 1 Hold, 2 Quiet. -/
def UnitSt.inRun (x : UnitSt) : Bool := x.fld PWR_STAT.STATE == 0
def UnitSt.inHold (x : UnitSt) : Bool := x.fld PWR_STAT.STATE == 1
def UnitSt.inQuiet (x : UnitSt) : Bool := x.fld PWR_STAT.STATE == 2

/-- The islands that are off or in retention in Quiet (R36). -/
def quietOff : List Island :=
  [.spl, .hbx, .clp, .cal, .lpe, .min, .reel, .mem0, .mem1, .core1, .core2, .core3, .fls]

/-- Whether an island runs: all in Run and Hold, those of R36 in Quiet; without a valid image AON, HOST, SEC and FLS
alone (R568). -/
def UnitSt.islandOn (x : UnitSt) (i : Island) : Bool :=
  match x.boot with
  | .up => !(x.inQuiet && quietOff.contains i)
  | .noImage => [Island.aon, .host, .sec, .fls].contains i
  | .off => false

/-- Whether the ALIVE pin toggles: while AON runs, from a reset until a FATAL latch (R538).
Log entry 24 (DEDUCED). -/
def UnitSt.toggles (x : UnitSt) : Bool := x.boot != .off && !x.bit FLT_STAT.FENCED

/-- Whether the block of the page at `b` works: EN was 1 at the last period token (R600) and its island runs. -/
def UnitSt.works (x : UnitSt) (b : Nat) : Bool := !x.disabled.contains b && x.islandOn (unitIsland b)

/-- The length of a scrub pass; PERIOD 0 is read as 1 (R558).
Log entry 147 (DEDUCED). -/
def UnitSt.scrubSpan (x : UnitSt) : Nat := max 1 (x.fld MEM_SCRUB.PERIOD) * 65536000000000

/-- Whether a scrub pass runs: while scrubbing is on, each pass takes PERIOD seconds and the next follows it (R544, R558).
Log entry 147 (DEDUCED). -/
def UnitSt.scrubs (x : UnitSt) : Bool := x.works 0x7000 && x.bit MEM_SCRUB.EN

/-- At the whole second `t` the next pass begins where the last has had its PERIOD.
Log entry 147 (DEDUCED). -/
def UnitSt.scrubStep (x : UnitSt) (t : Nat) : UnitSt :=
  if x.scrubs && decide (x.mem.scrubAt + x.scrubSpan ≤ t) then { x with mem := { x.mem with scrubAt := t } } else x

/-- The address of the EN register of the page at `b`. -/
def enAddr (b : Nat) : Nat := b + 0x0C

/-- Whether the block of the page at `b` is away: its island is off, or it is in reset or does no work and EN still says so. A
block that has been enabled and waits for the token is there (R42, R600).
Log entry 221 (DEDUCED). -/
def UnitSt.away (x : UnitSt) (b : Nat) : Bool :=
  !x.islandOn (unitIsland b) || (x.disabled.contains b && (x.word (enAddr b)).toNat % 2 == 0)

/-- The pages whose EN is 0. -/
def UnitSt.disabledNow (x : UnitSt) : List Nat :=
  (unitPages.flatMap (fun p => (List.range p.insts).map (fun i => p.base + 0x1000 * i))).filter
    (fun b => (x.word (enAddr b)).toNat % 2 == 0)

/-! Event sources and vectors (R490 to R492, R607, R608). -/

/-- The EVT bit of event source `n`: its page instance's base address and bit number. -/
def sourceAt (n : Nat) : Option (Nat × Nat) :=
  match unitPages.find? (fun p => decide (p.evtSrc ≤ n) && decide (n < p.evtSrc + p.evtn * p.insts)) with
  | none => none
  | some p => some (p.base + (n - p.evtSrc) / p.evtn * 0x1000, (n - p.evtSrc) % p.evtn)

/-- Whether event source `n` is raised: its EVT and EVTEN bits are both 1. -/
def UnitSt.raised (x : UnitSt) (n : Nat) : Bool :=
  match sourceAt n with
  | none => false
  | some (b, k) => bitAt (x.word (b + 0x1C)).toNat k && bitAt (x.word (b + 0x20)).toNat k

/-- The map entry of source `n` (R491): function and vector, when mapped. -/
def UnitSt.mapOf (x : UnitSt) (n : Nat) : Option (Nat × Nat) :=
  if n % 2 = 0 then
    (if x.bit PCIE_IMAP.EN0 (n / 2) then some (x.fld PCIE_IMAP.FN0 (n / 2), x.fld PCIE_IMAP.VEC0 (n / 2)) else none)
  else
    (if x.bit PCIE_IMAP.EN1 (n / 2) then some (x.fld PCIE_IMAP.FN1 (n / 2), x.fld PCIE_IMAP.VEC1 (n / 2)) else none)

/-- Whether some source other than `n` that is mapped to vector `v` of function `f` is raised. -/
def UnitSt.othersRaised (x : UnitSt) (n f v : Nat) : Bool :=
  (List.range 392).any (fun k => k != n && x.mapOf k == some (f, v) && x.raised k)

/-- The OR of the raised sources mapped to vector `v` of function `f`. -/
def UnitSt.vectorOn (x : UnitSt) (f v : Nat) : Bool := x.othersRaised 392 f v

/-- The configuration space of function `f`. -/
def UnitSt.fn (x : UnitSt) (f : Nat) : FnSt := if f = 0 then x.pci.fn0 else x.pci.fn1

/-- Applies `g` to the configuration space of function `f`. -/
def UnitSt.onFn (x : UnitSt) (f : Nat) (g : FnSt → FnSt) : UnitSt :=
  if f = 0 then { x with pci := { x.pci with fn0 := g x.pci.fn0 } } else { x with pci := { x.pci with fn1 := g x.pci.fn1 } }

/-- Whether function `f` may send messages: the link is up, and its bus master and MSI-X enables are set (R492).
Log entry 28 (PRESUMED). -/
def UnitSt.mayMsix (x : UnitSt) (f : Nat) : Bool :=
  x.bit PCIE_LINK.UP && (if f = 0 then x.bit PCIE_LINK.BME0 else x.pci.bme1) && (x.fn f).msix

/-- The message of vector `v` of function `f`: it goes out, or where the vector is masked its pending bit is set (R492).
Log entry 28 (PRESUMED). -/
def UnitSt.sendMsix (x : UnitSt) (f v : Nat) : UnitSt :=
  if !x.mayMsix f then x
  else if (x.fn f).masks.getLsbD v then x.onFn f (fun c => { c with pba := c.pba ||| (1#64 <<< v) })
  else x.emit (.msix f v)

/-- Sends the message of source `n` that has just been raised, when its vector rises from 0 to 1 (R492). -/
def UnitSt.deliver (x : UnitSt) (n : Nat) : UnitSt :=
  match x.mapOf n with
  | none => x
  | some (f, v) => if x.othersRaised n f v then x else x.sendMsix f v

/-- The event source of EVT bit `k` of the page instance at `b`. -/
def sourceOf (b k : Nat) : Nat :=
  match pageOf unitPages b with
  | none => 392
  | some p => if k < p.evtn then p.evtSrc + (b - p.base) / 0x1000 * p.evtn + k else 392

/-- Sets EVT bit `k` of the page instance at `b`; bits at or above EVTN do not exist (R608). -/
def UnitSt.evtBit (x : UnitSt) (b k : Nat) : UnitSt :=
  let n := sourceOf b k
  if n = 392 then x
  else
    let was := x.raised n
    let x := x.setWord (b + 0x1C) (x.word (b + 0x1C) ||| BitVec.ofNat 32 (1 <<< k))
    if !was && x.raised n then x.deliver n else x

/-- Sets an event bit named by its field. -/
def UnitSt.evt (x : UnitSt) (f : Fld) (i : Nat := 0) : UnitSt :=
  x.evtBit (f.addr i - f.addr i % 0x1000) (f.lo i)

/-! Error lines (R527, R528). The class of a line: 0 none, 1 INFO, 2 MINOR, 3 MAJOR, 4 FATAL. -/

/-- The class a set of unmasked detail bits carries under a class register. -/
def lineOf (err mask dcls : Word) : Nat :=
  (List.range 16).foldl
    (fun c b => if bitAt err.toNat b && !bitAt mask.toNat b then max c (1 + dcls.toNat / 2 ^ (2 * b) % 4) else c) 0

/-- The collector source of the page at address `a` (R527). -/
def srcOf (a : Nat) : Nat :=
  match a / 0x1000 with
  | 0x00 => 1
  | 0x01 => 2
  | 0x02 => 3
  | 0x03 => 0
  | 0x04 => 4
  | 0x05 => 21
  | 0x06 => 22
  | 0x07 => 23
  | 0x08 => 24
  | 0x10 => 17
  | 0x11 | 0x12 | 0x13 => 18
  | 0x14 => 19
  | 0x15 => 20
  | 0x20 => 9
  | 0x21 => 10
  | 0x22 => 11
  | 0x30 => 13
  | 0x31 => 14
  | 0x32 => 15
  | 0x33 => 16
  | p => if p < 0x100 then 12 else 5 + (p - 0x100) / 25

/-- The line of the page instance at `b`. -/
def UnitSt.pageLine (x : UnitSt) (b : Nat) : Nat :=
  lineOf (x.word (b + 0x14)) (x.word (b + 0x18)) (x.word (0x3200 + 4 * srcOf b))

/-- The pages whose EVT bits their chapters give; every other page with events has ERR as bit 0 (R608). -/
def ownEvents (b : Nat) : Bool :=
  [0x3000, 0x20000, 0x31000, 0x10000, 0x11000, 0x14000, 0x30000].contains b

/-- Sets a detail bit of an ERR register; where the page's line rises from none, EVT bit 0 of a page without events of
its own is set (R608). -/
def UnitSt.err (x : UnitSt) (f : Fld) (i : Nat := 0) : UnitSt :=
  let b := f.addr i - f.addr i % 0x1000
  let was := x.pageLine b
  let x := x.set f 1 i
  if was = 0 ∧ x.pageLine b ≠ 0 ∧ !ownEvents b then x.evtBit b 0 else x

/-- Hands a message to Splice; where its island is off the crossing is discarded and the sender sets its detail bit `f` (R42).
Log entry 221 (DEDUCED). -/
def UnitSt.sayVia (x : UnitSt) (f : Fld) (m : SpliceMsg) : UnitSt := if x.away 0x33000 then x.err f else x.say m

/-- A crossing to the block of the page at `b`: where the block is away the sender sets its detail bit `f` (R42).
Log entry 221 (DEDUCED). -/
def UnitSt.crossTo (x : UnitSt) (b : Nat) (f : Fld) (i : Nat := 0) : UnitSt := if x.away b then x.err f i else x

/-- The pages of each collector source (R527). -/
def srcPages : Nat → List Nat
  | 0 => [0x3000]
  | 1 => [0x0000]
  | 2 => [0x1000]
  | 3 => [0x2000]
  | 4 => [0x4000]
  | 5 => (List.range 25).map (fun p => 0x100000 + 0x1000 * p)
  | 6 => (List.range 25).map (fun p => 0x119000 + 0x1000 * p)
  | 7 => (List.range 25).map (fun p => 0x132000 + 0x1000 * p)
  | 8 => (List.range 25).map (fun p => 0x14B000 + 0x1000 * p)
  | 9 => [0x20000]
  | 10 => [0x21000]
  | 11 => [0x22000]
  | 12 => (List.range 11).map (fun p => 0x23000 + 0x1000 * p)
  | 13 => [0x30000]
  | 14 => [0x31000]
  | 15 => [0x32000]
  | 16 => [0x33000]
  | 17 => [0x10000]
  | 18 => [0x11000, 0x12000, 0x13000]
  | 19 => [0x14000]
  | 20 => [0x15000]
  | 21 => [0x5000]
  | 22 => [0x6000]
  | 23 => [0x7000]
  | 24 => [0x8000]
  | _ => []

/-- The class the line of source `n` carries: the highest of its pages; a watchdog line carries MAJOR from its expiry to
its next kick (R528). -/
def UnitSt.srcLine (x : UnitSt) (n : Nat) : Nat :=
  if 25 ≤ n ∧ n ≤ 28 then (if x.flt.expired.contains (n - 25) then 3 else 0)
  else (srcPages n).foldl (fun c b => max c (x.pageLine b)) 0

/-! Error lines of a cell (R554, R608, R610). -/

/-- The collector source of the cell page at address `a` (R554). -/
def csrcOf (a : Nat) : Nat :=
  match a / 0x1000 with
  | 0 => 1
  | 1 => 2
  | 2 => 3
  | 3 => 4
  | 4 => 5
  | 5 => 6
  | 6 => 7
  | 7 => 8
  | 8 => 0
  | 9 => 9
  | _ => 10

/-- The page of each cell collector source. -/
def csrcPage : Nat → Nat
  | 0 => 0x8000
  | 1 => 0x0000
  | 2 => 0x1000
  | 3 => 0x2000
  | 4 => 0x3000
  | 5 => 0x4000
  | 6 => 0x5000
  | 7 => 0x6000
  | 8 => 0x7000
  | 9 => 0x9000
  | _ => 0xA000

/-- The line of cell collector source `n`. -/
def CellSt.srcLine (x : CellSt) (n : Nat) : Nat :=
  let b := csrcPage n
  lineOf (x.word (b + 0x14)) (x.word (b + 0x18)) (x.word (0x80C0 + 4 * n))

/-- Sets a detail bit of a cell ERR register, and EVT bit 0 of its page where the line rises from none (R608).
Log entry 160 (DEDUCED). -/
def CellSt.err (x : CellSt) (f : Fld) (i : Nat := 0) : CellSt :=
  let a := f.addr i
  let b := a - a % 0x1000
  let was := x.srcLine (csrcOf b)
  let x := x.set f 1 i
  if was = 0 ∧ x.srcLine (csrcOf b) ≠ 0 then x.setWord (b + 0x1C) (x.word (b + 0x1C) ||| 1) else x

/-! Instants of the timeline (R49, R58, R59, R66): 2^-16 ns units. -/

def ns : Nat := 65536
def us : Nat := 65536000
def sec : Nat := 65536000000000

/-- PN of a unit. -/
def UnitSt.pn (x : UnitSt) : Nat := x.pair TIM_PN_LO.PN_LO TIM_PN_HI.PN_HI
def UnitSt.setPn (x : UnitSt) (v : Nat) : UnitSt := x.setPair TIM_PN_LO.PN_LO TIM_PN_HI.PN_HI (v % 2 ^ 48)

/-- An instant held in a group of three registers: ns low, ns high, fraction. -/
def UnitSt.instant (x : UnitSt) (lo hi fr : Fld) (i : Nat := 0) : Instant :=
  x.pair lo hi i * ns + x.fld fr i
def UnitSt.setInstant (x : UnitSt) (lo hi fr : Fld) (t : Instant) (i : Nat := 0) : UnitSt :=
  (x.setPair lo hi (t / ns % 2 ^ 64) i).set fr (t % ns) i

/-- base of R58. -/
def UnitSt.base (x : UnitSt) : Instant := x.instant TIM_BASE_LO.NS_LO TIM_BASE_HI.NS_HI TIM_BASE_FRAC.FRAC
def UnitSt.setBase (x : UnitSt) (t : Instant) : UnitSt :=
  x.setInstant TIM_BASE_LO.NS_LO TIM_BASE_HI.NS_HI TIM_BASE_FRAC.FRAC t

/-- Converter time of the unit at its latest event.
Log entry 5 (DESIGN CHOICE). -/
def UnitSt.now (x : UnitSt) : Instant := x.instant TIM_NOW_LO.NS_LO TIM_NOW_HI.NS_HI TIM_NOW_FRAC.FRAC
def UnitSt.setNow (x : UnitSt) (t : Instant) : UnitSt :=
  x.setInstant TIM_NOW_LO.NS_LO TIM_NOW_HI.NS_HI TIM_NOW_FRAC.FRAC t

/-- The period T as a span. -/
def UnitSt.period (x : UnitSt) : Nat := x.fld TIM_PERIOD.T * 250 * ns

/-- t0(PN) = base + PN × T (R58). -/
def UnitSt.t0 (x : UnitSt) (pn : Nat) : Instant := (x.base + pn * x.period) % 2 ^ 80

/-- The offsets of R66 as spans. -/
def UnitSt.statOfs (x : UnitSt) : Nat := x.fld TIM_OFS1.STAT * 10 * ns
def UnitSt.compOfs (x : UnitSt) : Nat := x.fld TIM_OFS1.COMP * 10 * ns
def UnitSt.cmdOfs (x : UnitSt) : Nat := x.fld TIM_OFS2.CMD * 10 * ns

/-- Whether converter time has come to `t` (`now` is the latest event's time). -/
def UnitSt.reached (x : UnitSt) (t : Instant) : Bool := decide (t ≤ x.now)

/-- Advances converter time to the instant of the event in hand; time never runs back (R51).
Log entry 4 (DESIGN CHOICE). -/
def UnitSt.tick (x : UnitSt) (t : Instant) : UnitSt := if x.now ≤ t then x.setNow t else x

/-! Lease and Splice views. -/

/-- `LSE_STAT.STATE`: 0 STANDBY, 1 CLAIM, 2 HOLDER, 3 FENCED (R406). -/
def UnitSt.lstate (x : UnitSt) : Nat := x.fld LSE_STAT.STATE
def UnitSt.isHolder (x : UnitSt) : Bool := x.lstate == 2
def UnitSt.fenced (x : UnitSt) : Bool := x.lstate == 3

/-- Whether Splice is up (R425). -/
def UnitSt.splUp (x : UnitSt) : Bool := x.bit SPL_STAT.UP

/-- Bits 31:0 of the configuration digest. -/
def UnitSt.cfgd (x : UnitSt) : Nat := (x.word 0x60).toNat

/-! Strands. -/

/-- `STRP_STAT.STATE` of port `p`: 0 OFF, 1 LOW, 2 TRAIN, 3 ENUM, 4 MEASURE, 5 ACTIVE (R136). -/
def UnitSt.pstate (x : UnitSt) (p : Nat) : Nat := x.fld STRP_STAT.STATE p

/-- Changes the state of port `p`; every change sets EVT bit STATE of its page (R608), and the count of clean frames starts anew
(R128). -/
def UnitSt.setPstate (x : UnitSt) (p v : Nat) : UnitSt :=
  if x.pstate p = v then x
  else
    let x := ((x.set STRP_STAT.STATE v p).evtBit (0x100000 + 0x1000 * p) 1).set STRP_STAT.RATE (if v = 1 then 1 else 0) p
    x.onPort p (fun q => { q with moved := q.moved && v != 5, clean := 0 })

/-- Whether the block of port `p` works. -/
def UnitSt.portOn (x : UnitSt) (p : Nat) : Bool := x.works (0x100000 + 0x1000 * p)

/-- Whether the holder has the strand of port `p` served by its partner alone: the port is new to the strand and not yet in
ACTIVE (R143).
Log entry 202 (DEDUCED). -/
def UnitSt.viaPartner (x : UnitSt) (p : Nat) : Bool :=
  (x.port p).moved && (x.port p).relay && x.pstate p != 5 && x.isHolder && x.splUp

/-- Number of cells on the strand of port `p`. -/
def UnitSt.ncell (x : UnitSt) (p : Nat) : Nat := x.fld STRP_ASSIGN.NCELL p

/-- Counts `n` code and disparity errors on port `p` (R144).
Log entry 184 (DESIGN CHOICE). -/
def UnitSt.codeErrs (x : UnitSt) (p n : Nat) : UnitSt :=
  x.set STRP_CNT2.CODE (min 0xFFFF (x.fld STRP_CNT2.CODE p + n)) p

/-- The period whose status a frame on port `p` carries now: at low rate that of the running low-rate cycle. -/
def UnitSt.statusPn (x : UnitSt) (p : Nat) : Nat := if x.pstate p = 1 then x.pn / 64 * 64 else x.pn

/-- Whether port `p` sends enumeration frames (R444). -/
def UnitSt.enumerating (x : UnitSt) (p : Nat) : Bool := x.pstate p == 3 || x.pstate p == 4

/-- The port that carries strand `s` now. -/
def UnitSt.portOf (x : UnitSt) (s : Nat) : Option Nat :=
  if (x.port s).strand = s then some s
  else (List.range 100).find? (fun p => (x.port p).strand == s)

/-- The ports that carry a configured strand, in strand order. -/
def UnitSt.livePorts (x : UnitSt) : List (Nat × Nat) :=
  (List.range 96).filterMap (fun s =>
    match x.portOf s with
    | none => none
    | some p => if x.ncell p = 0 then none else some (s, p))

/-- The cells of a strand by key. -/
def strandCells (s n : Nat) : List Nat := (List.range n).map (fun h => s * 64 + h)

/-- The strands of an arm with their ports, in strand order (R16). -/
def UnitSt.armPorts (x : UnitSt) (arm : Nat) : List (Nat × Nat) :=
  x.livePorts.filter (fun sp => x.fld STRP_ASSIGN.ARM sp.2 == arm)

/-- The cells of an arm by key, in arm-local order: strand by strand, hop by hop. -/
def UnitSt.armCells (x : UnitSt) (arm : Nat) : List Nat :=
  (x.armPorts arm).flatMap (fun sp => strandCells sp.1 (x.ncell sp.2))

/-! Caliper's records. -/

/-- A record after a reset. -/
def ClpRec.reset (k : Nat) : ClpRec := { sw := CellSt.reset k }

def UnitSt.clpRec (x : UnitSt) (k : Nat) : ClpRec := sget ClpRec.reset x.clp.recs k
def UnitSt.setRec (x : UnitSt) (k : Nat) (r : ClpRec) : UnitSt :=
  { x with clp := { x.clp with recs := sset ClpRec.reset x.clp.recs k r } }
def UnitSt.onRec (x : UnitSt) (k : Nat) (f : ClpRec → ClpRec) : UnitSt := x.setRec k (f (x.clpRec k))

/-- A cell is enumerated again after a reset or wake: the voltage estimate and the pair start anew, the slow estimates stay
(R298). -/
def UnitSt.clpForget (x : UnitSt) (k : Nat) : UnitSt :=
  x.onRec k (fun r => { r with seeded := false, outcnt := 0, stalecnt := 0, pair := false, keep := r.keep || r.seeded })

end Sys2Proof.Machine
end

