-- ==== Sys2Proof/Machine/Frames.lean ====
section
/-! DEFINITION. The check codes and the frames of the strands (R90 to R115, R130), as bytes in the order they leave. -/
namespace Sys2Proof.Machine

/-! Check codes (R93, R420). -/

/-- One bit of a check code of width `w` that is not reflected. -/
def crcBit (w poly c : Nat) : Nat :=
  if c.testBit (w - 1) then ((c <<< 1) % 2 ^ w) ^^^ poly else (c <<< 1) % 2 ^ w

/-- One byte of a check code of width `w` that is not reflected. -/
def crcByte (w poly c : Nat) (b : Byte) : Nat :=
  (List.range 8).foldl (fun c _ => crcBit w poly c) (c ^^^ (b.toNat <<< (w - 8)))

/-- A check code that is not reflected. -/
def crcPlain (w poly init fin : Nat) (bs : Bytes) : Nat := (bs.foldl (crcByte w poly) init) ^^^ fin

/-- One byte of the reflected CRC-32; the polynomial 0x04C1_1DB7 reversed is 0xEDB8_8320. -/
def crc32Byte (c : Nat) (b : Byte) : Nat :=
  (List.range 8).foldl (fun c _ => if c % 2 = 1 then (c >>> 1) ^^^ 0xEDB88320 else c >>> 1) (c ^^^ b.toNat)

def crc8 (bs : Bytes) : Nat := crcPlain 8 0x2F 0xFF 0 bs
def crc16 (bs : Bytes) : Nat := crcPlain 16 0x1021 0xFFFF 0 bs
def crc32 (bs : Bytes) : Nat := (bs.foldl crc32Byte 0xFFFFFFFF) ^^^ 0xFFFFFFFF

/-- The digest CRC-64 of R420. -/
def crc64 (bs : Bytes) : Nat := crcPlain 64 0x42F0E1EBA9EA3693 (2 ^ 64 - 1) (2 ^ 64 - 1) bs

/-! Bytes. -/

/-- `n` little-endian bytes of `v` (R92).
Log entry 16 (DEDUCED). -/
def leBytes (n v : Nat) : Bytes := (List.range n).map (fun i => BitVec.ofNat 8 (v >>> (8 * i)))

/-- The byte at offset `i`, 0 beyond the end. -/
def byteAt (bs : Bytes) (i : Nat) : Nat := (bs.getD i 0).toNat

/-- The little-endian number of `n` bytes at offset `i`. -/
def leAt (bs : Bytes) (i n : Nat) : Nat :=
  (List.range n).foldl (fun v k => v + byteAt bs (i + k) * 2 ^ (8 * k)) 0

/-- The `n` bytes from offset `i`. -/
def slice (bs : Bytes) (i n : Nat) : Bytes := (bs.drop i).take n

/-- Replaces the bytes from offset `i`. -/
def splice (bs : Bytes) (i : Nat) (v : Bytes) : Bytes := bs.take i ++ v ++ bs.drop (i + v.length)

/-- SOF as its data byte, and the two EOF bytes: control symbols stand in the byte strings by their code (R87). -/
def sof : Byte := 0xFB
def eof : Bytes := [0xFD, 0xF7]

/-- An idle set, /K28.5/D16.2/ (R87). -/
def idleSet : Bytes := [0xBC, 0x50]

/-- A fault set, /K28.1/K28.1/code/origin/ (R87, R117). -/
def faultSet (code : Byte) (o : UnitId) : Bytes := [0x3C, 0x3C, code, match o with | .a => 0 | .b => 1]

/-- What a unit sends with a fault set: the set 4 times in succession, then idle (R118). -/
def faultSets (code : Byte) (o : UnitId) : Bytes := (List.replicate 4 (faultSet code o)).flatten ++ idleSet

/-- The bytes a frame's CRC-32 covers, and whether the CRC-32 in it is correct, the frame being `len` bytes (R93). -/
def crc32Ok (bs : Bytes) (len : Nat) : Bool :=
  decide (bs.length = len) && crc32 (slice bs 1 (len - 7)) == leAt bs (len - 6) 4

/-- A unit's bit in SRC and WFLAGS: 0 A, 1 B. -/
def unitBit : UnitId → Nat
  | .a => 0
  | .b => 1

def unitOfBit (n : Nat) : UnitId := if n % 2 = 0 then .a else .b

/-! Command frames (R94 to R96, R101). -/

/-- Length of a command or bulk frame of `n` slots (R90). -/
def cmdLen (n : Nat) : Nat := 6 * n + 176

/-- What the Watermark carries (R95). -/
structure Watermark where
  holder : UnitId
  abd    : Bool
  llen   : Nat
  epoch  : Nat
  abdpn  : Nat
  deriving DecidableEq, Repr

/-- The 20 Watermark bytes with WCRC. -/
def wmBytes (w : Watermark) : Bytes :=
  let body : Bytes := BitVec.ofNat 8 (unitBit w.holder + (if w.abd then 2 else 0)) :: BitVec.ofNat 8 (w.llen % 16) ::
    (leBytes 4 w.epoch ++ leBytes 6 w.abdpn ++ leBytes 6 0)
  body ++ leBytes 2 (crc16 body)

/-- A command slot without its check: bits 39:0 of R96. -/
def slotBits (ofs2 ofs1 dith alt bstate : Nat) : Nat :=
  ofs2 % 65536 * 2 ^ 24 + ofs1 % 65536 * 2 ^ 8 + dith % 16 * 16 + alt % 4 * 4 + bstate % 4

/-- The six bytes of a command slot for hop `h` in period `pn` (R93, R96). -/
def cmdSlotBytes (h pn bits : Nat) : Bytes :=
  let body := leBytes 5 bits
  body ++ [BitVec.ofNat 8 (crc8 (BitVec.ofNat 8 h :: BitVec.ofNat 8 pn :: body))]

/-- Whether the command slot of hop `h` passes its CRC-8. -/
def cmdSlotOk (bs : Bytes) (h : Nat) : Bool :=
  let s := slice bs (42 + 6 * h) 6
  decide (s.length = 6) && crc8 (BitVec.ofNat 8 h :: BitVec.ofNat 8 (byteAt bs 4) :: s.take 5) == byteAt s 5

/-- The header of a command frame with HCRC, bytes 0 to 21. -/
def cmdHeader (type : Nat) (src : UnitId) (relay : Bool) (strand pn lofs ncell bflags t cfgd : Nat) : Bytes :=
  let body : Bytes := BitVec.ofNat 8 type :: BitVec.ofNat 8 (unitBit src * 128 + (if relay then 64 else 0)) ::
    BitVec.ofNat 8 strand :: (leBytes 6 pn ++ leBytes 3 lofs ++
      [BitVec.ofNat 8 ncell, BitVec.ofNat 8 bflags, BitVec.ofNat 8 t] ++ leBytes 4 cfgd)
  sof :: (body ++ leBytes 2 (crc16 body))

/-- Closes a frame with CRC-32 and EOF. -/
def closeFrame (bs : Bytes) : Bytes := bs ++ leBytes 4 (crc32 (bs.drop 1)) ++ eof

/-- A whole command or bulk frame. -/
def cmdFrame (hdr : Bytes) (w : Watermark) (slots : Bytes) (window : Bytes) : Bytes :=
  closeFrame (hdr ++ wmBytes w ++ slots ++ window)

/-- HCRC of a command frame. -/
def hcrcOk (bs : Bytes) : Bool := decide (22 ≤ bs.length) && crc16 (slice bs 1 19) == leAt bs 20 2

/-- WCRC of a command frame. -/
def wcrcOk (bs : Bytes) : Bool := decide (42 ≤ bs.length) && crc16 (slice bs 22 18) == leAt bs 40 2

/-- The Watermark of a command frame. -/
def wmOf (bs : Bytes) : Watermark :=
  { holder := unitOfBit (byteAt bs 22), abd := bitAt (byteAt bs 22) 1, llen := byteAt bs 23 % 16,
    epoch := leAt bs 24 4, abdpn := leAt bs 28 6 }

/-- The unit whose frame it is (SRC.UNIT). -/
def srcUnit (bs : Bytes) : UnitId := unitOfBit (byteAt bs 2 / 128)

/-- PN of a command or status frame header. -/
def framePn (bs : Bytes) : Nat := leAt bs 4 6

/-- One window entry (R101). -/
def entryBytes (hop op tag addr data mask : Nat) : Bytes :=
  [BitVec.ofNat 8 (128 + hop % 128), BitVec.ofNat 8 op, BitVec.ofNat 8 (tag % 8), 0] ++
    leBytes 4 addr ++ leBytes 4 data ++ leBytes 4 mask

/-- A bulk block (R106). -/
def bulkBytes (hop tag len off image : Nat) (data : Bytes) : Bytes :=
  [BitVec.ofNat 8 (128 + hop % 128), 0x10, BitVec.ofNat 8 (tag % 8), BitVec.ofNat 8 len] ++
    leBytes 4 off ++ leBytes 4 image ++ (data.take 112 ++ List.replicate (112 - data.length) 0) ++ leBytes 4 0

/-- Pads a window to its 128 bytes. -/
def padWindow (bs : Bytes) : Bytes := bs.take 128 ++ List.replicate (128 - bs.length) 0

/-! Status frames (R107 to R109). -/

/-- Length of a status frame of `n` slots. -/
def statLen (n : Nat) : Nat := 16 * n + 32

/-- The header of a status frame with HCRC, bytes 0 to 25. -/
def statHeader (toward : UnitId) (tail : Bool) (strand pn ncell orig cfgd : Nat) : Bytes :=
  let body : Bytes := (0x03 : Byte) :: BitVec.ofNat 8 (unitBit toward * 128 + (if tail then 64 else 0)) ::
    BitVec.ofNat 8 strand :: (leBytes 6 pn ++ [BitVec.ofNat 8 ncell, BitVec.ofNat 8 orig] ++ leBytes 4 cfgd ++ leBytes 8 0)
  sof :: (body ++ leBytes 2 (crc16 body))

/-- HCRC of a status frame. -/
def statHcrcOk (bs : Bytes) : Bool := decide (26 ≤ bs.length) && crc16 (slice bs 1 23) == leAt bs 24 2

/-- The 16 bytes of status slot `h`. -/
def statSlot (bs : Bytes) (h : Nat) : Bytes := slice bs (26 + 16 * h) 16

/-- The CRC-8 of the 15 bytes of a status slot. -/
def statCrc (h pnByte : Nat) (body : Bytes) : Nat := crc8 (BitVec.ofNat 8 h :: BitVec.ofNat 8 pnByte :: body)

/-- A status slot with its check.
Log entry 173 (DESIGN CHOICE). -/
def statSlotBytes (h pn bits : Nat) : Bytes :=
  let body := leBytes 15 bits
  body ++ [BitVec.ofNat 8 (statCrc h pn body)]

/-- An absent slot: bits 119:0 at 0 and the complement of the correct check (R115). -/
def absentSlot (h pn : Nat) : Bytes :=
  let body : Bytes := List.replicate 15 0
  body ++ [BitVec.ofNat 8 (255 - statCrc h pn body)]

/-- Whether status slot `h` passes its CRC-8. -/
def statSlotOk (bs : Bytes) (h : Nat) : Bool :=
  let s := statSlot bs h
  decide (s.length = 16) && statCrc h (byteAt bs 4) (s.take 15) == byteAt s 15

/-- Whether status slot `h` is absent. -/
def statSlotAbsent (bs : Bytes) (h : Nat) : Bool :=
  let s := statSlot bs h
  decide (s.take 15 = List.replicate 15 0) && decide (s.length = 16) &&
    255 - statCrc h (byteAt bs 4) (s.take 15) == byteAt s 15

/-- A whole status frame. -/
def statFrame (hdr slots : Bytes) : Bytes := closeFrame (hdr ++ slots)

/-- Fields of a status slot (R108, R109). -/
def slotFlags (s : Bytes) : Nat := leAt s 0 2 % 4096
def slotVcap (s : Bytes) : Nat := leAt s 0 4 / 4096
def slotAge (s : Bytes) : Nat := leAt s 4 2
def slotVchk (s : Bytes) : Nat := leAt s 6 2
def slotRdata (s : Bytes) : Nat := leAt s 8 4
def slotRtag (s : Bytes) : Nat := byteAt s 12 % 16
def slotVaux (s : Bytes) : Nat := leAt s 12 2 / 16 % 1024
def slotTemp (s : Bytes) : Nat := leAt s 12 3 / 2 ^ 14 % 1024
def flagHolder (s : Bytes) : Nat := slotFlags s / 16 % 4
def flagCstate (s : Bytes) : Nat := slotFlags s / 1024 % 4

/-! Enumeration frames (R130). -/

/-- A whole enumeration frame. -/
def enumFrame (src : UnitId) (back : Bool) (strand eop count target ncell : Nat) (payload : Bytes) : Bytes :=
  closeFrame (sof :: (0x04 : Byte) :: BitVec.ofNat 8 (unitBit src * 128 + (if back then 64 else 0)) ::
    BitVec.ofNat 8 strand :: BitVec.ofNat 8 eop :: BitVec.ofNat 8 count :: BitVec.ofNat 8 target ::
    BitVec.ofNat 8 ncell :: (payload.take 96 ++ List.replicate (96 - payload.length) 0))

/-- Whether an enumeration frame's CRC-32 is correct. -/
def enumOk (bs : Bytes) : Bool := crc32Ok bs 110

end Sys2Proof.Machine
end

