-- ==== Sys2Proof/Machine/HeadboxOps.lean ====
section
/-! DEFINITION. The operations of Headbox (R433 to R455): accepting a transaction, what a frame may take, replies,
completions, cancellations. -/
namespace Sys2Proof.Machine

def kEntry : Nat := 1
def kBulk : Nat := 2
def kFlag : Nat := 3
def kBarrier : Nat := 4
def kWait : Nat := 5
def kEnum : Nat := 6

/-- The completion statuses of R450 that are not result codes. -/
def stNoReply : Nat := 0x80
def stTimeout : Nat := 0x81
def stCancelled : Nat := 0x82
def stGone : Nat := 0x83
def stPartial : Nat := 0x84
def stFlushed : Nat := 0x85

/-- The descriptor in eight words (R433). -/
def descOf (w : Nat → Word) : Desc :=
  let w0 := (w 0).toNat
  { kind := w0 / 2 ^ 28 % 16, op := w0 / 2 ^ 20 % 256, bcast := bitAt w0 19, aftok := bitAt w0 18, timed := bitAt w0 17
    strand := w0 / 256 % 128, hop := w0 % 128, addr := w 1, data := w 2, mask := w 3, buf := (w 4).toNat
    tmo := (w 5).toNat / 65536, after := (w 5).toNat % 65536, at_ := (w 6).toNat }

/-- The strands of the broadcast set (R437). -/
def UnitSt.bcastSet (x : UnitSt) : List Nat :=
  (x.livePorts.filter (fun sp =>
    (x.pstate sp.2 == 5 || x.pstate sp.2 == 1) && !bitAt (x.fld HBX_BEXCL.STR (sp.1 / 32)) (sp.1 % 32))).map (·.1)

/-- Number of cells on strand `s`, 0 where it is not configured. -/
def UnitSt.cellsOn (x : UnitSt) (s : Nat) : Nat :=
  match x.portOf s with
  | none => 0
  | some p => x.ncell p

/-- The strands a descriptor addresses: those of the broadcast set that have the hop, or its own (R437). -/
def UnitSt.descStrands (x : UnitSt) (d : Desc) : List Nat :=
  if d.bcast then (if d.hop = 0x7F then x.bcastSet else x.bcastSet.filter (fun s => d.hop < x.cellsOn s))
  else [d.strand]

/-- The cells a descriptor addresses on the strands `ss`, by key.
Log entry 76 (DEDUCED). -/
def UnitSt.descCells (x : UnitSt) (d : Desc) (ss : List Nat) : List Nat :=
  if d.kind = kBarrier then []
  else ss.flatMap (fun s => if d.hop = 0x7F then strandCells s (x.cellsOn s) else [s * 64 + d.hop])

/-- The cells a held transaction addresses: on the strands it was given at its submission (R437). -/
def UnitSt.txnCells (x : UnitSt) (t : Txn) : List Nat := x.descCells t.desc t.strands

/-- The transactions of a port that are held, or whose completions have not been read (R436). -/
def UnitSt.hbxOut (x : UnitSt) (port : Nat) : Nat :=
  ((x.hbx.held ++ x.hbx.delay).filter (fun t => t.id / 8192 == port)).length
    + (sget (fun _ => []) x.hbx.fifo port).length

/-- Depth of the queue a transaction belongs to (R439). -/
def UnitSt.queueDepth (x : UnitSt) (d : Desc) : Nat :=
  (x.hbx.held.filter (fun t => if d.bcast then t.desc.bcast else !t.desc.bcast && t.desc.strand == d.strand)).length

/-- Shows queue depths, delay list occupancy and port counts in their registers (R457). -/
def UnitSt.hbxShow (x : UnitSt) (port : Nat) (d : Desc) : UnitSt :=
  let x := x.set HBX_QSTAT.DL x.hbx.delay.length
  let x := if d.bcast then x.set HBX_QSTAT.BQ (x.queueDepth d)
    else if d.strand % 2 = 1 then x.set HBX_QD.ODD (x.queueDepth d) (d.strand / 2)
    else x.set HBX_QD.EVEN (x.queueDepth d) (d.strand / 2)
  if port < 6 then
    (x.set HBX_PSTAT.CPLCNT (sget (fun _ => []) x.hbx.fifo port).length port).set HBX_PSTAT.OUT (x.hbxOut port) port
  else x

/-- A prefetch slot without transaction `t`; `bits` are those of the FLAG transactions left. The place of an entry stays, empty. -/
def Prefetch.without (q : Prefetch) (t : Txn) (bits : Nat) : Prefetch :=
  if t.desc.kind = kEnum then {}
  else if t.desc.kind = kBulk then { q with ids := q.ids.filter (· != t.id), window := [], mgmt := false, bulk := false }
  else if t.desc.kind = kFlag then { q with ids := q.ids.filter (· != t.id), bflags := bits }
  else
    { q with ids := q.ids.map (fun i => if i = t.id then 0 else i)
             window := splice q.window (16 * q.ids.idxOf t.id) (List.replicate 16 0) }

/-- Takes a transaction that has ended out of the prefetch slots, whose frames are then built anew (R453). -/
def UnitSt.unfetch (x : UnitSt) (t : Txn) : UnitSt :=
  x.ports.foldl (fun (x : UnitSt) kp =>
    if kp.2.pre.ids.contains t.id then
      let left := x.hbx.held.filter (fun u => u.id != t.id && u.desc.kind == kFlag && kp.2.pre.ids.contains u.id)
      x.onPort kp.1 (fun q => { q with
        pre := q.pre.without t (left.foldl (fun b u => b ||| u.desc.data.toNat % 16) 0), built := [] })
    else x) x

/-- Puts a completion in its port's FIFO, or hands it back to the unit's own blocks (R435, R451). -/
def UnitSt.hbxFinish (x : UnitSt) (t : Txn) (status : Nat) (rdata : Word) : UnitSt :=
  let x := x.unfetch t
  let port := t.id / 8192
  let replied := t.parts.filter (fun p => match p.2 with | .replied _ _ => true | _ => false)
  let failed := replied.filter (fun p => match p.2 with | .replied c _ => decide (c.toNat > 1) | _ => false)
  let missed := t.parts.filter (fun p => match p.2 with | .missing => true | _ => false)
  let c : Cpl := { id := t.id, status := status, rdata := rdata, nrep := replied.length, nfail := failed.length,
                   nmiss := missed.length, pn := x.pn % 65536 }
  let h := x.hbx
  let named := fun (i : Nat) => (h.held ++ h.delay).any (fun u => u.desc.after == i)
  let ended := (t.id, status) :: h.ended.filter (fun e =>
    e.1 != t.id && (e.1 / 8192 == 6 || (sget (fun _ => []) h.last (e.1 / 8192)).contains e.1 || named e.1))
  let x := { x with hbx := { h with
    held := h.held.filter (fun u => u.id != t.id), delay := h.delay.filter (fun u => u.id != t.id), ended := ended
    fifo := if port < 6 then sset (fun _ => []) h.fifo port (sget (fun _ => []) h.fifo port ++ [c]) else h.fifo } }
  let x := if status = stCancelled then x.inc HBX_CNT3.CANCEL else if status = stTimeout then x.inc HBX_CNT2.TIMEOUT else x
  let x := if port < 6 then x.evtBit 0x20000 port else x
  x.hbxShow port t.desc

/-- Takes the next ID of a port (R436). -/
def UnitSt.hbxId (x : UnitSt) (port : Nat) : Nat × UnitSt :=
  let n := sget (fun _ => 1) x.hbx.seq port
  let id := port * 8192 + n
  let last := (id :: sget (fun _ => []) x.hbx.last port).take 64
  (id, { x with hbx := { x.hbx with
    seq := sset (fun _ => 1) x.hbx.seq port (if n = 8191 then 1 else n + 1)
    ended := x.hbx.ended.filter (fun e => e.1 != id)
    last := sset (fun _ => []) x.hbx.last port last } })

/-- Whether a descriptor is empty (R438). -/
def UnitSt.descEmpty (x : UnitSt) (d : Desc) : Bool :=
  (d.kind == kEntry && d.op == 2 && d.mask == 0) || (d.kind == kBulk && d.mask.toNat % 256 == 0)
    || (d.kind == kEntry && d.op == 4 && d.data == 0) || (d.kind == kEntry && d.op == 5 && d.data.toNat % 16 == 0)
    || (d.bcast && x.bcastSet == [])

/-- Whether the kind and operation of a descriptor are in R102, R130 or R434. -/
def kindOk (d : Desc) : Bool :=
  (d.kind == kEntry && decide (1 ≤ d.op) && decide (d.op ≤ 7)) || (d.kind == kBulk && d.op == 0x10)
    || ((d.kind == kFlag || d.kind == kBarrier || d.kind == kWait) && d.op == 0)
    || (d.kind == kEnum && decide (1 ≤ d.op) && decide (d.op ≤ 3))

/-- Whether a descriptor's destination is refused with BADDEST (R436). -/
def UnitSt.badDest (x : UnitSt) (d : Desc) : Bool :=
  (!d.bcast && (x.cellsOn d.strand == 0 || (decide (x.cellsOn d.strand ≤ d.hop) && d.hop != 0x7F)))
    || (d.bcast && d.hop != 0x7F && x.bcastSet != [] && x.descStrands d == [])
    || (d.kind == kEntry && d.op == 3 && (d.hop == 0x7F || d.bcast))
    || (d.bcast && (d.kind == kWait || d.kind == kEnum))

/-- The result code of a submission, the first that applies in the order of R436. -/
def UnitSt.submitCode (x : UnitSt) (port : Nat) (d : Desc) : Nat :=
  if x.fenced then 0x0A
  else if !kindOk d then 0x09
  else if (d.kind = kWait ∨ d.kind = kEnum) ∧ x.fld HBX_STAT.MODE = 0 then 0x08
  else if ((d.kind = kEntry ∧ d.op = 3) ∨ d.kind = kFlag) ∧ !x.isHolder then 0x07
  else if x.badDest d then 0x05
  else if d.after ≠ 0 ∧ !(sget (fun _ => []) x.hbx.last port).contains d.after then 0x06
  else if port < 6 ∧ 64 ≤ x.hbxOut port then 0x04
  else if x.descEmpty d then 0x01
  else if d.timed ∧ 4096 ≤ x.hbx.delay.length then 0x03
  else if 256 ≤ x.queueDepth d then 0x02
  else 0x00

/-- Enters a transaction into its queue with a new stamp (R439). -/
def UnitSt.enqueue (x : UnitSt) (t : Txn) : UnitSt :=
  { x with hbx := { x.hbx with held := x.hbx.held ++ [{ t with stamp := x.hbx.stamp + 1 }], stamp := x.hbx.stamp + 1 } }

/-- Whether release time `a` comes no later than `b` in the delay list: both in µs modulo 2^32, seen from `now`;
a time at or behind `now`, or 2^31 µs or more ahead, is due at the next tick (R447). -/
def dueIn (now a : Nat) : Nat :=
  let d := (a + 2 ^ 32 - now % 2 ^ 32) % 2 ^ 32
  if d < 2 ^ 31 then d else 0

/-- Inserts into the delay list behind every entry that is due no later (R447). -/
def delayInsert (now : Nat) (t : Txn) : List Txn → List Txn
  | [] => [t]
  | u :: l => if dueIn now u.desc.at_ ≤ dueIn now t.desc.at_ then u :: delayInsert now t l else t :: u :: l

/-- Whether a transaction is for one cell alone that a RESET has taken away, ENUM left out (R454). -/
def UnitSt.forGone (x : UnitSt) (t : Txn) : Bool :=
  t.desc.kind != kEnum && !t.desc.bcast && t.desc.hop != 0x7F && t.parts.any (fun p => (x.view p.1).gone)

/-- Submits a descriptor through a port (R436): the result code and the ID. A transaction for a cell that has been reset is
accepted, and ends with GONE at once (R454).
Log entry 218 (DEDUCED). -/
def UnitSt.submit (x : UnitSt) (port : Nat) (d : Desc) : Nat × Nat × UnitSt :=
  let code := x.submitCode port d
  if code = 0x00 then
    let (id, x) := x.hbxId port
    let t : Txn := { id := id, desc := d, subAt := x.now, strands := x.descStrands d
                     parts := (x.descCells d (x.descStrands d)).map (fun k => (k, PartSt.unsent)) }
    let x := if d.timed then { x with hbx := { x.hbx with delay := delayInsert (x.now / us) t x.hbx.delay } } else x.enqueue t
    (0, id, if x.forGone t then x.hbxFinish t stGone 0 else x.hbxShow port d)
  else if code = 0x01 then
    let (id, x) := x.hbxId port
    (1, id, x.hbxFinish { id := id, desc := d } 1 0)
  else
    let x := x.inc HBX_CNT1.REFUSE
    let x := x.err HBX_ERR.REFUSE
    (code, 0, if port < 6 then x.evtBit 0x20000 (8 + port) else x)

/-- Submits through port 6, the unit's own (R435). -/
def UnitSt.submit6 (x : UnitSt) (d : Desc) : Nat × UnitSt :=
  let (code, id, x) := x.submit 6 d
  (if code = 0 then id else 0, x)

/-- A WRITE of the whole word `data` to cell register `addr`. -/
def writeDesc (bcast : Bool) (strand hop addr data after : Nat) : Desc :=
  { kind := kEntry, op := 2, bcast := bcast, aftok := false, timed := false, strand := strand, hop := hop
    addr := BitVec.ofNat 32 addr, data := BitVec.ofNat 32 data, mask := 0xFFFFFFFF, buf := 0, tmo := 0, after := after, at_ := 0 }

/-- How a transaction ended, if it has. -/
def UnitSt.hbxEnded (x : UnitSt) (id : Nat) : Option Nat := (x.hbx.ended.find? (fun e => e.1 == id)).map (·.2)

/-! What a frame takes (R440, R443). -/

/-- The parts of a transaction on strand `s`; one for a whole strand or with BCAST leaves out cells that have been reset
(R454). -/
def UnitSt.partsOn (x : UnitSt) (t : Txn) (s : Nat) : List Nat :=
  (t.parts.filter (fun p => p.1 / 64 == s && !((x.view p.1).gone && (t.desc.bcast || t.desc.hop == 0x7F)))).map (·.1)

/-- Whether a transaction counts as unsent on strand `s` (R440). -/
def unsentOn (t : Txn) (s : Nat) : Bool := t.desc.kind == kWait || !t.sentOn.contains s

/-- Whether tag `g` is taken at cell `k`, or will be by a transaction other than `id` that has it and is still unsent there. -/
def UnitSt.tagTaken (x : UnitSt) (id g k : Nat) : Bool :=
  (x.view k).tags.any (fun e => e.1 == g)
    || x.hbx.held.any (fun u => u.id != id && u.tag == g && u.parts.any (fun p => p.1 == k && p.2 == .unsent))

/-- The lowest tag that is free at every cell of a transaction, 0 when none is (R105, R440).
Log entry 218 (DEDUCED). -/
def UnitSt.freeTag (x : UnitSt) (t : Txn) : Nat :=
  ([1, 2, 3, 4, 5, 6, 7].find? (fun g => t.parts.all (fun p => !x.tagTaken t.id g p.1))).getD 0

/-- Whether a transaction is AFTOK and its AFTER transaction ended in something other than OK or EMPTY (R441). -/
def UnitSt.afterFailed (x : UnitSt) (t : Txn) : Bool :=
  t.desc.aftok && t.sentOn == [] && (match x.hbxEnded t.desc.after with | some st => decide (1 < st) | none => false)

/-- Whether nothing stands against a held transaction in the frame of strand `s` on port `p` (R440); an ECHO is in flight from its
launch until its transaction ends. -/
def UnitSt.clear (x : UnitSt) (p s : Nat) (t : Txn) : Bool :=
  let earlier := x.hbx.held.filter (fun u => decide (u.stamp < t.stamp))
  let mine := (x.txnCells t).filter (fun k => k / 64 == s)
  t.strands.contains s && !t.sentOn.contains s
    && !(earlier.any (fun u => u.strands.contains s && unsentOn u s && (x.txnCells u).any (fun k => mine.contains k)))
    && !(earlier.any (fun u => u.desc.kind == kBarrier && u.strands.any (fun q => t.strands.contains q)))
    && (t.desc.after == 0 || (x.hbxEnded t.desc.after).isSome) && !x.afterFailed t
    && (t.tag != 0 || x.freeTag t != 0)
    && (t.desc.kind != kEnum || t.desc.op != 2
        || !x.hbx.held.any (fun u => u.desc.kind == kEnum && u.desc.op == 2 && u.sentOn.contains s))
    && (if t.desc.kind = kEnum then x.enumerating p
        else if t.desc.kind = kEntry ∨ t.desc.kind = kBulk ∨ t.desc.kind = kFlag then x.pstate p != 0 && x.pstate p != 2
        else false)

/-- Whether a FLAG may go into the frame of port `p`: its bits leave in the command frames of one launch, so every strand that it is
still to be sent on must be able to take it. Where one of its strands is at low rate that is the launch of the thirty-third period
of a cycle, whose low-rate frames are filled in the period before (R139, R434).
Log entry 218 (DEDUCED). -/
def UnitSt.flagNow (x : UnitSt) (p : Nat) (t : Txn) : Bool :=
  let low (s : Nat) : Bool := match x.portOf s with | some q => x.pstate q == 1 | none => false
  t.strands.all (fun s => t.sentOn.contains s || (match x.portOf s with
      | some q => x.clear q s t && decide ((x.port q).rateFrom ≤ x.pn) && !(x.enumerating q &&
          x.hbx.held.any (fun u => u.desc.kind == kEnum && u.desc.strand == s && u.sentOn == []))
      | none => false))
    && (!t.strands.any low || x.pn % 64 == (if x.pstate p = 1 then 31 else 32))

/-- Whether a held transaction may go into the frame of strand `s` on port `p` (R434, R440).
Log entry 218 (DEDUCED). -/
def UnitSt.eligible (x : UnitSt) (p s : Nat) (t : Txn) : Bool :=
  x.clear p s t && (t.desc.kind != kFlag || x.flagNow p t)

/-- The held transactions the engine of strand `s` scans: 64 from the head of the strand queue and of the broadcast
queue, in stamp order (R443). -/
def UnitSt.scanned (x : UnitSt) (s : Nat) : List Txn :=
  let own := (x.hbx.held.filter (fun t => !t.desc.bcast && t.desc.strand == s)).take 64
  let bc := (x.hbx.held.filter (fun t => t.desc.bcast)).take 64
  x.hbx.held.filter (fun t => own.any (fun u => u.id == t.id) || bc.any (fun u => u.id == t.id))

/-- The eligible transactions in the order the engine takes them: port 6 ENTRY transactions first (R443). -/
def UnitSt.takeOrder (x : UnitSt) (p s : Nat) : List Txn :=
  let l := (x.scanned s).filter (x.eligible p s)
  let six := l.filter (fun t => t.id / 8192 == 6 && t.desc.kind == kEntry)
  six ++ l.filter (fun t => !(t.id / 8192 == 6 && t.desc.kind == kEntry))

/-- The bytes of the SRAM from address `a`.
Log entry 14 (DESIGN CHOICE). -/
def UnitSt.sramBytes (x : UnitSt) (a n : Nat) : Bytes := (List.range n).map (fun i => sget (fun _ => 0) x.mem.sram (a + i))

/-- Writes bytes into the SRAM from address `a`. -/
def UnitSt.sramPut (x : UnitSt) (a : Nat) (bs : Bytes) : UnitSt :=
  { x with mem := { x.mem with
    sram := (bs.zipIdx).foldl (fun m bi => sset (fun _ => (0 : Byte)) m (a + bi.2) bi.1) x.mem.sram } }

/-- The window entry of an ENTRY transaction with its tag. -/
def entryOf (t : Txn) (tag : Nat) : Bytes :=
  entryBytes t.desc.hop t.desc.op tag t.desc.addr.toNat t.desc.data.toNat t.desc.mask.toNat

/-- Reserves the transaction's tag at its cells and marks it sent on strand `s`. -/
def UnitSt.markSent (x : UnitSt) (id s : Nat) : UnitSt :=
  match x.hbx.held.find? (fun t => t.id == id) with
  | none => x
  | some t =>
    let here := x.partsOn t s
    let t' := { t with
      sentOn := s :: t.sentOn
      parts := (t.parts.filter (fun p => p.1 / 64 != s || here.contains p.1)).map
        (fun p => if here.contains p.1 then (p.1, .sent) else p) }
    let x := { x with hbx := { x.hbx with held := x.hbx.held.map (fun u => if u.id == id then t' else u) } }
    if t.tag = 0 then x
    else here.foldl (fun x k => x.onView k (fun v => { v with tags := (t.tag, id, 0) :: v.tags.filter (fun e => e.1 != t.tag) })) x

/-- Gives a transaction its tag before it is first sent. -/
def UnitSt.giveTag (x : UnitSt) (id : Nat) : UnitSt :=
  { x with hbx := { x.hbx with
    held := x.hbx.held.map (fun t =>
      if t.id == id && t.tag == 0 && (t.desc.kind == kEntry || t.desc.kind == kBulk) then { t with tag := x.freeTag t } else t) } }

/-- Fills the prefetch slot of port `p` for strand `s` (R442 to R444, R446).
Log entry 218 (DEDUCED). -/
def UnitSt.prefetch (x : UnitSt) (p s : Nat) : UnitSt :=
  if (x.port p).relay && x.lstate == 0 then x.onPort p (fun q => { q with pre := {} })
  else
    let flags := (x.takeOrder p s).filter (fun u => u.desc.kind == kFlag)
    let bits := flags.foldl (fun b u => b ||| u.desc.data.toNat % 16) 0
    match (x.takeOrder p s).filter (fun u => u.desc.kind != kFlag) with
    | [] => x.onPort p (fun q => { q with pre := { ids := flags.map (·.id), bflags := bits } })
    | t :: l =>
      if t.desc.kind = kEnum then
        let pay := if t.desc.op = 3 then x.sramBytes t.desc.buf 32 else []
        let f := enumFrame x.id false s t.desc.op 0 t.desc.hop (x.ncell p) pay
        x.onPort p (fun q => { q with pre := { ids := [t.id], enum := some f } })
      else if t.desc.kind = kBulk then
        let x := x.giveTag t.id
        let tag := ((x.hbx.held.find? (fun u => u.id == t.id)).map (·.tag)).getD 0
        let len := t.desc.mask.toNat % 256
        let w := bulkBytes t.desc.hop tag len t.desc.addr.toNat t.desc.data.toNat (x.sramBytes t.desc.buf len)
        x.onPort p (fun q => { q with pre := { ids := t.id :: flags.map (·.id), window := w, mgmt := true, bulk := true, bflags := bits } })
      else
        let es := ((t :: l).filter (fun u => u.desc.kind == kEntry)).take 8
        let x := es.foldl (fun x u => x.giveTag u.id) x
        let tagOf := fun id => ((x.hbx.held.find? (fun u => u.id == id)).map (·.tag)).getD 0
        let w := es.flatMap (fun u => entryOf u (tagOf u.id))
        x.onPort p (fun q => { q with pre := {
          ids := es.map (·.id) ++ flags.map (·.id), window := padWindow w, mgmt := true, bflags := bits } })

/-! Replies and completion (R448 to R450). -/

/-- Takes the reply in a valid status slot of cell `k` (R448, R449); an OK to the RATE entry that is pending counts for its rate change
(R138). -/
def UnitSt.takeReply (x : UnitSt) (k : Nat) (slot : Bytes) : UnitSt :=
  let rtag := slotRtag slot
  if rtag % 8 = 0 ∨ rtag / 8 ≠ unitBit x.id then x
  else
    match (x.view k).tags.find? (fun e => e.1 == rtag % 8) with
    | none => x.inc HBX_CNT3.LATEREP
    | some (g, id, _) =>
      let x := x.onView k (fun v => { v with tags := v.tags.filter (fun e => e.1 != g) })
      let rd := BitVec.ofNat 32 (slotRdata slot)
      let rate (e : Option (Nat × Nat)) : Bool := x.hbx.held.any (fun t => t.id == id && t.desc.kind == kEntry && t.desc.op == 7 &&
        e == some (t.desc.addr.toNat, t.desc.data.toNat % 2))
      let x : UnitSt := match x.portOf (k / 64) with
        | some p => if rate (x.port p).ratePend && rd == 0 then x.onPort p (fun q => { q with rateOk := k :: q.rateOk }) else x
        | none => x
      { x with hbx := { x.hbx with held := x.hbx.held.map (fun t =>
          if t.id == id then
            let code : Word := if t.desc.kind = kEntry ∧ t.desc.op = 1 then (if bitAt (slotFlags slot) 0 then 3 else 0) else rd
            { t with parts := t.parts.map (fun p => if p.1 == k then (k, .replied code rd) else p) }
          else t) } }

/-- Whether every part of a transaction is final. -/
def partsDone (t : Txn) : Bool :=
  t.parts.all (fun p => match p.2 with | .replied _ _ => true | .missing => true | _ => false)

/-- The status of a transaction whose parts are final, and its RDATA (R450). -/
def finalStatus (t : Txn) : Nat × Word :=
  let missing := t.parts.any (fun p => match p.2 with | .missing => true | _ => false)
  let failed := t.parts.any (fun p => match p.2 with | .replied c _ => decide (c.toNat > 1) | _ => false)
  if missing then (stNoReply, 0)
  else match t.parts with
    | [(_, .replied c rd)] => (c.toNat, if t.desc.kind = kEntry ∧ t.desc.op = 1 then rd else 0)
    | _ => if failed then (stPartial, 0) else (0, 0)

/-- Marks the cell of a RESET entry that completed with OK, and ends what is held for it with GONE (R454). -/
def UnitSt.cellGone (x : UnitSt) (k : Nat) : UnitSt :=
  let x := x.onView k (fun v => { v with gone := true })
  ((x.hbx.held ++ x.hbx.delay).filter (fun t => t.sentOn == [] && t.parts.any (fun p => p.1 == k) && x.forGone t)).foldl
    (fun x t => x.hbxFinish t stGone 0) x

/-- Completes one held transaction where its rule is met (R434, R441, R450); a FLAG at the compute start after its launch, so that one
whose frame is cut goes out again (R453).
Log entry 76 (DEDUCED). -/
def UnitSt.tryFinish (x : UnitSt) (t : Txn) : UnitSt :=
  if x.afterFailed t then x.hbxFinish t stCancelled 0
  else if t.desc.kind = kBarrier then
    (if x.hbx.held.any (fun u => decide (u.stamp < t.stamp) && u.strands.any (fun q => t.strands.contains q)) then x
     else x.hbxFinish t 0 0)
  else if t.desc.kind = kWait then
    (if t.parts.all (fun p =>
        (match x.portOf (p.1 / 64) with | some q => (x.view p.1).slotPn == some (x.statusPn q) | none => false) &&
          slotFlags (x.view p.1).slot &&& (t.desc.mask.toNat % 4096) == t.desc.data.toNat) then x.hbxFinish t 0 0 else x)
  else if t.desc.kind = kFlag then (if t.strands.all (fun s => t.sentOn.contains s) then x.hbxFinish t 0 0 else x)
  else if t.desc.kind = kEntry ∨ t.desc.kind = kBulk then
    (if t.strands.all (fun s => t.sentOn.contains s) ∧ partsDone t then
      let (st, rd) := finalStatus t
      let x := x.hbxFinish t st rd
      if t.desc.kind = kEntry ∧ t.desc.op = 6 ∧ st = 0 then t.parts.foldl (fun x p => x.cellGone p.1) x else x
     else x)
  else x

/-- What Headbox does at a compute start: MODE takes effect, ages and reply counts advance, transactions that are done
complete (R434, R449, R452).
Log entry 75 (DEDUCED). -/
def UnitSt.hbxCompute (x : UnitSt) : UnitSt :=
  let mode := x.fld HBX_CFG.MODE
  let x : UnitSt := if mode = 0 ∧ x.fld HBX_STAT.MODE ≠ 0 then
      ((x.hbx.held ++ x.hbx.delay).filter (fun t => t.desc.kind == kWait || t.desc.kind == kEnum)).foldl (fun x t => x.hbxFinish t stCancelled 0) x
    else x
  let x : UnitSt := x.set HBX_STAT.MODE mode
  let low := fun (k : Nat) => match x.portOf (k / 64) with | some p => x.pstate p == 1 | none => false
  let pn := x.pn
  let x : UnitSt := x.mapViews (fun k v =>
    if low k && pn % 64 != 0 then v else { v with tags := v.tags.map (fun e => (e.1, e.2.1, e.2.2 + 1)) })
  let older : Txn → Txn := fun t => { t with age := t.age + 1 }
  let x : UnitSt := { x with
    hbx := { x.hbx with held := x.hbx.held.map older, delay := x.hbx.delay.map older } }
  let x := (x.hbx.held ++ x.hbx.delay).foldl (fun x t => if x.afterFailed t then x.hbxFinish t stCancelled 0 else x) x
  x.hbx.held.foldl (fun x t => match x.hbx.held.find? (fun u => u.id == t.id) with | some u => x.tryFinish u | none => x) x

/-- Cells whose reply has not come within NREP status frames are missing, and their tags free (R449).
Log entry 75 (DEDUCED). -/
def UnitSt.hbxMissing (x : UnitSt) : UnitSt :=
  let nrep := x.fld HBX_CFG.NREP
  let late := x.views.flatMap (fun kv => (kv.2.tags.filter (fun e => decide (nrep ≤ e.2.2))).map (fun e => (kv.1, e.1, e.2.1)))
  late.foldl (fun x l =>
    let x := x.onView l.1 (fun v => { v with tags := v.tags.filter (fun e => e.1 != l.2.1) })
    let x := x.inc HBX_CNT2.NOREPLY
    { x with hbx := { x.hbx with held := x.hbx.held.map (fun t =>
        if t.id == l.2.2 then { t with parts := t.parts.map (fun p => if p.1 == l.1 then (p.1, .missing) else p) } else t) } }) x

/-- Transactions whose time-out has run out complete with TIMEOUT in the modes START, TEST and RECOVER (R449). -/
def UnitSt.hbxTimeouts (x : UnitSt) : UnitSt :=
  if x.fld HBX_STAT.MODE = 0 then x
  else ((x.hbx.held ++ x.hbx.delay).filter (fun t =>
      (t.desc.kind == kEntry || t.desc.kind == kBulk || t.desc.kind == kWait || t.desc.kind == kEnum)
        && decide ((if t.desc.tmo = 0 then x.fld HBX_CFG.TMODEF else t.desc.tmo) ≤ t.age))).foldl
    (fun x t => x.hbxFinish t stTimeout 0) x

/-- Releases from the delay list every transaction that is due and whose queue has room, in list order (R447). -/
def UnitSt.hbxRelease (x : UnitSt) : UnitSt :=
  x.hbx.delay.foldl (fun x t =>
    let behind := x.hbx.delay.takeWhile (fun u => u.id != t.id)
    let same := fun (u : Txn) => if t.desc.bcast then u.desc.bcast else !u.desc.bcast && u.desc.strand == t.desc.strand
    if dueIn (x.now / us) t.desc.at_ = 0 ∧ x.queueDepth t.desc < 256 ∧ !(behind.any same) then
      let x := { x with hbx := { x.hbx with delay := x.hbx.delay.filter (fun u => u.id != t.id) } }
      (x.enqueue t).hbxShow (t.id / 8192) t.desc
    else x) x

/-- Ends the held transactions that satisfy `p` with a status. -/
def UnitSt.hbxEnd (x : UnitSt) (p : Txn → Bool) (status : Nat) : UnitSt :=
  ((x.hbx.held ++ x.hbx.delay).filter p).foldl (fun x t => x.hbxFinish t status 0) x

/-- The unit leaves HOLDER: held BYPASS and FLAG transactions are cancelled (R453). -/
def UnitSt.hbxLeaveHolder (x : UnitSt) : UnitSt :=
  x.hbxEnd (fun t => t.sentOn == [] && (t.desc.kind == kFlag || (t.desc.kind == kEntry && t.desc.op == 3))) stCancelled

/-- A frame that Headbox sent is cut: its transactions return to their queues with their tags, and no reply to them is due
(R453). -/
def UnitSt.hbxResend (x : UnitSt) (ids : List Nat) (s : Nat) : UnitSt :=
  ids.foldl (fun x id =>
    let x := x.inc HBX_CNT1.RESEND
    let x := x.mapViews (fun k v => if k / 64 = s then { v with tags := v.tags.filter (fun e => e.2.1 != id) } else v)
    { x with
      hbx := { x.hbx with held := x.hbx.held.map (fun t =>
        if t.id == id then
          { t with sentOn := t.sentOn.filter (· != s)
                   parts := t.parts.map (fun p => if p.1 / 64 = s then (p.1, .unsent) else p) }
        else t) } }) x

end Sys2Proof.Machine
end

