-- ==== Sys2Proof/Machine/NetOps.lean ====
section
/-! DEFINITION. The station ports of a unit: stamps, what may start on a port and when (R499, R521, R522), frames the unit
forms itself (R502, R516), publications (R515 to R517), launch queues (R521 to R523). -/
namespace Sys2Proof.Machine

def UnitSt.onNet (x : UnitSt) (f : NetSt → NetSt) : UnitSt := { x with net := f x.net }
def UnitSt.ptpPort (x : UnitSt) (p : Nat) : PtpPort := sget (fun _ => {}) x.ptp.ports p
def UnitSt.onPtp (x : UnitSt) (f : PtpSt → PtpSt) : UnitSt := { x with ptp := f x.ptp }
def UnitSt.onPtpPort (x : UnitSt) (p : Nat) (f : PtpPort → PtpPort) : UnitSt :=
  x.onPtp (fun s => { s with ports := sset (fun _ => {}) s.ports p (f (x.ptpPort p)) })

/-! Ports (R497, R499). -/

/-- Whether station port `p` is enabled and the page works. -/
def UnitSt.netEn (x : UnitSt) (p : Nat) : Bool := x.works 0x14000 && x.bit NET_PCFG.EN p

/-- Whether the link of port `p` is up. -/
def UnitSt.netUp (x : UnitSt) (p : Nat) : Bool := bitAt (x.fld NET_STAT.LINK) p

/-- The stamp of a frame whose start passes the pins at `t`: received frames less INLAT, sent frames with EGLAT (R499).
Log entry 131 (DEDUCED). -/
def UnitSt.rxStamp (x : UnitSt) (p : Nat) (t : Instant) : Instant := t - x.fld PTP_LAT.INLAT p * 256
def UnitSt.txStamp (x : UnitSt) (p : Nat) (t : Instant) : Instant := t + x.fld PTP_LAT.EGLAT p * 256

/-- Whether port `p` runs at 1000BASE-X: the mode it was last enabled with (R497). -/
def UnitSt.netSlow (x : UnitSt) (p : Nat) : Bool := sget (fun _ => 2) x.net.mode p == 1

/-- The bits [1:0] of a PORTS field name port `p`. -/
def portIn (ports p : Nat) : Bool := bitAt ports p

/-- The tag a port puts into the frames it sends (R525). -/
def UnitSt.netTag (x : UnitSt) (p : Nat) (bs : Bytes) : Bytes :=
  if x.bit NET_PCFG.VLANEN p then
    let tci := x.fld NET_PCFG.PCP p * 8192 + x.fld NET_PCFG.VID p
    bs.take 12 ++ [0x81, 0x00, BitVec.ofNat 8 (tci / 256), BitVec.ofNat 8 tci] ++ bs.drop 12
  else bs

/-- The time a frame of `n` bytes without FCS takes with the port's tag, its FCS, preamble and gap. -/
def UnitSt.netSpan (x : UnitSt) (p n : Nat) : Nat := (n + 24 + 4 * x.fld NET_PCFG.VLANEN p) * (if x.netSlow p then 80 else 8) * ns / 10

/-- G of R522. -/
def UnitSt.netGuard (x : UnitSt) (p : Nat) : Nat := if x.netSlow p then 12300 * ns else 1230 * ns

/-! Launch queues (R521, R522). -/

def UnitSt.txQueue (x : UnitSt) (p : Nat) : List TxItem := sget (fun _ => []) x.net.tx p
def UnitSt.setTx (x : UnitSt) (p : Nat) (l : List TxItem) : UnitSt :=
  x.onNet (fun n => { n with tx := sset (fun _ => []) n.tx p l })
def UnitSt.netBusy (x : UnitSt) (p : Nat) : Option (TxItem × Instant) := sget (fun _ => none) x.net.busy p
def UnitSt.setBusy (x : UnitSt) (p : Nat) (b : Option (TxItem × Instant)) : UnitSt :=
  x.onNet (fun n => { n with busy := sset (fun _ => none) n.busy p b })
def UnitSt.netWait (x : UnitSt) (p : Nat) : List NetJob := sget (fun _ => []) x.net.wait p
def UnitSt.setWait (x : UnitSt) (p : Nat) (l : List NetJob) : UnitSt :=
  x.onNet (fun n => { n with wait := sset (fun _ => []) n.wait p l })

/-- The scheduled frame that is first in a queue.
Log entry 139 (DEDUCED). -/
def firstTimed (q : List TxItem) : Option TxItem := q.find? (fun i => i.at_ != 0)

/-- Whether port `p` is free and its link up. -/
def UnitSt.netFree (x : UnitSt) (p : Nat) : Bool := x.netEn p && x.netUp p && (x.netBusy p).isNone

/-- Whether a frame of `n` bytes that is not scheduled may start at `t` (R522). -/
def UnitSt.netMay (x : UnitSt) (p n : Nat) (t : Instant) : Bool :=
  x.netFree p &&
    match firstTimed (x.txQueue p) with
    | none => true
    | some i => decide (t + x.netGuard p < i.at_ * ns) || decide (t + x.netSpan p n ≤ i.at_ * ns)

/-! Frames the unit forms itself. -/

/-- Overwrites bytes of a frame at an offset; bytes past its end are not written. -/
def patch (bs : Bytes) (o : Nat) (new : Bytes) : Bytes :=
  bs.zipIdx.map (fun bi => if o ≤ bi.2 ∧ bi.2 < o + new.length then new.getD (bi.2 - o) bi.1 else bi.1)

/-- `n` bytes of `v`, highest first. -/
def beBytes (n v : Nat) : Bytes := (List.range n).map (fun i => BitVec.ofNat 8 (v / 256 ^ (n - 1 - i)))

/-- The 8 bytes of t: seconds, 24 bits of fraction, and a quality byte that the spec leaves open.
Log entry 138 (PRESUMED). -/
def utcBytes (t : Instant) (q : Nat) : Bytes := beBytes 4 (t / sec) ++ beBytes 3 (t % sec * 2 ^ 24 / sec) ++ [BitVec.ofNat 8 q]

/-- Carries out an access to SRAM; while its islands are in retention the crossing is discarded (R42).
Log entries 130 (DESIGN CHOICE), 132 (DEDUCED). -/
def UnitSt.netSram (x : UnitSt) (k : UnitSt → UnitSt) : UnitSt :=
  if x.islandOn .mem0 && x.islandOn .mem1 then k x else x.err NET_ERR.XING

/-- A copy of publication `n` as it leaves (R515).
Log entry 138 (PRESUMED). -/
def UnitSt.gooseFrame (x : UnitSt) (n sq : Nat) : Bytes × UnitSt :=
  let (q, x) := x.draw
  let t := match sget (fun _ => none) x.net.gp n with | some (g : GpSt) => g.start | none => 0
  let bs := x.sramBytes (x.fld NET_GPBUF.BUF n) (x.fld NET_GPLEN.LEN n)
  let bs := patch bs (x.fld NET_GPOFS.STOFS n) (beBytes 4 (x.fld NET_GPSTN.STNUM n))
  let bs := patch bs (x.fld NET_GPOFS.SQOFS n) (beBytes 4 sq)
  (patch bs (x.fld NET_GPTOFS.TOFS n) (utcBytes t q), x)

/-- Length without FCS and tag of a frame the unit forms itself. -/
def UnitSt.jobLen (x : UnitSt) : NetJob → Nat
  | .goose n _ => x.fld NET_GPLEN.LEN n
  | _ => 68

/-- The first copy of publication `n`'s state leaves at `t`: t and the series of copies count from it (R516).
Log entry 137 (DEDUCED). -/
def UnitSt.gpLaunched (x : UnitSt) (n : Nat) (t : Instant) : UnitSt :=
  match sget (fun _ => none) x.net.gp n with
  | some (g : GpSt) =>
    if g.sent then x
    else x.onNet (fun s => { s with gp := sset (fun _ => none) s.gp n
                                      (some { g with start := t, due := g.due + t - g.start, sent := true }) })
  | none => x

/-- Starts a frame the unit forms itself on port `p` at `t`. -/
def UnitSt.jobStart (x : UnitSt) (p : Nat) (t : Instant) (j : NetJob) : UnitSt :=
  let x := x.setBusy p (some (⟨0, [], 0, false⟩, x.txStamp p t))
  match j with
  | .goose n sq =>
    let (bs, x) := (x.gpLaunched n t).gooseFrame n sq
    x.emit (.net p (x.netTag p bs))
  | .pdReq seq =>
    let x := x.onPtpPort p (fun q => { q with req := some (seq, x.txStamp p t) })
    x.emit (.pdelayReq p seq)
  | .pdResp seq src rx => x.emit (.pdelayResp p seq src ((x.txStamp p t : Int) - rx))

/-- Sends a frame the unit forms itself as soon as its port may start it.
Log entry 127 (DEDUCED). -/
def UnitSt.jobSend (x : UnitSt) (p : Nat) (t : Instant) (j : NetJob) : UnitSt :=
  if !x.netEn p || !x.netUp p then x
  else if x.netWait p == [] && x.netMay p (x.jobLen j) t then x.jobStart p t j
  else x.setWait p (x.netWait p ++ [j])

/-! Publications (R516, R517). -/

def UnitSt.gp (x : UnitSt) (n : Nat) : Option GpSt := sget (fun _ => none) x.net.gp n
def UnitSt.setGp (x : UnitSt) (n : Nat) (g : Option GpSt) : UnitSt :=
  x.onNet (fun s => { s with gp := sset (fun _ => none) s.gp n g })

/-- Whether publication `n` may be sent. -/
def UnitSt.gpMay (x : UnitSt) (n : Nat) : Bool := x.bit NET_GPCFG.EN n && (x.isHolder || x.bit NET_GPCFG.STBY n)

/-- Sends a copy of publication `n` on its ports.
Log entry 137 (DEDUCED). -/
def UnitSt.gpSend (x : UnitSt) (n sq : Nat) (t : Instant) : UnitSt :=
  x.netSram (fun x => (bitsOf 2 (x.fld NET_GPCFG.PORTS n)).foldl (fun x p => x.jobSend p t (.goose n sq)) x)

/-- Ends publication `n` and its copies that wait for a port. -/
def UnitSt.gpStop (x : UnitSt) (n : Nat) : UnitSt :=
  let keep : NetJob → Bool := fun j => match j with | .goose m _ => m != n | _ => true
  (([0, 1] : List Nat).foldl (fun x p => x.setWait p ((x.netWait p).filter keep)) x).setGp n none

/-- Whether a frame the unit has formed may still leave: a copy only while its publication may be sent (R517).
Log entry 137 (DEDUCED). -/
def UnitSt.jobMay (x : UnitSt) : NetJob → Bool
  | .goose n _ => x.gpMay n
  | _ => true

/-- Starts a new state of publication `n` (R516): stNum + 1, sqNum 0; the next copy is due T1 after the launch.
Log entry 137 (DEDUCED). -/
def UnitSt.gpStart (x : UnitSt) (n : Nat) (t : Instant) : UnitSt :=
  if !x.bit NET_GPCFG.EN n then x
  else
    let x := x.gpStop n
    let x := x.set NET_GPSTN.STNUM ((x.fld NET_GPSTN.STNUM n + 1) % 2 ^ 32) n
    if !x.gpMay n then x
    else
      let t1 := x.fld NET_GPCFG.T1 n
      (x.setGp n (some ⟨1, t + t1 * 1000 * us, t1, t, false⟩)).gpSend n 0 t

/-- The publications when the unit enters HOLDER, and when it leaves it (R517). -/
def UnitSt.gpEnter (x : UnitSt) : UnitSt := (List.range 8).foldl (fun x n => x.gpStart n x.now) x
def UnitSt.gpLeave (x : UnitSt) : UnitSt :=
  (List.range 8).foldl (fun x n => if x.bit NET_GPCFG.STBY n then x else x.gpStop n) x

/-! Completions (R523). -/

/-- Shows the completion that waits. -/
def UnitSt.txShow (x : UnitSt) : UnitSt :=
  match x.net.cpl with
  | [] => ((x.set NET_TXCPL0.VALID 0).set NET_TXCPL0.STATUS 0).set NET_TXCPL0.ID 0
  | (id, st, _) :: _ => ((x.set NET_TXCPL0.VALID 1).set NET_TXCPL0.STATUS st).set NET_TXCPL0.ID id

/-- A frame completes with its status and egress stamp in ns.
Log entry 139 (DEDUCED). -/
def UnitSt.txDone (x : UnitSt) (id st stamp : Nat) : UnitSt :=
  ((x.onNet (fun n => { n with cpl := n.cpl ++ [(id, st, stamp)] })).txShow).evt NET_EVT.TXCPL

/-- Submits the frame of `NET_TXD0` to `NET_TXD3` (R521): the result code and the ID given.
Log entry 139 (DEDUCED). -/
def UnitSt.txSubmit (x : UnitSt) : UnitSt :=
  let p := x.fld NET_TXD1.PORT
  let n := x.fld NET_TXD1.LEN
  let t := x.pair NET_TXD2.AT_LO NET_TXD3.AT_HI
  let q := x.txQueue p
  let code :=
    if n = 0 then 1 else if 64 ≤ q.length then 2 else if 1518 < n then 3 else if !x.netEn p then 4 else 0
  if 2 ≤ code then (x.set NET_TXRES.CODE code).set NET_TXRES.ID 0
  else
    let id := x.net.lastId % 65535 + 1
    let x := ((x.onNet (fun s => { s with lastId := id })).set NET_TXRES.CODE code).set NET_TXRES.ID id
    let (v, x) := x.draw
    if code = 1 then x.txDone id 0 (v % 2 ^ 64)
    else
      let bs := x.sramBytes (x.fld NET_TXD0.ADDR) n
      let bs := bs ++ beBytes (60 - n) v
      let ahead := (firstTimed q).isSome || (match x.netBusy p with | some (i, _) => i.at_ != 0 | none => false)
      x.setTx p (q ++ [⟨id, bs, t, t != 0 && !ahead && decide (t * ns < x.now)⟩])

/-- The frame that leaves a free port at `t`: the first scheduled one when its AT has come; else one of the unit's own; else
the head of the queue, unless a scheduled frame forbids it (R522).
Log entry 139 (DEDUCED). -/
def UnitSt.txLaunch (x : UnitSt) (p : Nat) (t : Instant) : UnitSt :=
  if !x.netFree p then x
  else
    let q := x.txQueue p
    let leave (x : UnitSt) (i : TxItem) : UnitSt :=
      let x := (x.setTx p (q.filter (fun j => j.id != i.id))).setBusy p (some (i, x.txStamp p t))
      x.emit (.net p (x.netTag p i.bytes))
    match (firstTimed q).filter (fun i => decide (i.at_ * ns ≤ t)) with
    | some i => leave x i
    | none =>
      match (x.netWait p).filter x.jobMay with
      | j :: l => if x.netMay p (x.jobLen j) t then (x.setWait p l).jobStart p t j else x
      | [] =>
        match q with
        | i :: _ => if i.at_ = 0 ∧ x.netMay p i.bytes.length t then leave x i else x
        | [] => x

/-- The frame in flight on port `p` ends at `t` (R523); a scheduled frame that now comes to the head after its AT is late. -/
def UnitSt.txEnd (x : UnitSt) (p : Nat) (t : Instant) : UnitSt :=
  match x.netBusy p with
  | none => x
  | some (i, stamp) =>
    let x := x.setBusy p none
    let x :=
      if i.at_ = 0 then x
      else
        match firstTimed (x.txQueue p) with
        | none => x
        | some f => x.setTx p ((x.txQueue p).map (fun j =>
            if j.id = f.id then { j with late := j.late || decide (j.at_ * ns < t) } else j))
    if i.id = 0 then x else x.txDone i.id (b2n i.late) (stamp / ns)

/-- The link of port `p` goes down: queued frames complete with LINKDN, the unit's own are not sent (R523).
Log entry 139 (DEDUCED). -/
def UnitSt.txDown (x : UnitSt) (p : Nat) : UnitSt :=
  let q := x.txQueue p
  let x := (x.setTx p []).setWait p []
  q.foldl (fun x i => let (v, x) := x.draw; x.txDone i.id 2 (v % 2 ^ 64)) x

end Sys2Proof.Machine
end

