-- ==== Sys2Proof/Machine/LeaseOps.lean ====
section
/-! DEFINITION. The lease states of a unit (R405 to R415), what it sends on its strand ports and over Splice when it stops
or is fenced (R118, R121, R124, R406), and the hand-over request (R413). -/
namespace Sys2Proof.Machine

/-- Length of a frame of `n` bytes on port `p`: 1.6 ns a byte at full rate, 32 ns at low rate (R86). -/
def UnitSt.frameSpan (x : UnitSt) (p n : Nat) : Nat := if x.pstate p = 1 then n * 32 * ns else n * 16 * ns / 10

/-- A fault set sent at `t` cuts the frame in progress on port `p`: the unit counts it and its transactions return to
their queues (R118, R453). -/
def UnitSt.cutFrame (x : UnitSt) (p : Nat) (t : Instant) : UnitSt :=
  match (x.port p).launched with
  | none => x
  | some (t1, len, ids) =>
    if t1 ≤ t ∧ t < t1 + x.frameSpan p len then
      let x := x.inc STRP_CNT2.ABORT p
      let x := x.hbxResend ids (x.port p).strand
      x.onPort p (fun q => { q with launched := none })
    else x

/-- The ports a fault set goes out on: those in ACTIVE or LOW (R121). -/
def UnitSt.faultPorts (x : UnitSt) : List Nat := (List.range 100).filter (fun p => x.pstate p == 5 || x.pstate p == 1)

/-- Sends STOP on every strand port in ACTIVE or LOW; the holder, and a unit in CLAIM, which acts as it does (R534), asks the
partner for STOP as well (R42, R121). -/
def UnitSt.stopAll (x : UnitSt) (t : Instant) : UnitSt :=
  let x := x.faultPorts.foldl (fun x p => (x.emit (.sets p (faultSets 0x1E x.id))).cutFrame p t) x
  if x.lstate = 1 ∨ x.lstate = 2 then x.sayVia FLT_ERR.XING .stopReq else x

/-- Changes the lease state (R406, R430, R453); publications start and stop with HOLDER (R517), and a holder follows PTP and not
its partner (R54, R56). -/
def UnitSt.setLstate (x : UnitSt) (v : Nat) : UnitSt :=
  let was := x.lstate
  let x := x.set LSE_STAT.STATE v
  let x : UnitSt := if (v == 2) != (was == 2) then
      { x with lse := { x.lse with rsWant := [], rsOwn := [], rsRx := [], rsAsk := [], rsTx := [] } } else x
  let x := if v = 2 ∧ was ≠ 2 then (x.set TIM_SRC.ALIGN 0).set TIM_SRC.PARTNER 0 else x
  let x : UnitSt := if (v == 2) != (was == 2) then { x with tim := { x.tim with rateAt := none, misalign := 0 } } else x
  let x := if was = 2 ∧ v ≠ 2 then x.hbxLeaveHolder.gpLeave else x
  if v = 2 ∧ was ≠ 2 then (x.setPair LSE_HOLDPN_LO.PN_LO LSE_HOLDPN_HI.PN_HI x.pn).gpEnter else x

/-- The largest epoch the unit has seen, 0 when it has seen none (R409). -/
def UnitSt.seenEpoch (x : UnitSt) : Nat := x.lse.seen.getD 0

/-- Takes an epoch into account (R409); in STANDBY `LSE_EPOCH` shows the largest one seen. -/
def UnitSt.seeEpoch (x : UnitSt) (e : Nat) : UnitSt :=
  let m := match x.lse.seen with | none => e | some s => max s e
  let x := { x with lse := { x.lse with seen := some m } }
  if x.lstate = 0 then x.set LSE_EPOCH.EPOCH m else x

/-- Sets the unit's own epoch; the largest one seen is that of received Watermarks and LEASE messages alone (R409). -/
def UnitSt.setEpoch (x : UnitSt) (e : Nat) : UnitSt :=
  let x := x.set LSE_EPOCH.EPOCH (e % 2 ^ 32)
  { x with lse := { x.lse with epoch := e % 2 ^ 32 } }

/-- Enters CLAIM with epoch E + 1 for a cause of R407 (R409). -/
def UnitSt.claim (x : UnitSt) (cause : Nat) : UnitSt :=
  let x := x.setLstate 1
  let x := x.setEpoch (x.seenEpoch + 1)
  let x := (x.set LSE_LOST.CAUSE cause).inc LSE_CNT1.CLAIMS
  { x with lse := { x.lse with claimAt := some x.pn, clmAfter := false, lostNow := none } }

/-- Enters STANDBY: the unit's frames then name the partner with the largest epoch seen (R410). -/
def UnitSt.standby (x : UnitSt) : UnitSt :=
  let x := x.setLstate 0
  let x := x.set LSE_EPOCH.EPOCH x.seenEpoch
  { x with lse := { x.lse with claimAt := none, waitAct := 0, waitNof := 0, lostNow := none } }

/-- The FATAL reaction (R406, R411, R536): FENCED, ALIVE stopped, ACTIVE low, ABORT on the strand ports, FENCE over
Splice, every held transaction cancelled. -/
def UnitSt.fence (x : UnitSt) (t : Instant) : UnitSt :=
  let x := x.setLstate 3
  let x := { x with lse := { x.lse with active := false } }
  let x := (x.set FLT_STAT.FENCED 1).set FLT_STAT.ALIVE 0
  let x := x.faultPorts.foldl (fun x p => (x.emit (.sets p (faultSets 0x2D x.id))).cutFrame p t) x
  let x := x.sayVia LSE_ERR.XING .fence
  x.hbxEnd (fun _ => true) stCancelled

/-- The unit enters Hold (R586). -/
def UnitSt.enterHold (x : UnitSt) : UnitSt := x.set PWR_STAT.STATE 1

/-- The BLOCK escalation: STOP on every strand port and over Splice, and Hold (R534); a unit in Quiet leaves it by a request
alone (R586).
Log entry 145 (DEDUCED). -/
def UnitSt.block (x : UnitSt) (t : Instant) : UnitSt := if x.inQuiet then x.stopAll t else (x.stopAll t).enterHold

/-- Refuses a hand-over with a code of `LSE_HOV.RES`; one that is already under way goes on. -/
def UnitSt.hovRefuse (x : UnitSt) (res : Nat) : UnitSt := (x.set LSE_HOV.RES res).err LSE_ERR.HOVREF

/-- Forgets the hand-over that was requested, acknowledged or carried out. -/
def UnitSt.hovForget (x : UnitSt) : UnitSt :=
  { x with lse := { x.lse with hovP := none, hovAcked := false, hovMine := false } }

/-- Requests a hand-over for boundary `P` (R413): whether it was accepted.
Log entry 216 (DEDUCED). -/
def UnitSt.hovRequest (x : UnitSt) (p : Nat) : Bool × UnitSt :=
  if !x.isHolder then (false, x.hovRefuse 3)
  else if !x.splUp || !x.lse.partReady then (false, x.hovRefuse 4)
  else if p < x.pn + 3 then (false, x.hovRefuse 6)
  else
    let x := x.set LSE_HOV.RES 0
    let x := { x with lse := { x.lse with hovP := some p, hovAcked := false, hovMine := true } }
    (true, x.say (.hovReq p))

/-- Whether a committed hand-over is running, at the holder or at the partner that has acknowledged it (R535); it runs until its
boundary P. -/
def UnitSt.hovRunning (x : UnitSt) : Bool := x.lse.hovAcked && x.lse.hovP.isSome

/-- The Watermark of the unit's command frames in the period (R410, R414). -/
def UnitSt.watermark (x : UnitSt) : Watermark :=
  let llen := x.fld LSE_CFG.LLEN
  match x.lstate with
  | 0 => { holder := x.id.other, abd := false, llen := llen, epoch := x.seenEpoch, abdpn := 0 }
  | 1 => { holder := x.id, abd := false, llen := llen, epoch := x.lse.epoch, abdpn := 0 }
  | _ =>
    let p := x.lse.hovP.getD 0
    if x.lse.hovMine && x.hovRunning && (x.pn + 3 == p || x.pn + 2 == p) then
      { holder := x.id, abd := true, llen := llen, epoch := x.lse.epoch, abdpn := p }
    else { holder := x.id, abd := false, llen := llen, epoch := x.lse.epoch, abdpn := 0 }

/-- Whether the arms that are enabled all have their DSYNC bit (R422). -/
def UnitSt.dsyncAll (x : UnitSt) : Bool :=
  (List.range 6).all (fun n => !x.bit CAL_ARMCFG.EN n || bitAt (x.fld LSE_STAT.DSYNC) n)

/-- Whether the committed record of the previous period, or one after it, is present.
Log entry 216 (DEDUCED). -/
def UnitSt.mirrorHeld (x : UnitSt) : Bool :=
  decide (x.lse.mirror ≠ []) && decide (x.pn ≤ x.pair LSE_MIRPN_LO.PN_LO LSE_MIRPN_HI.PN_HI + 1)

/-- Whether the unit is READY for a hand-over (R422).
Log entry 216 (DEDUCED). -/
def UnitSt.ready (x : UnitSt) : Bool := x.lstate == 0 && x.splUp && x.mirrorHeld && x.dsyncAll && !x.lse.cfgdDiff

/-- Shows READY (R422). -/
def UnitSt.showReady (x : UnitSt) : UnitSt := x.set LSE_STAT.READY (b2n x.ready)

/-- The cause for which the holder is judged lost at a compute start, and the wait counters of the unit that PREF does
not name (R407); FENCE does not apply in Quiet (R408).
Log entries 78 (DEDUCED), 79 (DEDUCED). -/
def UnitSt.judgeLost (x : UnitSt) (pact : Bool) : Option Nat × Nat × Nat :=
  let l := x.lse
  let pref := x.fld LSE_CFG.PREF = unitBit x.id
  let llen := x.fld LSE_CFG.LLEN
  let start := decide pref && x.bit LSE_ARM.START && x.splUp && decide (2 ≤ l.partStby) && l.validNow && !l.ownNow && !l.partNow
  let active := !pact && !l.pactPrev && !l.clmNow && !l.partHold
  let span := if x.inQuiet then 2 * llen else llen
  let noframe := decide (span ≤ l.clmQuiet)
  let atOnce := decide pref || decide (l.namedAgo.getD (span + 1) ≤ span) || l.partLse == 2
  let wa := if active then l.waitAct + 1 else 0
  let wn := if noframe then l.waitNof + 1 else 0
  let cause :=
    if start then some 0
    else if l.fenceRx && !x.inQuiet then some 1
    else if active && (atOnce || decide (2 * llen + 2 < wa)) then some 2
    else if noframe && (atOnce || decide (2 * llen + 2 < wn)) then some 3
    else none
  (cause, wa, wn)

/-! Lanes (R424, R428). -/

/-- The physical lane of logical lane `i`. -/
def UnitSt.laneOf (x : UnitSt) (i : Nat) : Nat := if i = 0 then x.fld SPL_LANEMAP.LOG0 else x.fld SPL_LANEMAP.LOG1

/-- The logical lane that physical lane `n` carries. -/
def UnitSt.logOf (x : UnitSt) (n : Nat) : Option Nat :=
  if x.laneOf 0 = n then some 0 else if x.laneOf 1 = n then some 1 else none

/-- Shows which traffic lanes are in lock, and how many strands can be relayed (R428). -/
def UnitSt.showLanes (x : UnitSt) : UnitSt :=
  let l0 := x.bit SPL_LSTAT.LOCK (x.laneOf 0)
  let l1 := x.bit SPL_LSTAT.LOCK (x.laneOf 1)
  let x := x.set SPL_STAT.LANES (b2n l0 + 2 * b2n l1)
  x.set SPL_RELAY.RMAX (4 * (b2n l0 + b2n l1))

/-- Moves logical lane `l` to the lowest-numbered spare in lock; the spares are the physical lanes 2 and 3. -/
def UnitSt.moveLane (x : UnitSt) (l : Nat) : UnitSt :=
  match [2, 3].find? (fun n => x.bit SPL_LSTAT.LOCK n && !x.bit SPL_LSTAT.RET n && !x.bit SPL_LSTAT.USE n) with
  | none => x
  | some n =>
    let x := (x.set SPL_LSTAT.USE 0 (x.laneOf l)).set SPL_LSTAT.USE 1 n
    let x := if l = 0 then x.set SPL_LANEMAP.LOG0 n else x.set SPL_LANEMAP.LOG1 n
    (x.inc SPL_CNT1.LANESW).showLanes

/-- Physical lane `n` is retired, and announced in the next LEASE message; when both logical lanes have failed the unit moves them
at once (R424). -/
def UnitSt.retireLane (x : UnitSt) (n : Fin 4) : UnitSt :=
  if x.bit SPL_LSTAT.RET n.val then x
  else
    let x := (x.set SPL_LSTAT.RET 1 n.val).err SPL_ERR.LANE
    match x.logOf n.val with
    | none => x
    | some l =>
      if !x.bit SPL_LANEMAP.AUTOSP then x
      else if x.bit SPL_LSTAT.RET (x.laneOf (1 - l)) then
        { (x.moveLane 0).moveLane 1 with spl := { x.spl with announce := none, moves := [] } }
      else { x with spl := { x.spl with announce := some n } }

/-- Physical lane `n` loses lock on its receive side. -/
def UnitSt.laneLost (x : UnitSt) (n : Fin 4) : UnitSt := ((x.set SPL_LSTAT.LOCK 0 n.val).showLanes).retireLane n

/-- The lease evaluation of a compute start (R406, R407): transitions out of CLAIM and HOLDER, and whether a STANDBY
judges the holder lost. `pact` is the level of the partner's ACTIVE line.
Log entry 78 (DEDUCED). -/
def UnitSt.leaseCompute (x : UnitSt) (pact : Bool) : UnitSt :=
  let l := x.lse
  let x := x.set LSE_STAT.PACT (b2n pact)
  let l := { l with partStby := if l.partLse = 0 ∧ x.splUp then l.partStby + 1 else 0
                    clmQuiet := if l.clmNow || l.relNow then 0 else l.clmQuiet + 1
                    namedAgo := if l.partNow then some 0 else l.namedAgo.map (· + 1) }
  let x := { x with lse := l }
  let (cause, wa, wn) := x.judgeLost pact
  let x :=
    if x.lstate = 1 then
      (if x.lse.ownNow then x.setLstate 2
       else if x.lse.clmAfter && x.lse.partNow then (x.err LSE_ERR.CLAIMAB).standby else x)
    else if x.lstate = 2 ∧ x.lse.partNow then ((x.err LSE_ERR.YIELD).inc LSE_CNT1.YIELDS).standby
    else x
  { x with lse := { x.lse with
    pactPrev := pact, clmNow := false, relNow := false, partHold := false, waitAct := wa, waitNof := wn
    lostNow := if x.lstate = 0 then cause else none
    validNow := false, ownNow := false, partNow := false, clmAfter := false } }

end Sys2Proof.Machine
end

