-- ==== Sys2Proof/Machine/Access.lean ====
section
/-! DEFINITION. Access to the registers of a unit: who may reach what (R462 to R464), islands that are off and
addresses without a page (R43, R607), access codes, LOCK and refused values (R600 to R604), the 64-bit rule (R606). -/
namespace Sys2Proof.Machine

/-! Who may reach what (R462, R464). -/

/-- Channel of a mailbox slot address, if it is one (R496). -/
def slotChannel (a : Nat) : Option Nat :=
  if (0x12100 ≤ a ∧ a < 0x12900) ∨ (0x13100 ≤ a ∧ a < 0x13900) then some ((a % 0x1000 - 0x100) / 0x40) else none

/-- The session registers PF0 may read and a locked PF1 may use (R462). -/
def sessionReg (a : Nat) : Bool :=
  a == 0x10054 || a == 0x10058 || (decide (0x10060 ≤ a) && decide (a ≤ 0x100DC))

/-- The function whose doorbell registers stand at `a` (R495). -/
def doorbellFn (a : Nat) : Option Nat :=
  if 0x11080 ≤ a ∧ a < 0x11098 then some 0 else if 0x110A0 ≤ a ∧ a < 0x110B8 then some 1 else none

/-- The registers a PF0 write reaches while `PCIE_ACC.PF0RO` is 1 (R464). -/
def pf0roExempt (a : Nat) : Bool :=
  (decide (0x12100 ≤ a) && decide (a < 0x12500)) || doorbellFn a == some 0
    || [0x1104C, 0x1004C, 0x100E0, 0x100E4, 0x310B4, 0x310C0].contains a || (decide (0x20300 ≤ a) && decide (a < 0x20340))

/-- Whether an access is denied (R462, R464). -/
def UnitSt.denied (x : UnitSt) (q : Requester) (write : Bool) (a : Nat) : Bool :=
  match q with
  | .core _ => false
  | .pf0 =>
    if sessionReg a then write
    else if 0x5000 ≤ a ∧ a < 0x9000 then true
    else if a = 0x10044 ∨ a = 0x1005C ∨ (0x10400 ≤ a ∧ a < 0x10800) then write
    else if (match slotChannel a with | some c => decide (16 ≤ c) | none => false) then true
    else if doorbellFn a = some 1 then true
    else if 0x20340 ≤ a ∧ a < 0x20380 then true
    else write && x.bit PCIE_ACC.PF0RO && !pf0roExempt a
  | .pf1 =>
    if sessionReg a then false
    else if !x.bit PCIE_STAT.SESS then true
    else (match slotChannel a with | some c => decide (c < 16) | none => false) || doorbellFn a == some 0

/-- A denied access (R463). -/
def UnitSt.deny (x : UnitSt) : UnitSt := (x.err PCIE_ERR.DENY).inc PCIE_CNT1.DENY

/-- Carries out an access where it is allowed, has a page, and the page's island runs (R43, R463, R607). -/
def UnitSt.guard (x : UnitSt) (q : Requester) (write : Bool) (a : Nat) (k : UnitSt → UnitSt) : UnitSt :=
  if x.denied q write a then x.deny
  else if (pageOf unitPages a).isNone then x.err GEN_ERR.RANGE
  else if !x.islandOn (unitIsland a) then x.err GEN_ERR.XING
  else k x

/-- Whether a guarded access reaches its register. -/
def UnitSt.allowed (x : UnitSt) (q : Requester) (write : Bool) (a : Nat) : Bool :=
  !x.denied q write a && (pageOf unitPages a).isSome && x.islandOn (unitIsland a)

/-! The requesters' latches. -/

def UnitSt.req (x : UnitSt) (q : Requester) : ReqSt := sget (fun _ => {}) x.reqs q.key
def UnitSt.setReq (x : UnitSt) (q : Requester) (r : ReqSt) : UnitSt := { x with reqs := sset (fun _ => {}) x.reqs q.key r }
def UnitSt.onReq (x : UnitSt) (q : Requester) (f : ReqSt → ReqSt) : UnitSt := x.setReq q (f (x.req q))

/-- Hands a requester the word its read returns. -/
def UnitSt.answer (x : UnitSt) (q : Requester) (v : Word) : UnitSt := x.onReq q (fun r => { r with rdata := v })

/-- Carries out a read where it is allowed; where it is refused the word read is 0 (R43, R463, R607). -/
def UnitSt.guardRead (x : UnitSt) (q : Requester) (a : Nat) (k : UnitSt → UnitSt) : UnitSt :=
  if x.allowed q false a then k x else (x.guard q false a (fun x => x)).answer q 0

/-! Writes (R600 to R604). -/

/-- The bits of the register at `a` that the fields of a page with one access code take. -/
def accMask (fs : List Fld) (acc : Acc) (a : Nat) : Nat :=
  fs.foldl (fun m f => if f.acc = acc ∧ f.covers a then m ||| f.mask else m) 0

/-- What a write leaves in a register: RW and RWL bits take the data, W1C bits written 1 clear (R604).
Log entry 18 (DEDUCED). -/
def mergeWrite (old data : Word) (set clear : Nat) : Word :=
  ((old &&& ~~~(BitVec.ofNat 32 set)) ||| (data &&& BitVec.ofNat 32 set)) &&& ~~~(data &&& BitVec.ofNat 32 clear)

/-- The registers of a page after a block reset (R601): every listed word returns to its reset value, but for the RW and
RWL fields, EN, ERRMASK, EVTEN, LOCK, SPARE and SCRATCH, the registers `keep` names, and less the counters. -/
def pageReset (d : Nat → Word) (fs : List Fld) (keep counter : Nat → Bool) (b : Nat) (regs : Sparse Word) : Sparse Word :=
  regs.foldl (fun m e =>
    let a := e.1
    if a < b ∨ b + 0x1000 ≤ a ∨ keep a then m
    else if a % 0x1000 < 0x040 then
      (if [0x10, 0x14, 0x1C].contains (a % 0x1000) then sset d m a (d a) else m)
    else if counter a then sset d m a (d a)
    else sset d m a (mergeWrite (d a) e.2 (accMask fs .rw a ||| accMask fs .rwl a) 0)) regs

/-- A field whose value is refused when it lies outside a range: the field, the lowest and highest value taken, and the
error bit set; the field keeps its value. -/
structure FieldCheck where
  fld : Fld
  lo  : Nat
  hi  : Nat
  err : Fld

/-- The ranges of the offsets of R66, with `data` written: s from 0.8 µs, c from s, m from 0.3 µs, each up to T. -/
def UnitSt.ofsChecks (x : UnitSt) (data : Word) : List FieldCheck :=
  let t := x.fld TIM_PERIOD.T * 25
  let s := TIM_OFS1.STAT.get data 0
  let s := if 80 ≤ s ∧ s ≤ t then s else x.fld TIM_OFS1.STAT
  let c := TIM_OFS1.COMP.get data 0
  let c := if s ≤ c ∧ c ≤ t then c else x.fld TIM_OFS1.COMP
  [⟨TIM_OFS1.STAT, 80, min c t, TIM_ERR.RANGE⟩, ⟨TIM_OFS1.COMP, s, t, TIM_ERR.RANGE⟩, ⟨TIM_OFS2.MARGIN, 30, t, TIM_ERR.RANGE⟩]

/-- The refused values of the other FD7200 registers: R299, R363, R397, R430, R457,
R525, R534, R557, R652. -/
def unitChecks : List FieldCheck :=
  [⟨CAL_ARMCFG.TYPE, 0, 2, CAL_ERR.TYPE⟩, ⟨CAL_ARMSW.ZSEL, 0, 2, CAL_ERR.TYPE⟩,
   ⟨MIN_CHCFG.DIV, 20, 50, MIN_ERR.CFG⟩, ⟨MIN_CHCFG.K, 3, 10, MIN_ERR.CFG⟩, ⟨REEL_FBWIN.FBWIN, 0, 100, REEL_ERR.CFG⟩,
   ⟨NET_PCFG.MODE, 1, 2, NET_ERR.RANGE⟩, ⟨NET_SVRATE.RATE, 1000, 65535, NET_ERR.RANGE⟩, ⟨TMX_ASEL.SEL, 0, 5, TMX_ERR.RANGE⟩,
   ⟨LSE_CFG.LLEN, 2, 8, LSE_ERR.CFG⟩,
   ⟨HBX_CFG.NREP, 16, 31, HBX_ERR.RANGE⟩, ⟨HBX_CFG.TMODEF, 1, 65535, HBX_ERR.RANGE⟩,
   ⟨FLT_SCFG.ESC, 0, 2, FLT_ERR.RANGE⟩, ⟨FLT_SCFG.GRACE, 1, 100000, FLT_ERR.RANGE⟩]

/-- Puts the old value back into every field whose written value is refused, and sets the error bits. -/
def UnitSt.vet (x : UnitSt) (a : Nat) (data : Word) (checks : List FieldCheck) : Word × UnitSt :=
  checks.foldl (fun dx c =>
    if c.fld.covers a then
      let i := c.fld.regIx a * c.fld.perReg
      let v := c.fld.get dx.1 i
      if c.lo ≤ v ∧ v ≤ c.hi then dx else (c.fld.put dx.1 i (c.fld.get (x.word a) i), dx.2.err c.err)
    else dx) (data, x)

/-- The sources that may be mapped to PF1 only (R491). -/
def pf1Only (n : Nat) : Bool :=
  (decide (160 ≤ n) && decide (n ≤ 183)) || (decide (134 ≤ n) && decide (n ≤ 139)) || n == 122 || n == 123

/-- A write of map register `m` (R491): an entry that maps a PF1 source to PF0 keeps its value. -/
def UnitSt.vetMap (x : UnitSt) (m : Nat) (data : Word) : Word × UnitSt :=
  let old := x.word (0x10400 + 4 * m)
  let badEven := pf1Only (2 * m) && PCIE_IMAP.EN0.get data 0 == 1 && PCIE_IMAP.FN0.get data 0 == 0
  let badOdd := pf1Only (2 * m + 1) && PCIE_IMAP.EN1.get data 0 == 1 && PCIE_IMAP.FN1.get data 0 == 0
  let d := if badEven then (data &&& 0xFFFF0000) ||| (old &&& 0x0000FFFF) else data
  let d := if badOdd then (d &&& 0x0000FFFF) ||| (old &&& 0xFFFF0000) else d
  (d, if badEven || badOdd then x.err PCIE_ERR.RANGE else x)

/-- Sends the messages of the vectors that a write has made rise from 0 to 1, through one of the sources `ns` that it
enabled or mapped; `was` is the unit before the write (R492). -/
def UnitSt.deliverNew (was x : UnitSt) (ns : List Nat) : UnitSt :=
  (((ns.filter x.raised).filterMap x.mapOf).eraseDups.filter (fun fv => !was.vectorOn fv.1 fv.2)).foldl
    (fun x fv => x.sendMsix fv.1 fv.2) x

/-- Clears bits of `FLT_LATCH` whose lines carry none, and their classes (R532). -/
def UnitSt.fltLatchClear (x : UnitSt) (bits : Nat) : UnitSt :=
  (bitsOf 29 bits).foldl (fun x n =>
    if !bitAt (x.fld FLT_LATCH_LO.LATCH) n then x
    else if x.srcLine n = 0 then
      let x := x.set FLT_LATCH_LO.LATCH (x.fld FLT_LATCH_LO.LATCH ^^^ (1 <<< n))
      x.set FLT_LCLS.CLS 0 n
    else x.err FLT_ERR.CLRREF) x

/-- FAULT is asserted while a latched source has class MAJOR or FATAL (R537). -/
def UnitSt.showFault (x : UnitSt) : UnitSt :=
  x.set FLT_STAT.FAULT (b2n ((List.range 29).any (fun n => bitAt (x.fld FLT_LATCH_LO.LATCH) n && decide (2 ≤ x.fld FLT_LCLS.CLS n))))

/-- A write of the header registers of a page (R599 to R602); an unmasked detail bit raises the line, and EVT bit 0 (R608).
Log entry 220 (DEDUCED). -/
def UnitSt.writeHeader (x : UnitSt) (p : PageInfo) (a : Nat) (data : Word) : UnitSt :=
  let b := a - a % 0x1000
  match a % 0x1000 with
  | 0x00C =>
    if p.enRO then x
    else if data.toNat % 2 = 0 ∧ x.inRun ∧ !p.exempt then x.err GEN_ERR.RANGE
    else x.setWord a (data &&& 1)
  | 0x014 => x.setWord a (x.word a &&& ~~~data)
  | 0x018 =>
    let y := x.setWord a data
    if x.pageLine b = 0 ∧ y.pageLine b ≠ 0 ∧ !ownEvents b then y.evtBit b 0 else y
  | 0x02C => x.setWord a data
  | 0x01C => x.setWord a (x.word a &&& ~~~data)
  | 0x020 => UnitSt.deliverNew x (x.setWord a data) ((List.range p.evtn).map (fun k => sourceOf b k))
  | 0x024 => if data.toNat % 2 = 1 then x.setWord a 1 else x
  | _ => x

/-- A write of one register under the access codes, LOCK and the refused values (R602, R604). -/
def UnitSt.writeWord (x : UnitSt) (a : Nat) (data : Word) : UnitSt :=
  match pageOf unitPages a with
  | none => x
  | some p =>
    if a % 0x1000 < 0x030 then x.writeHeader p a data
    else if a = 0x3040 then (x.fltLatchClear data.toNat).showFault
    else if a = 0x3044 then x
    else
      let rwl := accMask p.fields .rwl a
      let locked := (x.word (a - a % 0x1000 + 0x24)).toNat % 2 = 1
      let x0 := x
      let x : UnitSt := if locked ∧ rwl ≠ 0 then x.err GEN_ERR.RANGE else x
      let (d, x) := if 0x10400 ≤ a ∧ a < 0x10800 then x.vetMap ((a - 0x10400) / 4) data else x.vet a data ((unitChecks ++ x.ofsChecks data).filter (fun c => !(locked && c.fld.acc == .rwl)))
      let setm := accMask p.fields .rw a ||| (if locked then 0 else rwl)
        ||| (if 0x10080 ≤ a ∧ a ≤ 0x100DC then 0xFFFFFFFF else 0)
      let x := x.setWord a (mergeWrite (x.word a) d setm (accMask p.fields .w1c a))
      if a = 0x4074 then x.set TIM_OFS2.CMD (x.fld TIM_OFS1.COMP + 170)
      else if 0x10400 ≤ a ∧ a < 0x10800 then
        UnitSt.deliverNew x0 x [2 * ((a - 0x10400) / 4), 2 * ((a - 0x10400) / 4) + 1]
      else x

/-- The word a read of the register at `a` returns: WO bits read 0 (R604). -/
def UnitSt.readable (x : UnitSt) (a : Nat) : Word :=
  match pageOf unitPages a with
  | none => 0
  | some p => x.word a &&& ~~~(BitVec.ofNat 32 (accMask p.fields .wo a))

/-! The 64-bit rule (R606). -/

/-- The group a low word heads: the addresses a read of it latches. -/
def groupOf (pairs : List (Fld × List Nat)) (a : Nat) : Option (List Nat) :=
  (pairs.find? (fun p => p.1.covers a)).map (fun p => p.2.map (fun o => a + o))

/-- A requester reads a low word: it gets the live word, and its latch takes the rest of the group as it stands. -/
def UnitSt.readLow (x : UnitSt) (q : Requester) (a : Nat) : UnitSt :=
  let rest := (groupOf unitPairs a).getD []
  x.onReq q (fun r => { r with rdata := x.word a, latch := rest.map (fun b => (b, x.word b)) })

/-- A requester reads a word of a group: the latched word, which the latch then gives up, or the live word. -/
def UnitSt.readHigh (x : UnitSt) (q : Requester) (a : Nat) : UnitSt :=
  match (x.req q).latch.find? (fun e => e.1 == a) with
  | none => x.answer q (x.word a)
  | some (_, v) => x.onReq q (fun r => { r with rdata := v, latch := r.latch.filter (fun e => e.1 != a) })

/-- A requester writes a low word: it is held, and an earlier held write is discarded (R479).
Log entry 22 (DEDUCED). -/
def UnitSt.writeLow (x : UnitSt) (q : Requester) (a : Nat) (data : Word) : UnitSt :=
  let lost := (x.req q).hold.isSome && (q.fn?).isSome
  let x := if lost then (x.err PCIE_ERR.HALF).inc PCIE_CNT1.HALF else x
  x.onReq q (fun r => { r with hold := some (a, data) })

/-- Takes the low word held for the pair whose high word stands at `a`. -/
def UnitSt.takeHold (x : UnitSt) (q : Requester) (a : Nat) : Option Word × UnitSt :=
  match (x.req q).hold with
  | some (b, v) => if b + 4 = a then (some v, x.onReq q (fun r => { r with hold := none })) else (none, x)
  | none => (none, x)

/-- A requester writes a high word: it commits with the held low word of its pair, or alone.
Log entry 22 (DEDUCED). -/
def UnitSt.writeHigh (x : UnitSt) (q : Requester) (a : Nat) (data : Word) : UnitSt :=
  let (lo, x) := x.takeHold q a
  let x := match lo with | some v => x.writeWord (a - 4) v | none => x
  x.writeWord a data

end Sys2Proof.Machine
end

