-- ==== Sys2Proof/Machine/Mailbox.lean ====
section
/-! DEFINITION. The host interface of a unit without its link: maintenance sessions (R467 to R471), Ream pins (R476),
mailboxes and doorbells (R480 to R489), vector re-arm (R492). -/
namespace Sys2Proof.Machine

/-! Epochs and stale messages (R483, R484). -/

/-- The function that owns mailbox channel `n` (R480). -/
def chanFn (n : Nat) : Nat := n / 16

/-- Shows which FULL slots are stale (R484). -/
def UnitSt.showStale (x : UnitSt) : UnitSt :=
  let h2f := (bitsOf 32 (x.fld MBX_H2FFULL.FULL)).filter
    (fun n => x.fld MBXH_EPOCH.EPOCH n != x.fld MBX_HEPOCH.EPOCH (chanFn n))
  let f2h := (bitsOf 32 (x.fld MBX_F2HFULL.FULL)).filter (fun n => x.fld MBXF_EPOCH.EPOCH n != x.fld MBX_FEPOCH.EPOCH)
  (x.set MBX_H2FSTALE.STALE (h2f.foldl orBit 0)).set MBX_F2HSTALE.STALE (f2h.foldl orBit 0)

/-- Advances the host epoch of function `f` (R483). -/
def UnitSt.advanceHost (x : UnitSt) (f : Nat) : UnitSt :=
  (x.set MBX_HEPOCH.EPOCH (x.fld MBX_HEPOCH.EPOCH f + 1) f).showStale

/-- Advances the firmware epoch (R483). -/
def UnitSt.advanceFw (x : UnitSt) : UnitSt := (x.set MBX_FEPOCH.EPOCH (x.fld MBX_FEPOCH.EPOCH + 1)).showStale

/-! Ream pins (R476). -/

/-- Releases or sets the pin of function `f`.
Log entry 219 (DEDUCED). -/
def UnitSt.pinWrite (x : UnitSt) (f : Nat) (v : Bool) : UnitSt :=
  let pin := if f = 0 then PCIE_REAMPIN.PIN0 else PCIE_REAMPIN.PIN1
  let x := x.set pin (b2n v)
  if !x.bit PCIE_REAMPIN.PIN0 && !x.bit PCIE_REAMPIN.PIN1 then
    let x := ((x.set PCIE_REAMPIN.PINNED 0).set PCIE_REAMPIN.PBUF 0).set PCIE_REAMPGEN.PGEN 0
    { x with host := { x.host with pinNext := false } }
  else if x.bit PCIE_REAMPIN.PINNED || x.host.pinNext then x
  else if x.host.reamGen = 0 then { x with host := { x.host with pinNext := true } }
  else
    let b := x.fld PCIE_REAMCUR.BUF
    let gen := if b = 0 then x.host.ream0.gen else x.host.ream1.gen
    let x := ((x.set PCIE_REAMPIN.PINNED 1).set PCIE_REAMPIN.PBUF b).set PCIE_REAMPGEN.PGEN gen
    match x.host.reamBusy with
    | some t => (x.set PCIE_REAMCUR.BUF t).set PCIE_REAMCUR.GEN 0
    | none => x

/-- A write of a Ream pin through a function: PIN0 through PF0, PIN1 through PF1 (R476, R494). -/
def UnitSt.reamPinWrite (x : UnitSt) (q : Requester) (v : Word) : UnitSt :=
  match q with
  | .pf0 => x.pinWrite 0 (v.toNat % 2 == 1)
  | .pf1 => x.pinWrite 1 (bitAt v.toNat 1)
  | .core _ => x

/-- REAM_PIN_WRITE. -/
def execReamPinWrite (u : UnitId) (q : Requester) (v : Word) (s : State) : Host.Outcome State Fault Refusal :=
  unitStep s u (fun x => x.guard q true 0x1004C (fun x => x.reamPinWrite q v))

/-! Sessions of PF1 (R467 to R471). -/

/-- Ends the session: PF1 returns to LOCKED, its host epoch advances, PIN1 clears, SESSEND is set (R471).
Log entry 219 (DEDUCED). -/
def UnitSt.sessEnd (x : UnitSt) : UnitSt :=
  let x := (x.set PCIE_SESSSTAT.STATE 0).set PCIE_STAT.SESS 0
  ((x.advanceHost 1).pinWrite 1 false).evt PCIE_EVT.SESSEND

/-- A write of `PCIE_SESSCMD`: only PF1's writes change the state, and none does while an OPEN is verified (R468, R470). -/
def UnitSt.sessCmd (x : UnitSt) (q : Requester) (k : UnitSt → UnitSt) : UnitSt :=
  x.guard q true 0x10054 (fun x => if q = .pf1 ∧ x.host.opening.isNone then k x else x)

/-- Eight free words into `PCIE_SCHAL0` to `PCIE_SCHAL7` (R469: the random number generator's bytes): a challenge that no OPEN has
used.
Log entry 58 (DESIGN CHOICE). -/
def UnitSt.newChallenge (x : UnitSt) : UnitSt :=
  let x : UnitSt := { x with host := { x.host with spent := false } }
  (List.range 8).foldl (fun x i => let (v, x) := x.draw; x.set PCIE_SCHAL.CHAL v i) x

/-- OP CHAL: a fresh challenge in LOCKED and CHALLENGED; refused in OPEN and LOCKOUT (R468, R469). -/
def UnitSt.sessChal (x : UnitSt) : UnitSt :=
  if x.fld PCIE_SESSSTAT.STATE ≤ 1 then ((x.newChallenge).set PCIE_SESSSTAT.STATE 1).set PCIE_SESSCMD.RES 1
  else x.set PCIE_SESSCMD.RES 5

/-- SESS_CHAL. -/
def execSessChal (u : UnitId) (q : Requester) (s : State) : Host.Outcome State Fault Refusal :=
  unitStep s u (fun x => x.sessCmd q (fun x => x.sessChal))

/-- OP OPEN: starts the verification with the key of slot `key`; refused outside CHALLENGED, where an OPEN has used the challenge,
and for a slot without a key (R467 to R470).
Log entry 125 (DEDUCED). -/
def UnitSt.sessOpen (x : UnitSt) (key : Nat) : UnitSt :=
  if x.fld PCIE_SESSSTAT.STATE ≠ 1 ∨ x.host.spent then x.set PCIE_SESSCMD.RES 5
  else
    let x : UnitSt := { x with host := { x.host with spent := true } }
    if sget (fun _ => []) x.conf.mkeys key = [] then x.set PCIE_SESSCMD.RES 4
    else
      let x := x.set PCIE_SESSCMD.RES 2
      { x with host := { x.host with opening := some key } }

/-- SESS_OPEN. -/
def execSessOpen (u : UnitId) (q : Requester) (key : Fin 4) (s : State) : Host.Outcome State Fault Refusal :=
  unitStep s u (fun x => x.sessCmd q (fun x => x.sessOpen key.val))

/-- The bytes that `n` registers hold from field `f`, byte 4i to 4i + 3 in register i (R469). -/
def UnitSt.regBytes (x : UnitSt) (f : Fld) (n : Nat) : Bytes := (List.range n).flatMap (fun i => leBytes 4 (x.fld f i))

/-- The device certificate as `GEN_CERT` holds it (R573). -/
def UnitSt.certificate (x : UnitSt) : Bytes := (x.regBytes GEN_CERT.CERT 256).take (x.fld GEN_CERTLEN.LEN)

/-- Whether the response in `PCIE_SRESP0` to `PCIE_SRESP23` signs the challenge and the certificate digest with the key of
a slot (R469).
Log entry 125 (DEDUCED). -/
def UnitSt.openValid (x : UnitSt) (key : Nat) : Bool :=
  Config.verify (sget (fun _ => []) x.conf.mkeys key)
    (x.regBytes PCIE_SCHAL.CHAL 8 ++ (Config.sha384 x.certificate).take 16) ((List.range 24).flatMap (fun i =>
      leBytes 4 ((x.word (0x10080 + 4 * i)).toNat)))

/-- The outcome of an OPEN (R468 to R470): the challenge is used up whatever it is. -/
def execSessOpenDone (u : UnitId) (s : State) : Host.Outcome State Fault Refusal :=
  unitStep s u (fun x =>
    match x.host.opening with
    | none => x
    | some key =>
      let ok := x.openValid key
      let x := { x with host := { x.host with opening := none } }
      if ok then
        ((((x.set PCIE_SESSSTAT.STATE 2).set PCIE_STAT.SESS 1).set PCIE_SESSSTAT.FAILS 0).set PCIE_SESSCMD.RES 1).evt
          PCIE_EVT.SESSOPEN
      else
        let fails := min 3 (x.fld PCIE_SESSSTAT.FAILS + 1)
        let x := ((x.set PCIE_SESSSTAT.FAILS fails).set PCIE_SESSCMD.RES 3).err PCIE_ERR.SESSFAIL
        let x := x.inc PCIE_CNT2.SESSFAIL
        if 3 ≤ fails then
          let x : UnitSt := { x with host := { x.host with lockAt := x.now } }
          (x.set PCIE_SESSSTAT.STATE 3).set PCIE_SESSSTAT.LOCKREM (max 1 (x.fld PCIE_SESSCFG.LOCKSEC))
        else x.set PCIE_SESSSTAT.STATE 0)

/-- OP CLOSE ends an open session; refused otherwise (R468, R471). -/
def UnitSt.sessClose (x : UnitSt) : UnitSt :=
  if x.fld PCIE_SESSSTAT.STATE = 2 then (x.sessEnd).set PCIE_SESSCMD.RES 1 else x.set PCIE_SESSCMD.RES 5

/-- SESS_CLOSE. -/
def execSessClose (u : UnitId) (q : Requester) (s : State) : Host.Outcome State Fault Refusal :=
  unitStep s u (fun x => x.sessCmd q (fun x => x.sessClose))

/-- 60 s in CHALLENGED without OPEN (R468). -/
def execSessChalTimeout (u : UnitId) (s : State) : Host.Outcome State Fault Refusal :=
  unitStep s u (fun x =>
    if x.fld PCIE_SESSSTAT.STATE = 1 ∧ x.host.opening.isNone then x.set PCIE_SESSSTAT.STATE 0 else x)

/-- IDLE seconds without a PF1 access end an open session; IDLE 0 never does (R468, R494). -/
def execSessIdleTimeout (u : UnitId) (s : State) : Host.Outcome State Fault Refusal :=
  unitStep s u (fun x =>
    if x.fld PCIE_SESSSTAT.STATE = 2 ∧ x.fld PCIE_SESSCFG.IDLE ≠ 0 then x.sessEnd else x)

/-- Shows the seconds of LOCKOUT that remain (R494). -/
def UnitSt.showLock (x : UnitSt) : UnitSt :=
  if x.fld PCIE_SESSSTAT.STATE = 3 then
    x.set PCIE_SESSSTAT.LOCKREM (max 1 (x.fld PCIE_SESSCFG.LOCKSEC) - (x.now - x.host.lockAt) / sec)
  else x

/-- LOCKSEC seconds of LOCKOUT have passed (R468). -/
def execSessLockoutEnd (u : UnitId) (s : State) : Host.Outcome State Fault Refusal :=
  unitStep s u (fun x =>
    if x.fld PCIE_SESSSTAT.STATE = 3 then (x.set PCIE_SESSSTAT.STATE 0).set PCIE_SESSSTAT.LOCKREM 0 else x)

/-! Mailboxes (R480 to R488). -/

/-- A sender's write to CTRL of its slot of channel `ch` (R481, R482): the host function that owns the channel posts in
the H2F slot, a core in the F2H slot.
Log entry 23 (DEDUCED). -/
def UnitSt.post (x : UnitSt) (q : Requester) (ch : Nat) (v : Word) : UnitSt :=
  let h2f := (q.fn?).isSome
  let full := if h2f then MBX_H2FFULL.FULL else MBX_F2HFULL.FULL
  let len := v.toNat % 64
  let res := fun (n : Nat) (x : UnitSt) => x.onReq q (fun r => { r with res := n })
  if len = 0 then res 2 x
  else if bitAt (x.fld full) ch then res 3 (x.err MBX_ERR.BUSY)
  else if 56 < len then res 3 (x.err MBX_ERR.RANGE)
  else
    let f := chanFn ch
    let x :=
      if h2f then
        (((x.set MBXH_CTRL.TAG (v.toNat / 65536) ch).set MBXH_CTRL.LEN len ch).set MBXH_EPOCH.EPOCH
          (x.fld MBX_HEPOCH.EPOCH f) ch)
      else
        (((x.set MBXF_CTRL.TAG (v.toNat / 65536) ch).set MBXF_CTRL.LEN len ch).set MBXF_EPOCH.EPOCH
          (x.fld MBX_FEPOCH.EPOCH) ch)
    let x := (x.set full (orBit (x.fld full) ch)).showStale
    res 1 (x.evt (if h2f then MBX_EVT.HPOST else MBX_EVT.FPOST) f)

def execMbxPost (u : UnitId) (q : Requester) (ch : Fin 32) (v : Word) (s : State) : Host.Outcome State Fault Refusal :=
  unitStep s u (fun x =>
    x.guard q true ((if (q.fn?).isSome then 0x12138 else 0x13138) + 0x40 * ch.val) (fun x => x.post q ch.val v))

/-- The receiver's read of EPOCH: a core reads the H2F slot, the owning function the F2H slot; it clears FULL and sets the
READ event (R482).
Log entry 77 (DEDUCED). -/
def UnitSt.readEpoch (x : UnitSt) (q : Requester) (ch : Nat) : UnitSt :=
  let h2f := (q.fn?).isNone
  let full := if h2f then MBX_H2FFULL.FULL else MBX_F2HFULL.FULL
  let x := x.answer q (BitVec.ofNat 32 (x.fld (if h2f then MBXH_EPOCH.EPOCH else MBXF_EPOCH.EPOCH) ch))
  if bitAt (x.fld full) ch then
    let x := (x.set full (x.fld full ^^^ (1 <<< ch))).showStale
    let x := { x with host := { x.host with aged := x.host.aged.filter (· != ch + (if h2f then 0 else 32)) } }
    x.evt (if h2f then MBX_EVT.HREAD else MBX_EVT.FREAD) (chanFn ch)
  else x

def execMbxEpochRead (u : UnitId) (q : Requester) (ch : Fin 32) (s : State) : Host.Outcome State Fault Refusal :=
  unitStep s u (fun x =>
    let a := (if (q.fn?).isNone then 0x1213C else 0x1313C) + 0x40 * ch.val
    x.guardRead q a (fun x => x.readEpoch q ch.val))

/-- A write of 1 to `MBX_HEPINC.INC` through a function advances its host epoch (R483). -/
def UnitSt.hepincWrite (x : UnitSt) (q : Requester) (v : Word) : UnitSt :=
  match q.fn? with
  | some f => if v.toNat % 2 = 1 then x.advanceHost f else x
  | none => x

/-- MBX_HEPINC. -/
def execMbxHepinc (u : UnitId) (q : Requester) (v : Word) (s : State) : Host.Outcome State Fault Refusal :=
  unitStep s u (fun x => x.guard q true 0x1104C (fun x => x.hepincWrite q v))

/-- A message has stayed FULL for AGEMAX ms: AGE is set once for it (R488). -/
def execMbxAgeExpire (u : UnitId) (h2f : Bool) (ch : Fin 32) (s : State) : Host.Outcome State Fault Refusal :=
  unitStep s u (fun x =>
    let full := x.fld (if h2f then MBX_H2FFULL.FULL else MBX_F2HFULL.FULL)
    let key := ch.val + (if h2f then 0 else 32)
    if x.fld MBX_AGE.AGEMAX ≠ 0 ∧ bitAt full ch.val ∧ !x.host.aged.contains key then
      let x := (x.evt MBX_EVT.AGE).inc MBX_CNT.AGE
      { x with host := { x.host with aged := key :: x.host.aged } }
    else x)

/-! Doorbells (R489). -/

/-- A write of a SET register: a function's H2F doorbells, or a core's F2H doorbells of function `f`; a bit newly set and
not masked sets the DB event. -/
def UnitSt.dbSet (x : UnitSt) (h2f : Bool) (f : Nat) (v : Word) : UnitSt :=
  let db := if h2f then MBX_H2FDB.DB else MBX_F2HDB.DB
  let msk := if h2f then MBX_H2FDBMSK.MSK else MBX_F2HDBMSK.MSK
  let old := BitVec.ofNat 32 (x.fld db f)
  let fresh := v &&& ~~~old &&& ~~~(BitVec.ofNat 32 (x.fld msk f))
  let x := x.set db (old ||| v).toNat f
  if fresh ≠ 0 then x.evt (if h2f then MBX_EVT.HDB else MBX_EVT.FDB) f else x

/-- MBX_DB_SET. -/
def execMbxDbSet (u : UnitId) (q : Requester) (f : Fin 2) (v : Word) (s : State) : Host.Outcome State Fault Refusal :=
  unitStep s u (fun x =>
    let h2f := (q.fn?).isSome
    x.guard q true ((if h2f then 0x11080 else 0x1108C) + 0x20 * f.val) (fun x => x.dbSet h2f f.val v))

/-- Whether a requester is on the side that clears and masks the doorbells of a direction: a core for H2F, a function for F2H
(R489, R495). -/
def dbSide (q : Requester) (h2f : Bool) : Bool := (q.fn?).isNone == h2f

/-- A write of a mask register: unmasking a doorbell bit that is set sets the DB event at the write. -/
def UnitSt.dbMask (x : UnitSt) (h2f : Bool) (f : Nat) (v : Word) : UnitSt :=
  let db := BitVec.ofNat 32 (x.fld (if h2f then MBX_H2FDB.DB else MBX_F2HDB.DB) f)
  let msk := if h2f then MBX_H2FDBMSK.MSK else MBX_F2HDBMSK.MSK
  let opened := BitVec.ofNat 32 (x.fld msk f) &&& ~~~v &&& db
  let x := x.set msk v.toNat f
  if opened ≠ 0 then x.evt (if h2f then MBX_EVT.HDB else MBX_EVT.FDB) f else x

/-- MBX_DB_MASK_WRITE. -/
def execMbxDbMaskWrite (u : UnitId) (q : Requester) (h2f : Bool) (f : Fin 2) (v : Word) (s : State) :
    Host.Outcome State Fault Refusal :=
  unitStep s u (fun x =>
    x.guard q true ((if h2f then 0x11088 else 0x11094) + 0x20 * f.val) (fun x => if dbSide q h2f then x.dbMask h2f f.val v else x))

/-- A write to `PCIE_VACK_LO` or `PCIE_VACK_HI` through a function: one further message for each vector written 1 whose
sources are raised (R492).
Log entry 22 (DEDUCED). -/
def UnitSt.rearm (x : UnitSt) (q : Requester) (hi : Bool) (v : Word) : UnitSt :=
  match q.fn? with
  | none => x
  | some f =>
    ((bitsOf 32 v.toNat).map (· + (if hi then 32 else 0))).foldl
      (fun x k => if x.vectorOn f k then x.sendMsix f k else x) x

/-- VECTOR_REARM. -/
def execVectorRearm (u : UnitId) (q : Requester) (hi : Bool) (v : Word) (s : State) : Host.Outcome State Fault Refusal :=
  unitStep s u (fun x => x.guard q true (if hi then 0x100E4 else 0x100E0) (fun x => x.rearm q hi v))

end Sys2Proof.Machine
end

