-- ==== Sys2Proof/Machine/Boot.lean ====
section
/-! DEFINITION. Flash, images and boot of a unit (R562 to R569), its resets and what they keep (R541, R588, R589, R591),
the security engine (R575, R595) and the flash loader (R596). -/
namespace Sys2Proof.Machine

/-! Flash and images (R562 to R566). -/

/-- The flash as it reads.
Log entry 15 (DESIGN CHOICE). -/
def UnitSt.flashByte (x : UnitSt) (a : Nat) : Byte := sget (Config.flash x.id) x.flash a
def UnitSt.flashBytes (x : UnitSt) (a n : Nat) : Bytes := (List.range n).map (fun i => x.flashByte (a + i))
def UnitSt.setFlash (x : UnitSt) (a : Nat) (b : Byte) : UnitSt := { x with flash := sset (Config.flash x.id) x.flash a b }

/-- The start and the size of an image slot. -/
def slotBase (k : Nat) : Nat := k * 0x1800000
def slotSize : Nat := 0x1800000

/-- The sections of the image in slot `k`: type, offset, length. -/
def UnitSt.sections (x : UnitSt) (k : Nat) : List (Nat × Nat × Nat) :=
  let h := x.flashBytes (slotBase k) 512
  (List.range (min 16 (leAt h 12 4))).map (fun i => (byteAt h (64 + 16 * i), leAt h (68 + 16 * i) 4, leAt h (72 + 16 * i) 4))

/-- Whether every section lies inside the slot, none overlaps another, and each type comes as often as R564 allows. -/
def layoutOk (ss : List (Nat × Nat × Nat)) : Bool :=
  let count (t : Nat) : Nat := (ss.filter (fun s => s.1 == t)).length
  ss.all (fun s => decide (s.2.1 % 4096 = 0) && decide (s.2.1 + s.2.2 ≤ slotSize) && decide (1 ≤ s.1) && decide (s.1 ≤ 4)) &&
    (List.range ss.length).all (fun i => (List.range i).all (fun j =>
      let a := ss.getD i (0, 0, 0)
      let b := ss.getD j (0, 0, 0)
      decide (a.2.1 + a.2.2 ≤ b.2.1) || decide (b.2.1 + b.2.2 ≤ a.2.1))) &&
    count 1 == 1 && count 2 == 1 && decide (count 3 ≤ 1) && decide (count 4 ≤ 4)

/-- The bytes of the first section of type `t` in slot `k`. -/
def UnitSt.sectionBytes (x : UnitSt) (k t : Nat) : Bytes :=
  match (x.sections k).find? (fun s => s.1 == t) with
  | none => []
  | some s => x.flashBytes (slotBase k + s.2.1) s.2.2

/-- The version of the image in slot `k`. -/
def UnitSt.slotVersion (x : UnitSt) (k : Nat) : Nat := leAt (x.flashBytes (slotBase k) 512) 8 4

/-- The first test of R565 that slot `k` fails, numbered from `FLS_SLOTST` bit 25; none where the slot is valid.
Log entry 38 (DEDUCED). -/
def UnitSt.slotFail (x : UnitSt) (k : Nat) : Option Nat :=
  let h := x.flashBytes (slotBase k) 4096
  let ss := x.sections k
  let ikey := slice h 368 97
  let fw := x.sectionBytes k 1
  if leAt h 0 4 ≠ 0x46443732 then some 0
  else if leAt h 4 4 ≠ 1 ∨ leAt h 12 4 = 0 ∨ 16 < leAt h 12 4 ∨ !layoutOk ss then some 1
  else if Config.sha384 ikey ≠ (List.range 12).flatMap (fun i => leBytes 4 (x.fld SEC_IKH.IKH i)) then some 2
  else if !Config.verify ikey (slice h 0 512) (slice h 512 96) then some 3
  else if Config.sha384 (ss.flatMap (fun s => x.flashBytes (slotBase k + s.2.1) s.2.2)) ≠ slice h 320 48 then some 4
  else if !Config.romVerify (fw.take (fw.length - 96)) (fw.drop (fw.length - 96)) then some 4
  else if leAt h 8 4 < x.fld SEC_MINVER.MINVER then some 5
  else none

/-- Whether slot `k` is valid (R565). -/
def UnitSt.slotValid (x : UnitSt) (k : Nat) : Bool := (x.slotFail k).isNone

/-- Shows the state and version of slot `k`.
Log entry 38 (DEDUCED). -/
def UnitSt.showSlot (x : UnitSt) (k : Nat) : UnitSt :=
  let v := b2n (x.slotValid k)
  let f := match x.slotFail k with | some n => 2 ^ n | none => 0
  if k = 0 then ((x.set FLS_SLOTST0.VALID v).set FLS_SLOTST0.FAIL f).set FLS_VER0.VERSION (x.slotVersion 0)
  else ((x.set FLS_SLOTST1.VALID v).set FLS_SLOTST1.FAIL f).set FLS_VER1.VERSION (x.slotVersion 1)

/-- The slot ROM boots, and whether it is the other slot after a failed trial (R566). `was` is the unit before the reset;
a trial that a reset ended counts as failed until the next power-on reset; a unit that stopped without an image was in no
trial. -/
def UnitSt.chooseSlot (x was : UnitSt) (kind : Nat) : Option Nat × Bool :=
  let best := if x.slotValid 0 && (!x.slotValid 1 || decide (x.slotVersion 1 ≤ x.slotVersion 0)) then some 0
    else if x.slotValid 1 then some 1 else none
  let old := was.fld GEN_BOOT.SLOT
  let ran := kind != 0 && was.boot == .up
  if ran ∧ was.bit GEN_BOOT.TRIAL ∧ x.slotValid (1 - old) then (some (1 - old), true)
  else if ran ∧ was.bit GEN_BOOT.FB ∧ !was.bit GEN_BOOT.TRIAL ∧ x.slotValid old then (some old, true)
  else (best, false)

/-- The wear-ledger region of the flash (R562). -/
def ledgerBase : Nat := 0x3000000
def ledgerSize : Nat := 0x400000

/-- The rows that the entries of the wear ledger retire, in the order in which they were appended; an entry whose CRC-32 fails says
nothing (R549).
Log entry 229 (DESIGN CHOICE). -/
def UnitSt.ledgerRows (x : UnitSt) : List Nat :=
  (List.range (ledgerSize / 32)).filterMap (fun i =>
    let e := x.flashBytes (ledgerBase + 32 * i) 32
    if crc32 (e.take 28) = leAt e 28 4 then (Config.ledgerRow (e.take 28)).filter (fun r => decide (r < 49152)) else none)

/-- Maps a row of the ledger to a spare row of its macro, where one is left. -/
def UnitSt.mapRow (x : UnitSt) (row : Nat) : UnitSt :=
  let m := row / 1024
  let n := sget (fun _ => 0) x.mem.used m
  if x.mem.mapped.contains row || decide (min 32 (Config.spareRows x.id m) ≤ n) then x
  else ({ x with mem := { x.mem with mapped := row :: x.mem.mapped, used := sset (fun _ => 0) x.mem.used m (n + 1) } }).set
    MEM_SPARE.LEFT (x.fld MEM_SPARE.LEFT - 1)

/-- ROM loads FW and CONFIG of the image in slot `k` into the SRAM (R568).
Log entry 229 (DESIGN CHOICE). -/
def UnitSt.loadImage (x : UnitSt) (k : Nat) : UnitSt :=
  ([1, 2] : List Nat).foldl (fun x t => x.sramPut (Config.loadAt t) (x.sectionBytes k t)) x

/-- ROM boots after a reset (R566, R568): the row map from the ledger, FW and CONFIG into the SRAM, then Hold and STANDBY; or it stops
without an image.
Log entry 9 (DEDUCED). -/
def UnitSt.bootRom (x was : UnitSt) (kind : Nat) : UnitSt :=
  let x := (x.showSlot 0).showSlot 1
  match x.chooseSlot was kind with
  | (none, _) => ({ x with boot := .noImage }.err FLS_ERR.NOIMG).set FLT_STAT.FAULT 1
  | (some k, fb) =>
    let x := (x.ledgerRows.foldl UnitSt.mapRow x).loadImage k
    let x := ((x.set GEN_BOOT.SLOT k).set GEN_BOOT.TRIAL 1).set GEN_IMGVER.VERSION (x.slotVersion k)
    let x := x.set GEN_BOOT.FB (b2n fb)
    if fb && was.bit GEN_BOOT.TRIAL && kind != 0 then x.err GEN_ERR.BOOTFB else x

/-! Resets (R588, R591). -/

/-- The registers that a reset of a kind leaves as they are: what OTP holds, from a pin reset on the HOST
island, from an escalation on AON and TIME as well. LOCK is cleared on every page (R602).
Log entry 40 (DEDUCED). -/
def resetKeeps (kind a : Nat) : Bool :=
  a == 0x5044
    || (a % 0x1000 != 0x24 && ((kind != 0 && decide (0x10000 ≤ a) && decide (a < 0x14000))
    || (decide (2 ≤ kind) && decide (a < 0x5000) && !(decide (0x60 ≤ a) && decide (a < 0x90)))))

/-- The sources that an escalation reset masks: those of the islands it resets and their dependants, which take in every
source but FLT, GEN and PWR since MEM is among them (R540, R541).
Log entry 41 (DEDUCED). -/
def escalationMasks : List Nat := (List.range 29).filter (fun n => n != 0 && n != 1 && n != 3)

/-- The bits of the register at `a` that hold configuration or count: the RW and RWL fields, and those of the header. -/
def confMask (a : Nat) : Nat :=
  match pageOf unitPages a with
  | none => 0
  | some p =>
    if a % 0x1000 < 0x040 then
      (if a % 0x1000 = 0x0C then 1 else if [0x18, 0x20, 0x2C].contains (a % 0x1000) then 2 ^ 32 - 1 else 0)
    else accMask p.fields .rw a ||| accMask p.fields .rwl a

/-- The configuration registers and counters of AON and TIME return to their reset values although these islands run on (R591); a
period change in hand is no configuration and stays.
Log entry 40 (DEDUCED). -/
def UnitSt.confReset (x : UnitSt) : UnitSt :=
  let regs := x.regs.foldl (fun m e =>
    if e.1 < 0x5000 ∧ (e.1 < 0x4068 ∨ 0x4074 ≤ e.1) then
      sset (unitReset x.id) m e.1 (mergeWrite e.2 (unitReset x.id e.1) (confMask e.1) 0)
    else m) x.regs
  let x : UnitSt := { x with regs := regs }
  x.set TIM_OFS2.CMD (x.fld TIM_OFS1.COMP + 170)

/-- What an AON island that a reset leaves running shows after it (R588, R591).
Log entries 40 (DEDUCED), 41 (DEDUCED). -/
def UnitSt.aonAfterReset (x was : UnitSt) : UnitSt :=
  let x := (x.confReset.setWord 0x3040 0).setWord 0x3044 0
  let x := [0x3048, 0x304C, 0x3050, 0x3054, 0x3058, 0x305C, 0x3060, 0x3068, 0x306C, 0x3070, 0x3074, 0x3078, 0x307C, 0x3084].foldl
    (fun x a => x.setWord a 0) x
  let x := ((x.set PWR_REQ.RES 0).set PWR_COND.LOADED 0).set GEN_STAT.CONFIRMED 0
  { (x.set PWR_STAT.STATE 1) with
    flt := { was.flt with kickAt := [], expired := [], graceAt := [], escWait := none, rstWait := none, health := { gen := was.flt.health.gen, pgen := was.flt.health.pgen }, masked := escalationMasks.map (fun n => (n, 0)) } }

/-- A reset of the unit and the boot after it (R566, R588, R591).
Log entries 9 (DEDUCED), 24 (DEDUCED), 40 (DEDUCED), 116 (DEDUCED). -/
def UnitSt.resetTo (x : UnitSt) (kind : Nat) : UnitSt :=
  let y : UnitSt := { UnitSt.reset x.id with
    regs := x.regs.filter (fun e => resetKeeps kind e.1 || (kind != 0 && e.1 == MIN_TRIPSTAT.LVL.addr 0))
    out := x.out, free := x.free, flash := x.flash
    reqs := if kind = 0 then [] else x.reqs.filter (fun e => decide (e.1 < 2))
    host := if kind = 0 then {} else { x.host with reamBusy := none, reamHeld := none }
    pci := if kind = 0 then {} else x.pci
    tim := if 2 ≤ kind then x.tim else {}
    clkAt := if 2 ≤ kind then x.clkAt else 0
    jtag := if kind = 0 then {} else x.jtag }
  let y := if 2 ≤ kind then y.aonAfterReset x else y
  let y := y.set TIM_SRC.PTPLOCK 0
  let y := (y.set GEN_RSTCAUSE.KIND kind).set FLT_STAT.ALIVE 1
  let y := (y.set FLT_STAT.FAULT 0).set FLT_STAT.FENCED 0
  let y := y.set PWR_COND.NOFENCE 1
  let y := if kind = 0 then y
    else
      let y := y.setPair GEN_RSTLATCH_LO.LATCH GEN_RSTLATCH_HI.LATCH (x.fld FLT_LATCH_LO.LATCH)
      let y := y.advanceFw
      if y.fld PCIE_SESSSTAT.STATE = 2 then y.sessEnd else y
  y.bootRom x kind

/-- UNIT_POWER_ON_RESET: supplies rising. -/
def execUnitPowerOnReset (u : UnitId) (s : State) : Host.Outcome State Fault Refusal := unitStep s u (fun x => x.resetTo 0)

/-- The flash of 512 Mbit that R562 asks for at least.
Log entry 57 (DESIGN CHOICE). -/
def flashSize : Nat := 0x4000000

/-- Whether the unit drives the XSPI pins, with RESETN high or low (R624).
Log entries 214 (DESIGN CHOICE), 215 (DESIGN CHOICE). -/
def UnitSt.xspiDriven (x : UnitSt) (resetn : Bool) : Bool := resetn && !(x.bit FLS_ERR.NOIMG && x.fls.isNone)

/-- What an external programmer writes into the flash: nothing while the unit drives the pins (R624).
Log entry 214 (DESIGN CHOICE). -/
def UnitSt.programmer (x : UnitSt) (resetn : Bool) (prog : List (Nat × Byte)) : UnitSt :=
  if x.xspiDriven resetn then x
  else prog.foldl (fun x e => if e.1 < flashSize then x.setFlash e.1 e.2 else x) x

/-- UNIT_PIN_RESET: RESETN low for 1 µs or more; while it is low the flash is an external programmer's. -/
def execUnitPinReset (r : PinReset) (s : State) : Host.Outcome State Fault Refusal :=
  unitStep s r.unit (fun x =>
    let x := x.programmer false r.prog
    if x.boot = .off then x else x.resetTo 1)

/-- UNIT_SUPPLY_LOSS: a supply below its threshold holds the unit in the power-on reset. -/
def execUnitSupplyLoss (u : UnitId) (s : State) : Host.Outcome State Fault Refusal :=
  unitStep s u (fun x => { UnitSt.reset u with
    regs := x.regs.filter (fun e => resetKeeps 0 e.1), out := x.out, free := x.free, flash := x.flash, boot := .off })

/-- A write of `GEN_RST`.
Log entry 43 (DEDUCED). -/
def UnitSt.rstWrite (x : UnitSt) (v : Word) : UnitSt := if v = 0xB007 then x.resetTo 3 else x.err GEN_ERR.RANGE

/-- GEN_RST_WRITE. -/
def execGenRstWrite (u : UnitId) (q : Requester) (v : Word) (s : State) : Host.Outcome State Fault Refusal :=
  unitStep s u (fun x => x.guard q true 0x4C (fun x => x.rstWrite v))

/-- A write of `GEN_PRST` (R589).
Log entry 42 (DEDUCED). -/
def UnitSt.prstWrite (x : UnitSt) (v : Word) : UnitSt :=
  if v.toNat % 65536 ≠ 0xB008 then x
  else if x.isHolder && x.splUp then (x.set GEN_PRST.RES 1).say .partnerReset
  else x.set GEN_PRST.RES 2

/-- GEN_PRST_WRITE. -/
def execGenPrstWrite (u : UnitId) (q : Requester) (v : Word) (s : State) : Host.Outcome State Fault Refusal :=
  unitStep s u (fun x => x.guard q true 0x50 (fun x => x.prstWrite v))

/-- PARTNER_RESET_RX: the request is carried out where PFEN is 1 and the unit is not in HOLDER; otherwise the requester's
RES reads refused (R589).
Log entry 42 (DEDUCED). -/
def execPartnerResetRx (u : UnitId) (s : State) : Host.Outcome State Fault Refusal :=
  let x := s.unit u
  if !x.islandOn .spl then .next s
  else if x.bit GEN_CFG.PFEN && !x.isHolder then unitStep s u (fun x => x.resetTo 4)
  else unitStep s u.other (fun y => y.set GEN_PRST.RES 2)

/-- A write of `GEN_BOOT` with CONFIRM ends the trial (R566). -/
def UnitSt.bootWrite (x : UnitSt) (v : Word) : UnitSt :=
  if bitAt v.toNat 31 then (x.set GEN_BOOT.TRIAL 0).set GEN_STAT.CONFIRMED 1 else x

/-- BOOT_CONFIRM. -/
def execBootConfirm (u : UnitId) (q : Requester) (s : State) : Host.Outcome State Fault Refusal :=
  unitStep s u (fun x => x.guard q true 0x58 (fun x => x.bootWrite 0x80000000))

/-- BOOT_TRIAL_TIMEOUT: BOOTTMO seconds in a trial; 0 is no limit.
Log entry 44 (DESIGN CHOICE). -/
def execBootTrialTimeout (u : UnitId) (s : State) : Host.Outcome State Fault Refusal :=
  unitStep s u (fun x => if x.boot = .up ∧ x.bit GEN_BOOT.TRIAL ∧ x.fld GEN_CFG.BOOTTMO ≠ 0 then x.resetTo 2 else x)

/-! The security engine (R567, R575, R595). -/

/-- Whether `n` bytes at `a` lie in the SRAM of 48 MiB. -/
def sramRange (a n : Nat) : Bool := decide (a + n ≤ 0x3000000)

/-- Whether the SRAM runs; it also serves a unit without a valid image, whose flash is written from it (R649). -/
def UnitSt.sramOn (x : UnitSt) : Bool := x.boot == .noImage || (x.islandOn .mem0 && x.islandOn .mem1)

/-- Whether `n` bytes at `a` lie in the SRAM, and it runs.
Log entries 39 (DEDUCED), 57 (DESIGN CHOICE). -/
def UnitSt.inSram (x : UnitSt) (a n : Nat) : Bool := sramRange a n && x.sramOn

def UnitSt.secRefuse (x : UnitSt) : UnitSt := (x.set SEC_VCMD.RES 4).err SEC_ERR.RANGE

/-- What the engine asks of the SRAM while that does not run is discarded (R42): nothing is verified, and a verification is
refused.
Log entry 221 (DEDUCED). -/
def UnitSt.secCross (x : UnitSt) (res : Nat) : UnitSt := (x.set SEC_VCMD.RES res).err SEC_ERR.XING

/-- OP VERIFY: the engine takes message, key and signature as they stand. -/
def UnitSt.secVerify (x : UnitSt) (ca : Bool) : UnitSt :=
  let m := x.fld SEC_VMSG.VMSG
  let n := x.fld SEC_VLEN.VLEN
  let k := x.fld SEC_VKEY.VKEY
  let g := x.fld SEC_VSIG.VSIG
  if n = 0 then x.set SEC_VCMD.RES 5
  else if !(sramRange m n && sramRange g 96 && (ca || sramRange k 97)) then x.secRefuse
  else if !x.sramOn then x.secCross 4
  else
    let ok := if ca then Config.caVerify (x.sramBytes m n) (x.sramBytes g 96)
      else Config.verify (x.sramBytes k 97) (x.sramBytes m n) (x.sramBytes g 96)
    { x.set SEC_VCMD.RES 2 with verif := some ok }

/-- OP RAISE: `SEC_MINVER` takes the version of the booted image, but not in a trial. -/
def UnitSt.secRaise (x : UnitSt) : UnitSt :=
  if x.bit GEN_BOOT.TRIAL then x.secRefuse
  else (x.set SEC_MINVER.MINVER (x.fld GEN_IMGVER.VERSION)).set SEC_VCMD.RES 1

/-- OP RANDOM: 32 random bytes to the address in VMSG.
Log entry 58 (DESIGN CHOICE). -/
def UnitSt.secRandom (x : UnitSt) : UnitSt :=
  let m := x.fld SEC_VMSG.VMSG
  if !sramRange m 32 then x.secRefuse
  else if !x.sramOn then x.secCross 1
  else
    let (v, x) := x.draw
    (x.sramPut m (leBytes 32 v)).set SEC_VCMD.RES 1

/-- A write of `SEC_VCMD`: while a verification runs it is refused.
Log entry 56 (DEDUCED). -/
def UnitSt.secCmd (x : UnitSt) (v : Word) : UnitSt :=
  if x.verif.isSome then x.err SEC_ERR.RANGE
  else
    match v.toNat % 8 with
    | 1 => x.secVerify (bitAt v.toNat 4)
    | 2 => x.secRaise
    | 3 => x.secRandom
    | _ => x.secRefuse

/-- SEC_VERIFY. -/
def execSecVerify (u : UnitId) (q : Requester) (ca : Bool) (s : State) : Host.Outcome State Fault Refusal :=
  unitStep s u (fun x => x.guard q true 0x5078 (fun x => x.secCmd (if ca then 0x11 else 1)))

/-- SEC_VERIFY_DONE. -/
def execSecVerifyDone (u : UnitId) (s : State) : Host.Outcome State Fault Refusal :=
  unitStep s u (fun x =>
    match x.verif with
    | none => x
    | some true => { x.set SEC_VCMD.RES 1 with verif := none }
    | some false => ({ x.set SEC_VCMD.RES 3 with verif := none }).err SEC_ERR.VFAIL)

/-- SEC_RAISE. -/
def execSecRaise (u : UnitId) (q : Requester) (s : State) : Host.Outcome State Fault Refusal :=
  unitStep s u (fun x => x.guard q true 0x5078 (fun x => x.secCmd 2))

/-- SEC_RANDOM. -/
def execSecRandom (u : UnitId) (q : Requester) (s : State) : Host.Outcome State Fault Refusal :=
  unitStep s u (fun x => x.guard q true 0x5078 (fun x => x.secCmd 3))

/-! The flash loader (R596). -/

/-- The bytes an operation touches: an erase takes whole 64 KiB sectors.
Log entry 57 (DESIGN CHOICE). -/
def flsSpan (op : Nat) (a n : Nat) : Nat × Nat :=
  if op = 1 then (a / 65536 * 65536, (a + n + 65535) / 65536 * 65536) else (a, a + n)

/-- A write of `FLS_CMD`: while an operation runs it is refused.
Log entries 56 (DEDUCED), 57 (DESIGN CHOICE). -/
def UnitSt.flsCmd (x : UnitSt) (v : Word) : UnitSt :=
  let op := v.toNat % 8
  let a := x.fld FLS_ADDR.ADDR
  let n := x.fld FLS_LEN.LEN
  let r := x.fld FLS_SRAM.SRAM
  let (lo, hi) := flsSpan op a n
  let b := slotBase (x.fld GEN_BOOT.SLOT)
  if x.fls.isSome then x.err FLS_ERR.RANGE
  else if op = 0 ∨ 4 < op then (x.set FLS_CMD.RES 4).err FLS_ERR.RANGE
  else if n = 0 then x.set FLS_CMD.RES 5
  else if flashSize < hi ∨ (2 ≤ op ∧ op ≤ 3 ∧ !x.inSram r n) ∨ (op = 4 ∧ 2 * slotSize ≤ a) then
    (x.set FLS_CMD.RES 4).err FLS_ERR.RANGE
  else if op ≤ 2 ∧ x.boot = .up ∧ lo < b + slotSize ∧ b < hi then (x.set FLS_CMD.RES 3).err FLS_ERR.RANGE
  else { x.set FLS_CMD.RES 2 with fls := some ⟨op, a, r, n⟩ }

/-- FLS_ERASE, FLS_PROGRAM, FLS_READ and FLS_CHECK: the four operations of `FLS_CMD`. -/
def execFlsErase (u : UnitId) (q : Requester) (s : State) : Host.Outcome State Fault Refusal :=
  unitStep s u (fun x => x.guard q true 0x6050 (fun x => x.flsCmd 1))
def execFlsProgram (u : UnitId) (q : Requester) (s : State) : Host.Outcome State Fault Refusal :=
  unitStep s u (fun x => x.guard q true 0x6050 (fun x => x.flsCmd 2))
def execFlsRead (u : UnitId) (q : Requester) (s : State) : Host.Outcome State Fault Refusal :=
  unitStep s u (fun x => x.guard q true 0x6050 (fun x => x.flsCmd 3))
def execFlsCheck (u : UnitId) (q : Requester) (s : State) : Host.Outcome State Fault Refusal :=
  unitStep s u (fun x => x.guard q true 0x6050 (fun x => x.flsCmd 4))

/-- What a flash operation does; what an erased byte reads is free, since the spec does not say.
Log entry 15 (DESIGN CHOICE). -/
def UnitSt.flsDo (x : UnitSt) (o : FlsOp) : UnitSt :=
  match o.op with
  | 1 =>
    let (v, x) := x.draw
    let (lo, hi) := flsSpan 1 o.addr o.len
    (List.range (hi - lo)).foldl (fun (x : UnitSt) i =>
      x.setFlash (lo + i) (BitVec.ofNat 8 (Config.free (0x30000 + v) (lo + i)))) x
  | 2 => (List.range o.len).foldl (fun (x : UnitSt) i => x.setFlash (o.addr + i) (sget (fun _ => 0) x.mem.sram (o.sram + i))) x
  | 3 => x.sramPut o.sram (x.flashBytes o.addr o.len)
  | _ => x.showSlot (o.addr / slotSize)

/-- FLS_OP_DONE: the operation completes; `ecc` where the flash was read in error. -/
def execFlsOpDone (u : UnitId) (ecc : Bool) (s : State) : Host.Outcome State Fault Refusal :=
  unitStep s u (fun x =>
    match x.fls with
    | none => x
    | some o =>
      if !x.islandOn .fls then x
      else
        let x := { (x.flsDo o).set FLS_CMD.RES 1 with fls := none }
        if ecc && decide (3 ≤ o.op) then x.err FLS_ERR.ECC else x)

end Sys2Proof.Machine
end

