-- ==== Sys2Proof/Machine/CellOps.lean ====
section
/-! DEFINITION. The named operations over a cell: time, links, holds, gates, the bypass latch, ledger entries, which
islands run, access to its registers (R37, R43, R103, R212 to R217, R249, R550, R600 to R612). -/
namespace Sys2Proof.Machine

/-! Time of a cell. -/

def CellSt.pn (x : CellSt) : Nat := x.pair CTIM_PN_LO.PN_LO CTIM_PN_HI.PN_HI
def CellSt.setPn (x : CellSt) (v : Nat) : CellSt := x.setPair CTIM_PN_LO.PN_LO CTIM_PN_HI.PN_HI (v % 2 ^ 48)

/-- The period T as a span. -/
def CellSt.period (x : CellSt) : Nat := x.fld CTIM_PERIOD.T * 250 * ns

/-- A quarter of a nanosecond: the grid of R72. -/
def qns : Nat := ns / 4

/-- Cell time at the latest event.
Log entry 5 (DESIGN CHOICE). -/
def CellSt.now (x : CellSt) : Instant := x.pair CTIM_NOW_LO.NS CTIM_NOW_HI.NS * ns + x.fld CTIM_NOW_FRAC.FRAC

/-- Sets cell time to the instant of the event in hand.
Log entry 4 (DESIGN CHOICE). -/
def CellSt.tick (x : CellSt) (t : Instant) : CellSt :=
  (x.setPair CTIM_NOW_LO.NS CTIM_NOW_HI.NS (t / ns % 2 ^ 64)).set CTIM_NOW_FRAC.FRAC (t % ns)

/-- `CTIM_SERVO.STATE`: 0 Search, 1 Acquire, 2 Locked, 3 Holdover (R77). -/
def CellSt.servo (x : CellSt) : Nat := x.fld CTIM_SERVO.STATE

/-- A quotient whose rounding the spec does not state: the floor, or one more where the division is not exact.
Log entry 12 (DESIGN CHOICE). -/
def CellSt.divFree (x : CellSt) (z d : Int) : Int × CellSt :=
  if z % d = 0 then (z / d, x)
  else
    let (v, x) := x.draw
    (z / d + ((v % 2 : Nat) : Int), x)

/-! Links. -/

def sideIx : Side → Nat
  | .a => 0
  | .b => 1

def CellSt.lnk (x : CellSt) : Side → CLnkSt
  | .a => x.lnkA
  | .b => x.lnkB

def CellSt.setLnk (x : CellSt) (s : Side) (v : CLnkSt) : CellSt :=
  match s with
  | .a => { x with lnkA := v }
  | .b => { x with lnkB := v }

def CellSt.onLnk (x : CellSt) (s : Side) (f : CLnkSt → CLnkSt) : CellSt := x.setLnk s (f (x.lnk s))

/-- Whether the receiver of a side is in lock. -/
def CellSt.locked (x : CellSt) (s : Side) : Bool := x.bit CLNK_STAT.LOCK (sideIx s)

/-- Whether the cell's ports run at low rate: the rate of a port in lock, or of the A-side port. -/
def CellSt.isLow (x : CellSt) : Bool :=
  if x.locked .a then x.bit CLNK_STAT.RATE 0 else if x.locked .b then x.bit CLNK_STAT.RATE 1 else x.bit CLNK_STAT.RATE 0

/-- Whether the cell holds a valid hop index, and its hop, strand and cell count (R135, R145). -/
def CellSt.hopValid (x : CellSt) : Bool := x.bit CLNK_HOP.VALID 0
def CellSt.hop (x : CellSt) : Nat := x.fld CLNK_HOP.HOP 0

/-- Sets a field of both CLNK pages (R145: some registers read the same in both). -/
def CellSt.setBoth (x : CellSt) (f : Fld) (v : Nat) : CellSt := (x.set f v 0).set f v 1

/-- Puts a frame on the port of a side.
Log entry 7 (DESIGN CHOICE). -/
def CellSt.emit (x : CellSt) (side : Side) (bytes : Bytes) : CellSt := { x with out := ⟨side, bytes⟩ :: x.out }

/-! Channels of measurement. -/

def CellSt.ch (x : CellSt) (n : Nat) : ChSt := sget (fun _ => {}) x.chs n
def CellSt.setCh (x : CellSt) (n : Nat) (v : ChSt) : CellSt := { x with chs := sset (fun _ => {}) x.chs n v }
def CellSt.onCh (x : CellSt) (n : Nat) (f : ChSt → ChSt) : CellSt := x.setCh n (f (x.ch n))

/-- Whether measurement runs as in Idle: until the boundary at which it resumes (R183).
Log entry 195 (DEDUCED). -/
def CellSt.idleMeas (x : CellSt) : Bool := x.pow == .idle || x.resume

/-! Gates and holds (R186, R212, R249). -/

/-- Whether something holds the gates: a local trip, a STOP block, an orphan block, a fired bypass, a servo outside Locked
or Holdover (R212), a `CSW_CFG` not taken since the reset (R628); a FATAL latch holds the STOP block (R555). -/
def CellSt.held (x : CellSt) : Bool :=
  x.bit CPROT_LATCH.LATCH || x.bit CLNK_STAT.STOPB 0 || x.bit CFLT_STAT.FATAL || x.bit CPROT_OSTAT.OBLK
    || x.bit CSW_BYPSTAT.FIRED || decide (x.servo < 2) || !x.sw.cfgDone

/-- Shows the power state (R249, R256). -/
def CellSt.showPow (x : CellSt) : CellSt :=
  match x.pow with
  | .on => x.set CPROT_PWR.STATE (b2n x.held)
  | _ => x.set CPROT_PWR.STATE 2

/-- The on-edge of a gate that is on (gates 0 GATE1H, 1 GATE1L, 2 GATE2H, 3 GATE2L). -/
def CellSt.gateOn (x : CellSt) (g : Nat) : Option Instant := sget (fun _ => none) x.sw.onAt g

/-- Turns a gate off. -/
def CellSt.gateOff (x : CellSt) (g : Nat) : CellSt :=
  let x := x.set CSW_STATE.GATES (x.fld CSW_STATE.GATES &&& (15 ^^^ (1 <<< g)))
  { x with sw := { x.sw with onAt := sset (fun _ => none) x.sw.onAt g none } }

/-- Turns a gate on at `t`, counting its on-edge. -/
def CellSt.gateUp (x : CellSt) (g : Nat) (t : Instant) : CellSt :=
  let x := x.set CSW_STATE.GATES (orBit (x.fld CSW_STATE.GATES) g)
  let x := x.setPair CSW_SW_LO.ON_LO CSW_SW_HI.ON_HI ((x.pair CSW_SW_LO.ON_LO CSW_SW_HI.ON_HI g + 1) % 2 ^ 64) g
  { x with sw := { x.sw with onAt := sset (fun _ => none) x.sw.onAt g (some t),
                             lastOn := sset (fun _ => none) x.sw.lastOn g (some t) } }

/-- Drops the window starts of a channel in switching-event mode that have not come: their changes are abandoned. Peaks and
valleys of the carrier stay, whose grid runs on (R207).
Log entry 166 (DEDUCED). -/
def CellSt.dropStarts (x : CellSt) (n : Nat) : CellSt :=
  if x.fld CMEAS_CHCFG.MODE n = 2 ∧ x.fld CMEAS_CHCFG.EVSEL n < 4 ∧ (x.ch n).starts ≠ [] then
    x.onCh n (fun h => { h with starts := h.starts.filter (fun t => decide (t ≤ x.now)) })
  else x

/-- Every gate inactive, every leg OFF, refreshes and pending changes abandoned (R212). -/
def CellSt.gatesOff (x : CellSt) : CellSt :=
  let x := ((x.set CSW_STATE.GATES 0).set CSW_STATE.LEG1 0).set CSW_STATE.LEG2 0
  let x := (x.set CSW_STATE.CSTATE 3).set CSW_STATE.HOLD 1
  let x := (List.range 4).foldl CellSt.dropStarts x
  { x with sw := { x.sw with leg1 := {}, leg2 := {}, last := 3, onAt := [] } }

/-- Applies the holds after something has changed one of them.
Log entry 154 (DEDUCED). -/
def CellSt.holdCheck (x : CellSt) : CellSt :=
  let x := if x.held || x.pow != .on then x.gatesOff else x.set CSW_STATE.HOLD 0
  x.showPow

/-! Ledger (R550). -/

/-- A ledger entry: twelve data bytes, KIND, SUB and the CRC-16. -/
def ledgerEntry (kind sub : Nat) (data : Bytes) : Bytes :=
  let body := (data ++ List.replicate 12 0).take 12 ++ [BitVec.ofNat 8 kind, BitVec.ofNat 8 sub]
  body ++ leBytes 2 (crc16 body)

/-- Starts the append of an entry, or queues it behind the one in progress; `req` marks a unit's request (R551).
Log entry 163 (DESIGN CHOICE). -/
def CellSt.ledger (x : CellSt) (req : Bool) (entry : Bytes) : CellSt :=
  match x.mem.append with
  | none => { x with mem := { x.mem with append := some (req, entry) } }
  | some _ => { x with mem := { x.mem with queue := x.mem.queue ++ [(req, entry)] } }

/-! Bypass (R216, R217). -/

/-- Fires the bypass from a source; a later source has no effect. -/
def CellSt.fire (x : CellSt) (src : Nat) : CellSt :=
  if x.bit CSW_BYPSTAT.FIRED then x
  else
    let x := ((x.set CSW_BYPSTAT.FIRED 1).set CSW_BYPSTAT.SRC src).err CSW_ERR.BYP
    (x.ledger false (ledgerEntry 4 0 [BitVec.ofNat 8 src])).holdCheck

/-- ALIVE stops, driven low, until a cell reset (R238); in Dormant and Off it is not driven (R239). -/
def CellSt.stopAlive (x : CellSt) : CellSt :=
  let driven := x.pow != .dormant && x.pow != .off
  { x with prot := { x.prot with alive := if driven then .low else .undriven } }.set CPROT_STAT.ALIVESTOP 1

/-- The level of the ALIVE pin at `t`, none where it is not driven (R237 to R239).
Log entry 190 (DESIGN CHOICE). -/
def CellSt.aliveLevel (x : CellSt) (t : Instant) : Option Bool :=
  match x.prot.alive with
  | .undriven => none
  | .low => some false
  | .toggles since => some ((t - since) / (50 * us) % 2 == 0)

/-- Shows VAUX, in mV, against VSET (R257).
Log entry 194 (DESIGN CHOICE). -/
def CellSt.showReg (x : CellSt) (vaux : Nat) : CellSt :=
  { x with sup := { x.sup with vaux := vaux } }.set CSUP_STAT.REG (b2n (decide (x.fld CSUP_VSET.VSET * 40 ≤ vaux)))

/-- The FATAL reaction of a cell: ALIVE stops and the STOP block is set, to be ended only by a cell reset (R120, R555). -/
def CellSt.fatal (x : CellSt) : CellSt := ((x.stopAlive.set CFLT_STAT.FATAL 1).setBoth CLNK_STAT.STOPB 1).holdCheck

/-! Islands and register access (R37, R43, R103, R602, R604, R612). -/

/-- Whether an island of the cell runs. -/
def CellSt.islandOn (x : CellSt) (i : CIsland) : Bool :=
  match x.pow with
  | .off => false
  | .dormant => i == .aon
  | .idle => i != .sw && i != .core
  | .on => true

/-- Whether the block of the page at `b` works: EN was 1 at the last period token (R600). -/
def CellSt.works (x : CellSt) (b : Nat) : Bool := !x.disabled.contains b && x.islandOn (cellIsland b)

/-- The pages whose EN is 0. -/
def CellSt.disabledNow (x : CellSt) : List Nat :=
  ((List.range 11).map (· * 0x1000)).filter (fun b => (x.word (b + 0x0C)).toNat % 2 == 0)

/-- Result codes (R103). -/
def rcOk : Nat := 0
def rcEmpty : Nat := 1
def rcBadOp : Nat := 2
def rcAddr : Nat := 3
def rcLocked : Nat := 4
def rcRefused : Nat := 5
def rcOff : Nat := 6

/-- Whether a register stands at an address of the cell's space. -/
def cellHasReg (a : Nat) : Bool :=
  match pageOf cellPages a with
  | none => false
  | some p => a % 4 == 0 && (decide (a % 0x1000 < 0x030) || p.fields.any (fun f => f.covers a))

def CellSt.req (x : CellSt) (r : CellReq) : ReqSt := sget (fun _ => {}) x.reqs r.key
def CellSt.onReq (x : CellSt) (r : CellReq) (f : ReqSt → ReqSt) : CellSt :=
  { x with reqs := sset (fun _ => {}) x.reqs r.key (f (x.req r)) }

/-- Carries out an access to the register at `a` where a register stands there and its island runs; the result code is
the one a WRITE entry is answered.
Log entry 25 (DESIGN CHOICE). -/
def CellSt.guarded (x : CellSt) (r : CellReq) (a : Nat) (k : CellSt → Nat × CellSt) : Nat × CellSt :=
  if x.pow = .off ∨ x.pow = .dormant then (rcOff, x)
  else if !cellHasReg a then (rcAddr, if r.isCore then x.err CGEN_ERR.RANGE else x)
  else if !x.islandOn (cellIsland a) then (rcOff, x.err CGEN_ERR.XING)
  else k x

/-- A register command of requester `r`: the access, its result kept where the requester reads it. -/
def CellSt.access (x : CellSt) (r : CellReq) (a : Nat) (k : CellSt → Nat × CellSt) : CellSt :=
  let (code, x) := x.guarded r a k
  x.onReq r (fun q => { q with res := code })

/-- Whether the page of `a` is locked (R602). -/
def CellSt.pageLocked (x : CellSt) (a : Nat) : Bool := (x.word (a - a % 0x1000 + 0x24)).toNat % 2 == 1

/-- Runs a write of an RWL register; while the page is locked it is discarded: `CGEN_ERR.RANGE` for the core, LOCKED for
a unit (R602). -/
def CellSt.unlocked (x : CellSt) (r : CellReq) (a : Nat) (k : CellSt → Nat × CellSt) : Nat × CellSt :=
  if x.pageLocked a then (rcLocked, if r.isCore then x.err CGEN_ERR.RANGE else x) else k x

/-- The word a register will hold after the writes that wait for the next boundary. -/
def CellSt.pendingWord (x : CellSt) (a : Nat) : Word :=
  match x.bpend.find? (fun e => e.1 == a) with
  | some (_, w) => w
  | none => x.word a

/-- Lets a register take a word at the next boundary. -/
def CellSt.atNext (x : CellSt) (a : Nat) (w : Word) : CellSt :=
  { x with bpend := (a, w) :: x.bpend.filter (fun e => e.1 != a) }

end Sys2Proof.Machine
end

