-- ==== Sys2Proof/Machine/CellSwitch.lean ====
section
/-! DEFINITION. The cell switching stage (R185 to R220, R654): command slots to changes of the legs, dead time and
pulse width, bootstrap refresh, the carrier, and what the stage does at a boundary. -/
namespace Sys2Proof.Machine

/-! Slots and states (R82, R187 to R189, R194). -/

/-- Reverses the order of 4 bits (R82). -/
def rev4 (n : Nat) : Nat := n % 2 * 8 + n / 2 % 2 * 4 + n / 4 % 2 * 2 + n / 8 % 2

/-- δ of R82 and R206. -/
def dither (n phase : Nat) : Nat := b2n (decide (rev4 (n % 16) < phase))

/-- Fields of a command slot (R96). -/
def cslotBstate (w : Nat) : Nat := w % 4
def cslotAlt (w : Nat) : Nat := w / 4 % 4
def cslotDith (w : Nat) : Nat := w / 16 % 16
def cslotOfs1 (w : Nat) : Nat := w / 2 ^ 8 % 65536
def cslotOfs2 (w : Nat) : Nat := w / 2 ^ 24 % 65536

/-- A half-bridge cell treats code 0b10 as blocked (R189). -/
def resolveCode (bridge : Bool) (code : Nat) : Nat := if code = 2 ∧ !bridge then 3 else code

/-- The timed changes a slot asks for in level mode, as offsets from the boundary in 250 ps units with their codes and
the events they are (R163), and whether it counts in ORDER or BEYOND: the rows of R194 in their order. -/
def slotTimed (bridge : Bool) (pn t slot : Nat) : List (Nat × Nat × Nat) × Bool × Bool :=
  let b := resolveCode bridge (cslotBstate slot)
  let a := resolveCode bridge (cslotAlt slot)
  let o1 := cslotOfs1 slot
  let o2 := cslotOfs2 slot
  let d := dither pn (cslotDith slot)
  let pt := t * 1000
  if b = 3 then ([], false, false)
  else if o1 = 0 then ([], o2 != 0, false)
  else if a = b then ([], false, false)
  else if pt ≤ o1 + d then ([], false, true)
  else if o2 = 0 then ([(o1 + d, a, 1)], false, false)
  else if o2 < o1 then ([(o1 + d, a, 1)], true, false)
  else if pt ≤ o2 + d then ([(o1 + d, a, 1)], false, true)
  else ([(o1 + d, a, 1), (o2 + d, b, 2)], false, false)

/-- The leg states of a cell state (R187); `zup` is the zero pair U, U. -/
def legStates (bridge zup : Bool) (code : Nat) : Leg × Leg :=
  match bridge, code with
  | false, 0 => (.lo, .off)
  | false, 1 => (.up, .off)
  | true, 0 => if zup then (.up, .up) else (.lo, .lo)
  | true, 1 => (.up, .lo)
  | true, 2 => (.lo, .up)
  | _, _ => (.off, .off)

/-- How `CSW_STATE` shows a leg state. -/
def legCode : Leg → Nat
  | .off => 0
  | .up => 1
  | .lo => 2

def CellSt.bridge (x : CellSt) : Bool := x.bit CSW_CFG.BRIDGE
def CellSt.eat (x : CellSt) : Bool := x.bit CSW_CFG.EAT
def CellSt.carrier (x : CellSt) : Bool := x.bit CSW_CFG.MODE

/-- The zero pair a cell state is entered on in the running period (R188). -/
def CellSt.zeroPair (x : CellSt) (pn : Nat) : Bool :=
  match x.fld CSW_CFG.ZSEL with
  | 0 => false
  | 1 => true
  | _ => pn % 2 == 1

/-! Legs. -/

def CellSt.leg (x : CellSt) (i : Nat) : LegSt := if i = 0 then x.sw.leg1 else x.sw.leg2
def CellSt.setLeg (x : CellSt) (i : Nat) (l : LegSt) : CellSt :=
  if i = 0 then { x with sw := { x.sw with leg1 := l } } else { x with sw := { x.sw with leg2 := l } }

/-- The level of gate output `g`: GPOL gives its active level, and inactive is the other (R190).
Log entry 215 (DESIGN CHOICE). -/
def CellSt.gateHigh (x : CellSt) (g : Nat) : Bool :=
  bitAt (x.fld CSW_STATE.GATES) g != bitAt (x.fld CSW_CFG.GPOL) g

/-- The gate of a leg in a leg state. -/
def gateOf (i : Nat) : Leg → Option Nat
  | .off => none
  | .up => some (2 * i)
  | .lo => some (2 * i + 1)

/-- The leg state a leg is commanded to now: a refresh in progress forces the lower switch (R201). -/
def LegSt.wanted (l : LegSt) : Leg := if l.refr.isSome then .lo else l.cmd

/-- Shows the leg state a leg is commanded to.
Log entry 154 (DEDUCED). -/
def CellSt.showLeg (x : CellSt) (i : Nat) : CellSt :=
  if i = 0 then x.set CSW_STATE.LEG1 (legCode (x.leg 0).wanted) else x.set CSW_STATE.LEG2 (legCode (x.leg 1).wanted)

/-- The leg state a leg reaches when everything scheduled has taken effect. -/
def LegSt.final (l : LegSt) : Leg :=
  match l.sched.getLast? with
  | some c => c.leg
  | none => l.cmd

/-- Schedules a change of a leg, where its leg state differs (R193). -/
def LegSt.add (l : LegSt) (c : Chg) : LegSt := if l.final = c.leg then l else { l with sched := l.sched ++ [c] }

/-- Commands the cell to a state at an instant, held from `held` (R187, R188, R193). -/
def CellSt.command (x : CellSt) (pn : Nat) (held : Instant) (at_ : Instant) (code : Nat) : CellSt :=
  if code = x.sw.last then x
  else
    let zup := if code = 0 then x.zeroPair pn else x.sw.zup
    let (l1, l2) := legStates x.bridge zup code
    { x with sw := { x.sw with last := code, zup := zup,
                               leg1 := x.sw.leg1.add ⟨at_, l1, code, held⟩,
                               leg2 := x.sw.leg2.add ⟨at_, l2, code, held⟩ } }

/-- Schedules what a slot asks for in level mode in the period `pn` that begins at `t0` (R193, R194). -/
def CellSt.commandSlot (x : CellSt) (pn : Nat) (t0 held : Instant) (slot : Nat) : CellSt :=
  let x := x.command pn held t0 (resolveCode x.bridge (cslotBstate slot))
  (slotTimed x.bridge pn (x.fld CTIM_PERIOD.T) slot).1.foldl
    (fun x e => x.command pn held (t0 + e.1 * qns) e.2.1) x

/-! Dead time and minimum pulse: changes scheduled before the running boundary complete under the values in force then
(R654). -/

def CellSt.deadTime (x : CellSt) (s : Instant) : Nat :=
  CSW_DT.DT.get (if s < x.tim.t0 then x.sw.oldDt else x.word 0x4044) 0 * qns
def CellSt.minPulse (x : CellSt) (s : Instant) : Nat :=
  CSW_MINP.MINP.get (if s < x.tim.t0 then x.sw.oldMinp else x.word 0x4048) 0 * qns
def CellSt.refrWord (x : CellSt) (s : Instant) : Word := if s < x.tim.t0 then x.sw.oldRefr else x.word 0x404C

/-! The carrier (R205 to R210). -/

/-- base of R205 in cell time: t0 less PN periods. -/
def CellSt.base (x : CellSt) : Int := (x.tim.t0 : Int) - ((x.pn * x.period : Nat) : Int)

/-- Valley `k` of a grid with period `p` and phase `ph`, as an instant. -/
def valley (base : Int) (p ph : Nat) (k : Int) : Int := base + (k * 65536 + ph) * p / 65536 * qns

/-- Peak `k` of a grid. -/
def peak (base : Int) (p ph : Nat) (k : Int) : Int := valley base p ph k + (p / 2 : Nat) * qns

/-- The cycle numbers around an instant. -/
def cyclesAt (base : Int) (p : Nat) (t : Int) (n : Nat) : List Int :=
  if p = 0 then []
  else
    let k := (t - base) / (qns * p : Nat)
    (List.range (n + 4)).map (fun (i : Nat) => k - 2 + (i : Int))

/-- The pulse of cycle `k` under the duty word `duty`: its start and length, none where D_k is 0 (R206). -/
def pulse (base : Int) (p ph : Nat) (duty : Word) (k : Int) : Option (Int × Int) :=
  let d := CSW_CDUTY.ON.get duty 0 + dither (k % 16).toNat (CSW_CDUTY.DITH.get duty 0)
  if d = 0 then none else some (valley base p ph k - ((d / 2 : Nat) * qns : Int), (d * qns : Nat))

/-- Whether a grid commands the inserted state at `t`. -/
def gridOn (base : Int) (p ph : Nat) (duty : Word) (t : Int) : Bool :=
  (cyclesAt base p t 0).any (fun k =>
    match pulse base p ph duty k with
    | none => false
    | some (s, d) => decide (s ≤ t) && decide (t < s + d))

/-- The edges of a grid around `t` and, as δ repeats every 16 cycles, the next one after it wherever there is one. -/
def gridEdges (base : Int) (p ph : Nat) (duty : Word) (t : Int) : List Int :=
  (cyclesAt base p t 16).flatMap (fun k =>
    match pulse base p ph duty k with
    | none => []
    | some (s, d) => [s, s + d])

/-- The first peak of a grid at or after `t`. -/
def nextPeak (base : Int) (p ph : Nat) (t : Int) : Int :=
  ((cyclesAt base p t 0).map (peak base p ph)).foldl
    (fun m q => if t ≤ q ∧ (m < t ∨ q < m) then q else m) (t - 1)

def CellSt.phase (x : CellSt) : Nat := x.fld CSW_CPHASE.PHASE

/-- The code of the inserted state under a duty word. -/
def insertedCode (duty : Word) : Nat := if CSW_CDUTY.SIGN.get duty 0 = 1 then 2 else 1

/-- The state the running grid commands at `t`, by the active values. -/
def CellSt.gridCode (x : CellSt) (p : Nat) (duty : Word) (t : Int) : Nat :=
  if gridOn x.base p x.phase duty t then insertedCode duty else 0

/-- The cell state the carrier commands at `t`: between Q and Q' the state commanded at Q is held; from Q a transfer
that waits governs (R210).
Log entry 152 (DEDUCED). -/
def CellSt.carrierCode (x : CellSt) (t : Instant) : Nat :=
  let p := x.fld CSW_CPER_ACT.PER
  let now := x.gridCode p (x.word 0x4064)
  if x.sw.gridAt.any (fun q' => decide (t < q')) then (if x.sw.last = 3 then 0 else x.sw.last)
  else
    match x.sw.xfer with
    | none => now t
    | some (p', d', q) =>
      if t < q then now t
      else if p' = p then x.gridCode p d' t
      else if (t : Int) < nextPeak x.base p' x.phase q then now q
      else x.gridCode p' d' t

/-- The next change of the carrier's state after `t`, with its code. -/
def CellSt.nextEdge (x : CellSt) (t : Instant) : Option (Instant × Nat) :=
  let p := x.fld CSW_CPER_ACT.PER
  let es := gridEdges x.base p x.phase (x.word 0x4064) t
  let es := match x.sw.gridAt with | some q' => (q' : Int) :: es | none => es
  let es := match x.sw.xfer with
    | some (p', d', q) =>
      (q : Int) :: nextPeak x.base p' x.phase q :: (es ++ gridEdges x.base p' x.phase d' t ++ gridEdges x.base p' x.phase d' q)
    | none => es
  let here := x.carrierCode t
  (es.foldl (fun (m : Option (Instant × Nat)) (e : Int) =>
    if e ≤ t then m
    else
      let e := e.toNat
      let c := x.carrierCode e
      if c = here then m
      else match m with
        | none => some (e, c)
        | some (f, _) => if e < f then some (e, c) else m) none)

/-! What comes after what is scheduled (R199, R200, R202). -/

/-- The changes of the carrier's state after `s` up to `hor`, at most as many as the first argument. -/
def CellSt.carrierEdges (x : CellSt) : Nat → Instant → Instant → List (Instant × Nat)
  | 0, _, _ => []
  | n + 1, s, hor =>
    match x.nextEdge s with
    | some (e, c) => if e ≤ hor then (e, c) :: x.carrierEdges n e hor else []
    | none => []

/-- The cell states the carrier commands after `s`, as far as dead times and pulse widths reach, with BSTATE of the adopted
command from the next boundary `t1` on (R206, R207). -/
def CellSt.carrierAhead (x : CellSt) (s t1 : Instant) : List (Instant × Nat) :=
  let hor := s + 4 * 16384 * qns
  let edges := x.carrierEdges 64 s hor
  let now := if x.sw.last = 3 then [] else edges.filter (fun e => decide (e.1 < t1))
  match x.sw.adopted with
  | some a =>
    if resolveCode x.bridge (cslotBstate (a.slot.getD 3)) = 3 then now ++ [(t1, 3)]
    else now ++ (if x.sw.last = 3 then [(t1, x.carrierCode t1)] else []) ++ edges.filter (fun e => decide (t1 ≤ e.1))
  | none => if x.sw.last = 3 then [] else edges

/-- The changes of leg `i` that the stage holds beyond those scheduled: in level mode those of the adopted command, in
carrier mode every change of the carrier (R200), each with the zero pair of the period it falls in (R188).
Log entry 199 (DEDUCED). -/
def CellSt.upcoming (x : CellSt) (i : Nat) (s : Instant) : List Chg :=
  let n := (x.leg i).sched.length
  let t1 := x.tim.t0 + x.period
  let y : CellSt :=
    if x.carrier then
      (x.carrierAhead s t1).foldl (fun y e => y.command (x.pn + (e.1 - x.tim.t0) / max 1 x.period) 0 e.1 e.2) x
    else
      match x.sw.adopted with
      | none => x
      | some a => x.commandSlot (x.pn + 1) t1 a.at_ (a.slot.getD 3)
  (y.leg i).sched.drop n

/-! Gates called for (R197). -/

/-- The first gate call of a leg falls due: the gate goes active where the leg is still commanded to it. -/
def CellSt.gateCall (x : CellSt) (i : Nat) : CellSt :=
  let l := x.leg i
  match l.calls with
  | [] => x
  | (due, goal) :: rest =>
    let x := x.setLeg i { l with calls := rest }
    if l.wanted = goal then
      match gateOf i goal with
      | none => x
      | some g => if (x.gateOn g).isSome then x else x.gateUp g due
    else x.inc CSW_CNT2.LDROP

/-- Gate calls that fall due before `t`. -/
def CellSt.flushCalls (x : CellSt) (i : Nat) (t : Instant) : Nat → CellSt
  | 0 => x
  | n + 1 =>
    match (x.leg i).calls with
    | [] => x
    | (due, _) :: _ => if due < t then (x.gateCall i).flushCalls i t n else x

/-- Turns off whichever gate of a leg is on. -/
def CellSt.legGatesOff (x : CellSt) (i : Nat) : CellSt :=
  let x := if (x.gateOn (2 * i)).isSome then x.gateOff (2 * i) else x
  if (x.gateOn (2 * i + 1)).isSome then x.gateOff (2 * i + 1) else x

/-! Changes (R195, R196, R198, R199). -/

/-- Counts `n` dropped pulses. -/
def CellSt.countDrops (x : CellSt) (n : Nat) : CellSt := (List.range n).foldl (fun x _ => x.inc CSW_CNT1.DROP) x

/-- A change whose pulse is dropped whole with the change `d` that ends it (R199).
Log entry 150 (DEDUCED). -/
def isDropped (dt : Nat) (cmd : Leg) (c d : Chg) : Bool :=
  decide (c.leg ≠ .off) && decide (cmd ≠ .off) && decide (d.leg = cmd) && decide (d.held ≤ c.at_) && decide (d.at_ < c.at_ + dt)

/-- Takes the changes scheduled before `e`, less the pulses among them that are dropped whole; `next` gives what follows the
last of them. The result: the leg state commanded then, the last change of the cell state among them, what is left, and the
pulses dropped.
Log entry 150 (DEDUCED). -/
def absorb (dt : Instant → Nat) (next : Instant → Option Chg) (e : Instant) :
    Nat → Leg → Option Chg → List Chg → Leg × Option Chg × List Chg × Nat
  | 0, cmd, last, cs => (cmd, last, cs, 0)
  | _ + 1, cmd, last, [] => (cmd, last, [], 0)
  | n + 1, cmd, last, c :: cs =>
    if e ≤ c.at_ then (cmd, last, c :: cs, 0)
    else
      match cs with
      | d :: ds =>
        if isDropped (dt c.at_) cmd c d then
          let (l, k, r, m) := absorb dt next e n cmd (some d) ds
          (l, k, r, m + 1)
        else absorb dt next e n c.leg (some c) cs
      | [] =>
        match (next c.at_).filter (fun d => isDropped (dt c.at_) cmd c d) with
        | some d => (cmd, some d, [], 1)
        | none => (c.leg, some c, [], 0)

/-- Shows the cell state of a change that has taken effect, unless that of a later change of the other leg is shown. -/
def CellSt.showCode (x : CellSt) (c : Option Chg) : CellSt :=
  match c with
  | some c =>
    if c.at_ < x.sw.codeAt then x else { x with sw := { x.sw with codeAt := c.at_ } }.set CSW_STATE.CSTATE c.code
  | none => x

/-- The first change of a leg takes effect at its effective instant, or is dropped with the one after it, which leaves the
cell commanded to the state of that one.
Log entries 150 (DEDUCED), 151 (DEDUCED). -/
def CellSt.swChange (x : CellSt) (i : Nat) : CellSt :=
  let l := x.leg i
  match l.sched, l.refr with
  | c :: rest, none =>
    let s := c.at_
    let dt := x.deadTime s
    let minp := x.minPulse s
    let next := match rest with | d :: _ => some d | [] => (x.upcoming i s).head?
    let x := x.flushCalls i s (l.calls.length + 1)
    let x := if x.eat && minp != 0 && (match (x.leg i).calls with | (due, _) :: _ => decide (due = s) | [] => false)
      then x.gateCall i else x
    if (match next with | some d => isDropped dt l.cmd c d | none => false) then
      let left : List Chg := rest.drop 1
      (((x.tick s).setLeg i { (x.leg i) with sched := left }).inc CSW_CNT1.DROP).showCode next
    else
      let on := (gateOf i l.cmd).bind x.gateOn
      let (e, wide) := match on with
        | some t => if x.eat && decide (s < t + minp) then (t + minp, true) else (s, false)
        | none => (s, false)
      let x := if wide then x.inc CSW_CNT1.WIDEN else x
      let ahead (s : Instant) : Option Chg := (x.upcoming i s).head?
      let (cmd, last, left, drops) := absorb x.deadTime ahead e (rest.length + 1) c.leg (some c) rest
      let x := ((x.countDrops drops).legGatesOff i).tick e
      let calls := (x.leg i).calls ++ (if cmd = .off then [] else [(e + dt, cmd)])
      let x := x.setLeg i { (x.leg i) with cmd := cmd, sched := left, calls := calls }
      (x.showLeg i).showCode last
  | _, _ => x

/-- SW_CHANGE. -/
def execSwChange (c : CellId) (leg : Fin 2) (s : State) : Host.Outcome State Fault Refusal :=
  cellStep s c (fun x => x.swChange leg.val)

/-- GATE_CALL. -/
def execGateCall (c : CellId) (leg : Fin 2) (s : State) : Host.Outcome State Fault Refusal :=
  cellStep s c (fun x =>
    match (x.leg leg.val).calls with
    | [] => x
    | (due, _) :: _ => (x.gateCall leg.val).tick due)

/-! Bootstrap refresh (R201 to R204). -/

/-- A refresh of leg `i` starts, where one is due and nothing held stands against it.
Log entry 153 (DEDUCED). -/
def CellSt.refreshStart (x : CellSt) (i : Nat) : CellSt :=
  let l := x.leg i
  match x.gateOn (2 * i), l.refr with
  | some t, none =>
    let span (w m : Word) : Nat :=
      let r := CSW_REFR.RINT.get w 0 * us
      if x.eat then max r (CSW_MINP.MINP.get m 0 * qns) else r
    let r0 := t + span (x.word 0x404C) (x.word 0x4048)
    let r := if r0 < x.tim.t0 ∧ span (x.word 0x404C) (x.word 0x4048) ≠ span x.sw.oldRefr x.sw.oldMinp then x.tim.t0 else r0
    let dt := x.deadTime r
    let w := CSW_REFR.REFW.get (x.refrWord r) 0 * qns
    let w := if x.eat then max w (x.minPulse r) else w
    let held := l.sched ++ (x.upcoming i r).filter (fun c => decide (c.held ≤ r))
    if !x.bit CSW_CFG.REFR || CSW_REFR.RINT.get (x.refrWord r) 0 == 0 || decide (r < x.tim.t0)
        || held.any (fun c => decide (c.at_ ≤ r + 2 * dt + w)) then x
    else
      let x := ((x.gateOff (2 * i)).inc CSW_CNT4.REFR).tick r
      (x.setLeg i { (x.leg i) with refr := some (r, r + dt + w, dt), calls := (x.leg i).calls ++ [(r + dt, .lo)] }).showLeg i
  | _, _ => x

/-- REFRESH_START. -/
def execRefreshStart (c : CellId) (leg : Fin 2) (s : State) : Host.Outcome State Fault Refusal :=
  cellStep s c (fun x => x.refreshStart leg.val)

/-- The lower gate's pulse of a refresh ends: the leg follows the state commanded then (R203). -/
def CellSt.refreshEnd (x : CellSt) (i : Nat) : CellSt :=
  match (x.leg i).refr with
  | none => x
  | some (_, e, dt) =>
    let x := x.flushCalls i (e + 1) ((x.leg i).calls.length + 1)
    let l := x.leg i
    let (cmd, last, left, _) := absorb (fun _ => 0) (fun _ => none) (e + 1) (l.sched.length + 1) l.cmd none l.sched
    let x := if cmd = .lo then x else x.legGatesOff i
    let calls := if cmd = .up then [(e + dt, cmd)] else []
    let x := x.setLeg i { l with cmd := cmd, sched := left, refr := none, calls := l.calls ++ calls }
    ((x.showLeg i).showCode last).tick e

/-- REFRESH_END. -/
def execRefreshEnd (c : CellId) (leg : Fin 2) (s : State) : Host.Outcome State Fault Refusal :=
  cellStep s c (fun x => x.refreshEnd leg.val)

/-! Carrier events. -/

/-- Puts a window start of channel `n` down (R163). -/
def CellSt.addStart (x : CellSt) (n : Nat) (t : Instant) : CellSt :=
  x.onCh n (fun h => { h with starts := h.starts ++ [t] })

/-- The window starts of switching events, by event code (R163); 3 is a transition of the carrier.
Log entries 166 (DEDUCED), 199 (DEDUCED). -/
def CellSt.eventStarts (x : CellSt) (es : List (Nat × Instant)) : CellSt :=
  (List.range 4).foldl (fun x n =>
    if !x.idleMeas && x.fld CMEAS_CHCFG.MODE n == 2 then
      let k := x.fld CMEAS_CHCFG.EVSEL n
      (es.filter (fun e => e.1 == k || (k == 3 && decide (e.1 < 3)))).foldl (fun x e => x.addStart n e.2) x
    else x) x

/-- CARRIER_EDGE: in carrier mode, while the cell is not blocked, it is commanded to the state the carrier gives (R206,
R207); a change is a transition for the windows.
Log entry 199 (DEDUCED). -/
def execCarrierEdge (c : CellId) (at_ : Instant) (s : State) : Host.Outcome State Fault Refusal :=
  cellStep s c (fun x =>
    if !x.carrier || x.sw.last == 3 || x.held || !x.works 0x4000 then x
    else
      let x := match x.sw.gridAt with
        | some q => if q ≤ at_ then { x with sw := { x.sw with gridAt := none } } else x
        | none => x
      let code := x.carrierCode at_
      let x := if code = x.sw.last then x else x.eventStarts [(3, at_)]
      (x.command x.pn 0 at_ code).tick at_)

/-- A transfer takes effect at Q (R210).
Log entry 234 (DESIGN CHOICE). -/
def CellSt.transferQ (x : CellSt) : CellSt :=
  match x.sw.xfer with
  | none => x
  | some (p, duty, q) =>
    let hold := if p = x.fld CSW_CPER_ACT.PER then none
      else some (nextPeak x.base p x.phase q).toNat
    let x := (x.set CSW_CPER_ACT.PER p).set CSW_CDUTY_ACT.DUTY duty.toNat
    ({ x with sw := { x.sw with xfer := none, gridAt := hold } }.set CSW_STAT.TPEND 0).tick q

/-- CARRIER_TRANSFER_Q. -/
def execCarrierTransferQ (c : CellId) (s : State) : Host.Outcome State Fault Refusal :=
  cellStep s c CellSt.transferQ

/-- A commit at the boundary `t0` (R208 to R211).
Log entries 152 (DEDUCED), 235 (DESIGN CHOICE). -/
def CellSt.carrierCommit (x : CellSt) (t0 : Instant) : CellSt :=
  if !x.bit CSW_CCMT.ARMED then x
  else
    let p := x.fld CSW_CPER.PER
    let d := x.word 0x4054
    let past := decide (p < CSW_CDUTY.ON.get d 0)
    let x := if past then (x.err CSW_ERR.CLAMP).inc CSW_CNT4.CLAMP else x
    let d := if past then CSW_CDUTY.ON.put d 0 p else d
    let x := x.set CSW_CCMT.ARMED 0
    let act := x.fld CSW_CPER_ACT.PER
    match x.sw.xfer with
    | some (_, _, q) => { x with sw := { x.sw with xfer := some (p, d, q) } }
    | none =>
      if act = 0 then ({ x with sw := { x.sw with xfer := some (p, d, t0) } }).transferQ
      else
        let q := (nextPeak x.base act x.phase t0).toNat
        ({ x with sw := { x.sw with xfer := some (p, d, q) } }).set CSW_STAT.TPEND 1

/-! The stage at a boundary (R191 to R194, R207, R213 to R215). -/

/-- Takes a `CSW_CFG` that waits at the boundary `t0` of period `pn`, where the gates are off by command or hold (R214, R628): a
command to blocked is executed first, by the configuration it was given under.
Log entry 154 (DEDUCED). -/
def CellSt.takeCfg (x : CellSt) (pn : Nat) (held t0 : Instant) : CellSt :=
  match x.sw.cfgPend with
  | none => x
  | some w =>
    let blocked := match x.sw.adopted with
      | some a => resolveCode x.bridge (cslotBstate (a.slot.getD 3)) == 3
      | none => false
    if blocked || !x.sw.ever || x.held then
      let x := if x.held then x else x.command pn held t0 3
      let x := (x.setWord 0x4040 w).set CSW_STAT.CPEND 0
      ({ x with sw := { x.sw with cfgPend := none, cfgDone := true } }).holdCheck
    else x

/-- The peaks and valleys of the carrier from `t0` to the next boundary, as events 4 and 5 of R163. -/
def CellSt.gridEvents (x : CellSt) (t0 : Instant) : List (Nat × Instant) :=
  let t1 : Int := t0 + x.period
  let p := x.fld CSW_CPER_ACT.PER
  let pts (p : Nat) (lo hi : Int) : List (Nat × Instant) :=
    let ks := cyclesAt x.base p lo (x.period / (qns * max p 1))
    let keep (e : Nat) (zs : List Int) := (zs.filter (fun z => decide (lo ≤ z) && decide (z < hi))).map (fun z => (e, z.toNat))
    keep 4 (ks.map (peak x.base p x.phase)) ++ keep 5 (ks.map (valley x.base p x.phase))
  if !x.carrier then []
  else
    let lo : Int := match x.sw.gridAt with | some q => max (q : Int) t0 | none => t0
    match x.sw.xfer with
    | none => pts p lo t1
    | some (p', _, q) =>
      if p' = p then pts p lo t1
      else pts p lo (min t1 (q + 1)) ++ pts p' (max lo (max (q + 1) (nextPeak x.base p' x.phase q))) t1

/-- What the stage executes at the boundary `t0` of period `pn`.
Log entry 150 (DEDUCED). -/
def CellSt.swBoundary (x : CellSt) (pn : Nat) (t0 : Instant) : CellSt :=
  let slot := match x.sw.adopted with | some a => a.slot.getD 3 | none => 3
  let heldAt := match x.sw.adopted with | some a => a.at_ | none => t0
  let fresh := match x.sw.adopted with | some a => a.slot.isSome && !a.coast | none => false
  let was := x.sw.last
  let x := x.takeCfg pn heldAt t0
  let x := { x with sw := { x.sw with adopted := none } }
  if x.pow ≠ .on ∨ x.held ∨ !x.works 0x4000 then x.eventStarts (x.gridEvents t0)
  else
    let b := resolveCode x.bridge (cslotBstate slot)
    let x : CellSt := if fresh then
        { x.setPair CSW_LAST_LO.SLOT_LO CSW_LAST_HI.SLOT_HI slot with sw := { x.sw with ran := true } } else x
    if x.carrier then
      let x := if b = 3 then x.command pn heldAt t0 3
        else if x.sw.last = 3 then x.command pn 0 t0 (x.carrierCode t0) else x
      x.eventStarts ((if x.sw.last = was then [] else [(0, t0)]) ++ x.gridEvents t0)
    else
      let (timed, order, beyond) := slotTimed x.bridge pn (x.fld CTIM_PERIOD.T) slot
      let x := if order then x.inc CSW_CNT2.ORDER else x
      let x := if beyond then x.inc CSW_CNT3.BEYOND else x
      let x := x.commandSlot pn t0 heldAt slot
      x.eventStarts ((if b = was then [] else [(0, t0)]) ++ timed.map (fun e => (e.2.2, t0 + e.1 * qns)))

/-! Writes of the CSW page (R208, R209, R214, R217, R218, R220, R654). -/

/-- A write of `CSW_CFG`: it waits under R214; ZSEL 0b11 is discarded (R188).
Log entry 236 (DESIGN CHOICE). -/
def CellSt.cfgWrite (x : CellSt) (w : Word) : Nat × CellSt :=
  let bad := decide (CSW_CFG.ZSEL.get w 0 = 3)
  let x := if bad then x.err CSW_ERR.RANGE else x
  let old := x.sw.cfgPend.getD (x.word 0x4040)
  let w := if bad then CSW_CFG.ZSEL.put w 0 (CSW_CFG.ZSEL.get old 0) else w
  (if bad then rcRefused else rcOk,
    ({ x with sw := { x.sw with cfgPend := some (w &&& 0x000F3311) } }).set CSW_STAT.CPEND 1)

/-- A discarded value of a CSW register. -/
def CellSt.swRange (x : CellSt) : Nat × CellSt := (rcRefused, x.err CSW_ERR.RANGE)

/-- A write of `CSW_CPER` (R208, R209). -/
def CellSt.cperWrite (x : CellSt) (w : Word) : Nat × CellSt :=
  if CSW_CPER.PER.get w 0 < 4000 then x.swRange
  else (rcOk, (x.set CSW_CPER.PER (CSW_CPER.PER.get w 0)).set CSW_CCMT.ARMED 1)

/-- A write of `CSW_CDUTY` (R208, R209). -/
def CellSt.cdutyWrite (x : CellSt) (w : Word) : Nat × CellSt :=
  if CSW_CDUTY.SIGN.get w 0 = 1 ∧ !x.bridge then x.swRange
  else (rcOk, (x.setWord 0x4054 w).set CSW_CCMT.ARMED 1)

/-- A write of `CSW_CCMT`: 1 commits at the next boundary (R208). -/
def CellSt.ccmtWrite (x : CellSt) (w : Word) : Nat × CellSt :=
  (rcOk, if w.toNat % 2 = 1 then { x with sw := { x.sw with cmtNext := true } } else x)

/-- A write of `CSW_BYPFIRE` (R217, R218). -/
def CellSt.bypfireWrite (x : CellSt) (r : CellReq) (w : Word) : Nat × CellSt :=
  if !r.isCore then (rcRefused, x)
  else if w = 0x5A5A5A5A then (rcOk, x.fire 3)
  else x.swRange

/-- CSW_CFG_WRITE. -/
def execCswCfgWrite (c : CellId) (r : CellReq) (v : Word) (s : State) : Host.Outcome State Fault Refusal :=
  cellStep s c (fun x => x.access r 0x4040 (fun x => x.unlocked r 0x4040 (fun x => x.cfgWrite v)))

/-- CSW_CPER_WRITE. -/
def execCswCperWrite (c : CellId) (r : CellReq) (v : Word) (s : State) : Host.Outcome State Fault Refusal :=
  cellStep s c (fun x => x.access r 0x4050 (fun x => x.cperWrite v))

/-- CSW_CDUTY_WRITE. -/
def execCswCdutyWrite (c : CellId) (r : CellReq) (v : Word) (s : State) : Host.Outcome State Fault Refusal :=
  cellStep s c (fun x => x.access r 0x4054 (fun x => x.cdutyWrite v))

/-- CSW_CCMT_CMT: a write of 1 to `CSW_CCMT.CMT`. -/
def execCswCcmtCmt (c : CellId) (r : CellReq) (s : State) : Host.Outcome State Fault Refusal :=
  cellStep s c (fun x => x.access r 0x405C (fun x => x.ccmtWrite 1))

/-- CSW_BYPFIRE_WRITE. -/
def execCswBypfireWrite (c : CellId) (r : CellReq) (v : Word) (s : State) : Host.Outcome State Fault Refusal :=
  cellStep s c (fun x => x.access r 0x40A4 (fun x => x.bypfireWrite r v))

end Sys2Proof.Machine
end

