-- ==== Sys2Proof/Machine/MinOps.lean ====
section
/-! DEFINITION. What other blocks tell the central inputs: the PN of a converter sync (R351, R352), and restarts of the
decimators (R349, R350, R355, R358). -/
namespace Sys2Proof.Machine

/-- A central input beside its registers. -/
def UnitSt.inp (x : UnitSt) (n : Nat) : MinCh := sget (fun _ => {}) x.mins.chs n
def UnitSt.setInp (x : UnitSt) (n : Nat) (c : MinCh) : UnitSt :=
  { x with mins := { x.mins with chs := sset (fun _ => {}) x.mins.chs n c } }
def UnitSt.onInp (x : UnitSt) (n : Nat) (f : MinCh → MinCh) : UnitSt := x.setInp n (f (x.inp n))

/-- A converter sync is due at the boundary of period `pn`; one sync is made per PN (R352). -/
def UnitSt.syncDue (x : UnitSt) (pn : Nat) : UnitSt :=
  if x.mins.syncs.contains pn || decide (pn ≤ x.pn) || !x.works 0x30000 then x
  else { x with mins := { x.mins with syncs := pn :: x.mins.syncs } }

/-- The standby takes the sync of a holder's command frame it receives (R352). -/
def UnitSt.syncFrame (x : UnitSt) (bytes : Bytes) : UnitSt :=
  if !x.isHolder && wcrcOk bytes && (wmOf bytes).holder == srcUnit bytes && crc32Ok bytes bytes.length
      && bitAt (byteAt bytes 14) 0 then
    x.syncDue (framePn bytes + 1)
  else x

/-- The order of the sinc filter, the ratio exponent and the clock divider in force. -/
def MinCh.order (c : MinCh) : Nat := 3 + MIN_CHCFG.ORD.get c.cfg 0
def MinCh.k (c : MinCh) : Nat := MIN_CHCFG.K.get c.cfg 0
def MinCh.div (c : MinCh) : Nat := MIN_CHCFG.DIV.get c.cfg 0
def MinCh.on (c : MinCh) : Bool := MIN_CHCFG.EN.get c.cfg 0 == 1

/-- One period of MCKOn, DIV × 2 ns (R339). -/
def MinCh.clk (c : MinCh) : Nat := c.div * 2 * ns

/-- Whether MCKOn of input `n` runs: with CKOEN and the TIME island, in every unit state (R339). -/
def UnitSt.mckRuns (x : UnitSt) (n : Nat) : Bool := x.bit MIN_CHCFG.CKOEN n && x.islandOn .time

/-- base as a signed instant: a base before 0 of converter time is held modulo 2^80 (R62). -/
def UnitSt.baseInt (x : UnitSt) : Int := if x.base < 2 ^ 79 then x.base else (x.base : Int) - 2 ^ 80

/-- The first MCKOn edge at or after `t`: edges lie at base + m × DIV × 2 ns, for every whole m (R339). -/
def UnitSt.mckEdge (x : UnitSt) (c : MinCh) (t : Instant) : Instant :=
  let p : Int := max 1 c.clk
  (x.baseInt - (x.baseInt - t) / p * p).toNat

/-- Shows whether an input settles or is in fault (R364). -/
def UnitSt.showInputs (x : UnitSt) : UnitSt :=
  let any (f : Fld) : Bool := (List.range 32).any (fun n => x.bit f n)
  (x.set MIN_STAT.SETTLE (b2n (any MIN_CHSTAT.SETTLE))).set MIN_STAT.FLT (b2n (any MIN_CHSTAT.FLT))

/-- Restarts the decimator of input `n` at the first edge at or after `t` (R353). -/
def UnitSt.minRestart (x : UnitSt) (n : Nat) (t : Instant) : UnitSt :=
  let c := x.inp n
  if !c.on then x
  else
    let x := x.setInp n { c with anchor := x.mckEdge c t, idx := 0, run := c.run + 1 }
    (x.set MIN_CHSTAT.SETTLE 1 n).showInputs

/-! Latency (R340, R345, R346). -/

/-- The delay of an input's clock, RTD, in 250 ps units (R340). -/
def UnitSt.rtd (x : UnitSt) (n : Nat) : Nat :=
  if MIN_CHCFG.CKSRC.get (x.inp n).cfg 0 = 1 then x.fld MIN_CHDLY.RTDSET n else x.fld MIN_CHSTAT.RTD n

/-- Λ of input `n` in 250 ps units.
Log entry 115 (DEDUCED). -/
def UnitSt.latency (x : UnitSt) (n : Nat) : Int :=
  let c := x.inp n
  ((4 * (c.order * (2 ^ c.k - 1) * c.div) + x.rtd n + 80 : Nat) : Int) - MIN_CHDLY.DLY.get c.dly 0

/-- Compares Λ of every input named in a `CLP_ARMIn` register with its LAT.
Log entry 115 (DEDUCED). -/
def UnitSt.latCheck (x : UnitSt) : UnitSt :=
  if (List.range 6).any (fun a => decide (((x.fld CLP_ARMI.LAT a * 40 : Nat) : Int) < x.latency (x.fld CLP_ARMI.SRC a)))
  then x.err MIN_ERR.LAT else x

/-- A return delay that has moved by more than 2 ns since `was` compares Λ again. -/
def UnitSt.rtdMoved (was x : UnitSt) : UnitSt :=
  if x.works 0x30000 && (List.range 32).any (fun n => decide (was.rtd n + 8 < x.rtd n) || decide (x.rtd n + 8 < was.rtd n))
  then x.latCheck else x

/-- The parts of `MIN_CHCFG` and `MIN_CHDLY` whose change restarts an input at the next boundary: EN, CKSRC, DIV, ORD, K and
DLY (R349).
Log entry 113 (DEDUCED). -/
def restartCfg (w : Word) : Word := w &&& 0xC03F1F00
def restartDly (w : Word) : Word := w &&& 0xFFF

/-- The class of trip input `n`. -/
def UnitSt.tripClass (x : UnitSt) (n : Nat) : Nat := x.fld MIN_TRIPCFG.CLASS / 4 ^ n % 4

/-- A field with bit `n` set to `v`. -/
def putBit (w n : Nat) (v : Bool) : Nat := if bitAt w n = v then w else w ^^^ (1 <<< n)

/-- MIN runs again after Quiet: the LATCH bit of every watched input whose CHG bit is set or whose level differs from that at the
entry to Quiet, and its event (R362). -/
def UnitSt.tripsBack (x : UnitSt) : UnitSt :=
  let diff := x.fld PWR_QTRIP.CHG ||| (x.fld PWR_QTRIP.LVL ^^^ x.fld MIN_TRIPSTAT.LVL)
  (List.range 16).foldl (fun x n =>
    if bitAt diff n && x.tripClass n != 0 then
      (x.set MIN_TRIPSTAT.LATCH (putBit (x.fld MIN_TRIPSTAT.LATCH) n true)).evtBit 0x30000 n
    else x) x

/-- What a boundary changes in the central inputs (R346, R349, R355, R362).
Log entry 113 (DEDUCED). -/
def UnitSt.minBoundary (x : UnitSt) : UnitSt :=
  if !x.works 0x30000 then x
  else
    let back := x.mins.back
    let x := if x.mins.qback then x.tripsBack else x
    let x : UnitSt := { x with mins := { x.mins with back := false, qback := false } }
    UnitSt.rtdMoved x ((List.range 32).foldl (fun x n =>
      let c := x.inp n
      let cfg := restartCfg (x.word (0x30040 + 4 * n))
      let dly := restartDly (x.word (0x300C0 + 4 * n))
      if cfg ≠ restartCfg c.cfg ∨ dly ≠ restartDly c.dly then
        let x := x.setInp n { c with cfg := cfg, dly := dly }
        if (x.inp n).on then x.minRestart n (x.t0 x.pn) else (x.set MIN_CHSTAT.SETTLE 0 n).showInputs
      else if back then x.minRestart n (x.t0 x.pn) else x) x)

end Sys2Proof.Machine
end

