-- ==== Sys2Proof/Machine/Operands.lean ====
section
/-! DEFINITION. Numbers of the loop engines, Caliper, Calender and the inputs: IEEE 754 binary32 and binary64 as bit
patterns, computed exactly as fractions and rounded to nearest with ties to even, subnormal values kept (R308). -/
namespace Sys2Proof.Machine

/-- A binary64 pattern. -/
abbrev Dbl := BitVec 64

/-! Formats. -/

/-- A binary format: precision and width of the exponent field. -/
structure FFmt where
  p  : Nat
  ew : Nat

abbrev fmt32 : FFmt := ⟨24, 8⟩
abbrev fmt64 : FFmt := ⟨53, 11⟩

/-- The exponent of the smallest subnormal, as 2^-`FFmt.tiny`. -/
def FFmt.tiny (f : FFmt) : Nat := 2 ^ (f.ew - 1) + f.p - 3

/-- The pattern of +infinity. -/
def FFmt.infBits (f : FFmt) : Nat := (2 ^ f.ew - 1) * 2 ^ (f.p - 1)

/-- The sign bit. -/
def FFmt.signBit (f : FFmt) : Nat := 2 ^ (f.p - 1 + f.ew)

/-- The value of a pattern. -/
def FFmt.decode (f : FFmt) (w : Nat) : Val :=
  let neg := f.signBit ≤ w
  let m := w % f.signBit
  if f.infBits < m then .nan
  else if m = f.infBits then .inf neg
  else
    let e := m / 2 ^ (f.p - 1)
    let fr := m % 2 ^ (f.p - 1)
    if e = 0 then .fin neg fr (2 ^ f.tiny)
    else
      let k := e - 1
      let n := fr + 2 ^ (f.p - 1)
      if f.tiny ≤ k then .fin neg (n * 2 ^ (k - f.tiny)) 1 else .fin neg n (2 ^ (f.tiny - k))

/-- Of the magnitude n / d: the pattern of the largest representable value not above it, and the remainder and divisor
that say how far above it n / d lies, in units of its last place. -/
def FFmt.truncate (f : FFmt) (n d : Nat) : Nat × Nat × Nat :=
  -- n / d × 2^tiny in units of the smallest subnormal
  let s := n * 2 ^ f.tiny
  let q := s / d
  if q < 2 ^ f.p then (q, s % d, d)
  else
    let sh := Nat.log2 q + 1 - f.p
    let dd := d * 2 ^ sh
    (sh * 2 ^ (f.p - 1) + s / dd, s % dd, dd)

/-- The magnitude n / d rounded to nearest, ties to even; from the overflow threshold on, infinity. -/
def FFmt.nearest (f : FFmt) (n d : Nat) : Nat :=
  let (t, r, dd) := f.truncate n d
  let t := if 2 * r > dd ∨ (2 * r = dd ∧ t % 2 = 1) then t + 1 else t
  min t f.infBits

/-- The pattern of a quiet NaN. -/
def FFmt.nanBits (f : FFmt) : Nat := f.infBits + 2 ^ (f.p - 2)

/-- A value rounded by `rnd`, which gives the pattern of a magnitude. -/
def FFmt.encode (f : FFmt) (rnd : Bool → Nat → Nat → Nat) : Val → Nat
  | .nan => f.nanBits
  | .inf neg => f.infBits + (if neg then f.signBit else 0)
  | .fin neg n d => rnd neg n d + (if neg then f.signBit else 0)

/-- The value of a binary32 or binary64 pattern, and a value rounded to one. -/
def b32 (w : Word) : Val := fmt32.decode w.toNat
def b64 (w : Dbl) : Val := fmt64.decode w.toNat
def r32 (v : Val) : Word := BitVec.ofNat 32 (fmt32.encode (fun _ n d => fmt32.nearest n d) v)
def r64 (v : Val) : Dbl := BitVec.ofNat 64 (fmt64.encode (fun _ n d => fmt64.nearest n d) v)

/-- The magnitude n / d where the spec gives no rounding: one of its two neighbours; which one is free.
Log entry 12 (DESIGN CHOICE). -/
def FFmt.either (f : FFmt) (neg : Bool) (n d : Nat) : Nat :=
  let (t, r, _) := f.truncate n d
  min (if r ≠ 0 ∧ Config.roundAway f.p (if neg then -(n : Int) else n) d then t + 1 else t) f.infBits

/-- A value in binary32 or binary64 where the spec gives no rounding.
Log entry 12 (DESIGN CHOICE). -/
def e32 (v : Val) : Word := BitVec.ofNat 32 (fmt32.encode fmt32.either v)
def e64 (v : Val) : Dbl := BitVec.ofNat 64 (fmt64.encode fmt64.either v)

/-! Arithmetic of values. -/

/-- An integer, and a fraction of two. -/
def Val.ofInt (z : Int) : Val := .fin (decide (z < 0)) z.natAbs 1
def Val.ofFrac (z : Int) (d : Nat) : Val := .fin (decide (z < 0)) z.natAbs d

/-- The signed numerator of a finite value. -/
def sgnInt (neg : Bool) (n : Nat) : Int := if neg then -(n : Int) else n

def Val.neg : Val → Val
  | .nan => .nan
  | .inf s => .inf (!s)
  | .fin s n d => .fin (!s) n d

def Val.abs : Val → Val
  | .nan => .nan
  | .inf _ => .inf false
  | .fin _ n d => .fin false n d

/-- The sum; a zero sum of opposite terms is +0. -/
def Val.add : Val → Val → Val
  | .nan, _ => .nan
  | _, .nan => .nan
  | .inf s, .inf t => if s = t then .inf s else .nan
  | .inf s, .fin _ _ _ => .inf s
  | .fin _ _ _, .inf t => .inf t
  | .fin s n d, .fin t m e =>
    let z := sgnInt s (n * e) + sgnInt t (m * d)
    if z = 0 then .fin (s && t) 0 1 else .fin (decide (z < 0)) z.natAbs (d * e)

def Val.sub (a b : Val) : Val := a.add b.neg

def Val.mul : Val → Val → Val
  | .nan, _ => .nan
  | _, .nan => .nan
  | .inf s, .inf t => .inf (s != t)
  | .inf s, .fin t m _ => if m = 0 then .nan else .inf (s != t)
  | .fin s n _, .inf t => if n = 0 then .nan else .inf (s != t)
  | .fin s n d, .fin t m e => .fin (s != t) (n * m) (d * e)

def Val.div : Val → Val → Val
  | .nan, _ => .nan
  | _, .nan => .nan
  | .inf _, .inf _ => .nan
  | .inf s, .fin t _ _ => .inf (s != t)
  | .fin s _ _, .inf t => .fin (s != t) 0 1
  | .fin s n d, .fin t m e =>
    if m = 0 then (if n = 0 then .nan else .inf (s != t)) else .fin (s != t) (n * e) (d * m)

/-- Whether a value is finite. -/
def Val.finite : Val → Bool
  | .fin _ _ _ => true
  | _ => false

/-- a < b; comparisons with a NaN are false. -/
def Val.lt : Val → Val → Bool
  | .nan, _ => false
  | _, .nan => false
  | .inf s, .inf t => s && !t
  | .inf s, .fin _ _ _ => s
  | .fin _ _ _, .inf t => !t
  | .fin s n d, .fin t m e => decide (sgnInt s (n * e) < sgnInt t (m * d))

/-- a ≤ b. -/
def Val.le : Val → Val → Bool
  | .nan, _ => false
  | _, .nan => false
  | a, b => !b.lt a

/-- a = b as numbers. -/
def Val.eqv (a b : Val) : Bool := a.le b && b.le a

/-- The floor of a finite value; 0 of any other. -/
def Val.floor : Val → Int
  | .fin s n d => sgnInt s n / (d : Int)
  | _ => 0

/-- The nearest integer to a finite value, ties to even; 0 of any other. -/
def Val.nearest : Val → Int
  | .fin s n d => sgnInt s (let q := n / d; if 2 * (n % d) > d ∨ (2 * (n % d) = d ∧ q % 2 = 1) then q + 1 else q)
  | _ => 0

/-- A finite value in lowest terms is not needed: the floor and comparisons take any fraction. The value times an
integer. -/
def Val.scale (a : Val) (z : Int) : Val := a.mul (.ofInt z)

/-- min(max(u, lo), hi) on binary32 patterns (R308). -/
def clamp32 (lo hi u : Word) : Word :=
  let u := if (b32 u).lt (b32 lo) then lo else u
  if (b32 hi).lt (b32 u) then hi else u

/-- Whether a binary32 or binary64 pattern is finite. -/
def fin32 (w : Word) : Bool := (b32 w).finite
def fin64 (w : Dbl) : Bool := (b64 w).finite

/-- The quiet NaN a faulted input delivers (R357, R511). -/
def qnan : Word := 0x7FC00000

end Sys2Proof.Machine
end

