-- ==== Sys2Proof/Machine/Time.lean ====
section
/-! DEFINITION. Converter time, the period boundary, alignment of the standby and period changes of a unit (R49 to R68). -/
namespace Sys2Proof.Machine

/-! Boundaries (R58, R60). -/

/-- A port takes strand `s`: what it knew of another strand is gone, and of the partner's enumeration it knows what the port `old`
knew that carried the strand (R133, R143). -/
def PortSt.takeStrand (p old : PortSt) (s : Nat) : PortSt :=
  if s = p.strand then { p with newStrand := none }
  else
    { p with strand := s, newStrand := none, moved := decide (s < 96), reach := none, arrived := none
             preach := old.preach, parrived := old.parrived, gotPn := none, ratePend := none, rateOk := [], clean := 0
             partnerCmd := [], partnerPn := none }

/-- What changes in a unit at every boundary beside PN: the ACTIVE line and with it the interlock outputs follow the
lease state (R26, R411), strands move to their new ports (R143), masking windows count the token (R540), Splice counts a
period without a LEASE message (R425), and a hand-over ends at its boundary P (R414). -/
def UnitSt.atBoundary (x : UnitSt) : UnitSt :=
  let was := x
  let x : UnitSt := { x with
    disabled := x.disabledNow
    lse := { x.lse with active := x.isHolder }
    spl := { x.spl with silent := x.spl.silent + 1 }
    flt := { x.flt with masked := x.flt.masked.map (fun m => (m.1, m.2 + 1)) } }
  x.ports.foldl (fun x kp =>
    match kp.2.newStrand with
    | none => x
    | some s =>
      let old := match was.portOf s with | some p => was.port p | none => PortSt.reset kp.1
      let x := x.onPort kp.1 (fun p => p.takeStrand old s)
      if s = 0x7F then x.setPstate kp.1 0 else x) (match x.lse.hovP with | some p => if p ≤ x.pn then x.hovForget else x | none => x)

/-- The first whole second of converter time at least 10 ms ahead of `t` (R60).
Log entry 29 (DEDUCED). -/
def firstBase (t : Instant) : Instant := (t + sec / 100 + sec - 1) / sec * sec

/-- Takes base, T and PN of a partner that is counting periods (R60).
Log entry 29 (DEDUCED). -/
def UnitSt.takeBase (x y : UnitSt) : UnitSt :=
  let x := ((x.setBase y.base).setPn y.pn).set TIM_PERIOD.T (y.fld TIM_PERIOD.T)
  { x with tim := { x.tim with baseSet := true, counting := y.tim.counting } }

/-! Rate (R51) and alignment of the standby (R54, R55). -/

/-- Steers the rate: a free correction within ±50 ppm that moves no faster than 1 ppm per second (R51). The first after a lock,
a step or a pause moves nothing.
Log entries 31 (DESIGN CHOICE), 200 (DESIGN CHOICE). -/
def UnitSt.steer (x : UnitSt) (t : Instant) : UnitSt :=
  let (v, x) := x.draw
  let r := toInt 32 (x.fld TIM_RATE.RATE)
  let step : Int := match x.tim.rateAt with | some t0 => ((t - t0) * 10000 / sec : Nat) | none => 0
  let r' := clampInt (-500000) 500000 (clampInt (r - step) (r + step) (toInt 32 v))
  let x := x.set TIM_RATE.RATE (ofInt 32 r')
  { x with tim := { x.tim with rateAt := some t } }

/-- Corrections of the rate pause: it stays as it is until a source is there again.
Log entry 200 (DESIGN CHOICE). -/
def UnitSt.coastRate (x : UnitSt) : UnitSt := { x with tim := { x.tim with rateAt := none } }

/-- Aligns a unit that does not hold the lease to the holder, from source `src`, with its offset in 2^-16 ns.
Log entries 31 (DESIGN CHOICE), 201 (DEDUCED). -/
def UnitSt.align (x : UnitSt) (src : Nat) (ofs : Int) (t : Instant) : UnitSt :=
  if x.isHolder then x
  else
    let far := decide (3 * (ns : Int) < 10 * ofs) || decide (10 * ofs < -(3 * (ns : Int)))
    let x := (x.set TIM_SRC.ALIGN src).set TIM_SRC.PARTNER (b2n (!far))
    let x := x.set TIM_PARTOFS.PARTOFS (ofInt 32 (ofs / 256))
    let x : UnitSt := { x with tim := { x.tim with aligned := true } }
    x.steer t

/-- The one-way latency of Splice that the unit measures, in ns; more than 200 ns is an error (R427).
Log entry 167 (DEDUCED). -/
def UnitSt.spliceLatency (x : UnitSt) (lat : Nat) : UnitSt :=
  let x := x.set SPL_LAT.LAT (min lat 0xFFFF)
  if 200 < lat then x.err SPL_ERR.LAT else x

/-- The per-period two-way time transfer over Splice gives a unit the latency of Splice, and the standby of a partner in HOLDER
its offset from the holder (R54, R427).
Log entry 167 (DEDUCED). -/
def execSpliceTimeTransfer (u : UnitId) (ofs : Int) (lat : Nat) (at_ : Instant) (s : State) : Host.Outcome State Fault Refusal :=
  unitStep s u (fun x =>
    if x.splUp then
      let x := (x.tick at_).spliceLatency lat
      if x.lse.partLse = 2 then x.align 1 ofs at_ else x
    else x)

/-- An offset above 0.3 ns for 16 consecutive periods sets `TIM_ERR.ALIGN` (R55). -/
def execAlignError (u : UnitId) (s : State) : Host.Outcome State Fault Refusal :=
  unitStep s u (fun x => if 16 ≤ x.tim.misalign ∧ !x.isHolder then x.err TIM_ERR.ALIGN else x)

/-- Whether a compute start ends what the sources of R54 are heard in: a period, or where every strand runs at low rate and
Splice is down, a low-rate cycle.
Log entry 201 (DEDUCED). -/
def UnitSt.sourceDue (x : UnitSt) : Bool :=
  x.splUp || x.pn % 64 == 63 || x.livePorts.any (fun sp => decide (1 < x.pstate sp.2))

/-- The standby at a compute start: the holdover of R54 where neither source has been heard, else a period more or none with an
offset above 0.3 ns (R55).
Log entry 201 (DEDUCED). -/
def UnitSt.holdover (x : UnitSt) : UnitSt :=
  if x.isHolder || !x.sourceDue then x
  else
    let x : UnitSt :=
      if x.tim.aligned then { x with tim := { x.tim with misalign := if x.bit TIM_SRC.PARTNER then 0 else x.tim.misalign + 1 } }
      else
        let x := ((x.set TIM_SRC.ALIGN 3).set TIM_SRC.PARTNER 0).coastRate
        { x with tim := { x.tim with misalign := 0 } }
    { x with tim := { x.tim with aligned := false } }

/-! Period changes (R62). -/

/-- The effective PN written for a period change. -/
def UnitSt.pchgPn (x : UnitSt) : Nat := x.pair TIM_PCHG_PN_LO.PN_LO TIM_PCHG_PN_HI.PN_HI

/-- Ends the requesting unit's period change with a result; a change queued for the partner stands. -/
def UnitSt.pchgEnd (x : UnitSt) (res : Nat) : UnitSt :=
  let x := (x.set TIM_PCHG.RES res).set TIM_PCHG.REQ 0
  { x with tim := { x.tim with pchg := none, pchgGo := false, pchgAns := false, pchgIds := [] } }

/-- Starts a period change to `t` at `pn`: the request to the partner, and the two BCAST writes to the cells (R62). -/
def UnitSt.pchgStart (x : UnitSt) (pn t : Nat) : UnitSt :=
  let x := x.say (.pchgReq pn t)
  let (i1, x) := x.submit6 (writeDesc true 0 0x7F 0x7080 (pn % 2 ^ 32) 0)
  let (i2, x) := x.submit6 (writeDesc true 0 0x7F 0x707C (2 ^ 31 + t) i1)
  { x with tim := { x.tim with pchg := some (pn, t), pchgGo := false, pchgAns := false, pchgIds := [i1, i2] } }

/-- A write of `TIM_PCHG`: NEW_T, and with REQ the request or its refusal (R62, R84); a NEW_T outside its range sets ERR.RANGE
whatever else refuses the request. While a request is pending, nothing.
Log entry 168 (DESIGN CHOICE). -/
def UnitSt.pchgRequest (x : UnitSt) (v : Word) : UnitSt :=
  let t := v.toNat % 256
  if x.bit TIM_PCHG.REQ then x
  else
    let ok := decide (20 ≤ t) && decide (t ≤ 200)
    let x := if ok then x.set TIM_PCHG.NEW_T t else x.err TIM_ERR.RANGE
    if !bitAt v.toNat 31 then (if ok then x else x.pchgEnd 4)
    else if !x.inHold then x.pchgEnd 2
    else if !ok ∨ x.pchgPn < x.pn + 64 ∨ x.pn + 2 ^ 31 ≤ x.pchgPn then x.pchgEnd 4
    else ((x.set TIM_PCHG.REQ 1).set TIM_PCHG.RES 5).pchgStart x.pchgPn t

def execTimPchgReq (u : UnitId) (q : Requester) (v : Word) (s : State) : Host.Outcome State Fault Refusal :=
  unitStep s u (fun x => x.guard q true 0x4068 (fun x => x.pchgRequest v))

/-- The partner queues the change for the same PN and answers (R62); a unit that is not in Hold changes no T and does neither.
Log entry 169 (DESIGN CHOICE). -/
def execPchgReqRx (u : UnitId) (pn : BitVec 48) (t : BitVec 8) (s : State) : Host.Outcome State Fault Refusal :=
  unitStep s u (fun x =>
    if x.inHold then
      let x : UnitSt := { x with tim := { x.tim with peer := some (pn.toNat, t.toNat) } }
      x.say (.pchgAnswer pn.toNat)
    else x)

/-- The requesting unit receives the partner's answer (R62). -/
def execPchgAnswerRx (u : UnitId) (pn : BitVec 48) (s : State) : Host.Outcome State Fault Refusal :=
  unitStep s u (fun x =>
    match x.tim.pchg with
    | some (p, _) =>
      if p = pn.toNat then { x with tim := { x.tim with pchgAns := true } } else x
    | none => x)

/-- The compute start of PN_eff − 2: the change goes ahead when the partner has answered, both transactions have ended with OK
and the unit is still in Hold; otherwise it disarms the cells, tells the partner and reports the refusal (R62).
Log entry 169 (DESIGN CHOICE). -/
def execPchgDecide (u : UnitId) (s : State) : Host.Outcome State Fault Refusal :=
  unitStep s u (fun x =>
    match x.tim.pchg with
    | some (p, _) =>
      if !x.tim.pchgGo ∧ p ≤ x.pn + 2 then
        if x.tim.pchgAns ∧ x.inHold ∧ x.tim.pchgIds.all (fun i => x.hbxEnded i == some 0) then
          { x with tim := { x.tim with pchgGo := true } }
        else
          let (_, x) := x.submit6 (writeDesc true 0 0x7F 0x707C 0 0)
          (x.say (.pchgDrop p)).pchgEnd (if x.inHold then 3 else 2)
      else x
    | none => x)

/-- The partner drops the queued change (R62). -/
def execPchgDropRx (u : UnitId) (pn : BitVec 48) (s : State) : Host.Outcome State Fault Refusal :=
  unitStep s u (fun x =>
    match x.tim.peer with
    | some (p, _) => if p = pn.toNat then { x with tim := { x.tim with peer := none } } else x
    | none => x)

end Sys2Proof.Machine
end

