-- ==== Sys2Proof/Machine/StrandUnit.lean ====
section
/-! DEFINITION. The strand ports of a unit (R86 to R144, R442 to R446): the frames it builds, launches and receives,
relay through Splice, enumeration and the port states. -/
namespace Sys2Proof.Machine

/-! Building frames (R94 to R96, R442 to R445). -/

/-- The command slot bits of cell `k` in the frames of the period: Calender's slot, after a missed deadline that of the period
before, blocked where Headbox sends BSTATE 0b11 in every slot (R274, R444, R587).
Log entry 105 (DEDUCED). -/
def UnitSt.slotFor (x : UnitSt) (blocked : Bool) (k : Nat) : Nat :=
  let b := sget (fun _ => 3) (if x.cal.late then x.cal.prev else x.cal.slots) k
  if blocked then b ||| 3 else b

/-- Whether every slot carries BSTATE 0b11 in the frame of port `p`, or in the one that serves its strand by way of the partner
(R143, R444).
Log entry 202 (DEDUCED). -/
def UnitSt.slotsBlocked (x : UnitSt) (p : Nat) (via : Bool) : Bool :=
  !x.inRun || x.cal.late || (!via && x.pstate p != 5)

/-- BFLAGS.SYNC of the holder's command frames launched in period `pn`: a converter sync is due at their execution boundary
(R351, R443). -/
def UnitSt.syncFlag (x : UnitSt) (pn : Nat) : Nat :=
  b2n (x.isHolder && !x.inQuiet && x.works 0x30000 && x.mins.syncs.contains (pn + 1))

/-- The command or bulk frame of port `p` for period `pn`, launched `lofs` quarter nanoseconds after t0; `via` says that it serves
the strand by way of the partner.
Log entry 205 (DESIGN CHOICE). -/
def UnitSt.buildCmd (x : UnitSt) (p pn lofs : Nat) (pre : Prefetch) (via : Bool := false) : Bytes :=
  let s := (x.port p).strand
  let n := x.ncell p
  let bl := x.slotsBlocked p via
  let hdr := cmdHeader (if pre.bulk then 2 else 1) x.id false s pn lofs n ((pre.bflags ||| x.syncFlag pn) + (if pre.mgmt then 16 else 0))
    (x.fld TIM_PERIOD.T) x.cfgd
  let slots := (List.range n).flatMap (fun h => cmdSlotBytes h pn (x.slotFor bl (s * 64 + h)))
  cmdFrame hdr x.watermark slots (padWindow pre.window)

/-- The freeze: every strand engine fills its prefetch slot (R442). -/
def execPrefetchFreeze (u : UnitId) (s : State) : Host.Outcome State Fault Refusal :=
  unitStep s u (fun x =>
    if x.works 0x20000 then x.livePorts.foldl (fun x sp => x.prefetch sp.2 sp.1) x else x)

/-- What the prefetch slot of port `p` gives its frame: nothing in Quiet, and an enumeration frame in ENUM and MEASURE alone
(R442, R444, R453). -/
def UnitSt.ownPre (x : UnitSt) (p : Nat) : Prefetch :=
  let pre := (x.port p).pre
  if x.inQuiet || (pre.enum.isSome && !x.enumerating p) then {} else pre

/-- The frame of port `p` from its prefetch slot, launched `lofs` quarter nanoseconds after t0. -/
def UnitSt.ownFrame (x : UnitSt) (p lofs : Nat) : Bytes :=
  match (x.ownPre p).enum with
  | some e => e
  | none => x.buildCmd p x.pn lofs (x.ownPre p)

/-- Builds the frame of port `p`; what goes to a port whose block is away is discarded (R42, R600). -/
def UnitSt.buildPort (x : UnitSt) (p lofs : Nat) : UnitSt :=
  if !x.portOn p then x.crossTo (0x100000 + 0x1000 * p) HBX_ERR.XING
  else x.onPort p (fun q => { q with pre := x.ownPre p, built := x.ownFrame p lofs, blk := x.slotsBlocked p false })

/-- The command launch offset in quarter nanoseconds, and that of a low-rate command frame (R139). -/
def UnitSt.cmdLofs (x : UnitSt) : Nat := x.fld TIM_OFS2.CMD * 40
def UnitSt.lowLofs (x : UnitSt) : Nat := x.fld TIM_OFS1.STAT * 40

/-- The strand engines build the frames of the period (R442, R444, R445). -/
def execFrameBuild (u : UnitId) (s : State) : Host.Outcome State Fault Refusal :=
  unitStep s u (fun x =>
    if x.works 0x20000 then
      (x.livePorts.filter (fun sp => decide (3 ≤ x.pstate sp.2))).foldl (fun x sp => x.buildPort sp.2 x.cmdLofs) x
    else x)

/-! Launching frames (R60, R113, R139, R142, R445). -/

/-- What a frame launched at `t` has done to its transactions: each is sent on the strand. The entries of one rate change, sent cell by cell or again, count their replies together
(R138). -/
def UnitSt.launchIds (x : UnitSt) (p : Nat) (t0 : Instant) (ids : List Nat) : UnitSt :=
  let s := (x.port p).strand
  ids.foldl (fun x id =>
    let x := x.markSent id s
    match x.hbx.held.find? (fun t => t.id == id) with
    | none => x
    | some t =>
      if t.desc.kind = kEnum ∧ t.desc.op = 2 then x.onPort p (fun q => { q with echo := some t0 })
      else if t.desc.kind = kEntry ∧ t.desc.op = 7 then
        let r := (t.desc.addr.toNat, t.desc.data.toNat % 2)
        x.onPort p (fun q => { q with ratePend := some r, rateOk := if q.ratePend = some r then q.rateOk else [], rateGo := false })
      else x) x

/-- Puts a frame of the unit's own on port `p` at instant `t`. -/
def UnitSt.launch (x : UnitSt) (p : Nat) (t : Instant) (bytes : Bytes) (ids : List Nat) : UnitSt :=
  let x := x.emit (.frame p bytes)
  let x := x.onPort p (fun q => { q with launched := some (t, bytes.length, ids), pre := {}, built := [] })
  x.launchIds p t ids

/-- The command frame of a strand that the partner alone serves (R143), over Splice. The cells of the strand execute its slots
unless a frame of the port's own reaches them from side A.
Log entry 202 (DEDUCED). -/
def UnitSt.launchVia (x : UnitSt) (sp : Nat × Nat) : UnitSt :=
  let p := sp.2
  let served := decide (x.pstate p < 3) || x.id == .b
  let x := x.say (.relay sp.1 (x.buildCmd p x.pn x.cmdLofs {} true))
  if served then x.onPort p (fun q => { q with blk := x.slotsBlocked p true }) else x

/-- The holder relays the frame `f` that it launches on port `p` (R126); in the place of an enumeration frame a command frame.
Log entry 202 (DEDUCED). -/
def UnitSt.relaySay (x : UnitSt) (sp : Nat × Nat) (enum : Bool) (f : Bytes) : UnitSt :=
  if (x.port sp.2).relay && x.isHolder && x.splUp then
    x.say (.relay sp.1 (if enum then x.buildCmd sp.2 x.pn x.cmdLofs {} else f))
  else x

/-- The frame of the unit's own on port `p`, which was built for this launch or is built now, and its relay where the strand is not
served by way of the partner. -/
def UnitSt.launchOwn (x : UnitSt) (t : Instant) (sp : Nat × Nat) (lofs : Nat) (via : Bool) : UnitSt :=
  let x := if (x.port sp.2).built = [] then x.buildPort sp.2 lofs else x
  let q := x.port sp.2
  let x := x.launch sp.2 t q.built (q.pre.ids.filter (· != 0))
  if via then x else x.relaySay sp q.pre.enum.isSome q.built

/-- The command frame launch of one port. A standby that relays on the strand launches the relayed frame in place of its
own (R127); a holder that relays sends its frame over Splice as well (R126). A port whose block does no work sends nothing.
Log entry 66 (DEDUCED). -/
def UnitSt.launchPort (x : UnitSt) (t : Instant) (sp : Nat × Nat) : UnitSt :=
  let p := sp.2
  let st := x.pstate p
  let via := x.viaPartner p
  let x :=
    if x.pn < (x.port p).rateFrom ∨ !x.portOn p ∨ ((x.port p).relay ∧ x.lstate = 0) then x
    else if st = 1 then (if x.pn % 64 = 32 then x.launchOwn t sp x.lowLofs via else x)
    else if st < 3 then x
    else x.launchOwn t sp x.cmdLofs via
  if via then x.launchVia sp else x

/-- Whether a port carries strand frames at all. -/
def UnitSt.anyLine (x : UnitSt) : Bool := x.livePorts.any (fun sp => x.pstate sp.2 == 1 || decide (3 ≤ x.pstate sp.2) || x.viaPartner sp.2)

/-- The unit detects an error in the frame that it sends on port `p`, launched at `t`: it sends ABORT, which cuts the frame
(R118, R124).
Log entry 184 (DESIGN CHOICE). -/
def UnitSt.sendError (x : UnitSt) (t : Instant) (p : Fin 100) : UnitSt :=
  match (x.port p.val).launched with
  | some (t1, _, _) => if t1 = t then (x.emit (.sets p.val (faultSets 0x2D x.id))).cutFrame p.val t else x
  | none => x

/-- The command launch of a period at c + 1.7 µs, and at low rate at t0 + s of the thirty-third period of a cycle (R139).
The first launch after a power-on reset sets base, or takes it from a partner that is counting periods; its frames
leave from the first period that is then counted (R60). A FENCED unit launches no command frame (R406).
Log entry 29 (DEDUCED). -/
def execCmdFrameLaunch (u : UnitId) (l : Launch) (s : State) : Host.Outcome State Fault Refusal :=
  let at_ := l.at_
  let y := s.unit u.other
  unitStep s u (fun x =>
    let x := x.tick at_
    if x.fenced ∨ !x.anyLine then x
    else if !x.tim.baseSet then
      (if x.splUp ∧ y.tim.counting then { x.takeBase y with tim := { (x.takeBase y).tim with launched := true } }
       else if y.tim.counting ∧ !x.splUp then x
       else
        let x := x.setBase (firstBase at_)
        { x with tim := { x.tim with baseSet := true, launched := true } })
    else if !x.tim.counting then x
    else
      let x : UnitSt := { x with tim := { x.tim with launched := true } }
      l.faulty.foldl (fun x p => x.sendError at_ p) (x.livePorts.foldl (fun x sp => x.launchPort at_ sp) x))

/-- At t0 + s the unit originates the status frame toward the partner on every strand, with ORIG 0x7F (R113); at low rate
in the first period of each low-rate cycle (R139). What the slots hold when they leave the unit is a free value: the
cells write theirs as the frame passes, and the spec says nothing of a slot no cell writes.
Log entries 65 (DESIGN CHOICE), 66 (DEDUCED). -/
def UnitSt.launchStatus (x : UnitSt) (t : Instant) (sp : Nat × Nat) : UnitSt :=
  let p := sp.2
  let st := x.pstate p
  if x.pn < (x.port p).rateFrom ∨ !x.portOn p then x
  else if (st = 1 ∧ x.pn % 64 = 0) ∨ 3 ≤ st then
    let (v, x) := x.draw
    let n := x.ncell p
    let f := statFrame (statHeader x.id.other false sp.1 x.pn n 0x7F x.cfgd) (leBytes (16 * n) v)
    let x := x.emit (.frame p f)
    x.onPort p (fun q => { q with launched := some (t, f.length, []) })
  else x

def execStatusFrameLaunch (u : UnitId) (l : Launch) (s : State) : Host.Outcome State Fault Refusal :=
  unitStep s u (fun x =>
    let x := x.tick l.at_
    if x.tim.counting then
      let x : UnitSt := { x with tim := { x.tim with launched := true } }
      l.faulty.foldl (fun x p => x.sendError l.at_ p) (x.livePorts.foldl (fun x sp => x.launchStatus l.at_ sp) x)
    else x)

/-! Status received (R31, R107 to R112). -/

/-- What a strand or Splice hands to a block that does no work is discarded (R42, R600).
Log entry 221 (DEDUCED). -/
def UnitSt.discarded (x : UnitSt) (viaSpl : Bool) (s : Nat) : UnitSt :=
  if viaSpl then x.err SPL_ERR.XING
  else match x.portOf s with
    | some p => x.err STRP_ERR.XING p
    | none => x

/-- Takes a valid status slot of cell `k`: the view of the cell, the evidence of R406 and R407, the reply (R448). -/
def UnitSt.takeSlot (x : UnitSt) (k pn : Nat) (viaSpl : Bool) (slot : Bytes) : UnitSt :=
  let h := flagHolder slot
  let x := x.onView k (fun v => { v with
    slot := slot, slotPn := some pn, viaSpl := viaSpl, absent := false, noHold := if h = 0 then v.noHold + 1 else 0 })
  let x := { x with lse := { x.lse with
    validNow := true
    ownNow := x.lse.ownNow || h == unitBit x.id + 1
    partNow := x.lse.partNow || h == unitBit x.id.other + 1
    noneNow := x.lse.noneNow || h == 0 } }
  if x.works 0x20000 then x.takeReply k slot
  else if x.away 0x20000 ∧ slotRtag slot % 8 ≠ 0 ∧ slotRtag slot / 8 = unitBit x.id then x.discarded viaSpl (k / 64)
  else x

/-- Whether a 16-byte status slot of hop `h` passes its check in period `pn`. -/
def slotPasses (h pn : Nat) (s : Bytes) : Bool :=
  decide (s.length = 16) && statCrc h pn (s.take 15) == byteAt s 15

/-- Whether a slot is absent (R115). -/
def slotAbsent (h pn : Nat) (s : Bytes) : Bool :=
  decide (s.length = 16) && decide (s.take 15 = List.replicate 15 0) && 255 - statCrc h pn (s.take 15) == byteAt s 15

/-- One slot of a received status frame. -/
def UnitSt.rxSlot (x : UnitSt) (p pn : Nat) (bytes : Bytes) (fwd : Bool) (h : Nat) : UnitSt :=
  let s := (x.port p).strand
  let sl := statSlot bytes h
  if slotPasses h pn sl then
    let x := x.takeSlot (s * 64 + h) pn false sl
    if fwd then x.say (.status s h sl) else x
  else
    let x := x.onPort p (fun q => { q with gotAll := false })
    if slotAbsent h pn sl then x.onView (s * 64 + h) (fun v => { v with absent := true })
    else if sl.length = 16 then x.inc STRP_CNT1.CRC8 p
    else x

/-- Number of traffic lanes of Splice in lock: `SPL_STAT.LANES` has a bit for each logical lane. -/
def UnitSt.lanes (x : UnitSt) : Nat := (bitsOf 2 (x.fld SPL_STAT.LANES)).length

/-- Whether the unit forwards the status of strand `s` over Splice: its frame is tail-originated, and fewer than four
lower-numbered strands per traffic lane are forwarded (R31, R428).
Log entry 73 (DEDUCED). -/
def UnitSt.forwards (x : UnitSt) (s : Nat) : Bool :=
  x.splUp && decide ((x.livePorts.filter (fun sp => decide (sp.1 < s) && x.bit STRP_STAT.TAIL sp.2)).length < 4 * x.lanes)

/-- A status frame arrives at port `p`; a cut frame ends where the fault set came (R123). A slot has arrived with its last byte,
whether or not it passes its check (R112). -/
def UnitSt.rxStatus (x : UnitSt) (p : Nat) (bytes : Bytes) (cut : Bool) : UnitSt :=
  let s := (x.port p).strand
  let n := x.ncell p
  let pn := x.statusPn p
  let tail := bitAt (byteAt bytes 2) 6
  let hdr := statHcrcOk bytes
  let x := if hdr then x.set STRP_STAT.TAIL (b2n tail) p else x
  let x := if hdr && tail then ((x.inc STRP_CNT3.TAILF p).set STRP_STAT.ORIG (byteAt bytes 11) p).err STRP_ERR.BREAK p else x
  let x := x.onPort p (fun q => { q with
    gotPn := some pn, gotTail := hdr && tail, gotAll := true, gotN := min n ((bytes.length - 26) / 16) })
  let fwd := hdr && tail && x.forwards s
  let x := (List.range n).foldl (fun x h => x.rxSlot p pn bytes fwd h) x
  let x := if cut then x.inc STRP_CNT2.ABORT p else x
  let x := x.crossTo 0x22000 STRP_ERR.XING p
  if bytes.length = statLen n ∧ !crc32Ok bytes (statLen n) then x.inc STRP_CNT1.CRC32 p else x

def execStatusFrameRx (u : UnitId) (p : Fin 100) (rx : RxFrame) (at_ : Instant) (cut : Bool) (s : State) :
    Host.Outcome State Fault Refusal :=
  unitStep s u (fun x =>
    let x := x.tick at_
    if x.ncell p.val = 0 ∨ x.pstate p.val = 0 ∨ x.pstate p.val = 2 ∨ !x.portOn p.val then x
    else
      let x := x.codeErrs p.val rx.errs.toNat
      if byteAt rx.bytes 1 ≠ 3 then (if byteAt rx.bytes 1 = 0 ∨ 4 < byteAt rx.bytes 1 then x.codeErrs p.val 1 else x)
      else x.rxStatus p.val rx.bytes cut)

/-- The partner forwards the slot of a cell over Splice (R31); where the partner's port runs at low rate its status is that of
the low-rate cycle. A slot the unit has itself received in the period stands.
Log entry 203 (DEDUCED). -/
def execSpliceStatusFwdRx (u : UnitId) (strand : Fin 96) (hop : Fin 64) (slot : Bytes) (s : State) :
    Host.Outcome State Fault Refusal :=
  let y := s.unit u.other
  unitStep s u (fun x =>
    let k := strand.val * 64 + hop.val
    let low := match y.portOf strand.val with | some p => y.pstate p == 1 | none => false
    let pn := if low then x.pn / 64 * 64 else x.pn
    if x.inQuiet then x
    else if slotPasses hop.val pn slot then
      (if (x.view k).slotPn = some pn then x else x.takeSlot k pn true slot)
    else x.inc SPL_CNT2.MSGCRC)

/-! What a compute start finds on the ports (R112, R126, R128, R138). -/

/-- Whether every slot of the status frame due has arrived at port `p`: that of the running period, at low rate of the running
cycle (R112). -/
def UnitSt.slotsIn (x : UnitSt) (p : Nat) : Bool := (x.port p).gotPn == some (x.statusPn p) && (x.port p).gotN == x.ncell p

/-- Counts a status frame that has arrived, or has not (R112, R128). -/
def UnitSt.countFrame (x : UnitSt) (p : Nat) : UnitSt :=
  let q := x.port p
  let clean := x.slotsIn p && !q.gotTail && q.gotAll
  let x := if x.slotsIn p then x else (x.inc STRP_CNT3.MISS p).err STRP_ERR.BREAK p
  x.onPort p (fun q => { q with clean := if clean then q.clean + 1 else 0 })

/-- Status frames whose slots have not all arrived, and the count of clean frames (R112, R128): in ACTIVE in every period, in LOW
at the end of a low-rate cycle, and in no other state. -/
def UnitSt.portCompute (x : UnitSt) (sp : Nat × Nat) : UnitSt :=
  if x.pstate sp.2 = 5 ∨ (x.pstate sp.2 = 1 ∧ x.pn % 64 = 63) then x.countFrame sp.2 else x

/-- Whether the strand of a port needs relay at this compute start: its status frame was tail-originated or is counted under
R112, or its port is new to it and not in ACTIVE (R126, R143).
Log entry 203 (DEDUCED). -/
def UnitSt.needsRelay (x : UnitSt) (sp : Nat × Nat) : Bool :=
  let p := sp.2
  let q := x.port p
  if x.pstate p = 5 then !x.slotsIn p || q.gotTail
  else q.moved || (x.pstate p == 1 && ((q.gotTail && q.gotPn == some (x.statusPn p)) || (x.pn % 64 == 63 && !x.slotsIn p)))

/-- Shows which strands are relayed.
Log entry 73 (DEDUCED). -/
def UnitSt.showRelay (x : UnitSt) (act : List Nat) : UnitSt :=
  let x := x.livePorts.foldl (fun x sp =>
    let r := act.contains sp.1
    (x.onPort sp.2 (fun q => { q with relay := r })).set STRP_STAT.RELAY (b2n r) sp.2) x
  let word := fun (n : Nat) => (act.filter (fun s => s / 32 == n)).foldl (fun w s => orBit w (s % 32)) 0
  ((x.set SPL_RMASK.STR (word 0) 0).set SPL_RMASK.STR (word 1) 1).set SPL_RMASK.STR (word 2) 2

/-- The relay requests of the holder's compute start (R126, R428): the lowest-numbered strands up to four per traffic
lane in lock. -/
def UnitSt.relayCompute (x : UnitSt) : UnitSt :=
  if !x.isHolder || !x.splUp then
    let x := (if x.isHolder || x.spl.relayReq != [] then x.showRelay [] else x).set SPL_RELAY.RNUM 0
    { x with spl := { x.spl with relayReq := [] } }
  else
    let need := (x.livePorts.filter (fun sp => x.spl.relayReq.contains sp.1 || x.needsRelay sp)).map (·.1)
    let cap := 4 * x.lanes
    let x := { x with spl := { x.spl with relayReq := need } }
    let x := (x.set SPL_RELAY.RNUM need.length).set SPL_RELAY.RMAX cap
    let x := if cap < need.length then x.err SPL_ERR.RCAP else x
    x.showRelay (need.take cap)

/-- The strands the holder relays now.
Log entry 73 (DEDUCED). -/
def UnitSt.relayed (x : UnitSt) : List Nat := x.spl.relayReq.take (4 * x.lanes)

/-- The holder ends relay on a strand after 16 consecutive whole, non-tail status frames (R128). -/
def execRelayEnd (u : UnitId) (strand : Fin 96) (s : State) : Host.Outcome State Fault Refusal :=
  unitStep s u (fun x =>
    match x.portOf strand.val with
    | none => x
    | some p =>
      if x.isHolder ∧ x.spl.relayReq.contains strand.val ∧ 16 ≤ (x.port p).clean ∧ (x.pstate p = 5 ∨ x.pstate p = 1) then
        let left := x.spl.relayReq.filter (· != strand.val)
        let x := { x with spl := { x.spl with relayReq := left } }
        (x.set SPL_RELAY.RNUM left.length).showRelay (left.take (4 * x.lanes))
      else x)

/-! Relay at the partner (R126, R127). -/

/-- The relayed frame as it leaves: RELAY set, LOFS replaced, HCRC and CRC-32 recomputed, and complemented where the
arriving value was wrong; whether one was wrong. -/
def relayFrame (bytes : Bytes) (lofs : Nat) : Bytes × Bool :=
  let hok := hcrcOk bytes
  let n := bytes.length
  let cok := crc32Ok bytes n
  let b := splice bytes 2 [BitVec.ofNat 8 (byteAt bytes 2 ||| 64)]
  let b := splice b 10 (leBytes 3 lofs)
  let hc := crc16 (slice b 1 19)
  let b := splice b 20 (leBytes 2 (if hok then hc else 65535 - hc))
  let cc := crc32 (slice b 1 (n - 7))
  let b := splice b (n - 6) (leBytes 4 (if cok then cc else 2 ^ 32 - 1 - cc))
  (b, !hok || !cok)

/-- Whether port `p` can launch a relayed frame now: past training, at low rate in the thirty-third period of a cycle (R139), and
64 µs after a change of rate (R137). -/
def UnitSt.relays (x : UnitSt) (p : Nat) : Bool :=
  (decide (3 ≤ x.pstate p) || (x.pstate p == 1 && x.pn % 64 == 32)) && decide ((x.port p).rateFrom ≤ x.pn)

/-- Launches a relayed frame on port `p`, and shows that the port relays; a port whose block does no work takes no frame (R42). -/
def UnitSt.relayLaunch (x : UnitSt) (p : Nat) (t : Instant) (f : Bytes) : UnitSt :=
  if !x.portOn p then x.crossTo (0x100000 + 0x1000 * p) SPL_ERR.XING
  else if !x.relays p then x
  else
    ((x.onPort p (fun q => { q with relay := true, launched := some (t, f.length, []) })).set STRP_STAT.RELAY 1 p).emit
      (.frame p f)

/-- The launch offset of a relayed frame on port `p` in quarter nanoseconds: 0.25 µs after that of a frame of its own (R126, R139). -/
def UnitSt.relayLofs (x : UnitSt) (p : Nat) : Nat := (if x.pstate p = 1 then x.lowLofs else x.cmdLofs) + 1000

/-- Takes a holder's command frame: evidence of a relay, the sync it carries (R352), a wrong check counted, and the frame as it
leaves launched on the port that carries its strand. -/
def UnitSt.relayRx (x : UnitSt) (bytes : Bytes) (t : Instant) : UnitSt :=
  let port := x.portOf (byteAt bytes 3 % 128)
  let r := relayFrame bytes (match port with | some p => x.relayLofs p | none => 0)
  let x : UnitSt := { x.syncFrame bytes with lse := { (x.syncFrame bytes).lse with relNow := true } }
  let x := if r.2 then x.inc SPL_CNT2.MSGCRC else x
  match port with
  | none => x
  | some p => x.relayLaunch p t r.1

/-- A holder's command frame arrives over Splice; the partner launches it from its own end 0.25 µs after the command
launch offset, on the port that carries the strand.
Log entry 26 (DEDUCED). -/
def execRelayFrameRx (u : UnitId) (bytes : Bytes) (at_ : Instant) (s : State) : Host.Outcome State Fault Refusal :=
  unitStep s u (fun x =>
    let x := x.tick at_
    if x.inQuiet ∨ x.lstate ≠ 0 then x else x.relayRx bytes at_)

/-! The partner's command frames (R35, R54, R60, R407, R409). -/

/-- Base, PN and T from a command frame of a partner that counts periods, without Splice (R60): the header's PN and T,
and base from the arrival instant less the launch offset and the strand's one-way delay.
Log entry 30 (DEDUCED). -/
def UnitSt.baseFromFrame (x : UnitSt) (p : Nat) (bytes : Bytes) (t : Instant) : UnitSt :=
  let pn := framePn bytes
  let per := byteAt bytes 15
  let start := (t + 2 ^ 80 - (leAt bytes 10 3 * (ns / 4) + x.fld STRP_DLY.DLY p * 256) % 2 ^ 80)
  let b := (start + 2 ^ 81 - pn * (per * 250 * ns) % 2 ^ 80) % 2 ^ 80
  let x := ((x.setBase b).setPn pn).set TIM_PERIOD.T per
  { x with tim := { x.tim with baseSet := true, counting := true } }

/-- The holder's insertions from the partner's frame: every slot that passes its CRC-8 (R35). -/
def UnitSt.takeInsertions (x : UnitSt) (p : Nat) (bytes : Bytes) : UnitSt :=
  x.onPort p (fun q => { q with
    partnerPn := some (framePn bytes)
    partnerCmd := (List.range (x.ncell p)).foldl (fun m h =>
      sset (fun _ => 2 ^ 40) m h (if cmdSlotOk bytes h then leAt bytes (42 + 6 * h) 5 else 2 ^ 40)) [] })

/-- Claim evidence in the Watermark of a partner's frame (R399, R406, R407, R409). -/
def UnitSt.takeWatermark (x : UnitSt) (bytes : Bytes) : UnitSt :=
  if !wcrcOk bytes then x
  else
    let w := wmOf bytes
    let x := x.seeEpoch w.epoch
    if w.holder = srcUnit bytes ∧ 2 ≤ w.llen ∧ w.llen ≤ 8 then
      let after := match x.lse.claimAt with | some p => decide (p ≤ framePn bytes) | none => false
      { x with lse := { x.lse with clmNow := true, clmAfter := x.lse.clmAfter || (after && x.lstate == 1) } }
    else x

/-- Whether a command frame is the holder's own: its Watermark names the unit whose frame it is. -/
def fromHolder (bytes : Bytes) : Bool := wcrcOk bytes && (wmOf bytes).holder == srcUnit bytes

/-- Hands what a port receives to a block: Caliper takes the holder's slots and the lease the Watermark; where the lease's block is
away its evidence is discarded (R42). -/
def UnitSt.evidence (x : UnitSt) (p : Nat) (bytes : Bytes) : UnitSt :=
  if x.away 0x32000 then x.err STRP_ERR.XING p else x.takeWatermark bytes

/-- A command frame of the partner, or of the unit's own relayed, arrives at port `p`; its arrival aligns the standby where it
is the holder's and Splice is down (R54).
Log entry 30 (DEDUCED). -/
def execPartnerCmdFrameRx (u : UnitId) (p : Fin 100) (rx : RxCut) (at_ : Instant) (s : State) :
    Host.Outcome State Fault Refusal :=
  let bytes := rx.bytes
  unitStep s u (fun x =>
    let x := x.tick at_
    if x.pstate p.val = 0 ∨ !x.portOn p.val then x
    else
    let n := x.ncell p.val
    let x := x.codeErrs p.val rx.errs.toNat
    let x := if rx.cut then x.inc STRP_CNT2.ABORT p.val else x
    let x := if bytes.length = cmdLen n ∧ !crc32Ok bytes (cmdLen n) then x.inc STRP_CNT1.CRC32 p.val else x
    if !hcrcOk bytes ∨ srcUnit bytes = x.id ∨ (byteAt bytes 1 ≠ 1 ∧ byteAt bytes 1 ≠ 2) then x
    else
      let x := if !x.tim.baseSet ∧ !x.splUp then x.baseFromFrame p.val bytes at_ else x
      let x := (((x.evidence p.val bytes).takeInsertions p.val bytes).crossTo 0x22000 STRP_ERR.XING p.val).syncFrame bytes
      if x.splUp ∨ x.isHolder ∨ !fromHolder bytes then x
      else
        let due : Int := x.t0 (framePn bytes) + leAt bytes 10 3 * (ns / 4) + x.fld STRP_DLY.DLY p.val * 256
        x.align 2 ((at_ : Int) - due) at_)

/-! STOP over Splice (R121). -/

def execStopReqRx (u : UnitId) (at_ : Instant) (s : State) : Host.Outcome State Fault Refusal :=
  unitStep s u (fun x => if x.inQuiet then x else (x.tick at_).stopAll at_)

/-! Enumeration (R130 to R134). -/

/-- The hops a unit reaches on a strand of `n` cells with reach `r`, nearest first. -/
def reachedHops (u : UnitId) (n r : Nat) : List Nat :=
  match u with
  | .a => List.range r
  | .b => (List.range r).map (fun i => n - 1 - i)

/-- The next ECHO of MEASURE through port 6, where none is held (R134). -/
def UnitSt.measureKick (x : UnitSt) (p : Nat) : UnitSt :=
  let q := x.port p
  let s := q.strand
  if x.pstate p ≠ 4 ∨ x.hbx.held.any (fun t => t.id / 8192 == 6 && t.desc.kind == kEnum && t.desc.strand == s) then x
  else
    match q.echoHops with
    | [] => x
    | h :: _ =>
      (x.submit6 { kind := kEnum, op := 2, bcast := false, aftok := false, timed := false, strand := s, hop := h, addr := 0,
                   data := 0, mask := 0, buf := 0, tmo := 0, after := 0, at_ := 0 }).2

/-- Enters MEASURE: 256 ECHO frames to each reached cell are due. -/
def UnitSt.enterMeasure (x : UnitSt) (p : Nat) : UnitSt :=
  let hops := reachedHops x.id (x.ncell p) ((x.port p).reach.getD 0)
  let x := (x.setPstate p 4).onPort p (fun q => { q with echoHops := hops, echoN := 0, echoSum := 0, measIds := [] })
  x.measureKick p

/-- Whether the counts of the two ASSIGN frames do not agree with `n` cells: one that arrived at the far end differs from it, or the
two reaches exceed it (R133). Where both frames have come back the sum is tested.
Log entry 178 (DESIGN CHOICE). -/
def PortSt.badCount (q : PortSt) (n : Nat) : Bool :=
  let differs (c : Option Nat) : Bool := match c with | some c => c != n | none => false
  differs q.arrived || differs q.parrived || decide (n < q.reach.getD 0)
    || (q.arrived.isNone && q.parrived.isNone && decide (n < q.reach.getD 0 + q.preach.getD 0))

/-- ENUM becomes MEASURE once both reaches are known without an NCELL error (R133, R136).
Log entries 67 (DEDUCED), 178 (DESIGN CHOICE). -/
def UnitSt.enumCheck (x : UnitSt) (p : Nat) : UnitSt :=
  let q := x.port p
  if q.badCount (x.ncell p) then (x.err STRP_ERR.NCELL p).onPort p (fun q => { q with ncellBad := true })
  else if x.pstate p = 3 ∧ q.reach.isSome ∧ q.preach.isSome ∧ !q.ncellBad then x.enterMeasure p
  else x

/-- Completes the sent ENUM transaction of operation `op` on strand `s` (for ECHO and IDREQ, of hop `h`). -/
def UnitSt.enumFinish (x : UnitSt) (s op h : Nat) (rdata : Nat) (buf : Option Bytes) : UnitSt :=
  match x.hbx.held.find? (fun t => t.desc.kind == kEnum && t.desc.op == op && t.desc.strand == s &&
      t.sentOn.contains s && (op == 1 || t.desc.hop == h)) with
  | none => x
  | some t =>
    let x := match buf with | some b => x.sramPut (t.desc.buf + 32) b | none => x
    x.hbxFinish t 0 (BitVec.ofNat 32 rdata)

/-- Whether the cell with key `k`, on port `p`, writes no status, as a cell without a hop index does not (R135), or has been reset by
this unit: it comes out of a reset or a wake. At low rate a status comes once in a cycle. -/
def UnitSt.cameBack (x : UnitSt) (p k : Nat) : Bool :=
  let v := x.view k
  v.gone || !(match v.slotPn with | some pn => decide (x.pn ≤ pn + (if x.pstate p = 1 then 127 else 1)) | none => false)

/-- The ASSIGN frame of unit `who` has given `count` cells of the strand of port `p` their hop index: those that come out of a reset or
a wake start anew (R298, R454). -/
def UnitSt.enumerated (x : UnitSt) (who : UnitId) (p count : Nat) : UnitSt :=
  (reachedHops who (x.ncell p) count).foldl (fun (x : UnitSt) h =>
    let k := (x.port p).strand * 64 + h
    let x := if x.cameBack p k then x.clpForget k else x
    x.onView k (fun v => { v with gone := false })) x

/-- The reach of a unit on the strand of port `p` becomes known to it, with the count its frame arrived with, if it did (R133).
Log entries 67 (DEDUCED), 178 (DESIGN CHOICE). -/
def UnitSt.ownReach (x : UnitSt) (p count : Nat) (arrived : Option Nat) : UnitSt :=
  let x := (x.onPort p (fun q => { q with reach := some count, arrived := arrived })).set STRP_STAT.REACH count p
  ((x.enumerated x.id p count).enumFinish (x.port p).strand 1 0 count none).enumCheck p

/-- The reach of the partner on the strand of port `p` becomes known, as `ownReach` (R133). -/
def UnitSt.partReach (x : UnitSt) (p count : Nat) (arrived : Option Nat) : UnitSt :=
  ((x.onPort p (fun q => { q with preach := some count, parrived := arrived })).enumerated x.id.other p count).enumCheck p

/-- Applies `f` to the port of strand `s`. -/
def UnitSt.onStrand (x : UnitSt) (s : Nat) (f : UnitSt → Nat → UnitSt) : UnitSt :=
  match x.portOf s with | some p => f x p | none => x

/-- The path delay of cell `h` from 256 round trips (R75), with its asymmetry; a half step of rounding is free.
Log entry 71 (DESIGN CHOICE). -/
def UnitSt.pathDelay (x : UnitSt) (p h turn sum : Nat) : Nat × Int × UnitSt :=
  let a := sget (fun _ => (0 : Int)) x.conf.asym ((x.port p).strand * 64 + h)
  let (v, x) := x.draw
  let z : Int := (sum : Int) - 256 * turn + 256 * a
  let d := z / 512 + (if z % 512 = 0 then 0 else ((v % 2 : Nat) : Int))
  (ofInt 32 d, a, x)

/-- An ECHO of MEASURE has returned: after 256 of them d_P and a_P go to the cell with WRITE entries (R134). -/
def UnitSt.measureEcho (x : UnitSt) (p h turn rtt : Nat) : UnitSt :=
  match (x.port p).echoHops with
  | [] => x
  | h0 :: rest =>
    if h0 ≠ h then x
    else
      let x := x.onPort p (fun q => { q with echoN := q.echoN + 1, echoSum := q.echoSum + rtt })
      let q := x.port p
      if q.echoN < 256 then x.measureKick p
      else
        let (d, a, x) := x.pathDelay p h turn q.echoSum
        let o := match x.id with | .a => 0 | .b => 4
        let (i1, x) := x.submit6 (writeDesc false q.strand h (0x7058 + o) d 0)
        let (i2, x) := x.submit6 (writeDesc false q.strand h (0x7060 + o) (ofInt 32 a) 0)
        let x := x.onPort p (fun q => { q with echoHops := rest, echoN := 0, echoSum := 0, measIds := i1 :: i2 :: q.measIds })
        let x := if rest = [] then x.set STRP_DLY.DLY d p else x
        x.measureKick p

/-- What a port counts of a frame that is no whole enumeration frame: one that was cut, an unknown TYPE, or a wrong check (R144). -/
def UnitSt.enumBad (x : UnitSt) (p : Nat) (bytes : Bytes) : UnitSt :=
  if bytes.length < 2 ∨ (byteAt bytes 1 = 4 ∧ bytes.length < 110) then x.inc STRP_CNT2.ABORT p
  else if byteAt bytes 1 = 0 ∨ 4 < byteAt bytes 1 then x.codeErrs p 1
  else if byteAt bytes 1 = 4 then x.inc STRP_CNT1.CRC32 p
  else x

/-- An enumeration frame comes back to its sender, or arrives at the far end, at port `p` (R131, R133, R134, R434). A round trip is
taken in whole units of 2^-8 ns, rounded down.
Log entries 67 (DEDUCED), 71 (DESIGN CHOICE), 72 (DESIGN CHOICE). -/
def execEnumFrameRx (u : UnitId) (p : Fin 100) (bytes : Bytes) (at_ : Instant) (s : State) : Host.Outcome State Fault Refusal :=
  let s := s.onUnit u (fun x => x.tick at_)
  let x := s.unit u
  let st := (x.port p.val).strand
  if !enumOk bytes ∨ byteAt bytes 1 ≠ 4 then .next (s.onUnit u (fun x => x.enumBad p.val bytes))
  else
    let own := srcUnit bytes == u
    let back := bitAt (byteAt bytes 2) 6
    let eop := byteAt bytes 4
    let count := byteAt bytes 5
    let h := byteAt bytes 6
    if eop = 1 ∧ own ∧ back then
      let s := s.onUnit u (fun x => x.ownReach p.val count none)
      -- the partner learns the reach over Splice
      .next (if x.splUp then s.onUnit u.other (fun y => y.onStrand st (fun y q => y.partReach q count none)) else s)
    else if eop = 1 ∧ !own ∧ !back then
      let s := s.onUnit u (fun x => x.partReach p.val count (some count))
      .next (if x.splUp then s.onUnit u.other (fun y => y.onStrand st (fun y q => y.ownReach q count (some count))) else s)
    else if eop = 2 ∧ own ∧ back then
      let turn := if hs : st < 96 ∧ h < 64 then
        (s.cell ⟨⟨st, hs.1⟩, ⟨h, hs.2⟩⟩).fld CTIM_TURN.TURN else 0
      .next (s.onUnit u (fun x =>
        let rtt := match (x.port p.val).echo with | some t => (at_ - t) / 256 | none => 0
        let six := x.hbx.held.any (fun t => t.id / 8192 == 6 && t.desc.kind == kEnum && t.desc.op == 2 &&
          t.desc.strand == st && t.desc.hop == h && t.sentOn.contains st)
        let x := x.onPort p.val (fun q => { q with echo := none })
        let x := x.enumFinish st 2 h rtt none
        if six then x.measureEcho p.val h turn rtt else x))
    else if eop = 4 then
      .next (s.onUnit u (fun x => if own then x.enumFinish st 3 h 0 (some (slice bytes 8 96)) else x))
    else .next s

/-- The first configured strand whose measured delay breaks R66 (R68); the measured delay is that of its farthest cell
reached, and F_s ends with the last slot. -/
def UnitSt.budgetFail (x : UnitSt) : Option Nat :=
  (x.livePorts.find? (fun sp =>
    let d := x.fld STRP_DLY.DLY sp.2 * 256
    let n := x.ncell sp.2
    let fs := x.frameSpan sp.2 (16 * n + 26)
    let fc := x.frameSpan sp.2 (cmdLen n)
    d != 0 && x.pstate sp.2 == 5 && (decide (x.compOfs < x.statOfs + d + fs) ||
      decide (x.period < x.compOfs + 1700 * ns + fc + d + x.fld TIM_OFS2.MARGIN * 10 * ns)))).map (·.1)

/-- Applies R66 again with the measured delays (R68). -/
def UnitSt.budgetCheck (x : UnitSt) : UnitSt :=
  match x.budgetFail with
  | some s => ((x.err TIM_ERR.BUDGET).set TIM_STAT.BSTRAND s).set PWR_COND.BUDGET 0
  | none => x.set PWR_COND.BUDGET 1

/-- All path delays are written: the port enters ACTIVE (R134, R136). -/
def execPortMeasureDone (u : UnitId) (p : Fin 100) (s : State) : Host.Outcome State Fault Refusal :=
  unitStep s u (fun x =>
    let q := x.port p.val
    if x.pstate p.val = 4 ∧ !q.ncellBad ∧ q.echoHops = [] ∧ q.measIds.all (fun i => match x.hbxEnded i with | some st => decide (st ≤ 1) | none => false)
    then (x.setPstate p.val 5).budgetCheck else x)

/-! Port states (R136). -/

/-- A refused request of `STRP_CMD.REQ`.
Log entry 177 (DESIGN CHOICE). -/
def UnitSt.portRefuse (x : UnitSt) (p : Nat) : UnitSt := x.err STRP_ERR.REQ p

/-- A write of `STRP_CMD` through requester `q`. -/
def UnitSt.portCmd (x : UnitSt) (q : Requester) (p : Nat) (k : UnitSt → UnitSt) : UnitSt := x.guard q true (0x100048 + 0x1000 * p) k

/-- Requests OFF. -/
def UnitSt.portOff (x : UnitSt) (p : Nat) : UnitSt :=
  (x.setPstate p 0).onPort p (fun r => { r with launched := none, echo := none, relay := false, wantActive := false, preach := none, parrived := none, arrived := none })

/-- Requests LOW. -/
def UnitSt.portLow (x : UnitSt) (p : Nat) : UnitSt := if x.pstate p = 0 then x.setPstate p 1 else x.portRefuse p

/-- Requests TRAIN. -/
def UnitSt.portTrain (x : UnitSt) (p : Nat) : UnitSt := if x.pstate p = 1 then x.setPstate p 2 else x.portRefuse p

/-- Requests ENUM, with the receiver in lock for 100 µs; before that it is refused.
Log entry 177 (DESIGN CHOICE). -/
def UnitSt.portEnum (x : UnitSt) (p : Nat) (t : Instant) : UnitSt :=
  let locked := match (x.port p).lockAt with | some l => decide (l + 100 * us ≤ t) | none => false
  if x.pstate p = 2 && x.bit STRP_STAT.LOCK p && locked then
    (x.setPstate p 3).onPort p (fun r => { r with reach := none, arrived := none, ncellBad := false, echoHops := [] })
  else x.portRefuse p

/-- Requests ACTIVE: from LOW, once every cell in reach has completed a RATE entry to full rate. -/
def UnitSt.portActive (x : UnitSt) (p : Nat) : UnitSt :=
  if x.pstate p = 1 then x.onPort p (fun r => { r with wantActive := true }) else x.portRefuse p

def execPortReqOff (u : UnitId) (q : Requester) (p : Fin 100) (s : State) : Host.Outcome State Fault Refusal :=
  unitStep s u (fun x => x.portCmd q p.val (fun x => x.portOff p.val))

def execPortReqLow (u : UnitId) (q : Requester) (p : Fin 100) (s : State) : Host.Outcome State Fault Refusal :=
  unitStep s u (fun x => x.portCmd q p.val (fun x => x.portLow p.val))

def execPortReqTrain (u : UnitId) (q : Requester) (p : Fin 100) (s : State) : Host.Outcome State Fault Refusal :=
  unitStep s u (fun x => x.portCmd q p.val (fun x => x.portTrain p.val))

def execPortReqEnum (u : UnitId) (q : Requester) (p : Fin 100) (at_ : Instant) (s : State) : Host.Outcome State Fault Refusal :=
  unitStep s u (fun x => (x.tick at_).portCmd q p.val (fun x => x.portEnum p.val at_))

def execPortReqActive (u : UnitId) (q : Requester) (p : Fin 100) (s : State) : Host.Outcome State Fault Refusal :=
  unitStep s u (fun x => x.portCmd q p.val (fun x => x.portActive p.val))

/-! Rates and spare ports (R137, R138, R143). -/

/-- The compute start two periods before the effective boundary of a RATE entry: whether every cell in reach has
answered OK (R138).
Log entry 70 (DEDUCED). -/
def UnitSt.rateCompute (x : UnitSt) (p : Nat) : UnitSt :=
  let q := x.port p
  match q.ratePend with
  | some (a, _) =>
    if (x.pn + 2) % 2 ^ 32 = a then
      let cells := (reachedHops x.id (x.ncell p) (x.fld STRP_STAT.REACH p)).map (fun h => q.strand * 64 + h)
      x.onPort p (fun q => { q with rateGo := cells != [] && cells.all (fun k => q.rateOk.contains k) })
    else x
  | none => x

/-- The effective boundary of a RATE entry at a port.
Log entry 70 (DEDUCED). -/
def UnitSt.rateSwitch (x : UnitSt) (p : Nat) : UnitSt :=
  let q := x.port p
  match q.ratePend with
  | some (a, r) =>
    if x.pn % 2 ^ 32 = a then
      let x := x.onPort p (fun q => { q with ratePend := none, rateGo := false, rateOk := [] })
      let go := q.rateGo && (if r = 1 then x.pstate p == 5 else x.pstate p == 1 && q.wantActive && !q.ncellBad)
      if go then
        let x := x.setPstate p (if r = 1 then 1 else 5)
        x.onPort p (fun q => { q with wantActive := false
                                      rateFrom := x.pn + (64 * us + x.period - 1) / max 1 x.period })
      else x.portRefuse p
    else x
  | none => x

/-- A write of `STRP_ASSIGN`: STRAND takes effect at the next boundary (R143). -/
def UnitSt.assignWrite (x : UnitSt) (p : Nat) (v : Word) : UnitSt :=
  (x.writeWord (0x100040 + 0x1000 * p) v).onPort p (fun r => { r with newStrand := some (v.toNat % 128) })

/-- PORT_ASSIGN_WRITE. -/
def execPortAssignWrite (u : UnitId) (q : Requester) (p : Fin 100) (v : Word) (s : State) : Host.Outcome State Fault Refusal :=
  unitStep s u (fun x => x.guard q true (0x100040 + 0x1000 * p.val) (fun x => x.assignWrite p.val v))

end Sys2Proof.Machine
end

