-- ==== Sys2Proof/Machine/ReelOps.lean ====
section
/-! DEFINITION. Reel's triggers, marks and records (R366 to R396): what the commands of other blocks add to a capture, and
the building of its records. -/
namespace Sys2Proof.Machine

/-! Registers in force (R381). -/

/-- A trigger or mask register as the last period close took it. -/
def UnitSt.reelWord (x : UnitSt) (a : Nat) : Word := sget (unitReset x.id) x.reel.eff a

/-- Copy `i` of a trigger or mask field in force. -/
def UnitSt.reelFld (x : UnitSt) (f : Fld) (i : Nat) : Nat := f.get (x.reelWord (f.addr i)) i

/-- Whether a capture records: RUN or POSTING (R378). -/
def UnitSt.capturing (x : UnitSt) : Bool := (x.fld REEL_STAT.CAP == 1 || x.fld REEL_STAT.CAP == 2) && x.works 0x31000

/-! Marks (R382 to R387). -/

/-- The period that holds instant `t`.
Log entry 117 (DEDUCED). -/
def UnitSt.pnOf (x : UnitSt) (t : Instant) : Nat := (t - x.base) / x.period

/-- An instant rounded to the nearest ns, ties to even. -/
def nearestNs (t : Instant) : Nat :=
  let q := t / ns
  if 2 * (t % ns) > ns ∨ (2 * (t % ns) = ns ∧ q % 2 = 1) then q + 1 else q

/-- Adds a mark to those waiting for their period's close; the set of a period already closed takes no more marks.
Log entry 117 (DEDUCED). -/
def UnitSt.addMark (x : UnitSt) (m : Mark) : UnitSt :=
  { x with reel := { x.reel with marks := { m with pn := max m.pn (x.reel.closed + 1) } :: x.reel.marks } }

/-- Trigger `n` fires: its mark, and where XTRIG is 1 and Splice is up the message to the partner (R386). -/
def UnitSt.fireTrigger (x : UnitSt) (n time qual frac : Nat) (fall : Bool) (value : Word) (pn : Nat) : UnitSt :=
  let x := x.addMark { time := time, qual := qual, frac := frac, kind := 0, num := n, stop := x.reelFld REEL_TRIGCFG.STOP n == 1
                       fall := fall, value := value, post := x.reelFld REEL_TRIGPOST.POST n, pn := pn }
  if x.reelFld REEL_TRIGCFG.XTRIG n = 1 ∧ x.splUp then x.say (.trigFwd n qual frac fall time) else x

/-- The enabled triggers of a kind with an index (R382). -/
def UnitSt.triggersOn (x : UnitSt) (kind index : Nat) : List Nat :=
  if x.capturing then
    (List.range 16).filter (fun n => x.reelFld REEL_TRIGCFG.EN n == 1 && x.reelFld REEL_TRIGCFG.KIND n == kind
      && x.reelFld REEL_TRIGCFG.INDEX n == index)
  else []

/-- An edge on trip input `n` at instant `t` (kind 0b010). -/
def UnitSt.reelTrip (x : UnitSt) (n : Nat) (rise : Bool) (t : Instant) : UnitSt :=
  (x.triggersOn 2 n).foldl (fun x k =>
    let d := x.reelFld REEL_TRIGCFG.DIR k
    if (rise && bitAt d 0) || (!rise && bitAt d 1) then
      x.fireTrigger k (t / ns) 1 (t % ns * 8 / ns) (!rise) 0 (x.pnOf t)
    else x) x

/-- The assertion of event source `n` with collector stamp `t` (kind 0b011), and its entry in EVENTS (R376). -/
def UnitSt.reelEvent (x : UnitSt) (n : Nat) (t : Instant) : UnitSt :=
  let x := (x.triggersOn 3 n).foldl (fun x k => x.fireTrigger k (t / ns) 4 0 false 0 (x.pnOf t)) x
  if x.capturing && x.bit REEL_CFG.EVEN && bitAt (x.fld REEL_EVSEL.EV (n / 32)) (n % 32) then
    { x with reel := { x.reel with events := (n, t) :: x.reel.events } }
  else x

/-- A partner's trigger (kind 0b100); it never ends the receiving capture. -/
def UnitSt.reelPartner (x : UnitSt) (num qual frac : Nat) (fall : Bool) (time : Nat) : UnitSt :=
  (x.triggersOn 4 num).foldl (fun x k =>
    let x := x.addMark { time := time, qual := qual, frac := frac, kind := 3, num := num, stop := false, fall := fall
                         value := 0, post := 0, pn := x.pnOf (time * ns) }
    if x.reelFld REEL_TRIGCFG.XTRIG k = 1 ∧ x.splUp then x.say (.trigFwd k qual frac fall time) else x) x

/-- The detectors of a crossing trigger see an output `r1` of its input, after `r0` (R383): any result arms them, and a pair of valid
ones fires them.
Log entry 118 (DESIGN CHOICE). -/
def UnitSt.detect (x : UnitSt) (k : Nat) (r0 : Option MinRes) (r1 : MinRes) : UnitSt :=
  let lvl := b32 (BitVec.ofNat 32 (x.reelFld REEL_TRIGLVL.LVL k))
  let hys := b32 (BitVec.ofNat 32 (x.reelFld REEL_TRIGHYS.HYST k))
  let d := x.reelFld REEL_TRIGCFG.DIR k
  let armed := sget (fun _ => 0) x.reel.det k
  let v1 := b32 r1.v
  let pair := match r0 with
    | some r => if r.run = r1.run ∧ r.oidx + 1 = r1.oidx ∧ !r.flt ∧ !r.settle ∧ !r1.flt ∧ !r1.settle then some r else none
    | none => none
  let up := bitAt d 0 && bitAt armed 0 && (match pair with | some r => (b32 r.v).lt lvl && lvl.le v1 | none => false)
  let dn := bitAt d 1 && bitAt armed 1 && (match pair with | some r => lvl.lt (b32 r.v) && v1.le lvl | none => false)
  let arm := (if !up && (bitAt armed 0 || v1.le (lvl.sub hys)) then 1 else 0)
    + (if !dn && (bitAt armed 1 || (lvl.add hys).le v1) then 2 else 0)
  let x : UnitSt := { x with reel := { x.reel with det := sset (fun _ => 0) x.reel.det k arm } }
  match pair with
  | none => x
  | some r =>
    let add (c fall : Bool) (l : List Fired) : List Fired := if c then { trig := k, fall := fall, r0 := r, r1 := r1 } :: l else l
    { x with reel := { x.reel with fired := add dn true (add up false x.reel.fired) } }

/-- Crossing triggers see output `r1` of input `n`, after `r0`. -/
def UnitSt.reelResult (x : UnitSt) (n : Nat) (r0 : Option MinRes) (r1 : MinRes) : UnitSt :=
  (x.triggersOn 1 n).foldl (fun x k => x.detect k r0 r1) x

/-! Placing a fired pair (R384). -/

/-- Δte in ns, and the crossing instant by interpolation in binary64, as an offset in ns from te of the earlier result.
Log entry 118 (DESIGN CHOICE). -/
def crossing (lvl : Val) (f : Fired) : Nat :=
  let dt := Val.ofFrac ((f.r1.te : Int) - f.r0.te) ns
  let dv := b64 (r64 ((b32 f.r1.v).sub (b32 f.r0.v)))
  let a := b64 (r64 (lvl.sub (b32 f.r0.v)))
  let q := b64 (r64 ((b64 (r64 (a.mul dt))).div dv))
  ((Val.ofFrac f.r0.te ns).add q).nearest.toNat

/-- Whether a fired pair is placed by interpolation: neither result is CLIP, and its slope reaches SLOPE. -/
def UnitSt.interpolates (x : UnitSt) (f : Fired) : Bool :=
  let slope := b32 (BitVec.ofNat 32 (x.reelFld REEL_TRIGSLP.SLOPE f.trig))
  let dt := Val.ofFrac ((f.r1.te : Int) - f.r0.te) us
  !f.r0.clip && !f.r1.clip && (slope.mul dt).le ((b32 f.r1.v).sub (b32 f.r0.v)).abs

/-- Places a fired pair and writes its mark in period `pn`. -/
def UnitSt.placeFired (x : UnitSt) (f : Fired) (pn : Nat) : UnitSt :=
  let k := f.trig
  if x.interpolates f then
    x.fireTrigger k (crossing (b32 (BitVec.ofNat 32 (x.reelFld REEL_TRIGLVL.LVL k))) f) 0 0 f.fall f.r1.v pn
  else
    let fb := x.reelFld REEL_TRIGCFG.FBEN k == 1
    let w := x.fld REEL_FBWIN.FBWIN * 10 * ns
    let unit125 := ns / 8
    let hits := (sget (fun _ => []) x.mins.stamps (x.reelFld REEL_TRIGCFG.FBTRIP k)).filter (fun t =>
      decide (f.r0.te ≤ t * unit125 + w) && decide (t * unit125 ≤ f.r1.te + w))
    match (if fb then hits.foldl (fun m t => some (match m with | none => t | some s => min s t)) none else none) with
    | some t => x.fireTrigger k (t / 8) 1 (t % 8) f.fall f.r1.v pn
    | none =>
      let x := if fb then x.inc REEL_CNT3.FBNONE else x
      x.fireTrigger k (nearestNs f.r1.te) 2 0 f.fall f.r1.v pn

/-- Places the pairs whose later result became available before the end of period `pn`. -/
def UnitSt.placeAll (x : UnitSt) (pn : Nat) (tEnd : Instant) : UnitSt :=
  let due := (x.reel.fired.filter (fun f => decide (f.r1.avail < tEnd))).reverse
  let x := { x with reel := { x.reel with fired := x.reel.fired.filter (fun f => !decide (f.r1.avail < tEnd)) } }
  due.foldl (fun x f => x.placeFired f pn) x

/-! Records (R369 to R376, R385, R396). -/

/-- The order of marks in a set (R371). -/
def Mark.before (a b : Mark) : Bool :=
  if a.time ≠ b.time then decide (a.time < b.time)
  else if a.kind ≠ b.kind then decide (a.kind < b.kind) else decide (a.num ≤ b.num)

/-- Inserts a mark into a list in that order. -/
def markInsert (m : Mark) : List Mark → List Mark
  | [] => [m]
  | k :: l => if m.before k then m :: k :: l else k :: markInsert m l

def sortMarks (l : List Mark) : List Mark := l.foldl (fun acc m => markInsert m acc) []

/-- The payload of a MARK record. -/
def markBody (m : Mark) (endpn seq : Nat) : Bytes :=
  leBytes 8 m.time ++ [BitVec.ofNat 8 (m.qual * 32 + m.frac % 8), BitVec.ofNat 8 (m.kind * 64 + m.num % 32),
    BitVec.ofNat 8 (b2n m.stop + 2 * b2n m.fall), 0] ++ leBytes 4 m.value.toNat ++
    leBytes 6 (if m.stop then endpn else 0) ++ leBytes 2 0 ++ leBytes 4 seq ++ leBytes 4 0

/-- The payload of a LOSS record. -/
def lossBody (g : ReelGap) : Bytes :=
  leBytes 6 g.first ++ leBytes 6 g.last ++ leBytes 4 g.nper ++ leBytes 2 (min g.nmark 65535) ++ leBytes 2 (min g.nevt 65535)
    ++ leBytes 12 0

/-- The payload of a STOP record.
Log entry 119 (DEDUCED). -/
def stopBody (cause num : Nat) : Bytes := [BitVec.ofNat 8 cause, BitVec.ofNat 8 num] ++ leBytes 14 0

/-- The payload of a START record. -/
def UnitSt.startBody (x : UnitSt) (t : Nat) : Bytes :=
  leBytes 4 x.cfgd ++ [BitVec.ofNat 8 t] ++ leBytes 3 0 ++ leBytes 4 (x.word 0x31040).toNat ++ leBytes 4 0

/-- The payload of a PERIOD record; `stat` holds Hold in bit 0 and Splice up in bit 2. -/
def periodBody (p : ReelSnap) (posting : Bool) : Bytes :=
  leBytes 8 (p.t0 / ns) ++ leBytes 2 (p.t0 % ns) ++ [BitVec.ofNat 8 (p.stat + 2 * b2n posting), BitVec.ofNat 8 p.t]
    ++ leBytes 4 p.epoch

/-- RFLAGS of a record of period `pn` (R369).
Log entry 208 (DEDUCED). -/
def UnitSt.rflags (x : UnitSt) (pn : Nat) : Nat := unitBit x.id + 2 * b2n ((x.reel.held.find? (fun h => h.1 == pn)).any (·.2))

/-- The CELLS entry of cell `k` on port `p` for period `pn` (R373): the holder's slot for the next boundary. -/
def UnitSt.cellEntry (x : UnitSt) (p k pn : Nat) : Nat :=
  let v := x.view k
  let ok := v.slotPn == some pn
  let own := x.slotFor (x.port p).blk k
  let rx := sget (fun _ => 2 ^ 40) (x.port p).partnerCmd (k % 64)
  let got := !x.isHolder && (x.port p).partnerPn == some pn && decide (rx < 2 ^ 40)
  let sl := if got then rx else own
  (if ok then slotVcap v.slot * 2 ^ 44 + slotFlags v.slot * 2 ^ 32 else 0) + sl / 256 % 65536 * 2 ^ 16 + sl % 256 * 2 ^ 8
    + 4 * b2n (!x.isHolder && !got) + 2 * b2n (ok && v.viaSpl) + b2n ok

/-- The CELLS payloads of the selected strands. -/
def UnitSt.cellsBodies (x : UnitSt) (pn : Nat) : List (Nat × Bytes) :=
  let d := x.fld REEL_CFG.CELLDIV
  if d = 0 ∨ pn % d ≠ 0 then []
  else (x.livePorts.filter (fun sp => bitAt (x.fld REEL_CELLSEL.STR (sp.1 / 32)) (sp.1 % 32))).map (fun sp =>
    (sp.1, (List.range (x.ncell sp.2)).flatMap (fun h => leBytes 8 (x.cellEntry sp.2 (sp.1 * 64 + h) pn))))

/-- A LOOP entry of channel `c`. -/
def UnitSt.loopEntry (x : UnitSt) (c : Nat) : Bytes :=
  leBytes 4 (x.fld LPE_CHOUT.O c) ++ leBytes 4 (x.fld LPE_CHUPRE.UC c) ++ leBytes 4 (x.fld LPE_CHERRV.E c) ++
    leBytes 4 (c * 2 ^ 25 + x.fld LPE_CHSTAT.SAT c * 2 ^ 24 + x.fld LPE_CHSTAT.XSAT c * 2 ^ 23 + x.fld LPE_CHSTAT.HELD c * 2 ^ 22
      + x.fld LPE_CHSTAT.WIN c * 2 ^ 21 + x.fld LPE_CHSTAT.FADE c * 2 ^ 20)

/-- The LOOP payload (R375). -/
def UnitSt.loopBody (x : UnitSt) : Bytes :=
  ((List.range 96).filter (fun c => bitAt (x.fld REEL_LOOPSEL.CH (c / 32)) (c % 32))).flatMap x.loopEntry ++
    ((List.range 16).filter (fun g => bitAt (x.fld REEL_GRPSEL.GRP) g)).flatMap (fun g =>
      leBytes 4 (x.fld LPE_GOUT.G g) ++ leBytes 8 0 ++ leBytes 4 ((96 + g) * 2 ^ 25))

/-- The ARMS payload (R375). -/
def UnitSt.armsBody (x : UnitSt) : Bytes :=
  (List.range 6).flatMap (fun n =>
    let a := sget (fun _ => []) x.cal.agg n
    leBytes 4 (a.getD 2 0).toNat ++ leBytes 4 (a.getD 3 0).toNat ++ leBytes 4 (x.word (0x210A0 + 4 * n)).toNat
      ++ leBytes 4 (x.word (0x210B8 + 4 * n)).toNat)

/-- X of an INPUTS entry: 2^-23 of full scale; where x is no multiple of it the neighbour is free, and so is what stands for
full scale itself, which 24 bits do not hold.
Log entry 121 (DESIGN CHOICE). -/
def UnitSt.rawX (x : UnitSt) (z : Int) : Nat × UnitSt :=
  if z % 131072 = 0 ∧ z / 131072 < 8388608 then (ofInt 24 (z / 131072), x)
  else
    let (v, x) := x.draw
    if 8388607 ≤ z / 131072 then (v % 2 ^ 24, x) else (ofInt 24 (z / 131072 + ((v % 2 : Nat) : Int)), x)

/-- An INPUTS entry of input `n` (R374). -/
def UnitSt.inputEntry (x : UnitSt) (n : Nat) (r : MinRes) (t0 : Instant) : Bytes × UnitSt :=
  let (z, x) := x.rawX r.x
  (leBytes 4 r.v.toNat ++ leBytes 3 z ++ [BitVec.ofNat 8 (n * 8 + 4 * b2n r.flt + 2 * b2n r.clip + b2n r.settle)] ++
    leBytes 4 (ofInt 32 (((r.te : Int) - t0) / 256)) ++ leBytes 4 r.oidx, x)

/-- Inserts an output by availability, then input number. -/
def resInsert (e : Nat × MinRes) : List (Nat × MinRes) → List (Nat × MinRes)
  | [] => [e]
  | f :: l => if e.2.avail < f.2.avail ∨ (e.2.avail = f.2.avail ∧ e.1 ≤ f.1) then e :: f :: l else f :: resInsert e l

/-- The outputs that an INPUTS record of the period from `t0` to `t1` carries, in order. -/
def UnitSt.inputsDue (x : UnitSt) (t0 t1 : Instant) : List (Nat × MinRes) :=
  let d := x.fld REEL_CFG.INDIV
  (x.mins.chs.flatMap (fun kc =>
    if bitAt (x.fld REEL_INSEL.IN) kc.1 then
      (kc.2.hist.filter (fun r => decide (t0 ≤ r.avail) && decide (r.avail < t1) && decide (r.oidx % d = 0))).map (fun r => (kc.1, r))
    else [])).foldl (fun l e => resInsert e l) []

/-- The INPUTS payload (R374). -/
def UnitSt.inputsBody (x : UnitSt) (t0 t1 : Instant) : Bytes × UnitSt :=
  (x.inputsDue t0 t1).foldl (fun bx e =>
    let r := bx.2.inputEntry e.1 e.2 t0
    (bx.1 ++ r.1, r.2)) ([], x)

/-- The EVENTS payload of a list of stamps (R376). -/
def eventsBody (es : List (Nat × Instant)) : Bytes :=
  es.flatMap (fun e => leBytes 8 (e.2 / ns) ++ leBytes 2 (e.1 % 512) ++ leBytes 6 0)

/-- The largest record set of a period at period time `t` (R377). -/
def UnitSt.reelMax (x : UnitSt) (t : Nat) : Nat :=
  let cells := if x.fld REEL_CFG.CELLDIV = 0 then 0
    else ((x.livePorts.filter (fun sp => bitAt (x.fld REEL_CELLSEL.STR (sp.1 / 32)) (sp.1 % 32))).map (fun sp => 16 + 8 * x.ncell sp.2)).foldl (· + ·) 0
  let d := x.fld REEL_CFG.INDIV
  let inputs := if d = 0 then 0
    else 16 + 16 * ((bitsOf 32 (x.fld REEL_INSEL.IN)).map (fun n =>
      let iv := d * (2 ^ x.fld MIN_CHCFG.K n * x.fld MIN_CHCFG.DIV n * 2)
      (t * 250 + iv - 1) / iv)).foldl (· + ·) 0
  let sel (f : Fld) (n w : Nat) : Nat := ((List.range n).map (fun i => (bitsOf w (x.fld f i)).length)).foldl (· + ·) 0
  let loop := if x.bit REEL_CFG.LOOPEN then 16 + 16 * (sel REEL_LOOPSEL.CH 3 32 + sel REEL_GRPSEL.GRP 1 16) else 0
  32 + cells + inputs + loop + (if x.bit REEL_CFG.ARMEN then 112 else 0) + (if x.bit REEL_CFG.EVEN then 1040 else 0)

/-- Whether the stream would exceed 4.0 GB/s at period time `t` (R377). -/
def UnitSt.reelOver (x : UnitSt) (t : Nat) : Bool := decide (1000 * t < x.reelMax t)

/-! Staging and the end of a capture (R392 to R395). -/

/-- Length of a record in bytes. -/
def ReelRec.size (r : ReelRec) : Nat := 16 + r.body.length

def stageUse (spare : Bool) (l : List ReelRec) : Nat := ((l.filter (fun r => r.spare == spare)).map (·.size)).foldl (· + ·) 0

/-- The unreserved space of staging and the reserve (R394). -/
def stageRoom : Nat := 16777216 - 262144
def stageReserve : Nat := 262144

/-- Shows how full staging is. -/
def UnitSt.showStage (x : UnitSt) : UnitSt :=
  x.set REEL_FILL.STG ((stageUse false x.reel.staging + stageUse true x.reel.staging) / 1024)

/-- Appends records to staging. -/
def UnitSt.stage (x : UnitSt) (rs : List ReelRec) : UnitSt :=
  ({ x with reel := { x.reel with staging := x.reel.staging ++ rs } } : UnitSt).showStage

/-- Ends the capture: STOPPED. -/
def UnitSt.captureStopped (x : UnitSt) : UnitSt :=
  { x.set REEL_STAT.CAP 3 with reel := { x.reel with start := false, ending := none, stopAt := none, fired := [], marks := [], events := [] } }

/-- The capture ends because the link went down or bus mastering was cleared (R393): staging is discarded, and the STOP
record waits for the link. -/
def UnitSt.reelLinkEnd (x : UnitSt) : UnitSt :=
  if x.fld REEL_STAT.CAP = 1 ∨ x.fld REEL_STAT.CAP = 2 then
    let x := (x.captureStopped).err REEL_ERR.LINK
    ({ x with reel := { x.reel with staging := [], linkStop := some (x.reel.closed, x.rflags x.reel.closed) } } : UnitSt).showStage
  else x

/-- The link is back: the STOP record of a LINK end (R393).
Log entry 208 (DEDUCED). -/
def UnitSt.reelLinkBack (x : UnitSt) : UnitSt :=
  match x.reel.linkStop with
  | none => x
  | some (pn, flags) =>
    let x : UnitSt := { x with reel := { x.reel with linkStop := none } }
    (x.stage [⟨0x0A, pn, 0, flags, stopBody 4 0, true, true⟩]).evt REEL_EVT.STOP

/-- A period change to `t` during a capture recomputes B_max (R377): above the rate the capture ends with the last period
before it. -/
def UnitSt.reelBudget (x : UnitSt) (t : Nat) : UnitSt :=
  if x.capturing && x.reelOver t then { x with reel := { x.reel with ending := some 5 } } else x

end Sys2Proof.Machine
end

