-- ==== Sys2Proof/Machine/Inputs.lean ====
section
/-! DEFINITION. The central measurement inputs (R338 to R358) and the trip inputs (R360 to R362). -/
namespace Sys2Proof.Machine

/-! Results. -/

/-- The end edge of the output after the last one (R350).
Log entry 113 (DEDUCED). -/
def MinCh.nextEdge (c : MinCh) : Instant := c.anchor + (c.idx + 1) * 2 ^ c.k * c.clk

/-- The effective instant of an output whose end edge is `t` (R344). -/
def MinCh.effective (c : MinCh) (t : Instant) : Instant :=
  t + MIN_CHDLY.DLY.get c.dly 0 * (ns / 4) - c.order * (2 ^ c.k - 1) * c.div * ns

/-- What an input reports without a valid result: v 0.0 and x 0 at its anchor, with SETTLE (R353). -/
def MinCh.none_ (c : MinCh) : MinRes :=
  { v := 0, x := 0, te := c.anchor, avail := c.anchor, oidx := 0, run := c.run, clip := false, settle := true, flt := false }

/-- What an input delivers in fault: a quiet NaN, or its last valid result (R357).
Log entry 114 (DEDUCED). -/
def UnitSt.faultRes (x : UnitSt) (n : Nat) (r : MinRes) : MinRes :=
  let c := x.inp n
  if x.bit MIN_CHCFG.FVAL n then { c.last.getD c.none_ with flt := true, avail := r.avail, oidx := r.oidx, run := r.run, settle := r.settle }
  else { r with v := 0x7FC00000, flt := true }

/-- Adds an output to an input's history: all available since `old` stay, and the newest valid result before them.
Log entry 209 (DEDUCED). -/
def trimHist (old : Instant) (r : MinRes) (l : List MinRes) : List MinRes :=
  let keep := l.takeWhile (fun q => decide (old ≤ q.avail))
  let rest := l.dropWhile (fun q => decide (old ≤ q.avail))
  r :: (keep ++ (rest.find? (fun q => !q.settle && !q.flt)).toList)

/-- How long outputs are kept: four periods and the longest latency that `CLP_ARMIn.LAT` gives, after which the sub-steps they
belong to are integrated and the records of Reel closed.
Log entry 209 (DEDUCED). -/
def UnitSt.keepFor (x : UnitSt) : Nat := 4 * x.period + 0x10000 * 10 * ns

/-- The raw result of a decimator sum, in 2^-40 of full scale (R347). -/
def rawOf (r : Nat) (sum : Nat) : Int := (2 * (min sum r : Nat) - (r : Int)) * (2 ^ 40 / r : Nat)

/-- v := round32(GAIN × (x − OFS)) (R348). -/
def UnitSt.scaled (x : UnitSt) (n : Nat) (z : Int) : Word :=
  r32 ((b32 (BitVec.ofNat 32 (x.fld MIN_CHGAIN.GAIN n))).mul
    ((Val.ofFrac z (2 ^ 40)).sub (b32 (BitVec.ofNat 32 (x.fld MIN_CHOFS.OFS n)))))

/-- The next output of input `n`, with decimator sum `sum` (the ones of the sinc filter, 0 to R^N). It goes to Caliper, the loop
engines and Reel, and is discarded where one of them does no work (R42, R600).
Log entries 114 (DEDUCED), 206 (DEDUCED). -/
def UnitSt.minResult (x : UnitSt) (n sum : Nat) : UnitSt :=
  let c := x.inp n
  if !c.on || !x.mckRuns n || !x.works 0x30000 || !x.tim.counting then x
  else
    let edge := c.nextEdge
    let avail := edge + x.rtd n * (ns / 4) + 20 * ns
    let x := x.tick avail
    let z := rawOf (2 ^ (c.k * c.order)) sum
    let clip := decide (((x.fld MIN_CHDLY.CLIPTH n : Nat) : Int) * 2 ^ 32 < (z.natAbs : Int))
    let i := c.idx + 1
    let good : MinRes := { v := x.scaled n z, x := z, te := c.effective edge, avail := avail, oidx := i, run := c.run
                           clip := clip, settle := false, flt := false }
    let prev := c.hist.head?
    let settling := decide (i ≤ c.order)
    let inFault := x.bit MIN_CHSTAT.FLT n && c.cond
    let held : MinRes := { c.last.getD c.none_ with avail := avail, oidx := i, run := c.run, settle := true }
    let r0 := if settling then held else good
    let r := if inFault then x.faultRes n r0 else r0
    let x := x.setInp n { c with idx := i, hist := trimHist (avail - x.keepFor) r c.hist
                                 last := if settling || inFault then c.last else some good }
    let x := x.set MIN_CHRES.V r.v.toNat n
    let x :=
      if settling || inFault then x
      else
        let x := (x.set MIN_CHSTAT.SETTLE 0 n).set MIN_CHSTAT.CLIP (b2n clip) n
        let x := ((x.set MIN_CHSTAT.FLT 0 n).set MIN_CHSTAT.NOCLK 0 n).set MIN_CHSTAT.STUCK 0 n
        let w := x.fld MIN_FLT.FLT
        (if bitAt w n then x.set MIN_FLT.FLT (w ^^^ (1 <<< n)) else x).showInputs
    let x := if x.away 0x22000 || x.away 0x23000 || x.away 0x31000 then x.err MIN_ERR.XING else x
    x.reelResult n prev r

/-- MIN_RESULT. -/
def execMinResult (u : UnitId) (n : Fin 32) (sum : Nat) (s : State) : Host.Outcome State Fault Refusal :=
  unitStep s u (fun x => x.minResult n.val sum)

/-- What a consumer takes of input `n`: the latest valid result that `p` admits, in fault what R357 gives, and without a
valid result what R353 gives. -/
def UnitSt.inputAt (x : UnitSt) (n : Nat) (p : MinRes → Bool) : MinRes :=
  let c := x.inp n
  if x.bit MIN_CHSTAT.FLT n && c.cond then
    let r := c.hist.head?.getD c.none_
    x.faultRes n { r with te := (c.last.getD r).te }
  else
    match c.hist.find? (fun r => !r.settle && !r.flt && p r) with
    | some r => { r with settle := x.bit MIN_CHSTAT.SETTLE n }
    | none => if x.bit MIN_CHSTAT.SETTLE n then { c.last.getD c.none_ with settle := true } else c.none_

/-- RTD_CHANGE: the measured RTD of an input; a change of more than 2 ns compares Λ again.
Log entry 115 (DEDUCED). -/
def execRtdChange (u : UnitId) (n : Fin 32) (rtd : BitVec 12) (s : State) : Host.Outcome State Fault Refusal :=
  unitStep s u (fun x =>
    if !x.works 0x30000 || MIN_CHCFG.CKSRC.get (x.inp n.val).cfg 0 == 1 then x
    else UnitSt.rtdMoved x (x.set MIN_CHSTAT.RTD rtd.toNat n.val))

/-! Converter sync (R350 to R352). -/

/-- The period of the first command launch at least 1 µs after `t`: every period has one, but where all strands run at low rate
the thirty-third of a low-rate cycle (R139, R351). -/
def UnitSt.syncLaunch (x : UnitSt) (t : Instant) : Nat :=
  let full := x.livePorts.any (fun sp => decide (3 ≤ x.pstate sp.2) || x.viaPartner sp.2) || !x.livePorts.any (fun sp => x.pstate sp.2 == 1)
  let ofs := if full then x.cmdOfs else x.statOfs
  let k := x.pn + (t + us - x.t0 x.pn - ofs + x.period - 1) / x.period
  if full then k else k + (96 - k % 64) % 64

/-- A write of 1 to `MIN_SYNC.REQ` at instant `t`: the frames of the launch carry SYNC, and their execution boundary is the
sync's.
Log entry 205 (DESIGN CHOICE). -/
def UnitSt.syncRequest (x : UnitSt) (t : Instant) : UnitSt :=
  if !x.works 0x30000 then x
  else if !x.isHolder then x.set MIN_SYNC.RES 2
  else
    let pn := x.syncLaunch t + 1
    let x := (x.set MIN_SYNC.RES 1).syncDue pn
    if x.splUp then x.say (.syncPn pn) else x

/-- MIN_SYNC_REQ. -/
def execMinSyncReq (u : UnitId) (q : Requester) (at_ : Instant) (s : State) : Host.Outcome State Fault Refusal :=
  unitStep s u (fun x => (x.tick at_).guard q true 0x30344 (fun x => x.syncRequest at_))

/-- SYNC_PN_RX: the boundary of a sync named over Splice. -/
def execSyncPnRx (u : UnitId) (pn : BitVec 48) (s : State) : Host.Outcome State Fault Refusal :=
  unitStep s u (fun x => if x.isHolder || x.inQuiet then x else x.syncDue pn.toNat)

/-- CONVERTER_SYNC: at the sync's boundary all decimators restart together. -/
def execConverterSync (u : UnitId) (s : State) : Host.Outcome State Fault Refusal :=
  unitStep s u (fun x =>
    if !x.mins.syncs.contains x.pn || !x.works 0x30000 then x
    else
      let x : UnitSt := { x with mins := { x.mins with syncs := x.mins.syncs.filter (fun p => decide (x.pn < p)) } }
      let x := (List.range 32).foldl (fun x n => x.minRestart n (x.t0 x.pn)) x
      let x := (x.inc MIN_CNT.SYNCS).setPair MIN_SYNCPN_LO.PN_LO MIN_SYNCPN_HI.PN_HI x.pn
      if x.fld MIN_SYNC.RES = 1 then x.set MIN_SYNC.RES 3 else x)

/-! Faults on bitstreams (R356 to R358). -/

/-- An input is in fault for the reason that `bit` and `err` show; an entry is counted where it was in none. -/
def UnitSt.inputFault (x : UnitSt) (n : Nat) (bit err : Fld) : UnitSt :=
  if !(x.inp n).on || !x.works 0x30000 || x.bit bit n && (x.inp n).cond then x
  else
    let was := (x.inp n).cond
    let x := (((x.set bit 1 n).set MIN_CHSTAT.FLT 1 n).set MIN_FLT.FLT (x.fld MIN_FLT.FLT ||| (1 <<< n))).err err
    let x := if was then x else x.inc MIN_CNT.FLTEV
    let x := x.onInp n (fun c => { c with cond := true })
    let x := if x.bit MIN_CHCFG.FVAL n then x else x.set MIN_CHRES.V 0x7FC00000 n
    x.showInputs

/-- MIN_NOCLK: MCKIn has shown no rising edge for 16 periods of MCKOn, which runs. -/
def execMinNoclk (u : UnitId) (n : Fin 32) (s : State) : Host.Outcome State Fault Refusal :=
  unitStep s u (fun x =>
    if MIN_CHCFG.CKSRC.get (x.inp n.val).cfg 0 = 1 ∨ !x.mckRuns n.val then x
    else x.inputFault n.val MIN_CHSTAT.NOCLK MIN_ERR.NOCLK)

/-- MIN_STUCK: MDATn has held one value for STUCKN bits; STUCKN 0 turns the check off. -/
def execMinStuck (u : UnitId) (n : Fin 32) (s : State) : Host.Outcome State Fault Refusal :=
  unitStep s u (fun x =>
    if x.fld MIN_CHCFG.STUCKN n.val = 0 then x else x.inputFault n.val MIN_CHSTAT.STUCK MIN_ERR.STUCK)

/-- MIN_FAULT_END: the fault condition has ended; the decimator restarts at the first edge after that, and reports its last valid
result while it settles.
Log entry 206 (DEDUCED). -/
def execMinFaultEnd (u : UnitId) (n : Fin 32) (at_ : Instant) (s : State) : Host.Outcome State Fault Refusal :=
  unitStep s u (fun x =>
    let x := x.tick at_
    if !(x.inp n.val).cond || !x.works 0x30000 then x
    else
      let x := x.set MIN_CHRES.V ((x.inp n.val).last.getD (x.inp n.val).none_).v.toNat n.val
      (x.onInp n.val (fun c => { c with cond := false })).minRestart n.val (at_ + 1))

/-! Trip inputs (R360 to R362). -/

/-- A watched trip input has changed to `level` while MIN works: its stamp, its latch bit and event, and STOP for a converter trip
(R360, R361). -/
def UnitSt.tripSeen (x : UnitSt) (n : Nat) (level : Bool) (at_ : Instant) : UnitSt :=
  let t := at_ * 8 / ns
  let x := (x.setPair MIN_TTS_LO.NS_LO MIN_TTS_HI.NS_HI (t / 8 % 2 ^ 64) n).set MIN_TTS_F.FRAC (t % 8) n
  let x := x.set MIN_TTS_F.DIR (b2n level) n
  let x : UnitSt := { x with mins := { x.mins with
    stamps := sset (fun _ => []) x.mins.stamps n ((t :: sget (fun _ => []) x.mins.stamps n).take 8) } }
  let x := (x.set MIN_TRIPSTAT.LATCH (putBit (x.fld MIN_TRIPSTAT.LATCH) n true)).evtBit 0x30000 n
  let x := x.reelTrip n level (t * (ns / 8))
  if x.tripClass n = 2 then x.stopAll at_ else x

/-- A watched trip input has changed in Quiet: AON records it, and sends STOP for a converter trip (R362). -/
def UnitSt.tripQuiet (x : UnitSt) (n : Nat) (at_ : Instant) : UnitSt :=
  let first := !x.quietTrip
  let x : UnitSt := { x with quietTrip := true }
  let x := (x.set PWR_QTRIP.CHG (putBit (x.fld PWR_QTRIP.CHG) n true)).err PWR_ERR.QTRIP
  let x := if first then x.setPair PWR_QTRIPT_LO.NS_LO PWR_QTRIPT_HI.NS_HI (at_ / ns / 40 * 40 % 2 ^ 64) else x
  if x.tripClass n = 2 then x.stopAll at_ else x

/-- A trip input changes to `level`, which LVL then shows in every unit state; who watches it, if its class has it watched, is MIN, or
AON in Quiet.
Log entry 116 (DEDUCED). -/
def UnitSt.tripChange (x : UnitSt) (n : Nat) (level : Bool) (at_ : Instant) : UnitSt :=
  let x := (x.tick at_).set MIN_TRIPSTAT.LVL (putBit (x.fld MIN_TRIPSTAT.LVL) n level)
  if x.tripClass n = 0 then x
  else if x.inQuiet then x.tripQuiet n at_
  else if x.works 0x30000 then x.tripSeen n level at_
  else x

/-- TRIP_INPUT_CHANGE.
Log entries 115 (DEDUCED), 116 (DEDUCED). -/
def execTripInputChange (u : UnitId) (n : Fin 16) (level : Bool) (at_ : Instant) (s : State) : Host.Outcome State Fault Refusal :=
  unitStep s u (fun x => x.tripChange n.val level at_)

/-- QUIET_TRIP_CHANGE: the same event as AON sees it.
Log entries 116 (DEDUCED), 207 (DEDUCED). -/
def execQuietTripChange (u : UnitId) (n : Fin 16) (level : Bool) (at_ : Instant) (s : State) : Host.Outcome State Fault Refusal :=
  unitStep s u (fun x => x.tripChange n.val level at_)

/-- MIN returns on leaving Quiet: at the next boundary, from which it works, it takes up the changes that AON has seen (R362), and the
decimators restart (R355).
Log entry 54 (DEDUCED). -/
def UnitSt.minReturn (x : UnitSt) : UnitSt := { x with mins := { x.mins with back := true, qback := true } }

end Sys2Proof.Machine
end

