-- ==== Sys2Proof/Machine/ClpOps.lean ====
section
/-! DEFINITION. Caliper's records: the reconstructed switching stage (R262 to R264), the mean arm current (R261, R266, R354)
and the integration of charge (R265). -/
namespace Sys2Proof.Machine

/-! Records. -/

/-- Applies `f` to every record of an arm. -/
def UnitSt.onArm (x : UnitSt) (arm : Nat) (f : ClpRec → ClpRec) : UnitSt := (x.armCells arm).foldl (fun x k => x.onRec k f) x

/-- Word 0 of a record. -/
def ClpRec.flags (r : ClpRec) : Nat :=
  b2n r.seeded + 2 * b2n r.stale + 4 * b2n r.unreach + 8 * b2n r.retired + 16 * b2n r.retpend + 32 * b2n r.warn
    + 64 * b2n r.chkfail + 128 * b2n r.hold + 256 * b2n r.fxcl + 512 * b2n r.toggle + 1024 * b2n r.ins + 2048 * b2n r.neg
    + min r.outcnt 15 * 2 ^ 12 + min r.stalecnt 255 * 2 ^ 16 + min r.chkcnt 255 * 2 ^ 24

/-- The 16 words of a record. -/
def ClpRec.words (r : ClpRec) : List Word :=
  [BitVec.ofNat 32 r.flags, r.vf, r.vx, r.c, r.esr, r.esrt, r.q.truncate 32, (r.q >>> 32).truncate 32, r.va,
   r.qa.truncate 32, (r.qa >>> 32).truncate 32, BitVec.ofNat 32 (r.tlast / ns),
   BitVec.ofNat 32 (min r.wear 65535 + min r.rcnt 255 * 2 ^ 16), r.chkd, r.vm, 0]

/-- A record as 64 bytes, words little-endian. -/
def ClpRec.bytes (r : ClpRec) : Bytes := r.words.flatMap (fun w => leBytes 4 w.toNat)

/-! Values. -/

/-- A finite value in lowest terms. -/
def Val.norm : Val → Val
  | .fin s n d => let g := Nat.gcd n d
                  if g = 0 then .fin s n d else .fin s (n / g) (d / g)
  | v => v

/-- The sign of a value: 1, −1, or 0. -/
def Val.sgn (v : Val) : Int :=
  let z : Val := .fin false 0 1
  if z.lt v then 1 else if v.lt z then -1 else 0

/-- A span of 2^-16 ns units in seconds. -/
def spanS (z : Int) : Val := .ofFrac z (65536 * 1000000000)

/-! The reconstructed switching stage (R262 to R264). -/

/-- Codes of a period other than a slot. -/
def codeOff : Nat := 2 ^ 40
def codeFired : Nat := 2 ^ 41
def codeAgain : Nat := 2 ^ 42

/-- e(t) of gate word `g` under the sign of the current (R262). -/
def insertion (bridge : Bool) (g : Nat) (sg : Int) : Int :=
  if 16 ≤ g then 0
  else
    let u1 : Int := if bitAt g 0 then 1 else if bitAt g 1 then 0 else if 0 < sg then 1 else 0
    let u2 : Int := if !bridge then 0 else if bitAt g 2 then 1 else if bitAt g 3 then 0 else if sg < 0 then 1 else 0
    u1 - u2

/-- The gate word of the reconstructed stage. -/
def CellSt.gateWord (x : CellSt) : Nat := x.fld CSW_STATE.GATES + (if x.bit CSW_BYPSTAT.FIRED then 16 else 0)

/-- The instant at which a leg's first change takes effect as things stand (R195, R196). -/
def CellSt.changeAt (x : CellSt) (i : Nat) (s : Instant) : Instant :=
  match (gateOf i (x.leg i).cmd).bind x.gateOn with
  | some t => if x.eat && decide (s < t + x.minPulse s) then t + x.minPulse s else s
  | none => s

/-- What happens next on leg `i` from `cur` on: the instant and the kind, in the order of kinds at one instant: 0 a refresh
ends, 1 and 4 a gate call, 2 a refresh starts, 3 a change.
Log entry 151 (DEDUCED). -/
def CellSt.legEvents (x : CellSt) (cur : Instant) (i : Nat) : List (Instant × Nat × Nat) :=
  let l := x.leg i
  let early := if x.eat && x.fld CSW_MINP.MINP != 0 then 1 else 4
  (match l.refr with | some (_, e, _) => [(e, 0, i)] | none => [])
    ++ (match l.calls with | (due, _) :: _ => [(due, early, i)] | [] => [])
    ++ (match l.refr, l.sched with | none, c :: _ => [(x.changeAt i c.at_, 3, i)] | _, _ => [])
    ++ (match l.refr, x.gateOn (2 * i) with
        | none, some t =>
          let rint := CSW_REFR.RINT.get (x.word 0x404C) 0 * us
          let r := t + (if x.eat then max rint (x.fld CSW_MINP.MINP * qns) else rint)
          if x.bit CSW_CFG.REFR && rint != 0 && decide (cur ≤ r) then [(r, 2, i)] else []
        | _, _ => [])

/-- The first of a list of events. -/
def firstEvent (es : List (Instant × Nat × Nat)) : Option (Instant × Nat × Nat) :=
  es.foldl (fun m e =>
    match m with
    | none => some e
    | some f => if e.1 < f.1 ∨ (e.1 = f.1 ∧ e.2.1 < f.2.1) then some e else some f) none

/-- Carries out an event on a leg. -/
def CellSt.legEvent (x : CellSt) (kind i : Nat) : CellSt :=
  match kind with
  | 0 => x.refreshEnd i
  | 2 => x.refreshStart i
  | 3 => x.swChange i
  | _ => x.gateCall i

/-- Puts a gate word down from instant `t` on, newest first. -/
def pushSeg (t : Instant) (g : Nat) : List (Instant × Nat) → List (Instant × Nat)
  | (u, h) :: l => if h = g then (u, h) :: l else if u = t then (t, g) :: l else (t, g) :: (u, h) :: l
  | [] => [(t, g)]

/-- Runs the reconstructed stage from `cur` up to `b`, with the gate words, newest first.
Log entry 86 (DEDUCED). -/
def shadowRun : Nat → CellSt → Instant → Instant → List (Instant × Nat) → CellSt × List (Instant × Nat)
  | 0, x, _, _, segs => (x, segs)
  | n + 1, x, cur, b, segs =>
    let es := x.legEvents cur 0 ++ (if x.bridge then x.legEvents cur 1 else [])
    match firstEvent es with
    | none => (x, segs)
    | some (t, k, i) =>
      if b ≤ t then (x, segs)
      else
        let t := max t cur
        let x := x.legEvent k i
        shadowRun n x (if k = 2 ∧ (x.leg i).refr.isNone then t + 1 else t) b (pushSeg t x.gateWord segs)

/-- The settings of an arm, taken by the reconstructed stage of a cell at the boundary `t0` of period `pn` (R264).
Log entry 86 (DEDUCED). -/
def UnitSt.shadowSet (x : UnitSt) (arm k pn t : Nat) (t0 : Instant) (y : CellSt) : CellSt :=
  let y := (((y.setPn pn).set CTIM_PERIOD.T t).set CSW_CFG.BRIDGE (b2n (x.conf.fullBridge.contains k))).set CSW_CFG.EAT (x.fld CAL_ARMSW.EAT arm)
  let y := (y.set CSW_CFG.REFR (x.fld CAL_ARMSW.REFR arm)).set CSW_CFG.ZSEL (x.fld CAL_ARMSW.ZSEL arm)
  let y : CellSt := { y with tim := { y.tim with t0 := t0 }
                             sw := { y.sw with oldDt := y.word 0x4044, oldMinp := y.word 0x4048, oldRefr := y.word 0x404C } }
  let y := (y.set CSW_DT.DT (x.fld CAL_ARMSW.DT arm)).set CSW_MINP.MINP (x.fld CAL_ARMSW.MINP arm)
  (y.set CSW_REFR.RINT (x.fld CAL_ARMREF.RINT arm)).set CSW_REFR.REFW (x.fld CAL_ARMREF.REFW arm)

/-- What the reconstructed stage executes at a boundary: the stage, and the slot it last executed (R263). -/
def CellSt.shadowBoundary (y : CellSt) (pn : Nat) (t0 : Instant) (code ran : Nat) : CellSt × Nat :=
  let held := t0 - 300 * ns
  if code = codeFired then (y.gatesOff.set CSW_BYPSTAT.FIRED 1, ran)
  else
    let y := y.set CSW_BYPSTAT.FIRED 0
    if code = codeOff then (y.gatesOff, ran)
    else
      let slot := if code = codeAgain then ran else code
      (y.commandSlot pn t0 held slot, slot)

/-- The code of the record for the boundary of period `pn`; before one is known, blocked. -/
def ClpRec.code (r : ClpRec) (pn : Nat) : Option Nat := (r.codes.find? (fun c => c.1 == pn)).map (·.2)

/-- The record's stage crosses the boundary of period `pn`.
Log entry 88 (DEDUCED). -/
def UnitSt.shadowCross (x : UnitSt) (arm k pn t : Nat) (t0 : Instant) (r : ClpRec) : ClpRec :=
  let y := x.shadowSet arm k pn t t0 r.sw
  let (y, ran) := y.shadowBoundary pn t0 ((r.code pn).getD 3) r.ran
  { r with sw := y, ran := ran, codes := r.codes.filter (fun c => decide (pn ≤ c.1))
           mark := some { pn := pn, vf := r.vf, q := r.q, sw := r.sw, ran := r.ran } }

/-- Runs the record's stage over a sub-step; where the slot of the next period is known it is held from its adoption on
(R191, R199).
Log entries 86 (DEDUCED), 89 (DEDUCED). -/
def ClpRec.runStage (r : ClpRec) (pn : Nat) (a b : Instant) : CellSt × List (Instant × Nat) :=
  let y : CellSt := match r.code (pn + 1) with
    | some c =>
      if c < codeOff then { r.sw with sw := { r.sw.sw with adopted := some ⟨some c, false, r.sw.tim.t0 + r.sw.period - 300 * ns⟩ } } else r.sw
    | none => r.sw
  let (y, segs) := shadowRun 64 y a b [(a, y.gateWord)]
  ({ y with sw := { y.sw with adopted := none } }, segs.reverse)

/-- The integral of e(t) over segments that end at `b`, in 2^-16 ns units. -/
def segInt (bridge : Bool) (sg : Int) (b : Instant) : List (Instant × Nat) → Int
  | [] => 0
  | [(t, g)] => insertion bridge g sg * ((b : Int) - t)
  | (t, g) :: (u, h) :: l => insertion bridge g sg * ((u : Int) - t) + segInt bridge sg b ((u, h) :: l)

/-- The charge of a sub-step: current, integral of e(t), and the draw of the self-supply over it (R265). -/
def UnitSt.dq (x : UnitSt) (cur : Val) (eint : Int) (len : Nat) : Val :=
  (cur.mul (spanS eint)).sub ((Val.ofFrac (x.fld CLP_ILOAD.ILOAD : Nat) 10000).mul (spanS len))

/-- Integrates a sub-step into a record. -/
def UnitSt.integrate (x : UnitSt) (k pn : Nat) (a b : Instant) (cur : Val) (r : ClpRec) : ClpRec :=
  let (y, segs) := r.runStage pn a b
  let dq := x.dq cur (segInt (x.conf.fullBridge.contains k) cur.sgn b segs) (b - a)
  let q := e64 ((b64 r.q).add dq)
  let vf := e32 ((b32 r.vf).add (dq.div (b32 r.c)))
  { r with sw := y, q := q, vf := vf, hist := (({ pn := pn, from_ := a, to_ := b, cur := cur, vf := vf, q := q, segs := segs } : ClpSub) :: r.hist).take 40 }

/-! Sub-steps (R261). -/

/-- The sub-step with number `i` = 10 × PN + j: its PN, start and end. -/
def UnitSt.subStep (x : UnitSt) (i : Nat) : Option (Nat × Instant × Instant) :=
  (x.clp.spans.find? (fun s => s.1 == i / 10)).map (fun s => (i / 10, s.2.1 + i % 10 * s.2.2, s.2.1 + (i % 10 + 1) * s.2.2))

def UnitSt.clpFront (x : UnitSt) (arm : Nat) : Nat := sget (fun _ => 0) x.clp.front arm
def UnitSt.armLat (x : UnitSt) (arm : Nat) : Nat := x.fld CLP_ARMI.LAT arm * 10 * ns

/-- The forecast current of sub-step `i` of arm `arm` (R271). -/
def UnitSt.clpForecast (x : UnitSt) (arm i : Nat) : Val :=
  match x.clp.fcs.find? (fun f => f.1 == i / 10) with
  | some f => b32 ((sget (fun _ => List.replicate 10 0) f.2 arm).getD (i % 10) 0)
  | none => .fin false 0 1

/-- The mean arm current of a sub-step, and whether the input is in fault (R260, R261, R266, R354). -/
def UnitSt.armMean (x : UnitSt) (arm i : Nat) (a b : Instant) : Val × Bool :=
  let n := x.fld CLP_ARMI.SRC arm
  let c := x.inp n
  let sign (v : Val) : Val := if x.bit CLP_ARMI.NEG arm then v.neg else v
  let here := c.hist.filter (fun r => decide (a ≤ r.te) && decide (r.te < b) && decide (r.avail ≤ b + x.armLat arm))
  let good := here.filter (fun r => !r.settle && !r.flt)
  if here.any (·.flt) || (good == [] && c.cond) then (x.clpForecast arm i, true)
  else if good ≠ [] then
    let s : Val := (good.map (fun r => b32 r.v)).foldl (fun (s v : Val) => (s.add v).norm) (Val.fin false 0 1)
    (sign (s.mul (.ofFrac 1 good.length)).norm, false)
  else
    match (c.hist ++ c.last.toList).find? (fun r => !r.settle && !r.flt && decide (r.te < a)) with
    | some r => (sign (b32 r.v), false)
    | none => (x.clpForecast arm i, false)

/-- Integrates the next sub-step of an arm into every record of the arm. -/
def UnitSt.armStep (x : UnitSt) (arm : Nat) : UnitSt :=
  let i := x.clpFront arm
  match x.subStep i with
  | none => x
  | some (pn, a, b) =>
    let (cur, flt) := x.armMean arm i a b
    let x := if flt then x.err CLP_ERR.IARM else x
    let x : UnitSt := { x with clp := { x.clp with
      iarm := if flt then (if x.clp.iarm.contains arm then x.clp.iarm else arm :: x.clp.iarm) else x.clp.iarm.filter (· != arm)
      front := sset (fun _ => 0) x.clp.front arm (i + 1) } }
    let was := x
    let t := (b - a) / (25 * ns)
    (x.armCells arm).foldl (fun (x : UnitSt) k => x.onRec k (fun r =>
      let r := if i % 10 = 0 then was.shadowCross arm k pn t a r else r
      let r := was.integrate k pn a b cur r
      { r with stale := r.stale || flt })) x

/-- Integrates the sub-steps of an arm up to number `i`, at most `n` of them.
Log entry 90 (DEDUCED). -/
def UnitSt.armSteps (x : UnitSt) (arm i : Nat) : Nat → UnitSt
  | 0 => x
  | n + 1 => if x.clpFront arm < i then (x.armStep arm).armSteps arm i n else x

/-! The slots of a boundary (R258, R263, R297). -/

/-- The holder's slot of cell `k` on port `p` for the boundary of period `pn`: the unit's own while it is the holder, else that of
the holder's frame received, and where none was received the unit's own.
Log entry 87 (DEDUCED). -/
def UnitSt.slotOf (x : UnitSt) (p k pn : Nat) : Nat :=
  let own := x.slotFor (x.port p).blk k
  let rx := sget (fun _ => 2 ^ 40) (x.port p).partnerCmd (k % 64)
  if !x.isHolder && (x.port p).partnerPn == some (pn - 1) && decide (rx < 2 ^ 40) then rx else own

/-- FLAGS.BYP of the last valid status of a cell. -/
def UnitSt.fired (x : UnitSt) (k : Nat) : Bool := bitAt (slotFlags (x.view k).slot) 7 && (x.view k).slotPn.isSome

/-- Caliper at the boundary of period `x.pn`: the period's sub-steps, and each cell's slot with INS and NEG.
Log entry 87 (DEDUCED). -/
def UnitSt.clpBoundary (x : UnitSt) : UnitSt :=
  if !x.works 0x22000 || !x.tim.counting then x
  else
    let pn := x.pn
    let span := (pn, x.t0 pn, x.period / 10)
    let jump := match x.clp.spans.getLast? with | some s => s.1 + 1 != pn | none => true
    let low := (List.range 6).foldl (fun m a => min m (x.clpFront a / 10)) pn
    let x : UnitSt := { x with clp := { x.clp with
      spans := if jump then [span] else (x.clp.spans.filter (fun s => decide (low ≤ s.1))) ++ [span]
      front := if jump then (List.range 6).foldl (fun m a => sset (fun _ => 0) m a (10 * pn)) [] else x.clp.front
      fcs := x.clp.fcs.filter (fun f => decide (low ≤ f.1)) } }
    x.livePorts.foldl (fun x sp => (strandCells sp.1 (x.ncell sp.2)).foldl (fun (x : UnitSt) k =>
      let s := x.slotOf sp.2 k pn
      let b := resolveCode (x.conf.fullBridge.contains k) (s % 4)
      let code := if x.fired k then codeFired else s
      x.onRec k (fun r => { r with ins := b == 1 || b == 2, neg := b == 2, codes := (pn, code) :: r.codes.filter (fun c => c.1 != pn) })) x) x

/-- The period that runs takes a new length (R298). -/
def UnitSt.clpPeriod (x : UnitSt) : UnitSt :=
  { x with clp := { x.clp with spans := x.clp.spans.map (fun s => if s.1 = x.pn then (s.1, s.2.1, x.period / 10) else s) } }

end Sys2Proof.Machine
end

