-- ==== Sys2Proof/Machine/Clp.lean ====
section
/-! DEFINITION. Caliper's pass at a compute start: exceptions of the executed slot (R263), fusion and checks (R267 to R270),
projection (R272), capacitance, ESR and wear (R275 to R281), and its commands (R282, R300). -/
namespace Sys2Proof.Machine

/-! Availability (R283 to R285). -/

/-- What the unit knows of the partner's ports at a compute start: whether frames relayed over Splice leave from them, that is
whether they are past TRAIN (R284). -/
def UnitSt.relayPorts (x y : UnitSt) : UnitSt :=
  x.livePorts.foldl (fun (x : UnitSt) sp =>
    let up := match y.portOf sp.1 with | some p => decide (3 ≤ y.pstate p) && y.portOn p | none => false
    x.onPort sp.2 (fun q => { q with canRelay := up })) x

/-- Whether cell `h` of the strand of port `p` can be reached (R284).
Log entry 204 (DEDUCED). -/
def UnitSt.canReach (x : UnitSt) (p h : Nat) : Bool :=
  let n := x.ncell p
  let at_ (u : UnitId) (r : Nat) : Bool := match u with | .a => decide (h < r) | .b => decide (n ≤ h + r)
  at_ x.id (x.fld STRP_STAT.REACH p) || (x.splUp && (x.port p).canRelay && at_ x.id.other ((x.port p).preach.getD 0))

/-- The BSTATE of a cell that is not available to Calender, in the order of R283; none where it is available. The hold stands
apart.
Log entry 100 (DEDUCED). -/
def UnitSt.reason (x : UnitSt) (k : Nat) : Option Nat :=
  let v := x.view k
  let r := x.clpRec k
  let f := slotFlags v.slot
  if v.slotPn.isNone || bitAt f 7 || bitAt f 8 || flagCstate v.slot != 0 || r.unreach || !r.seeded || r.chkfail then some 3
  else if r.retired || r.fxcl then some 0 else none

/-- Whether a cell is available (R283). -/
def UnitSt.available (x : UnitSt) (k : Nat) : Bool := (x.reason k).isNone && !(x.clpRec k).hold

/-- The available cells of an arm other than `k`. -/
def UnitSt.availableBut (x : UnitSt) (arm k : Nat) : Nat := ((x.armCells arm).filter (fun j => j != k && x.available j)).length

/-! History (R267, R268). -/

/-- The history's value at `te` by linear interpolation; none outside it. -/
def histAt (val : ClpSub → Val) (te : Instant) : List ClpSub → Option Val
  | e :: p :: l =>
    if te ≤ e.to_ ∧ p.to_ ≤ te then
      (if te = e.to_ then some (val e)
       else some ((val p).add (((val e).sub (val p)).mul (.ofFrac ((te : Int) - p.to_) (e.to_ - p.to_)))))
    else histAt val te (p :: l)
  | [e] => if te = e.to_ then some (val e) else none
  | [] => none

/-- The sub-step that holds `te`, with those before it, newest first, and the one after it. -/
def histFind (te : Instant) : Option ClpSub → List ClpSub → Option (Option ClpSub × List ClpSub)
  | _, [] => none
  | next, e :: l => if e.from_ ≤ te then some (next, e :: l) else histFind te (some e) l

/-- The gate word of a sub-step at `t`. -/
def ClpSub.gatesAt (e : ClpSub) (t : Instant) : Nat :=
  e.segs.foldl (fun g s => if s.1 ≤ t then s.2 else g) ((e.segs.head?.map (·.2)).getD 0)

/-- e(t) over a sub-step where it is constant. -/
def ClpSub.constE (bridge : Bool) (e : ClpSub) : Option Int :=
  match e.segs.map (fun s => insertion bridge s.2 e.cur.sgn) with
  | v :: l => if l.all (· == v) then some v else none
  | [] => none

/-- Whether e(t) and the sign of the current are the same throughout sub-steps j − 2 to j + 1 (R279). -/
def steady (bridge : Bool) : Option (Option ClpSub × List ClpSub) → Bool
  | some (some n, j :: a :: b :: _) =>
    match n.constE bridge with
    | some v => [j, a, b].all (fun e => e.constE bridge == some v && e.cur.sgn == n.cur.sgn)
    | none => false
  | _ => false

/-- Adds `d` to VF and to every history entry at or after `te` (R268).
Log entry 92 (DEDUCED). -/
def ClpRec.correct (r : ClpRec) (te : Instant) (d : Val) : ClpRec :=
  { r with vf := e32 ((b32 r.vf).add d)
           hist := r.hist.map (fun e => if te ≤ e.to_ then { e with vf := e32 ((b32 e.vf).add d) } else e) }

/-! Wear (R280, R281). -/

/-- The larger of two values; a NaN prevails. -/
def Val.max (a b : Val) : Val :=
  match a, b with
  | .nan, _ => .nan
  | _, .nan => .nan
  | a, b => if a.lt b then b else a

/-- The wear index of R280; its rounding to 1/4096 is free, and so is an index the terms do not give.
Log entries 12 (DESIGN CHOICE), 96 (DESIGN CHOICE). -/
def UnitSt.wearIndex (x : UnitSt) (arm : Nat) (r : ClpRec) : Nat × UnitSt :=
  let cnom := b32 (BitVec.ofNat 32 (x.fld CLP_CNOM.CNOM arm))
  let enom := b32 (BitVec.ofNat 32 (x.fld CLP_ENOM.ENOM arm))
  let ct := ((cnom.sub (b32 r.c)).div cnom).div (.ofFrac (x.fld CLP_WCFG.CRET : Nat) 1000)
  let et := (((b32 r.esrt).sub enom).div enom).div (.ofFrac (x.fld CLP_WCFG.ERET : Nat) 100)
  match (ct.max et).scale 4096 with
  | .nan => let (v, x) := x.draw
            (v % 65536, x)
  | .inf s => (if s then 0 else 65535, x)
  | .fin s n d =>
    if s ∨ n = 0 then (0, x)
    else if n % d = 0 then (min (n / d) 65535, x)
    else
      let (v, x) := x.draw
      (min (n / d + v % 2) 65535, x)

/-- WEAR after an update of C or ESR; a warning at WARNTH, and after an update of C the count of updates at or above
RETTH. -/
def UnitSt.takeWear (x : UnitSt) (arm k : Nat) (ofC : Bool) : UnitSt :=
  let (w, x) := x.wearIndex arm (x.clpRec k)
  let high := decide (x.fld CLP_WTH.RETTH ≤ w)
  let warn := decide (x.fld CLP_WTH.WARNTH ≤ w)
  let r := x.clpRec k
  let x := if warn ∧ !r.warn then x.err CLP_ERR.WARN else x
  x.onRec k (fun r => { r with wear := w, warn := r.warn || warn
                               rcnt := if ofC then (if high then min (r.rcnt + 1) 255 else 0) else r.rcnt })

/-- Retires a cell. -/
def UnitSt.retireCell (x : UnitSt) (k : Nat) : UnitSt := (x.onRec k (fun r => { r with retired := true, retpend := false })).err CLP_ERR.RETIRE

/-- Retires a worn cell, or defers it where too few cells would stay available (R281). -/
def UnitSt.wearRetire (x : UnitSt) (arm k : Nat) : UnitSt :=
  let r := x.clpRec k
  let n := x.fld CLP_WCFG.RETCONF
  if n = 0 ∨ r.rcnt < n ∨ r.retired ∨ r.retpend then x
  else if x.availableBut arm k < x.fld CAL_ARMCFG.NREQ arm then (x.onRec k (fun r => { r with retpend := true })).err CLP_ERR.RETPEND
  else x.retireCell k

/-- Shows whether a record has RETPEND and whether a cell is not seeded (R300). -/
def UnitSt.showClp (x : UnitSt) : UnitSt :=
  let cells := (List.range 6).flatMap x.armCells
  (x.set CLP_STAT.RETPEND (b2n (cells.any (fun k => (x.clpRec k).retpend)))).set CLP_STAT.SEEDING (b2n (cells.any (fun k => !(x.clpRec k).seeded)))

/-! One cell at a compute start. -/

/-- Replaces the code of the running period of a record; where its sub-steps were already integrated they are integrated
again (R263).
Log entry 88 (DEDUCED). -/
def UnitSt.overrule (x : UnitSt) (arm k code : Nat) : UnitSt :=
  let pn := x.pn
  let was := x
  x.onRec k (fun r =>
    if r.code pn = some code then r
    else
      let r := { r with codes := (pn, code) :: r.codes.filter (fun c => c.1 != pn) }
      match r.mark with
      | some m =>
        if m.pn ≠ pn then r
        else
          let again := (r.hist.filter (fun e => e.pn == pn)).reverse
          let r := { r with vf := m.vf, q := m.q, sw := m.sw, ran := m.ran, hist := r.hist.filter (fun e => e.pn != pn) }
          match again with
          | [] => r
          | e :: _ =>
            let r := was.shadowCross arm k pn ((e.to_ - e.from_) / (25 * ns)) e.from_ r
            again.foldl (fun r e => was.integrate k pn e.from_ e.to_ e.cur r) r
      | none => r)

/-- The exceptions of R263 that a cell's status of the period gives.
Log entry 88 (DEDUCED). -/
def UnitSt.except_ (x : UnitSt) (arm k : Nat) : UnitSt :=
  let v := x.view k
  if v.slotPn ≠ some x.pn then x
  else
    let f := slotFlags v.slot
    if bitAt f 7 then x.overrule arm k codeFired
    else if bitAt f 8 ∨ flagCstate v.slot = 1 then x.overrule arm k codeOff
    else if bitAt f 6 then x.overrule arm k codeAgain
    else x

/-- VCAP of a status slot in volts, and VCHK. -/
def vcapVolts (s : Bytes) : Val := .ofFrac (slotVcap s * 3200 : Nat) 1048576
def vchkVolts (s : Bytes) : Val := .ofFrac (slotVchk s * 3200 : Nat) 65536

/-- Stale, unreachable, and the comparison of VCAP with VCHK (R33, R270, R284).
Log entry 91 (DEDUCED). -/
def UnitSt.takeStatus (x : UnitSt) (arm k p : Nat) : UnitSt :=
  let v := x.view k
  let valid := v.slotPn == some x.pn
  let reach := x.canReach p (k % 64)
  let far := valid && (Val.ofFrac (x.fld CLP_CHK.CHKTH : Nat) 10).lt ((vcapVolts v.slot).sub (vchkVolts v.slot)).abs
  let smax := x.fld CLP_FCFG.STALEMAX
  let flt := x.clp.iarm.contains arm
  x.onRec k (fun r =>
    let sc := if valid then 0 else min (r.stalecnt + 1) 255
    let r := { r with stalecnt := sc, stale := !valid || flt, unreach := !reach || decide (smax < sc) }
    if valid then
      { r with vm := e32 (vcapVolts v.slot), chkd := e32 ((vcapVolts v.slot).sub (vchkVolts v.slot))
               chkcnt := if far then min (r.chkcnt + 1) 255 else 0 }
    else r)

/-- Seeds a record with result `m` at `te` (R269).
Log entry 92 (DEDUCED). -/
def UnitSt.seedRec (x : UnitSt) (arm k : Nat) (m : Val) (te : Instant) : UnitSt :=
  let nom : Word × Word := (BitVec.ofNat 32 (x.fld CLP_CNOM.CNOM arm), BitVec.ofNat 32 (x.fld CLP_ENOM.ENOM arm))
  x.onRec k (fun r =>
    let v := e32 m
    let ce := if r.keep then (r.c, r.esr) else r.given.getD nom
    { r with seeded := true, keep := false, vf := v, hist := r.hist.map (fun e => { e with vf := v }), tlast := te, c := ce.1, esr := ce.2 })

/-- The fusion of a result `m` at `te` (R268, R279). From the first fusion on the records' slow estimates are the unit's own (R298).
Log entry 94 (DEDUCED). -/
def UnitSt.fuseRec (x : UnitSt) (arm k : Nat) (m : Val) (te : Instant) (vte : Val) : UnitSt :=
  let x : UnitSt := { x with clp := { x.clp with fresh := false } }
  let bridge := x.conf.fullBridge.contains k
  let r := x.clpRec k
  let at_ := histFind te none r.hist
  let ic : Val := match at_ with
    | some (_, e :: _) => e.cur.scale (insertion bridge (e.gatesAt te) e.cur.sgn)
    | _ => .fin false 0 1
  let nu := (m.sub ((b32 r.esr).mul ic)).sub vte
  let outn := x.fld CLP_FCFG.OUTN
  if (Val.ofFrac (x.fld CLP_FCFG.OUTTH : Nat) 10).lt nu.abs then
    let n := min (r.outcnt + 1) 15
    if outn ≠ 0 ∧ n = outn then
      (x.onRec k (fun r => { r.correct te nu with outcnt := 0, tlast := te })).inc CLP_CNT1.RESEED
    else (x.onRec k (fun r => { r with outcnt := n, tlast := te })).inc CLP_CNT1.OUTL
  else
    let x := x.onRec k (fun r => { r.correct te (nu.mul (.ofFrac (x.fld CLP_FCFG.KGAIN : Nat) 256)) with outcnt := 0, tlast := te })
    if (Val.ofInt (x.fld CLP_ECFG.EIMIN : Nat)).le ic.abs && steady bridge at_ then
      let g := Val.ofFrac 1 (2 ^ x.fld CLP_ECFG.EGAIN)
      let esr := e32 ((b32 r.esr).add ((((m.sub vte).div ic).sub (b32 r.esr)).mul g))
      let esrt := e32 ((b32 r.esrt).add (((b32 esr).sub (b32 r.esrt)).mul (.ofFrac 1 4096)))
      (x.onRec k (fun r => { r with esr := esr, esrt := esrt })).takeWear arm k false
    else x

/-- Fuses a cell's result of the period, or seeds its record (R267, R269).
Log entry 93 (DEDUCED). -/
def UnitSt.takeVcap (x : UnitSt) (arm k : Nat) : UnitSt :=
  let v := x.view k
  let age := slotAge v.slot
  if v.slotPn ≠ some x.pn ∨ bitAt (slotFlags v.slot) 9 ∨ age = 65535 then x
  else
    let te := x.t0 x.pn + 400 * ns - age * ns
    let r := x.clpRec k
    match histAt (fun e => b32 e.vf) te r.hist with
    | none => x
    | some vte =>
      if !r.seeded then x.seedRec arm k (vcapVolts v.slot) te
      else if te ≤ r.tlast ∨ x.fld CLP_FCFG.KGAIN = 0 then x
      else x.fuseRec arm k (vcapVolts v.slot) te vte

/-! Measurement holds (R276, R278). -/

/-- Q at `te` within a hold: by the history, and before it by the draw of the self-supply alone.
Log entry 97 (DEDUCED). -/
def UnitSt.chargeAt (x : UnitSt) (r : ClpRec) (te : Instant) : Val :=
  match histAt (fun e => b64 e.q) te r.hist with
  | some q => q
  | none =>
    match r.hist.getLast? with
    | some e => if te < e.to_ then (b64 e.q).sub (x.dq (.fin false 0 1) 0 (e.to_ - te)) else b64 r.q
    | none => b64 r.q

/-- The result of a hold opens or closes a pair. -/
def UnitSt.pairResult (x : UnitSt) (arm k : Nat) (m : Val) (te : Instant) : UnitSt :=
  let r := x.clpRec k
  let q := x.chargeAt r te
  let d := m.sub (b32 r.va)
  if !r.pair then x.onRec k (fun r => { r with pair := true, va := e32 m, qa := e64 q })
  else if (Val.ofFrac (x.fld CLP_CCFG2.DVMIN : Nat) 10).le d.abs then
    let cpair := (q.sub (b64 r.qa)).div d
    let c := e32 ((b32 r.c).add ((cpair.sub (b32 r.c)).mul (.ofFrac 1 (2 ^ x.fld CLP_CCFG.CGAIN))))
    ((x.onRec k (fun r => { r with c := c, va := e32 m, qa := e64 q })).inc CLP_CNT2.CPAIR).takeWear arm k true
  else x

/-- One awaited hold at a compute start.
Log entry 97 (DEDUCED). -/
def UnitSt.measStep (x : UnitSt) (h : ClpMeas) : UnitSt :=
  let drop (x : UnitSt) : UnitSt := { x with clp := { x.clp with meas := x.clp.meas.filter (· != h) } }
  let v := x.view h.key
  let age := slotAge v.slot
  let last := decide (h.pn0 + h.n ≤ x.pn)
  if x.pn < h.pn0 then x
  else if v.slotPn = some x.pn ∧ !bitAt (slotFlags v.slot) 9 ∧ age ≠ 65535 ∧ 9600 ≤ age then
    let te := x.t0 x.pn + 400 * ns - age * ns
    let inside := decide (x.t0 h.pn0 + 35200 * ns ≤ te) && decide (te + 9600 * ns ≤ x.t0 (h.pn0 + h.n))
    if inside then (drop x).pairResult h.arm h.key (vcapVolts v.slot) te else (drop x).inc CLP_CNT2.HOLDABN
  else if last then (drop x).inc CLP_CNT2.HOLDABN
  else x

/-! Projection (R272). -/

/-- The number of the first sub-step beyond the front F at instant `c`. -/
def UnitSt.frontAt (x : UnitSt) (arm : Nat) (c : Instant) : Nat :=
  let done := x.clp.spans.flatMap (fun s => (List.range 10).filterMap (fun j =>
    if s.2.1 + (j + 1) * s.2.2 + x.armLat arm + 400 * ns ≤ c then some (10 * s.1 + j + 1) else none))
  done.foldl max (match x.clp.spans.head? with | some s => 10 * s.1 | none => 0)

/-- The forecast charge of a record from sub-step `i` on, over `n` sub-steps. -/
def UnitSt.ahead (x : UnitSt) (arm k front : Nat) : Nat → Nat → ClpRec → Val
  | 0, _, _ => .fin false 0 1
  | n + 1, i, r =>
    match x.subStep i with
    | none => .fin false 0 1
    | some (pn, a, b) =>
      let cur := x.clpForecast arm i
      let bridge := x.conf.fullBridge.contains k
      let (segs, r) : List (Instant × Nat) × ClpRec :=
        if i < front then (((r.hist.find? (fun e => e.from_ == a)).map (·.segs)).getD [], r)
        else
          let r := if i % 10 = 0 then x.shadowCross arm k pn ((b - a) / (25 * ns)) a r else r
          let (y, segs) := r.runStage pn a b
          (segs, { r with sw := y })
      (x.dq cur (segInt bridge cur.sgn b segs) (b - a)).add (x.ahead arm k front n (i + 1) r)

/-- Writes VX of a record from front F. -/
def UnitSt.project (x : UnitSt) (arm f k : Nat) : UnitSt :=
  let r := x.clpRec k
  let vf := match x.subStep (f - 1) with
    | some (_, _, b) => ((r.hist.find? (fun e => e.to_ == b)).map (·.vf)).getD r.vf
    | none => if f < x.clpFront arm then (r.mark.map (·.vf)).getD r.vf else r.vf
  let vx := e32 ((b32 vf).add ((x.ahead arm k (x.clpFront arm) (10 * (x.pn + 1) - f) f r).div (b32 r.c)))
  x.onRec k (fun r => { r with vx := vx, seeded := r.seeded && fin32 vx, keep := r.keep || (r.seeded && !fin32 vx) })

/-! Commands (R269, R281, R282, R300). -/

/-- Carries out an operation. -/
def UnitSt.clpApply (x : UnitSt) (o : ClpOp) : UnitSt :=
  match o.op with
  | 1 => x.onRec o.key (fun r => { r with c := o.c, esr := o.esr, esrt := o.esr, given := some (o.c, o.esr) })
  | 2 => x.retireCell o.key
  | 3 => x.onRec o.key (fun r => { r with retired := false, retpend := false })
  | 4 => x.onRec o.key (fun r => { r with chkfail := false, chkcnt := 0 })
  | _ => x

/-- The operations that wait for this computation. -/
def UnitSt.clpCommands (x : UnitSt) : UnitSt :=
  let due := x.clp.cmds.filter (fun o => decide (o.pn ≤ x.pn))
  let x : UnitSt := { x with clp := { x.clp with cmds := x.clp.cmds.filter (fun o => !decide (o.pn ≤ x.pn)) } }
  let x := due.foldl UnitSt.clpApply x
  if due.any (·.own) ∧ !x.clp.cmds.any (·.own) then x.set CLP_CMD.RES 1 else x

/-- The PN of the next computation.
Log entry 99 (DEDUCED). -/
def UnitSt.nextCompute (x : UnitSt) : Nat := if x.clp.done = some x.pn then x.pn + 1 else x.pn

/-- Whether a strand and hop name a configured cell. -/
def UnitSt.isCell (x : UnitSt) (strand hop : Nat) : Bool :=
  match x.portOf strand with
  | some p => decide (strand < 96) && decide (hop < x.ncell p)
  | none => false

/-- A write of `CLP_CMD` with operation `op` on the selected cell.
Log entry 99 (DEDUCED). -/
def UnitSt.clpCmd (x : UnitSt) (op : Nat) : UnitSt :=
  let s := x.fld CLP_SEL.STRAND
  let h := x.fld CLP_SEL.HOP
  if op = 0 then x.set CLP_CMD.RES 3
  else if 4 < op then x.set CLP_CMD.RES 5
  else if !x.isCell s h then x.set CLP_CMD.RES 2
  else
    let o : ClpOp := { op := op, key := s * 64 + h, c := x.word 0x220F0, esr := x.word 0x220F4, pn := x.nextCompute, own := true }
    let x : UnitSt := { x.set CLP_CMD.RES 4 with clp := { x.clp with cmds := x.clp.cmds ++ [o] } }
    if x.splUp then x.say (.clpCmd op s h o.c o.esr o.pn) else x

/-! The pass (R272, R273, R298). -/

/-- Records after a reset of the unit take their slow estimates from the partner that holds the lease, at the first computation
at which Splice is up and there are cells; a unit that holds the lease itself has its own (R298).
Log entries 92 (DEDUCED), 98 (DEDUCED). -/
def UnitSt.takeSlow (x y : UnitSt) : UnitSt :=
  let cells := (List.range 6).flatMap x.armCells
  let old : UnitSt := { x with clp := { x.clp with fresh := false } }
  if !x.clp.fresh then x
  else if x.isHolder then old
  else if !y.isHolder || !x.splUp || cells == [] then x
  else
    cells.foldl (fun (x : UnitSt) k =>
      let o := y.clpRec k
      x.onRec k (fun r => { r with c := o.c, esr := o.esr, esrt := o.esrt, wear := o.wear, rcnt := o.rcnt, retired := o.retired
                                   retpend := o.retpend, keep := o.seeded || o.keep, given := o.given })) old

/-- Caliper's pass at compute start; `y` is the partner. Its estimates go to Calender, and are discarded where that does no work
(R42, R600).
Log entry 90 (DEDUCED). -/
def UnitSt.clpCompute (x y : UnitSt) : UnitSt :=
  if !x.works 0x22000 || !x.tim.counting then x
  else
    let c := x.t0 x.pn + x.compOfs
    let x := ((x.relayPorts y).takeSlow y).clpCommands
    let x := (List.range 6).foldl (fun (x : UnitSt) arm =>
      let cells := x.armCells arm
      let x := cells.foldl (fun x k => x.except_ arm k) x
      let f := x.frontAt arm c
      let x := x.armSteps arm f (f - x.clpFront arm)
      let x := (x.armPorts arm).foldl (fun x sp => (strandCells sp.1 (x.ncell sp.2)).foldl (fun x k =>
        (x.takeStatus arm k sp.2).takeVcap arm k) x) x
      let x := cells.foldl (fun x k => x.project arm f k) x
      cells.foldl (fun (x : UnitSt) k =>
        if (x.clpRec k).retpend && decide (x.fld CAL_ARMCFG.NREQ arm ≤ x.availableBut arm k) then x.retireCell k else x) x) x
    let x := x.clp.meas.foldl UnitSt.measStep x
    let x := x.crossTo 0x21000 CLP_ERR.XING
    { x.showClp with clp := { x.showClp.clp with done := some x.pn } }

/-- The forecasts that the loop engines have computed, kept for the sub-steps of the next period (R271). -/
def UnitSt.keepForecast (x : UnitSt) : UnitSt :=
  { x with clp := { x.clp with fcs := (x.pn + 1, x.lpe.fc) :: x.clp.fcs.filter (fun f => f.1 != x.pn + 1) } }

/-! Rows. -/

/-- SUBSTEP_INTEGRATE: the mean of the arm's next sub-step is available at `at_`.
Log entry 90 (DEDUCED). -/
def execSubstepIntegrate (u : UnitId) (arm : Fin 6) (at_ : Instant) (s : State) : Host.Outcome State Fault Refusal :=
  unitStep s u (fun x =>
    let x := x.tick at_
    if !x.works 0x22000 then x
    else
      match x.subStep (x.clpFront arm.val) with
      | some (_, _, b) => if b + x.armLat arm.val ≤ at_ then x.armStep arm.val else x
      | none => x)

/-- The arm of cell `k`. -/
def UnitSt.armOf (x : UnitSt) (k : Nat) : Option Nat :=
  match x.portOf (k / 64) with
  | some p => if x.isCell (k / 64) (k % 64) then some (x.fld STRP_ASSIGN.ARM p) else none
  | none => none

/-- CHK_FAIL: CHKN disagreements in a row.
Log entry 95 (DEDUCED). -/
def execChkFail (u : UnitId) (c : CellId) (s : State) : Host.Outcome State Fault Refusal :=
  unitStep s u (fun x =>
    let r := x.clpRec c.key
    if !x.works 0x22000 || r.chkfail || decide (r.chkcnt < max 1 (x.fld CLP_CHK.CHKN)) then x
    else (x.onRec c.key (fun r => { r with chkfail := true })).err CLP_ERR.CHK)

/-- WEAR_RETIRE: RETCONF updates of C in a row at or above RETTH.
Log entry 95 (DEDUCED). -/
def execWearRetire (u : UnitId) (c : CellId) (s : State) : Host.Outcome State Fault Refusal :=
  unitStep s u (fun x =>
    match x.armOf c.key with
    | some arm => if x.works 0x22000 then (x.wearRetire arm c.key).showClp else x
    | none => x)

/-- CLP_CMD_SEED. -/
def execClpCmdSeed (u : UnitId) (q : Requester) (s : State) : Host.Outcome State Fault Refusal :=
  unitStep s u (fun x => x.guard q true 0x220F8 (fun x => x.clpCmd 1))

/-- CLP_CMD_RETIRE. -/
def execClpCmdRetire (u : UnitId) (q : Requester) (s : State) : Host.Outcome State Fault Refusal :=
  unitStep s u (fun x => x.guard q true 0x220F8 (fun x => x.clpCmd 2))

/-- CLP_CMD_UNRETIRE. -/
def execClpCmdUnretire (u : UnitId) (q : Requester) (s : State) : Host.Outcome State Fault Refusal :=
  unitStep s u (fun x => x.guard q true 0x220F8 (fun x => x.clpCmd 3))

/-- CLP_CMD_CLRCHK. -/
def execClpCmdClrchk (u : UnitId) (q : Requester) (s : State) : Host.Outcome State Fault Refusal :=
  unitStep s u (fun x => x.guard q true 0x220F8 (fun x => x.clpCmd 4))

/-- CLP_CMD_RX: the partner's operation, for the computation of `pn`.
Log entries 26 (DEDUCED), 74 (DEDUCED), 99 (DEDUCED). -/
def execClpCmdRx (u : UnitId) (op : Fin 8) (c : CellId) (cap esr : Word) (pn : BitVec 48) (s : State) : Host.Outcome State Fault Refusal :=
  unitStep s u (fun x =>
    if x.inQuiet then x
    else if !x.works 0x22000 then x.crossTo 0x22000 SPL_ERR.XING
    else { x with clp := { x.clp with cmds := x.clp.cmds ++ [{ op := op.val, key := c.key, c := cap, esr := esr, pn := pn.toNat, own := false }] } })

/-- The words of the selected record as `CLP_REC` shows them. -/
def UnitSt.recWords (x : UnitSt) : List Word :=
  let s := x.fld CLP_SEL.STRAND
  let h := x.fld CLP_SEL.HOP
  if x.isCell s h then (x.clpRec (s * 64 + h)).words else List.replicate 16 0

/-- A read of `CLP_REC0` returns word 0 of the selected record and latches words 1 to 15. -/
def UnitSt.recRead (x : UnitSt) (q : Requester) : UnitSt :=
  let w := x.recWords
  x.onReq q (fun r => { r with rdata := w.headD 0, latch := (List.range 15).map (fun i => (0x220B4 + 4 * i, w.getD (i + 1) 0)) })

/-- CLP_REC_READ. -/
def execClpRecRead (u : UnitId) (q : Requester) (s : State) : Host.Outcome State Fault Refusal :=
  unitStep s u (fun x => x.guardRead q 0x220B0 (fun x => x.recRead q))

end Sys2Proof.Machine
end

