-- ==== Sys2Proof/Machine/LoopOps.lean ====
section
/-! DEFINITION. The loop engines' arithmetic (R308, R309, R314), their sources (R305, R306) and the evaluation of channels,
groups, demands and forecasts (R307 to R325). -/
namespace Sys2Proof.Machine

/-! Channels and banks. -/

def UnitSt.chan (x : UnitSt) (c : Nat) : ChanSt := sget (fun _ => {}) x.lpe.chs c
def UnitSt.setChan (x : UnitSt) (c : Nat) (v : ChanSt) : UnitSt :=
  { x with lpe := { x.lpe with chs := sset (fun _ => {}) x.lpe.chs c v } }
def UnitSt.onChan (x : UnitSt) (c : Nat) (f : ChanSt → ChanSt) : UnitSt := x.setChan c (f (x.chan c))

def ChanSt.bank (c : ChanSt) (b : Nat) : BankSt := if b = 0 then c.b0 else c.b1
def ChanSt.setBank (c : ChanSt) (b : Nat) (v : BankSt) : ChanSt := if b = 0 then { c with b0 := v } else { c with b1 := v }

/-- A field of `LPE_CHCFG` as the running channel `c` has it: a write while its EN is 0 takes effect with the next enable (R333). -/
def UnitSt.chanFld (x : UnitSt) (f : Fld) (c : Nat) : Nat := f.get (x.chan c).cfg 0
def UnitSt.chanBit (x : UnitSt) (f : Fld) (c : Nat) : Bool := x.chanFld f c != 0

/-- Coefficient `j` of bank `b` of channel `c`, in the order of the bank tables (R337). -/
def UnitSt.coef (x : UnitSt) (c b j : Nat) : Val :=
  b32 (x.word (0x24040 + 0x180 * (c % 10) + 0x1000 * (c / 10) + (if b = 0 then 0x40 else 0xC0) + 4 * j))

/-! The pipeline (R308). -/

/-- A biquad in transposed direct form II from coefficient `j` on: output and new states. -/
def UnitSt.biquad (x : UnitSt) (c b j : Nat) (inp : Val) (s1 s2 : Dbl) : Dbl × Dbl × Dbl :=
  let k (n : Nat) : Val := x.coef c b (j + n)
  let out := r64 (((k 0).mul inp).add (b64 s1))
  let fb (n : Nat) : Val := b64 (r64 ((k n).mul (b64 out)))
  let s1' := r64 ((b64 (r64 (((k 1).mul inp).sub (fb 3)))).add (b64 s2))
  let s2' := r64 (((k 2).mul inp).sub (fb 4))
  (out, s1', s2')

/-- A bank's terms in a period: p, w, the increment, the resonant outputs and the states after them. -/
structure Terms where
  p   : Word
  w   : Word
  di  : Dbl
  q1  : Dbl
  q2  : Dbl
  r1a : Dbl
  r1b : Dbl
  r2a : Dbl
  r2b : Dbl

/-- The terms of bank `b` of channel `c` from its states, error `e` and feedforward value `v`. -/
def UnitSt.terms (x : UnitSt) (c b : Nat) (s : BankSt) (e v : Word) : Terms :=
  let kit := b64 (r64 ((x.coef c b 1).mul (b64 (r64 (.ofFrac (x.fld TIM_PERIOD.T) 4000000)))))
  let r1 := if x.chanBit LPE_CHCFG.R1EN c then x.biquad c b 5 (b32 e) s.r1a s.r1b else (0, s.r1a, s.r1b)
  let r2 := if x.chanBit LPE_CHCFG.R2EN c then x.biquad c b 10 (b32 e) s.r2a s.r2b else (0, s.r2a, s.r2b)
  { p := r32 ((x.coef c b 0).mul (b32 e)), w := r32 ((x.coef c b 2).mul (b32 v)), di := r64 (kit.mul (b32 e))
    q1 := r1.1, q2 := r2.1, r1a := r1.2.1, r1b := r1.2.2, r2a := r2.2.1, r2b := r2.2.2 }

/-- Whether every product and state among the terms is finite. -/
def Terms.finite (t : Terms) : Bool :=
  (b32 t.p).finite && (b32 t.w).finite && (b64 t.di).finite && (b64 t.q1).finite && (b64 t.q2).finite && (b64 t.r1a).finite
    && (b64 t.r1b).finite && (b64 t.r2a).finite && (b64 t.r2b).finite

/-- The sum of the terms with integrator `i`, in binary64, rounded to binary32. -/
def Terms.sum (t : Terms) (i : Dbl) : Word :=
  let a := b64 (r64 ((b32 t.p).add (b64 i)))
  let a := b64 (r64 (a.add (b64 t.q1)))
  let a := b64 (r64 (a.add (b64 t.q2)))
  r32 (b64 (r64 (a.add (b32 t.w))))

/-- A bank evaluated: its terms, u, uc, o and its states after the period, whether it is saturated by its limits, and whether
every value is finite. -/
structure BankOut where
  t   : Terms
  u   : Word
  uc  : Word
  o   : Word
  s   : BankSt
  sat : Bool
  ok  : Bool

/-- min(max(z, lo), hi) of binary32 patterns. -/
def limit (z lo hi : Word) : Word :=
  let a := if (b32 z).lt (b32 lo) then lo else z
  if (b32 hi).lt (b32 a) then hi else a

/-- R308 from u onward, with integrator `i` and filter states `fa`, `fb`. -/
def UnitSt.bankFrom (x : UnitSt) (c b : Nat) (t : Terms) (i fa fb : Dbl) : BankOut :=
  let umax := r32 (x.coef c b 3)
  let umin := r32 (x.coef c b 4)
  let u := t.sum i
  let uc := limit u umin umax
  let fen := x.chanBit LPE_CHCFG.FEN c
  let f := if fen then x.biquad c b 15 (b32 uc) fa fb else (0, fa, fb)
  let o := limit (if fen then r32 (b64 f.1) else uc) umin umax
  { t := t, u := u, uc := uc, o := o
    s := { i := i, r1a := t.r1a, r1b := t.r1b, r2a := t.r2a, r2b := t.r2b, fa := f.2.1, fb := f.2.2 }
    sat := (b32 umax).lt (b32 u) || (b32 u).lt (b32 umin)
    ok := t.finite && (b64 i).finite && (b64 f.1).finite && (b64 f.2.1).finite && (b64 f.2.2).finite && (b32 o).finite }

/-- A bank evaluated under R308 and R309, with saturation in force upward and downward. -/
def UnitSt.evalBank (x : UnitSt) (c b : Nat) (s : BankSt) (e v : Word) (up dn : Bool) : BankOut :=
  let t := x.terms c b s e v
  let i' := r64 ((b64 s.i).add (b64 t.di))
  let u1 := b32 (t.sum i')
  let zero : Val := .fin false 0 1
  let hold := (((x.coef c b 3).lt u1 || up) && zero.lt (b64 t.di)) || ((u1.lt (x.coef c b 4) || dn) && (b64 t.di).lt zero)
  let r := x.bankFrom c b t (if hold then s.i else i') s.fa s.fb
  { r with ok := r.ok && (b64 i').finite }

/-- Aligning bank `b` to pre-filter value `U` and output `O` with terms `t` (R314): its integrator and filter states. -/
def UnitSt.align_ (x : UnitSt) (c b : Nat) (t : Terms) (U O : Val) (s : BankSt) : Dbl × Dbl × Dbl :=
  let a := b64 (r64 ((b32 t.p).add (b64 t.q1)))
  let a := b64 (r64 (a.add (b64 t.q2)))
  let a := b64 (r64 (a.add (b32 t.w)))
  let i := r64 (U.sub a)
  if x.chanBit LPE_CHCFG.FEN c then
    let d (m n : Nat) : Val := b64 (r64 ((x.coef c b m).sub (x.coef c b n)))
    let s2 := r64 ((d 17 19).mul O)
    (i, r64 ((b64 (r64 ((d 16 18).mul O))).add (b64 s2)), s2)
  else (i, s.fa, s.fb)

/-- A bank aligned in the period and completed from u onward, without an increment (R317, R319, R333).
Log entry 106 (DEDUCED). -/
def UnitSt.alignBank (x : UnitSt) (c b : Nat) (s : BankSt) (t : Terms) (U O : Val) : BankOut :=
  let (i, fa, fb) := x.align_ c b t U O s
  x.bankFrom c b t i fa fb

/-- The bank checks of R310. -/
def UnitSt.bankOk (x : UnitSt) (c b : Nat) : Bool :=
  let k (j : Nat) : Val := x.coef c b j
  let one : Val := .fin false 1 1
  let stable (j : Nat) : Bool := (k (j + 4)).abs.lt one && (k (j + 3)).abs.lt (one.add (k (j + 4)))
  let dcErr := (((k 15).add (k 16)).add (k 17)).sub ((one.add (k 18)).add (k 19))
  let dcTol := Val.mul (.fin false 1 1048576) ((one.add (k 18).abs).add (k 19).abs)
  let res (j : Nat) : Bool := (k (j + 4)).abs.le one && (k (j + 3)).abs.le (one.add (k (j + 4)))
  (List.range 20).all (fun j => (k j).finite) && (k 4).le (k 3)
    && (!x.bit LPE_CHCFG.FEN c || (stable 15 && dcErr.abs.le dcTol))
    && (!x.bit LPE_CHCFG.R1EN c || res 5) && (!x.bit LPE_CHCFG.R2EN c || res 10)

/-! Sources (R305, R306). -/

/-- Whether a source field names a kind and index that exist. -/
def srcOk (w : Nat) : Bool :=
  let i := w % 256
  match w / 256 % 16 with
  | 0 => true
  | 1 => decide (i < 32)
  | 2 => decide (i < 128)
  | 3 => decide (i < 96)
  | 4 => decide (i < 96)
  | 5 => decide (i < 64)
  | 6 => decide (i < 24)
  | 7 => decide (i < 16)
  | _ => false

/-- The value of quantity `i` of the sampled values (R306, R513, R514); before a stream has a sample to take the value is
free.
Log entry 112 (DESIGN CHOICE). -/
def UnitSt.svValue (x : UnitSt) (i : Nat) (samp1 : Bool) : Word × Instant × UnitSt :=
  let st := sget (fun _ => {}) x.net.sv (i / 8)
  if x.bit NET_SVSTAT.FLT (i / 8) then (0x7FC00000, x.now, x)
  else
    let pick := if samp1 then st.samples.head?
      else (st.samples.filter (fun s => decide (s.at_ ≤ x.t0 x.pn))).foldl
        (fun m s => match m with | none => some s | some q => if q.at_ < s.at_ then some s else some q) none
    match pick.bind (fun s => (s.vals[i % 8]?).map (fun v => (v, s.at_))) with
    | some (v, t) => (v, t, x)
    | none =>
      let (v, x) := x.draw
      (BitVec.ofNat 32 v, x.now, x)

/-- The value of a source and the instant it stands for; `prev` gives the outputs of the period before. -/
def UnitSt.srcValue (x : UnitSt) (prev : Nat → Word) (w : Nat) : Word × Instant × UnitSt :=
  let i := w % 256
  let t0 := x.t0 x.pn
  let samp1 := bitAt w 12
  if !srcOk w then (0, t0, x)
  else
    match w / 256 % 16 with
    | 1 =>
      let r := x.inputAt i (fun r => if samp1 then decide (r.avail ≤ t0 + x.compOfs) else decide (r.te ≤ t0))
      (r.v, r.te, x)
    | 2 => x.svValue i samp1
    | 3 => if (x.chan i).on then (x.word (0x24060 + 0x180 * (i % 10) + 0x1000 * (i / 10)), t0, x) else (0, t0, x.err LPE_ERR.SRC)
    | 4 => if (x.chan i).on then (prev i, t0, x) else (0, t0, x.err LPE_ERR.SRC)
    | 5 => (sget (fun _ => 0) x.lpe.setp i, t0, x)
    | 6 => ((sget (fun _ => []) x.cal.agg (i / 4)).getD (i % 4) 0, t0, x)
    | 7 => if x.bit LPE_GCFG.EN i then (x.word (0x231F0 + 4 * i), t0, x) else (0, t0, x.err LPE_ERR.SRC)
    | _ => (0, t0, x)

/-! Saturation in force from outside (R313, R325). -/

/-- Whether channel `c` is configured as a member of group `g`.
Log entry 109 (DEDUCED). -/
def UnitSt.inGroup (x : UnitSt) (c g : Nat) : Bool := x.bit LPE_CHCFG.GEN c && x.fld LPE_CHCFG.GRP c == g

/-- Whether channel `c` runs as a member of group `g`. -/
def UnitSt.runsIn (x : UnitSt) (c g : Nat) : Bool := (x.chan c).on && x.chanBit LPE_CHCFG.GEN c && x.chanFld LPE_CHCFG.GRP c == g

/-- The enabled members of group `g`. -/
def UnitSt.members (x : UnitSt) (g : Nat) : List Nat := (List.range 96).filter (fun c => x.runsIn c g)

/-- Whether the demand source of arm `n` names channel `c` or its group. -/
def UnitSt.demandNames (x : UnitSt) (n c : Nat) : Bool :=
  let w := x.fld LPE_ARMD.SRC n
  (w / 256 % 16 == 3 && w % 256 == c) || (w / 256 % 16 == 7 && x.runsIn c (w % 256))

/-- Upward and downward saturation in force on channel `c`, with the outputs and group outputs of the period before. -/
def UnitSt.outside (x : UnitSt) (prev gprev : Nat → Word) (c : Nat) : Bool × Bool :=
  let zero : Val := .fin false 0 1
  let arms := (List.range 6).filter (fun n => x.demandNames n c)
  let kl (n : Nat) : Val := b32 (BitVec.ofNat 32 (x.fld LPE_ARMK.KL n))
  let up := arms.any (fun n => (kl n).finite && ((zero.lt (kl n) && x.bit CAL_ASTAT.SATP n) || ((kl n).lt zero && x.bit CAL_ASTAT.SATN n)))
  let dn := arms.any (fun n => (kl n).finite && ((zero.lt (kl n) && x.bit CAL_ASTAT.SATN n) || ((kl n).lt zero && x.bit CAL_ASTAT.SATP n)))
  let ramp := (List.range 16).filter (fun g => x.bit LPE_GCFG.EN g && x.bit LPE_GCFG.RAMP g && x.fld LPE_GCFG.WIN g == c)
  (up || ramp.any (fun g => (b32 (gprev g)).lt (b32 (prev c))), dn || ramp.any (fun g => (b32 (prev c)).lt (b32 (gprev g))))

/-! One channel (R307, R317 to R320, R333). -/

/-- The blend (1 − m/n) × a + (m/n) × b.
Log entry 107 (DEDUCED). -/
def blend (m n : Nat) (a b : Word) : Val :=
  ((Val.ofFrac ((n : Int) - m) n).mul (b32 a)).add ((Val.ofFrac (m : Int) n).mul (b32 b))

/-- What a computation leaves in a channel: the banks evaluated (outgoing or only one, and incoming in a fade), the active
and target banks, fade position and N, and the results of the swaps that took place. -/
structure ChanOut where
  act  : Nat
  a    : BankOut
  inc  : Option BankOut
  pos  : Nat
  n    : Nat
  swaps : List (SwapReq × Nat × Bool)

/-- A swap takes place in what the period has given so far (R316, R317, R319): it starts a fade, retargets one, or changes
nothing. -/
def UnitSt.swapStep (x : UnitSt) (c : Nat) (e v : Word) (r : ChanOut) (q : SwapReq) : ChanOut :=
  let s := x.chan c
  let oth := 1 - r.act
  let last := b32 (BitVec.ofNat 32 (x.fld LPE_CHOUT.O c))
  match r.inc with
  | some b =>
    if q.bank = r.act then
      let b' := x.alignBank c oth (s.bank oth) b.t (blend (r.pos - 1) r.n r.a.uc b.uc) last
      { act := oth, a := { b' with ok := b'.ok && b.ok }, inc := some r.a, pos := 1, n := q.n, swaps := r.swaps ++ [(q, 2, true)] }
    else { r with swaps := r.swaps ++ [(q, 4, false)] }
  | none =>
    if q.bank = r.act then { r with swaps := r.swaps ++ [(q, 4, false)] }
    else
      let s0 : BankSt := { s.bank oth with r1a := 0, r1b := 0, r2a := 0, r2b := 0 }
      let b := x.alignBank c oth s0 (x.terms c oth s0 e v) (b32 r.a.uc) last
      { r with inc := some b, pos := 1, n := q.n, swaps := r.swaps ++ [(q, 2, false)] }

/-- The evaluation of channel `c` in a period: its banks, then the swaps that are due, in their order.
Log entries 106 (DEDUCED), 211 (DEDUCED). -/
def UnitSt.chanEval (x : UnitSt) (c : Nat) (e v : Word) (up dn : Bool) : ChanOut :=
  let s := x.chan c
  let act := x.fld LPE_CHSTAT.ACT c
  let oth := 1 - act
  let r : ChanOut :=
    if x.bit LPE_CHSTAT.FADE c then
      { act := act, a := x.evalBank c act (s.bank act) e v up dn, inc := some (x.evalBank c oth (s.bank oth) e v up dn)
        pos := x.fld LPE_CHSTAT.FPOS c + 1, n := s.fadeN, swaps := [] }
    else
      let ini := b32 (BitVec.ofNat 32 (x.fld LPE_CHINIT.INIT c))
      { act := act, inc := none, pos := 0, n := 0, swaps := []
        a := if s.start then x.alignBank c act {} (x.terms c act {} e v) ini ini else x.evalBank c act (s.bank act) e v up dn }
  s.due.foldl (fun r q => x.swapStep c e v r q) r

/-- A fade that has run its N periods ends: only the incoming bank runs (R317). -/
def UnitSt.endFade (x : UnitSt) (c : Nat) : UnitSt :=
  if x.bit LPE_CHSTAT.FADE c && decide ((x.chan c).fadeN ≤ x.fld LPE_CHSTAT.FPOS c) then
    let x := (x.set LPE_CHSTAT.ACT (x.fld LPE_CHSTAT.TGT c) c).set LPE_CHSTAT.FADE 0 c
    (x.set LPE_CHSTAT.FPOS 0 c).onChan c (fun s => { s with fadeN := 0 })
  else x

/-- Shows the integrator of a channel: of the active bank, in a fade of the target bank (R337). -/
def UnitSt.showInteg (x : UnitSt) (c : Nat) : UnitSt :=
  let b := if x.bit LPE_CHSTAT.FADE c then x.fld LPE_CHSTAT.TGT c else x.fld LPE_CHSTAT.ACT c
  x.setPair LPE_CHI_LO.I_LO LPE_CHI_HI.I_HI (((x.chan c).bank b).i).toNat c

/-- A threshold of R328 may act again once the count stands below it. -/
def UnitSt.rearmSat (x : UnitSt) (c : Nat) : UnitSt :=
  let n := x.fld LPE_CHSATCNT.CNT c
  x.onChan c (fun s => { s with
    warned := s.warned && decide (x.fld LPE_CHSWARN.SWARN c ≤ n), failed := s.failed && decide (x.fld LPE_CHSFLT.SFAULT c ≤ n) })

/-- The saturation-time count of a period (R327). -/
def UnitSt.satCount (x : UnitSt) (c : Nat) (sat : Bool) : UnitSt :=
  let n := x.fld LPE_CHSATCNT.CNT c
  (x.set LPE_CHSATCNT.CNT (if sat then min (n + 1) (2 ^ 24 - 1) else n - x.fld LPE_CHSWARN.DECR c) c).rearmSat c

/-- Writes what a computation gives to the channel.
Log entry 107 (DEDUCED). -/
def UnitSt.chanTake (x : UnitSt) (c : Nat) (e : Word) (up dn : Bool) (r : ChanOut) : UnitSt :=
  let oth := 1 - r.act
  let x := x.onChan c (fun s =>
    let s := s.setBank r.act r.a.s
    let s := match r.inc with | some b => s.setBank oth b.s | none => s
    { s with start := false, fadeN := r.n, due := [] })
  let x := r.swaps.foldl (fun x (q, code, retgt) =>
    let x := if q.last then x.set LPE_SWAPRES.RES code else x
    let x := if code = 2 then x.inc LPE_CNT2.SWAPS else x
    if retgt then x.inc LPE_CNT2.RETGT else x) x
  let uc := match r.inc with | some b => r32 (blend r.pos r.n r.a.uc b.uc) | none => r.a.uc
  let o := match r.inc with | some b => r32 (blend r.pos r.n r.a.o b.o) | none => r.a.o
  let sat := r.a.sat || up || dn || (match r.inc with | some b => b.sat | none => false)
  let x := ((x.set LPE_CHOUT.O o.toNat c).set LPE_CHUPRE.UC uc.toNat c).set LPE_CHERRV.E e.toNat c
  let x := ((x.set LPE_CHSTAT.ACT r.act c).set LPE_CHSTAT.FADE (b2n r.inc.isSome) c).set LPE_CHSTAT.FPOS r.pos c
  let x := x.set LPE_CHSTAT.TGT (if r.inc.isSome then oth else r.act) c
  let x := ((x.set LPE_CHSTAT.HELD 0 c).set LPE_CHSTAT.SAT (b2n sat) c).set LPE_CHSTAT.XSAT (b2n (up || dn)) c
  (x.showInteg c).satCount c sat

/-- One channel in a period: it is evaluated, or held where a value is not finite (R307). The terms of its banks are kept for
the alignment of R324, by bank; none where it is held. -/
def UnitSt.chanStep (x : UnitSt) (prev gprev : Nat → Word) (c : Nat) : UnitSt × Option (List (Nat × Terms)) :=
  let x := x.endFade c
  let s := x.chan c
  let (r, _, x) := x.srcValue prev (LPE_CHSRC1.SRCR.get s.src1 0)
  let (y, _, x) := x.srcValue prev (LPE_CHSRC1.SRCY.get s.src1 0)
  let (v, _, x) := x.srcValue prev (LPE_CHSRC2.SRCV.get s.src2 0)
  let (up, dn) := x.outside prev gprev c
  let e := r32 ((b32 r).sub (b32 y))
  let res := x.chanEval c e v up dn
  let ok := (b32 r).finite && (b32 y).finite && (b32 v).finite && res.a.ok && (match res.inc with | some b => b.ok | none => true)
  if ok then
    (x.chanTake c e up dn res, some ((res.act, res.a.t) :: (match res.inc with | some b => [(1 - res.act, b.t)] | none => [])))
  else (((x.set LPE_CHSTAT.HELD 1 c).err LPE_ERR.NAN).inc LPE_CNT1.NAN, none)

/-! Groups (R321 to R324). -/

/-- The member with the lowest output among `cs`, ties to the lower number. -/
def UnitSt.lowest (x : UnitSt) (cs : List Nat) : Option Nat :=
  cs.foldl (fun m c =>
    match m with
    | none => some c
    | some d => if (b32 (BitVec.ofNat 32 (x.fld LPE_CHOUT.O c))).lt (b32 (BitVec.ofNat 32 (x.fld LPE_CHOUT.O d))) then some c else some d) none

/-- The winner of group `g` in a period and whether it has changed (R322). -/
def UnitSt.winner (x : UnitSt) (g : Nat) (ms : List Nat) : Option (Nat × Bool) :=
  let w := x.fld LPE_GCFG.WIN g
  let out (c : Nat) : Val := b32 (BitVec.ofNat 32 (x.fld LPE_CHOUT.O c))
  if !x.lpe.groups.contains g then (x.lowest ms).map (fun c => (c, false))
  else if !ms.contains w then (x.lowest ms).map (fun c => (c, true))
  else
    let lim := (out w).sub (b32 (BitVec.ofNat 32 (x.fld LPE_GHYST.HYST g)))
    match x.lowest (ms.filter (fun c => c != w && (out c).lt lim)) with
    | some c => some (c, true)
    | none => some (w, false)

/-- g moved from `g0` toward `ow` by at most GRATE (R323). -/
def rampTo (g0 ow rate : Word) : Word :=
  let d := (b32 ow).sub (b32 g0)
  if d.abs.le (b32 rate) then ow
  else if (b32 g0).lt (b32 ow) then r32 ((b32 g0).add (b32 rate)) else r32 ((b32 g0).sub (b32 rate))

/-- Aligns a loser of a group to g, in a fade both its banks (R324). -/
def UnitSt.alignLoser (x : UnitSt) (c : Nat) (g : Word) (ts : List (Nat × Terms)) : UnitSt :=
  let x := ts.foldl (fun (x : UnitSt) bt => x.onChan c (fun s =>
    let b := s.bank bt.1
    let (i, fa, fb) := x.align_ c bt.1 bt.2 (b32 g) (b32 g) b
    s.setBank bt.1 { b with i := i, fa := fa, fb := fb })) x
  x.showInteg c

/-- One group in a period; without a member that takes part it has no winner and holds its output. -/
def UnitSt.groupStep (x : UnitSt) (terms : List (Nat × List (Nat × Terms))) (g : Nat) : UnitSt :=
  let ms := x.members g
  match x.winner g ms with
  | none => (x.set LPE_GCFG.WIN 0x7F g).err LPE_ERR.CFG
  | some (w, changed) =>
    let first := !x.lpe.groups.contains g
    let ow := BitVec.ofNat 32 (x.fld LPE_CHOUT.O w)
    let ramp := !first && (changed || x.bit LPE_GCFG.RAMP g)
    let gv := if ramp then rampTo (BitVec.ofNat 32 (x.fld LPE_GOUT.G g)) ow (BitVec.ofNat 32 (x.fld LPE_GRATE.GRATE g)) else ow
    let x := ((x.set LPE_GCFG.WIN w g).set LPE_GOUT.G gv.toNat g).set LPE_GCFG.RAMP (b2n (ramp && !(b32 gv).eqv (b32 ow))) g
    let x := x.set LPE_CHSTAT.WIN 1 w
    let x : UnitSt := { x with lpe := { x.lpe with groups := if first then g :: x.lpe.groups else x.lpe.groups } }
    (ms.filter (· != w)).foldl (fun x c =>
      match terms.find? (fun e => e.1 == c) with
      | some (_, ts) => x.alignLoser c gv ts
      | none => x) x

/-- The rank in which a group runs: that of its enabled members. -/
def UnitSt.groupRuns (x : UnitSt) (g : Nat) : Nat := ((x.members g).head?.map (x.chanFld LPE_CHCFG.RANK)).getD 0

/-- The rank of a group as configured: that of its members. -/
def UnitSt.groupRank (x : UnitSt) (g : Nat) : Nat :=
  match (List.range 96).find? (fun c => x.inGroup c g) with
  | some c => x.fld LPE_CHCFG.RANK c
  | none => 0

/-- One rank: its channels, then its groups (R302). -/
def UnitSt.rankStep (x : UnitSt) (prev gprev : Nat → Word) (k : Nat) : UnitSt :=
  let cs := (List.range 96).filter (fun c => (x.chan c).on && x.chanFld LPE_CHCFG.RANK c == k)
  let (x, ts) := cs.foldl (fun (xt : UnitSt × List (Nat × List (Nat × Terms))) c =>
    let (y, t) := xt.1.chanStep prev gprev c
    (y, match t with | some t => (c, t) :: xt.2 | none => xt.2)) (x, [])
  ((List.range 16).filter (fun g => x.bit LPE_GCFG.EN g && x.groupRuns g == k)).foldl (fun x g => x.groupStep ts g) x

/-! Demands and forecasts (R311, R312). -/

/-- The level demand L of arm `n`.
Log entry 111 (DEDUCED). -/
def UnitSt.armDemand (x : UnitSt) (prev : Nat → Word) (n : Nat) : UnitSt :=
  let w := x.fld LPE_ARMD.SRC n
  let k := w / 256 % 16
  let (v, _, x) := if (k = 3 ∨ k = 7) ∧ srcOk w then x.srcValue prev w else (0, 0, x)
  let l : Word := if (k = 3 ∨ k = 7) ∧ srcOk w then r32 ((b32 (BitVec.ofNat 32 (x.fld LPE_ARMK.KL n))).mul (b32 v)) else 0
  { x with lpe := { x.lpe with dem := sset (fun _ => 0) x.lpe.dem n l } }

/-- The ten forecasts of arm `n`.
Log entries 107 (DEDUCED), 111 (DEDUCED). -/
def UnitSt.armForecast (x : UnitSt) (prev : Nat → Word) (n : Nat) : UnitSt :=
  let w0 := x.fld LPE_FCS.SRC0 n
  let w1 := x.fld LPE_FCS.SRC1 n
  let put (x : UnitSt) (f : List Word) : UnitSt :=
    { x with lpe := { x.lpe with fc := sset (fun _ => List.replicate 10 0) x.lpe.fc n f } }
  if !srcOk w0 || !srcOk w1 then put x (List.replicate 10 0)
  else
    let (a, _, x) := x.srcValue prev w0
    let (b, _, x) := x.srcValue prev w1
    let kf := b32 (BitVec.ofNat 32 (x.fld LPE_FCK.KF n))
    let f := (List.range 10).map (fun j => r32 (kf.mul ((b32 a).add ((b32 b).mul (.ofFrac (2 * j + 1 : Nat) 20)))))
    if f.all (fun v => (b32 v).finite) then put x f else (put x (List.replicate 10 0)).err LPE_ERR.NAN

/-- The forecasts of arm `n` as the last computation left them. -/
def UnitSt.forecast (x : UnitSt) (n : Nat) : List Word := sget (fun _ => List.replicate 10 0) x.lpe.fc n

/-! Spare engines (R301, R329, R330, R603). -/

/-- The engine of channel `c`. -/
def mapFld (c : Nat) : Fld :=
  match c % 4 with
  | 0 => LPE_MAP.ENG0
  | 1 => LPE_MAP.ENG1
  | 2 => LPE_MAP.ENG2
  | _ => LPE_MAP.ENG3
def UnitSt.engine (x : UnitSt) (c : Nat) : Nat := x.fld (mapFld c) (c / 4)
def UnitSt.setEngine (x : UnitSt) (c e : Nat) : UnitSt := x.set (mapFld c) e (c / 4)

def UnitSt.retired (x : UnitSt) (e : Nat) : Bool := bitAt (x.fld LPE_RETIRE.RET (e / 32)) (e % 32)
def UnitSt.retireEngine (x : UnitSt) (e : Nat) : UnitSt :=
  x.set LPE_RETIRE.RET (x.fld LPE_RETIRE.RET (e / 32) ||| (1 <<< (e % 32))) (e / 32)

/-- The spare engines: neither retired nor the engine of a channel, nor due to become one. -/
def UnitSt.spares (x : UnitSt) : List Nat :=
  let used := (List.range 96).map x.engine ++ x.lpe.moves.map (·.2)
  (List.range 104).filter (fun e => !x.retired e && !used.contains e)

/-- Shows whether no spare engine remains. -/
def UnitSt.showSpares (x : UnitSt) : UnitSt := x.set LPE_STAT.NOSPARE (b2n (x.spares == []))

/-- The enabled channels from `k` on, cyclically. -/
def UnitSt.spotOrder (x : UnitSt) : List Nat :=
  let on := (List.range 96).filter (fun c => (x.chan c).on)
  on.filter (fun c => decide (x.lpe.spot ≤ c)) ++ on.filter (fun c => decide (c < x.lpe.spot))

/-- A mismatch is reported and counted (R330), in the health record as well. -/
def UnitSt.spotMiss (x : UnitSt) : UnitSt :=
  let x := (x.err LPE_ERR.SPOT).inc LPE_CNT1.SPOTMIS
  { x with flt := { x.flt with health := { x.flt.health with spotMis := x.flt.health.spotMis + 1 } } }

/-- A check that is repeated by spare `second`, `mis` where its results differ.
Log entry 212 (DEDUCED). -/
def UnitSt.spotAgain (x : UnitSt) (c first second : Nat) (mis : Bool) : UnitSt :=
  let x : UnitSt := { x with flt := { x.flt with health := { x.flt.health with spot := x.flt.health.spot + 1 } } }
  if mis then
    let e := x.engine c
    let x := (x.spotMiss.retireEngine e).err LPE_ERR.ENGRET
    { x with lpe := { x.lpe with moves := (c, second) :: x.lpe.moves } }
  else (x.retireEngine first).err LPE_ERR.SPRET

/-- Whether a check is still to be repeated: its channel runs on the engine it ran on, and the first spare is one still. -/
def UnitSt.againDue (x : UnitSt) (a : Nat × Nat × Nat) : Bool := (x.chan a.1).on && x.engine a.1 == a.2.2 && x.spares.contains a.2.1

/-- The spot checks of a period: checks are repeated first, then each spare left checks a channel, and `mis` lists the spares
that find a difference.
Log entries 110 (DESIGN CHOICE), 212 (DEDUCED). -/
def UnitSt.spotCheck (x : UnitSt) (mis : List Nat) : UnitSt :=
  let sp := x.spares
  if !x.bit LPE_CFG.SPOTEN || sp == [] then x.showSpares
  else
    -- checks to be repeated take a spare other than the first, or the first where there is no other
    let (x, left) := (x.lpe.again.filter x.againDue).reverse.foldl (fun (xl : UnitSt × List Nat) a =>
      match (xl.2.filter (· != a.2.1)).head? with
      | some s2 => (xl.1.spotAgain a.1 a.2.1 s2 (mis.contains s2), xl.2.filter (· != s2))
      | none => if xl.2.contains a.2.1 then (xl.1.spotAgain a.1 a.2.1 a.2.1 (mis.contains a.2.1), xl.2.filter (· != a.2.1)) else xl) (x, sp)
    let order := x.spotOrder
    let pairs := if order = [] then [] else (List.range left.length).map (fun i => (left.getD i 0, order.getD (i % order.length) 0))
    let bad := pairs.filter (fun p => mis.contains p.1)
    let x := bad.foldl (fun x _ => x.spotMiss) x
    let next := match pairs.getLast? with | some p => p.2 + 1 | none => x.lpe.spot
    let h := x.flt.health
    let x : UnitSt := { x with
      lpe := { x.lpe with spot := next, again := bad.map (fun p => (p.2, p.1, x.engine p.2)) }
      flt := { x.flt with health := { h with spot := h.spot + pairs.length } } }
    x.showSpares

/-! The computation of a period (R302). -/

/-- The setpoint commits whose PN has come are in force (R326). -/
def UnitSt.takeCommits (x : UnitSt) : UnitSt :=
  let due := x.lpe.commits.filter (fun c => decide (c.1 ≤ x.pn))
  { x with lpe := { x.lpe with setp := due.foldl (fun m c => c.2.foldl (fun m e => sset (fun _ => 0) m e.1 e.2) m) x.lpe.setp } }

/-- The loop engines' part of a compute start; `mis` lists the spare engines whose spot check finds a difference. The commits of
the period are in force in it, also where the values of R334 have been taken. What Calender or Caliper would take is
discarded where it does no work (R42, R600). -/
def UnitSt.loopCompute (x : UnitSt) (mis : List Nat) : UnitSt :=
  if !x.works 0x23000 then x
  else
    let x := x.takeCommits
    let x : UnitSt := { x with lpe := { x.lpe with commits := x.lpe.commits.filter (fun c => decide (x.pn < c.1)) } }
    let was := x
    let prev (c : Nat) : Word := BitVec.ofNat 32 (was.fld LPE_CHOUT.O c)
    let gprev (g : Nat) : Word := BitVec.ofNat 32 (was.fld LPE_GOUT.G g)
    let off := (List.range 16).filter (fun g => !x.bit LPE_GCFG.EN g)
    let x := off.foldl (fun x g => (x.set LPE_GCFG.WIN 0x7F g).set LPE_GCFG.RAMP 0 g) x
    let x := (List.range 96).foldl (fun x c => x.set LPE_CHSTAT.WIN 0 c) x
    let x := (List.range 16).foldl (fun (x : UnitSt) g => x.set LPE_GCFG.NMEM (x.members g).length g) x
    let x : UnitSt := { x with lpe := { x.lpe with
      groups := x.lpe.groups.filter (fun g => !off.contains g)
      prev := (List.range 96).foldl (fun m c => sset (fun _ => 0) m c (prev c)) [] } }
    let x := (List.range 4).foldl (fun x k => x.rankStep prev gprev k) x
    let x := (List.range 6).foldl (fun x n => (x.armDemand prev n).armForecast prev n) x
    let x := x.spotCheck mis
    if x.away 0x21000 || x.away 0x22000 then x.err LPE_ERR.XING else x

/-- Whether a reset unit, up to its first boundary in Run, stands beside a partner that holds the lease, whose values it takes (R334,
R335). -/
def UnitSt.takesLoops (x : UnitSt) : Bool := x.lpe.fresh && x.splUp && x.lse.partLse == 2 && !x.isHolder

/-- A channel whose engine is retired moves to the lowest free spare; where none is free it is not enabled (R332).
Log entry 210 (DEDUCED). -/
def UnitSt.retireMoves (x : UnitSt) : UnitSt :=
  (List.range 96).foldl (fun x c =>
    if x.retired (x.engine c) then
      match x.spares.head? with
      | some e => x.setEngine c e
      | none =>
        if x.bit LPE_CHCFG.EN c then ((x.set LPE_CHCFG.EN 0 c).onChan c (fun s => { s with cleared := true })).err LPE_ERR.CFG else x
    else x) x

/-- Ends what runs in channel `c`: its fade, and the swaps that are due. -/
def UnitSt.endSwaps (x : UnitSt) (c : Nat) : UnitSt :=
  ((x.set LPE_CHSTAT.FADE 0 c).set LPE_CHSTAT.FPOS 0 c).onChan c (fun s => { s with fadeN := 0, due := [] })

/-- What a boundary changes in the loop engines: enables (R333), one cleared and set again among them, and moves of channels
(R330, R331); a move to an engine that has been retired since does not take place (R332).
Log entry 210 (DEDUCED). -/
def UnitSt.loopBoundary (x : UnitSt) : UnitSt :=
  if !x.works 0x23000 then x
  else
    let x := x.lpe.moves.foldl (fun x m => if x.retired m.2 then x else x.setEngine m.1 m.2) x
    let x := (List.range 96).foldl (fun x c =>
      let en := x.bit LPE_CHCFG.EN c
      if en && (!(x.chan c).on || (x.chan c).cleared) then
        let x := (x.set LPE_CHSATCNT.CNT 0 c).endSwaps c
        let was := x
        x.onChan c (fun s => { s with
          on := true, cleared := false, start := !was.takesLoops, warned := false, failed := false
          cfg := was.word (LPE_CHCFG.EN.addr c), src1 := was.word (LPE_CHSRC1.SRCR.addr c), src2 := was.word (LPE_CHSRC2.SRCV.addr c) })
      else if !en && (x.chan c).on then
        (x.endSwaps c).onChan c (fun s => { s with on := false, cleared := false, start := false })
      else x) x
    { x with lpe := { x.lpe with moves := [], fresh := x.lpe.fresh && !x.inRun } }

end Sys2Proof.Machine
end

