-- ==== Sys2Proof/Machine/Cal.lean ====
section
/-! DEFINITION. Calender (R283 to R299): pools and clamping, ranking, level interpolation, measurement holds and the carry state
of each arm. -/
namespace Sys2Proof.Machine

def UnitSt.carry (x : UnitSt) (arm : Nat) : Carry := sget (fun _ => {}) x.cal.carry arm
def UnitSt.setCarry (x : UnitSt) (arm : Nat) (c : Carry) : UnitSt :=
  { x with cal := { x.cal with carry := sset (fun _ => {}) x.cal.carry arm c } }

/-- An arm starts: ε 0, no toggle role, charging, form S, no band in the first period (R298). -/
def Carry.start (c : Carry) : Carry :=
  { c with on := true, first := true, eps := 0, tog := none, tcnt := 0, formE := false, dis := false, neg := false, prevA := none }

/-- The arms start when the unit enters Run from Hold (R298). -/
def UnitSt.armsStart (x : UnitSt) : UnitSt := (List.range 6).foldl (fun x n => x.setCarry n (x.carry n).start) x

/-! Demand (R287, R288). -/

/-- n / d rounded to the nearest integer, a half to even. -/
def nearestEven (n d : Nat) : Nat :=
  let q := n / d
  let r := n % d
  if 2 * r > d ∨ (2 * r = d ∧ q % 2 = 1) then q + 1 else q

/-- A demand as a signed multiple of 2^-16.
Log entry 101 (DEDUCED). -/
def demandOf : Val → Int
  | .fin s n d => sgnInt s (nearestEven (n * 65536) d)
  | _ => 0

/-! The emitted fraction (R294, R295): times over one period, in 2^-16 ns units. -/

/-- The fractions a form carries, as times: lowest and highest. -/
def formRange (formE : Bool) (t w smax : Int) : Int × Int := if formE then (max w (t - smax), t - w) else (w, min (t - w) smax)

/-- Whether a form carries a fraction. -/
def inRange (r : Int × Int) (f : Int) : Bool := decide (r.1 ≤ f) && decide (f ≤ r.2)

/-- f_e for the fraction `f` and the form used, `pref` being preferred.
Log entry 103 (DEDUCED). -/
def emitted (pref : Bool) (t w smax f : Int) : Int × Bool :=
  let rp := formRange pref t w smax
  let ro := formRange (!pref) t w smax
  if inRange rp f then (f, pref)
  else if inRange ro f then (f, !pref)
  else
    let cand (r : Int × Int) (fm : Bool) : List (Int × Bool) := if r.1 ≤ r.2 then [(clampInt r.1 r.2 f, fm)] else []
    let cs := (0, pref) :: (t, pref) :: (cand rp pref ++ cand ro (!pref))
    cs.foldl (fun m c =>
      let dm := (m.1 - f).natAbs
      let dc := (c.1 - f).natAbs
      if dc < dm ∨ (dc = dm ∧ c.1 < m.1) then c else m) (0, pref)

/-! Ranking (R292). -/

/-- The units of 3.2 kV / 2^24 in a value of volts, rounded down. -/
def keyUnits (v : Val) : Int := (v.mul (.ofFrac 16777216 3200)).floor

/-- The 24-bit key of a record. -/
def rankKey (r : ClpRec) (dis neg : Bool) (band : Int) : Nat :=
  let k := keyUnits (b32 r.vx)
  let k := if r.ins && r.neg == neg then (if dis then k + band else k - band) else k
  let k := (clampInt 0 16777215 k).toNat
  if dis then 16777215 - k else k

/-- Inserts a key and index in rising order. -/
def rankInsert (e : Nat × Nat) : List (Nat × Nat) → List (Nat × Nat)
  | [] => [e]
  | f :: l => if e.1 < f.1 ∨ (e.1 = f.1 ∧ e.2 < f.2) then e :: f :: l else f :: rankInsert e l

def rankSort (l : List (Nat × Nat)) : List (Nat × Nat) := l.foldl (fun acc e => rankInsert e acc) []

/-! The toggle cell's slot (R294, R296). -/

/-- The slot of the toggle cell: f_e × T, the form, polarity, p × Ī_f, and the arm's settings. -/
def UnitSt.toggleSlot (x : UnitSt) (arm : Nat) (fe t : Int) (formE neg : Bool) (pi : Val) : Nat :=
  let b1 := if neg then 2 else 1
  let s := if formE then t - fe else fe
  let dt : Int := (x.fld CAL_ARMSW.DT arm * qns : Nat)
  let zb := Val.ofInt (x.fld CAL_BAND.ZBAND arm : Nat)
  let s := if !x.bit CAL_ARMCFG.DTCOMP arm then s
    else if (!formE && zb.lt pi) || (formE && pi.lt zb.neg) then s - dt
    else if pi.abs.le zb then s - dt / 2
    else s
  let s := if s < (qns : Nat) then qns else s.toNat
  slotBits 0 (s / qns) (s % qns / 1024) (if formE then b1 else 0) (if formE then 0 else b1)

/-! One arm (R283 to R297). -/

/-- What selection gives an arm: the indices inserted, the toggle index with its slot, and the clamp. -/
structure Pick where
  sel  : List Nat
  tog  : Option (Nat × Nat)
  clamp : Bool

/-- The measurement hold of a run: its periods advance, and at its end the cell is available again.
Log entry 104 (DEDUCED). -/
def UnitSt.holdTick (x : UnitSt) (arm : Nat) (cells : List Nat) : UnitSt :=
  let c := x.carry arm
  let c := { c with since := min (c.since + 1) 65535 }
  match c.held with
  | none => x.setCarry arm c
  | some i =>
    if c.rem ≤ 1 then
      (x.setCarry arm { c with held := none, rem := 0 }).onRec (cells.getD i 0) (fun r => { r with hold := false })
    else x.setCarry arm { c with rem := c.rem - 1 }

/-- A hold is broken for the pool (R287). -/
def UnitSt.holdBreak (x : UnitSt) (arm k : Nat) : UnitSt :=
  let x := x.setCarry arm { x.carry arm with held := none, rem := 0 }
  let x := (x.onRec k (fun r => { r with hold := false })).inc CAL_CNT2.HOLDBRK
  { x with clp := { x.clp with meas := x.clp.meas.filter (fun m => m.key != k) } }

/-- The INJECT entry of a hold (R276), to be released at instant `t`; the first whole µs at or after it, modulo 2^32 (R447). -/
def injectDesc (k : Nat) (t : Instant) : Desc :=
  { kind := kEntry, op := 5, bcast := false, aftok := false, timed := true, strand := k / 64, hop := k % 64, addr := 0
    data := 0x31, mask := 0, buf := 0, tmo := 0, after := 0, at_ := (t + us - 1) / us % 2 ^ 32 }

/-- The holder submits the INJECT entry of a hold that its run has set up, with AT at the start of the first hold period (R276,
R447).
Log entry 104 (DEDUCED). -/
def UnitSt.holdInject (x : UnitSt) (k : Nat) : UnitSt :=
  if x.isHolder then (x.submit6 (injectDesc k (x.t0 (x.pn + 1)))).2 else x

/-- A new hold starts where one is due (R275): `free` lists the indices that are available, no toggle cell and not selected.
Log entry 104 (DEDUCED). -/
def UnitSt.holdStart (x : UnitSt) (arm : Nat) (cells free : List Nat) : UnitSt :=
  let c := x.carry arm
  let n := x.fld CLP_CCFG.HOLD
  if !x.bit CLP_CCFG.CEN || n == 0 || c.held.isSome || decide (c.since < x.fld CLP_CCFG.HOLDGAP) then x
  else
    match free.filter (fun i => decide (c.last < i) && c.last != 0x7FF) ++ free.filter (fun i => decide (i ≤ c.last) || c.last == 0x7FF) with
    | [] => x
    | i :: _ =>
      let k := cells.getD i 0
      let x := x.setCarry arm { c with held := some i, rem := n, last := i, since := 0 }
      let x := (x.onRec k (fun r => { r with hold := true })).holdInject k
      { x with clp := { x.clp with meas := x.clp.meas ++ [{ arm := arm, key := k, pn0 := x.pn + 1, n := n }] } }

/-- Ī_f, the mean of the ten forecasts. -/
def UnitSt.meanForecast (x : UnitSt) (arm : Nat) : Val :=
  (((x.forecast arm).map b32).foldl (fun (s v : Val) => (s.add v).norm) (Val.fin false 0 1)).mul (.ofFrac 1 10)

/-- The direction of a period (R291). -/
def UnitSt.direction (x : UnitSt) (arm : Nat) (pi : Val) (was : Bool) : Bool :=
  let zb := Val.ofInt (x.fld CAL_BAND.ZBAND arm : Nat)
  if zb.lt pi then false else if pi.lt zb.neg then true else was

/-- Cells for an enabled arm: the pool, the count, the toggle cell, the ranking and the carry state left. `l` is the demand in
2^-16, `avail` the available indices, `held` the held index if it can be inserted.
Log entries 101 (DEDUCED), 103 (DEDUCED). -/
def UnitSt.armPick (x : UnitSt) (arm : Nat) (cells : List Nat) (l : Int) (avail : List Nat) (held : Option Nat) : UnitSt × Pick :=
  let c := x.carry arm
  let neg := decide (l < 0)
  let c := if neg = c.neg then c else { c with neg := neg, eps := 0, tog := none, tcnt := 0 }
  let typ := x.fld CAL_ARMCFG.TYPE arm
  let fits (i : Nat) : Bool := !neg || typ == 1 || (typ == 2 && x.conf.fullBridge.contains (cells.getD i 0))
  let pool := avail.filter fits
  let extra := held.toList.filter fits
  let ifc := x.meanForecast arm
  let pi := if neg then ifc.neg else ifc
  let dis := x.direction arm pi c.dis
  -- A × T, N and f × T
  let t : Int := x.period
  let raw := (l.natAbs : Int) * (x.fld TIM_PERIOD.T * 250 : Nat) + c.eps
  let at_ := if raw < 0 then 0 else raw
  let n := (at_ / t).toNat
  let f := at_ % t
  let w : Int := ((x.fld CAL_ARMSW.DT arm + x.fld CAL_ARMSW.MINP arm) * qns : Nat)
  let smax : Int := (65535 * qns : Nat)
  let cmp (a : Int × Int) : Bool := match c.prevA with   -- A against the A of the period before
    | none => false
    | some (pn, pd) => if a.1 * pd < pn * a.2 then false else if pn * a.2 < a.1 * pd then true else c.formE
  let (fe, form) := emitted (cmp (at_, t)) t w smax f
  let need := n + (if 0 < fe then 1 else 0)
  let brk := decide (pool.length < need) && extra != []
  let x := if brk then (extra.map (fun i => cells.getD i 0)).foldl (fun x k => x.holdBreak arm k) x else x
  let pool := if brk then pool ++ extra else pool
  let h := x.carry arm
  let c := { c with held := h.held, rem := h.rem }
  let clamp := decide (pool.length < need) || (typ == 0 && neg)
  let cap := if typ = 0 ∧ neg then 0 else pool.length
  let nsel := if clamp then cap else n + (if fe = t then 1 else 0)
  let form := if clamp then cmp ((cap : Nat), 1) else form
  let eps := if clamp then 0 else if raw < 0 then raw else at_ - n * t - fe
  let x := if clamp then x.inc CAL_CNT1.CLAMP else if fe ≠ f then x.inc CAL_CNT1.TOGRND else x
  let togs := !clamp && decide (0 < fe) && decide (fe < t)
  let keep := match c.tog with
    | some i => togs && pool.contains i && decide (c.tcnt < max 1 (x.fld CAL_ARMCFG.ROT arm))
    | none => false
  let band : Int := if c.first then 0 else (x.fld CAL_BAND.BAND arm * 16777216 / 320000 : Nat)
  let cand := if keep then pool.filter (fun i => some i != c.tog) else pool
  let ranked := (rankSort (cand.map (fun i => (rankKey (x.clpRec (cells.getD i 0)) dis neg band, i)))).map (·.2)
  let sel := ranked.take nsel
  let tog := if !togs then none else if keep then c.tog else ranked[nsel]?
  let c := { c with
    first := false, eps := eps, tog := tog, tcnt := if !togs then 0 else if keep then c.tcnt + 1 else 1, formE := form, dis := dis
    prevA := some (if clamp then (cap, 1) else (at_.toNat, t.toNat)) }
  let x := x.setCarry arm c
  (x, { sel := sel, tog := tog.map (fun i => (i, x.toggleSlot arm fe t form neg pi)), clamp := clamp })

/-- One arm of a Calender run: its slots go into `slots`.
Log entry 102 (DEDUCED). -/
def UnitSt.armRun (x : UnitSt) (arm : Nat) (slots : Sparse Nat) : UnitSt × Sparse Nat :=
  let cells := x.armCells arm
  let put (m : Sparse Nat) (k b : Nat) : Sparse Nat := sset (fun _ => 3) m k b
  let en := x.bit CAL_ARMCFG.EN arm
  let c := x.carry arm
  let x := if en ∧ !c.on then x.setCarry arm c.start else if !en ∧ c.on then x.setCarry arm { c with on := false } else x
  let x := x.holdTick arm cells
  let x := cells.foldl (fun x k => x.onRec k (fun r => { r with toggle := false })) x
  let ix := List.range cells.length
  let avail := ix.filter (fun i => x.available (cells.getD i 0))
  let held := (x.carry arm).held.filter (fun i => (x.reason (cells.getD i 0)).isNone)
  let fb := (avail.filter (fun i => x.conf.fullBridge.contains (cells.getD i 0))).length
  let x := (x.set CAL_AVAIL.FB (min fb 2047) arm).set CAL_AVAIL.HB (min (avail.length - fb) 2047) arm
  let nocmd := (avail.filter (fun i => let v := x.view (cells.getD i 0)
                                       v.slotPn == some x.pn && bitAt (slotFlags v.slot) 6)).length
  let x := x.set CAL_CNT2.NOCMD (min 65535 (x.fld CAL_CNT2.NOCMD + nocmd))
  let low := decide (avail.length < x.fld CAL_ARMCFG.NREQ arm)
  let x := if low then x.err CAL_ERR.LOW else x
  let lv := b32 (sget (fun _ => 0) x.lpe.dem arm)
  let ifc := x.meanForecast arm
  let vsum : Val := (avail.map (fun i => b32 (x.clpRec (cells.getD i 0)).vx)).foldl (fun (s v : Val) => (s.add v).norm) (Val.fin false 0 1)
  let agg : List Word := [e32 vsum, r32 (.ofInt (avail.length : Nat)), sget (fun _ => 0) x.lpe.dem arm, e32 ifc]
  let x : UnitSt := { x with cal := { x.cal with agg := sset (fun _ => []) x.cal.agg arm agg } }
  let base := cells.foldl (fun m k => put m k (if en then (x.reason k).getD 0 else 3)) slots
  let word (x : UnitSt) (satp satn dis neg : Bool) (nsel tog : Nat) : UnitSt :=
    let x := ((x.set CAL_ASTAT.SATP (b2n satp) arm).set CAL_ASTAT.SATN (b2n satn) arm).set CAL_ASTAT.LOW (b2n low) arm
    let x := (x.set CAL_ASTAT.DIR (b2n dis) arm).set CAL_ASTAT.POL (b2n neg) arm
    let x := (x.set CAL_ASTAT.NSEL (min nsel 2047) arm).set CAL_ASTAT.TOGGLE tog arm
    x.set CAL_STAT.SAT (putBit (x.fld CAL_STAT.SAT) arm (satp || satn))
  if !en then (word x false false false false 0 0x7FF, base)
  else
    let x := if lv.finite then x else x.err CAL_ERR.DNAN
    let (x, p) := x.armPick arm cells (demandOf lv) avail held
    let c := x.carry arm
    let b1 := if c.neg then 2 else 1
    let m := p.sel.foldl (fun m i => put m (cells.getD i 0) b1) base
    let (m, x) := match p.tog with
      | some (i, s) => (put m (cells.getD i 0) s, x.onRec (cells.getD i 0) (fun r => { r with toggle := true }))
      | none => (m, x)
    let free := avail.filter (fun i => !p.sel.contains i && (p.tog.map (·.1)) != some i)
    let x := x.holdStart arm cells free
    (word x (p.clamp && !c.neg) (p.clamp && c.neg) c.dis c.neg p.sel.length ((p.tog.map (·.1)).getD 0x7FF), m)

/-- A Calender run (R273): exclusions written since the last run take effect (R299), and every arm gives its slots; where
Headbox does no work they are discarded (R42, R600). -/
def UnitSt.calRun (x : UnitSt) : UnitSt :=
  if !x.works 0x21000 || !x.tim.counting then x
  else
    let x := x.cal.fx.reverse.foldl (fun (x : UnitSt) e => x.onRec e.1 (fun r => { r with fxcl := e.2 })) x
    let x : UnitSt := { x with cal := { x.cal with fx := [] } }
    let (x, slots) := (List.range 6).foldl (fun (xs : UnitSt × Sparse Nat) arm => xs.1.armRun arm xs.2) (x, [])
    let h := x.flt.health
    let seen (m : Sparse Nat) (n : Nat) : Sparse Nat :=
      sset (fun _ => 0) m n (sget (fun _ => 0) m n ||| (b2n (x.bit CAL_ASTAT.LOW n) + 2 * b2n (x.bit CAL_ASTAT.SATP n)
        + 4 * b2n (x.bit CAL_ASTAT.SATN n)))
    let x := x.crossTo 0x20000 CAL_ERR.XING
    { x with cal := { x.cal with slots := if x.works 0x20000 then slots else x.cal.slots }
             flt := { x.flt with health := { h with armbits := (List.range 6).foldl seen h.armbits } } }

/-- CALENDER_RUN. -/
def execCalenderRun (u : UnitId) (s : State) : Host.Outcome State Fault Refusal := unitStep s u UnitSt.calRun

/-- STAGE_DEADLINE_MISS: Calender (`cal`) or Caliper has not finished by its deadline (R274).
Log entry 105 (DEDUCED). -/
def execStageDeadlineMiss (u : UnitId) (cal : Bool) (s : State) : Host.Outcome State Fault Refusal :=
  unitStep s u (fun x =>
    if !x.works (if cal then 0x21000 else 0x22000) then x
    else
      let x := if cal then x.err CAL_ERR.LATE else x.err CLP_ERR.LATE
      { x with cal := { x.cal with late := true } })

/-- A write of `CAL_FX`. -/
def UnitSt.fxWrite (x : UnitSt) (v : Word) : UnitSt :=
  let s := CAL_FX.STRAND.get v 0
  let h := CAL_FX.HOP.get v 0
  if x.isCell s h then { x with cal := { x.cal with fx := (s * 64 + h, bitAt v.toNat 31) :: x.cal.fx } } else x

/-- CAL_FX_WRITE. -/
def execCalFxWrite (u : UnitId) (q : Requester) (v : Word) (s : State) : Host.Outcome State Fault Refusal :=
  unitStep s u (fun x => x.guard q true 0x210D0 (fun x => x.fxWrite v))

end Sys2Proof.Machine
end

