-- ==== Sys2Proof/Machine/Lease.lean ====
section
/-! DEFINITION. The lease of a unit and Splice: claims, LEASE messages, lanes and the planned hand-over (R405 to R414,
R423 to R426). -/
namespace Sys2Proof.Machine

/-! Claims (R406 to R409). -/

/-- A standby that has judged the holder lost enters CLAIM, and launches frames of its own from then on (R407, R409, R416).
Log entry 78 (DEDUCED). -/
def UnitSt.claimLost (x : UnitSt) : UnitSt :=
  match x.lse.lostNow with
  | some c => if x.lstate = 0 then (x.claim c).showRelay [] else x
  | none => x

def execHolderLostClaim (u : UnitId) (s : State) : Host.Outcome State Fault Refusal := unitStep s u (fun x => x.claimLost)

/-- The evaluation of R406 and R407 in Quiet, at t0 + s of the first and the thirty-third period of a low-rate cycle, with
Splice down (R408). -/
def execQuietLeaseEval (u : UnitId) (pact : Bool) (s : State) : Host.Outcome State Fault Refusal :=
  unitStep s u (fun x =>
    if x.inQuiet ∧ x.pn % 32 = 0 then (x.leaseCompute pact).claimLost else x)

/-- FENCE over Splice: evidence for the cause FENCE (R407).
Log entry 80 (DEDUCED). -/
def execFenceRx (u : UnitId) (s : State) : Host.Outcome State Fault Refusal :=
  unitStep s u (fun x => if x.inQuiet then x else { x with lse := { x.lse with fenceRx := true } })

/-! LEASE messages (R424, R425). -/

/-- Schedules the move of the logical lane of physical lane `n` for the second boundary after period `pn`. -/
def UnitSt.moveDue (x : UnitSt) (n pn : Nat) : UnitSt :=
  match x.logOf n with
  | none => x
  | some l =>
    if x.spl.moves.any (fun m => m.1 == l) then x
    else { x with spl := { x.spl with moves := (l, pn + 2) :: x.spl.moves } }

/-- At t0 + 0.2 µs the unit sends its LEASE message (R425), with the retirement it has to announce (R424). -/
def execLeaseMsgSend (u : UnitId) (s : State) : Host.Outcome State Fault Refusal :=
  unitStep s u (fun x =>
    if x.inQuiet then x
    else
      let hov := if x.lse.hovMine && x.lse.hovAcked then x.lse.hovP.map (BitVec.ofNat 48) else none
      let m : LeaseMsg := {
        lstate := ⟨x.lstate % 4, Nat.mod_lt _ (by decide)⟩, epoch := BitVec.ofNat 32 (if x.lstate = 0 then x.seenEpoch else x.lse.epoch)
        pn := BitVec.ofNat 48 x.pn, cfgd := BitVec.ofNat 32 x.cfgd, ready := x.ready, active := x.lse.active
        hov := hov, retired := x.spl.announce }
      let x := match x.spl.announce with
        | some n => { x.moveDue n.val x.pn with spl := { (x.moveDue n.val x.pn).spl with announce := none } }
        | none => x
      x.say (.lease m))

/-- Compares the partner's configuration digest `d` with the unit's own (R19, R422, R431). -/
def UnitSt.takeCfgd (x : UnitSt) (d : Nat) : UnitSt :=
  let differ := d != x.cfgd
  let x := if differ && !x.lse.cfgdDiff then x.err SPL_ERR.CFGD else x
  let x := { x with lse := { x.lse with cfgdDiff := differ, partCfgd := some d } }
  x.set PWR_COND.CFGD (b2n !differ)

/-- Compares the digests anew after the unit's own has changed, against the partner's last while Splice is up (R19). -/
def UnitSt.cfgdAgain (x : UnitSt) : UnitSt :=
  match x.lse.partCfgd with
  | some d => if x.splUp then x.takeCfgd d else x
  | none => x

/-- A LEASE message of the partner arrives: Splice is up, and the unit takes the partner's state, epoch and READY, the
retirement announced, and base, T and PN when it has none of its own (R60, R407, R409, R424, R425).
Log entries 30 (DEDUCED), 80 (DEDUCED). -/
def execLeaseMsgRx (u : UnitId) (m : LeaseMsg) (s : State) : Host.Outcome State Fault Refusal :=
  let y := s.unit u.other
  unitStep s u (fun x =>
    if x.inQuiet then x
    else
      let x := { x with
        spl := { x.spl with silent := 0 }
        lse := { x.lse with partLse := m.lstate.val, partHold := x.lse.partHold || m.lstate.val == 2, partReady := m.ready
                            fenceRx := x.lse.fenceRx && m.lstate.val == 3 } }
      let x := ((x.set SPL_STAT.UP 1).seeEpoch m.epoch.toNat).takeCfgd m.cfgd.toNat
      let x := match m.retired with | some n => x.moveDue n.val m.pn.toNat | none => x
      if !x.tim.baseSet ∧ y.tim.counting then x.takeBase y else x)

/-- Splice is down: a change from up is counted and sets ERR.DOWN (R425). -/
def UnitSt.splDown (x : UnitSt) : UnitSt :=
  let x := if x.splUp then (x.err SPL_ERR.DOWN).inc SPL_CNT2.DOWN else x
  let x := ((x.set SPL_STAT.UP 0).showRelay []).set SPL_RELAY.RNUM 0
  let x := x.set PWR_COND.CFGD 1
  { x with spl := { x.spl with relayReq := [] }
           lse := { x.lse with partStby := 0, cfgdDiff := false, partCfgd := none, rsWant := [], rsOwn := [], rsRx := []
                               rsAsk := [], rsTx := [] } }

/-- No LEASE message in the last 2 periods: Splice is down (R425). -/
def execSpliceDown (u : UnitId) (s : State) : Host.Outcome State Fault Refusal :=
  unitStep s u (fun x =>
    if x.splUp ∧ 2 ≤ x.spl.silent then
      x.splDown
    else x)

/-! Lanes (R423, R424). -/

/-- A physical lane has lost lock, or counted `errs` block errors within one second: it is retired, and announced in the
next LEASE message; when both logical lanes have failed the unit moves them at once (R424). -/
def execSpliceLaneRetire (u : UnitId) (n : Fin 4) (lost : Bool) (errs : Fin 65536) (s : State) : Host.Outcome State Fault Refusal :=
  unitStep s u (fun x =>
    if x.inQuiet then x
    else
      let x := x.set SPL_CNT1.BLKERR (min 65535 (x.fld SPL_CNT1.BLKERR + errs.val))
      if lost then x.laneLost n
      else if x.fld SPL_BERTH.BERTH < errs.val then x.retireLane n
      else x)

/-- The second boundary after the announcement: the logical lanes whose move is due take their spares (R424). -/
def execSpliceLaneMove (u : UnitId) (s : State) : Host.Outcome State Fault Refusal :=
  unitStep s u (fun x =>
    if x.inQuiet ∨ !x.bit SPL_LANEMAP.AUTOSP then x
    else
      let due := (x.spl.moves.filter (fun m => decide (m.2 ≤ x.pn))).map (·.1)
      let x := { x with spl := { x.spl with moves := x.spl.moves.filter (fun m => !decide (m.2 ≤ x.pn)) } }
      due.foldl (fun x l => x.moveLane l) x)

/-! Planned hand-over (R413). -/

/-- A write of `LSE_HOV` with REQ requests a hand-over for the PN written, or for PN + 3. -/
def UnitSt.hovWrite (x : UnitSt) (v : Word) : UnitSt :=
  if !bitAt v.toNat 31 then x
  else (x.hovRequest (if bitAt v.toNat 30 then x.pn + 3 else x.pair LSE_HOVPN_LO.PN_LO LSE_HOVPN_HI.PN_HI)).2

def execHandoverReq (u : UnitId) (q : Requester) (v : Word) (s : State) : Host.Outcome State Fault Refusal :=
  unitStep s u (fun x => x.guard q true 0x32048 (fun x => x.hovWrite v))

/-- The partner answers HOVACK when it is in STANDBY and READY. -/
def execHovreqRx (u : UnitId) (p : BitVec 48) (s : State) : Host.Outcome State Fault Refusal :=
  unitStep s u (fun x =>
    if x.ready ∧ !x.inQuiet then
      let x := { x with lse := { x.lse with hovP := some p.toNat, hovAcked := true, hovMine := false } }
      x.say (.hovAck p.toNat)
    else x)

/-- Whether the compute start of P − 3 is still to come. -/
def UnitSt.hovInTime (x : UnitSt) (p : Nat) : Bool :=
  decide (x.pn + 3 < p) || (x.pn + 3 == p && !x.reached ((x.t0 x.pn + x.compOfs) % 2 ^ 80))

/-- HOVACK arrives before the compute start of P − 3: the hand-over is committed. -/
def execHovackRx (u : UnitId) (p : BitVec 48) (s : State) : Host.Outcome State Fault Refusal :=
  unitStep s u (fun x =>
    if x.lse.hovMine ∧ x.lse.hovP = some p.toNat ∧ !x.lse.hovAcked ∧ x.isHolder ∧ x.hovInTime p.toNat then
      { x.set LSE_HOV.RES 1 with lse := { x.lse with hovAcked := true } }
    else x)

end Sys2Proof.Machine
end

