-- ==== Sys2Proof/Machine/Mirror.lean ====
section
/-! DEFINITION. The mirror record, arm digests and resynchronisation (R334, R418 to R422), and the hand-over's end (R413,
R414). -/
namespace Sys2Proof.Machine

/-! The record (R419). -/

/-- Entry of loop channel `c`. -/
def UnitSt.mirLoop (x : UnitSt) (c : Nat) : Bytes :=
  let s := x.chan c
  leBytes 8 s.b0.i.toNat ++ leBytes 8 s.b1.i.toNat ++ leBytes 2 (x.fld LPE_CHSTAT.FPOS c) ++ leBytes 2 s.fadeN ++
    leBytes 4 (x.fld LPE_CHSTAT.ACT c + 2 * x.fld LPE_CHSTAT.FADE c + 4 * x.fld LPE_CHSTAT.TGT c)

/-- Entry of group `g`. -/
def UnitSt.mirGroup (x : UnitSt) (g : Nat) : Bytes :=
  leBytes 4 (x.fld LPE_GOUT.G g) ++ leBytes 1 (x.fld LPE_GCFG.WIN g) ++ leBytes 1 (x.fld LPE_GCFG.RAMP g) ++ leBytes 2 0

/-- The carry state of arm `n`.
Log entry 101 (DEDUCED). -/
def UnitSt.mirCarry (x : UnitSt) (n : Nat) : Bytes :=
  let c := x.carry n
  let a : Val := match c.prevA with | some (p, q) => .fin false p q | none => .fin false 0 1
  leBytes 4 (e32 (.ofFrac c.eps ns)).toNat ++ leBytes 2 (c.tog.getD 0x7FF) ++ leBytes 1 c.tcnt ++
    leBytes 1 (b2n c.formE + 2 * b2n c.dis + 4 * b2n c.neg) ++ leBytes 2 (c.held.getD 0x7FF) ++ leBytes 2 c.rem ++
    leBytes 2 c.last ++ leBytes 2 c.since ++ leBytes 4 (e32 a).toNat ++ leBytes 12 0

/-- The digest entry of arm `n`. -/
def UnitSt.mirDigest (x : UnitSt) (n : Nat) : Bytes :=
  let d := ((x.lse.digPrev.find? (fun e => e.1 == n)).map (·.2)).getD 0
  leBytes 8 d ++ leBytes 4 (x.armCells n).length ++ leBytes 4 0

/-- The mirror record of the running period with sequence number `seq`.
Log entry 83 (DESIGN CHOICE). -/
def UnitSt.mirrorRecord (x : UnitSt) (seq : Nat) : Bytes :=
  let body := leBytes 4 seq ++ leBytes 6 x.pn ++ leBytes 2 (unitBit x.id) ++ leBytes 4 x.lse.epoch ++ leBytes 4 x.cfgd ++ leBytes 44 0
    ++ (List.range 96).flatMap x.mirLoop ++ (List.range 16).flatMap x.mirGroup
    ++ (List.range 64).flatMap (fun i => leBytes 4 (sget (fun _ => 0) x.lpe.setp i).toNat)
    ++ (List.range 6).flatMap x.mirCarry ++ (List.range 6).flatMap x.mirDigest ++ leBytes 5148 0
  body ++ leBytes 4 (crc32 body)

/-- Whether the unit has a mirror record to send. -/
def UnitSt.mirrors (x : UnitSt) : Bool := x.isHolder && x.splUp && !x.inQuiet

/-- The holder's mirror record and COMMIT, then one resynchronisation block (R418, R421, R426).
Log entry 85 (DEDUCED). -/
def UnitSt.mirrorSend (x : UnitSt) : UnitSt :=
  if !x.mirrors then x
  else
    let seq := (x.lse.mirSeq + 1) % 2 ^ 32
    let r := x.mirrorRecord seq
    let x : UnitSt := { x with lse := { x.lse with mirSeq := seq } }
    let x := (x.say (.mirror r)).say (.commit seq x.pn (leAt r 8188 4))
    match x.lse.rsTx with
    | [] => x
    | (arm, m, data, blk) :: rest =>
      let left := data.drop 4096
      let x : UnitSt := { x with lse := { x.lse with rsTx := if left = [] then rest else (arm, m, left, blk + 1) :: rest } }
      x.say (.resyncBlock arm m blk (data.take 4096))

/-- A record is on its way to a standby that hears Splice: without its COMMIT the next compute start discards it.
Log entry 83 (DESIGN CHOICE). -/
def UnitSt.mirrorComes (x : UnitSt) (r : Bytes) : UnitSt :=
  if x.inQuiet || x.isHolder || x.fenced then x else { x with lse := { x.lse with mirRx := some r } }

/-- MIRROR_SEND: what the holder sends, and the record that its partner then waits for.
Log entry 83 (DESIGN CHOICE). -/
def execMirrorSend (u : UnitId) (s : State) : Host.Outcome State Fault Refusal :=
  let x := s.unit u
  if x.mirrors then
    .next ((s.setUnit u x.mirrorSend).onUnit u.other (fun y => y.mirrorComes (x.mirrorRecord ((x.lse.mirSeq + 1) % 2 ^ 32))))
  else .next s

/-- MIRROR_COMMIT_RX: the bytes received of a record, and the COMMIT that follows them.
Log entries 74 (DEDUCED), 83 (DESIGN CHOICE). -/
def execMirrorCommitRx (u : UnitId) (record : Bytes) (seq : BitVec 32) (pn : BitVec 48) (crc : BitVec 32) (s : State) :
    Host.Outcome State Fault Refusal :=
  unitStep s u (fun x =>
    if x.inQuiet || x.isHolder || x.fenced then x
    else if record.length = 8192 ∧ crc32 (record.take 8188) = leAt record 8188 4 ∧ leAt record 8188 4 = crc.toNat then
      let x := (x.set LSE_MIRSEQ.SEQ seq.toNat).setPair LSE_MIRPN_LO.PN_LO LSE_MIRPN_HI.PN_HI pn.toNat
      { x with lse := { x.lse with mirror := record, mirRx := none } }
    else { x with lse := { x.lse with mirRx := some record } })

/-! Taking the record (R334, R297). -/

/-- Takes the loop engines' values of the committed record.
Log entries 82 (DEDUCED), 213 (DEDUCED). -/
def UnitSt.takeLoops (x : UnitSt) (r : Bytes) : UnitSt :=
  let x := (List.range 96).foldl (fun (x : UnitSt) c =>
    let o := 64 + 24 * c
    let f := byteAt r (o + 20)
    let x := x.onChan c (fun s => { s with
      b0 := { s.b0 with i := BitVec.ofNat 64 (leAt r o 8) }, b1 := { s.b1 with i := BitVec.ofNat 64 (leAt r (o + 8) 8) }
      fadeN := leAt r (o + 18) 2 })
    let x := (x.set LPE_CHSTAT.FPOS (leAt r (o + 16) 2) c).set LPE_CHSTAT.ACT (f % 2) c
    (x.set LPE_CHSTAT.FADE (f / 2 % 2) c).set LPE_CHSTAT.TGT (f / 4 % 2) c) x
  let x := (List.range 16).foldl (fun (x : UnitSt) g =>
    let o := 2368 + 8 * g
    let w := byteAt r (o + 4)
    let x := ((x.set LPE_GOUT.G (leAt r o 4) g).set LPE_GCFG.WIN w g).set LPE_GCFG.RAMP (byteAt r (o + 5) % 2) g
    { x with lpe := { x.lpe with groups := if w = 0x7F then x.lpe.groups
                                           else if x.lpe.groups.contains g then x.lpe.groups else g :: x.lpe.groups } }) x
  { x with lpe := { x.lpe with setp := (List.range 64).foldl (fun m i =>
      sset (fun _ => 0) m i (BitVec.ofNat 32 (leAt r (2496 + 4 * i) 4))) [] } }

/-- An index of the record, 0x7FF for none. -/
def someIx (n : Nat) : Option Nat := if n = 0x7FF then none else some n

/-- Arm `n` awaits the result of the hold that the holder's record names, of cell `k` with `rem` periods left, and of no other that
has not ended (R276): the record is that of the period before, and the hold began in the period after the run that set it up. -/
def UnitSt.holdFromMirror (x : UnitSt) (n : Nat) (k : Option Nat) (rem : Nat) : UnitSt :=
  let len := x.fld CLP_CCFG.HOLD
  let ended := x.clp.meas.filter (fun m => m.arm != n || decide (m.pn0 + m.n ≤ x.pn))
  match k with
  | none => { x with clp := { x.clp with meas := ended } }
  | some k => { x with clp := { x.clp with meas := ended ++ [{ arm := n, key := k, pn0 := x.pn + rem - len, n := len }] } }

/-- Takes the carry state of the committed record.
Log entry 82 (DEDUCED). -/
def UnitSt.takeCarry (x : UnitSt) (r : Bytes) : UnitSt :=
  (List.range 6).foldl (fun (x : UnitSt) n =>
    let o := 2752 + 32 * n
    let f := byteAt r (o + 7)
    let eps := ((b32 (BitVec.ofNat 32 (leAt r o 4))).scale ns).floor
    let a := match b32 (BitVec.ofNat 32 (leAt r (o + 16) 4)) with | .fin _ p q => some (p, q) | _ => none
    let held := someIx (leAt r (o + 8) 2)
    let rem := byteAt r (o + 10)
    let c := x.carry n
    let x := x.setCarry n { c with
      eps := eps, tog := someIx (leAt r (o + 4) 2), tcnt := byteAt r (o + 6), formE := bitAt f 0, dis := bitAt f 1, neg := bitAt f 2
      prevA := if c.first then c.prevA else a, held := held, rem := rem
      last := leAt r (o + 12) 2, since := leAt r (o + 14) 2 }
    let cells := x.armCells n
    let x := (List.range cells.length).foldl (fun x i => x.onRec (cells.getD i 0) (fun q => { q with hold := held == some i })) x
    x.holdFromMirror n (held.map (fun i => cells.getD i 0)) rem) x

/-- Whether every block of a resynchronisation of arm `n` has come. -/
def UnitSt.resyncIn (x : UnitSt) (n : Nat) : Bool :=
  x.lse.rsRx.any (fun r => r.arm == n && decide (64 * (x.armCells n).length ≤ r.data.length))

/-- Compares the digests of the committed record with the unit's own of the period before; every mismatch asks for a
resynchronisation, and the holder answers none twice (R420).
Log entry 84 (DEDUCED). -/
def UnitSt.compareDigests (x : UnitSt) (r : Bytes) : UnitSt :=
  if x.clp.done ≠ some (x.pn - 1) then x
  else
    (List.range 6).foldl (fun (x : UnitSt) n =>
      let own := ((x.lse.digPrev.find? (fun e => e.1 == n)).map (·.2)).getD 0
      let d := x.fld LSE_STAT.DSYNC
      if leAt r (2944 + 16 * n) 8 = own then x.set LSE_STAT.DSYNC (putBit d n true)
      else
        let x := ((x.err LSE_ERR.DIGEST).inc LSE_CNT2.DIGMIS).set LSE_STAT.DSYNC (putBit d n false)
        if !x.splUp || x.resyncIn n then x
        else ({ x with lse := { x.lse with rsWant := n :: x.lse.rsWant.filter (· != n) } } : UnitSt).say (.resyncReq n)) x

/-- What a compute start does with the mirror record.
Log entry 82 (DEDUCED). -/
def UnitSt.mirrorCompute (x : UnitSt) : UnitSt :=
  let x := if x.lse.mirRx.isSome then (x.inc LSE_CNT3.NOMIR).err LSE_ERR.NOMIR else x
  let x : UnitSt := { x with lse := { x.lse with mirRx := none } }
  if x.isHolder || x.fenced then x.set LPE_STAT.OWN 0
  else if x.lse.mirror ≠ [] ∧ x.pair LSE_MIRPN_LO.PN_LO LSE_MIRPN_HI.PN_HI + 1 = x.pn then
    ((((x.compareDigests x.lse.mirror).takeLoops x.lse.mirror).takeCarry x.lse.mirror).set LPE_STAT.OWN 0)
  else x.set LPE_STAT.OWN 1

/-! Digests and resynchronisation (R420, R421). -/

/-- The digest of arm `n`: VF, VX, C and Q of its records. -/
def UnitSt.armDigest (x : UnitSt) (n : Nat) : Nat :=
  crc64 ((x.armCells n).flatMap (fun k => let r := x.clpRec k
                                          leBytes 4 r.vf.toNat ++ leBytes 4 r.vx.toNat ++ leBytes 4 r.c.toNat ++ leBytes 8 r.q.toNat))

/-- What stands at c + 0.45 µs: the digests, the records asked for, and the unit's own values while it waits for a
resynchronisation.
Log entry 85 (DEDUCED). -/
def UnitSt.recordsStand (x : UnitSt) : UnitSt :=
  let was := x
  { x with lse := { x.lse with
    digPrev := (List.range 6).map (fun n => (n, was.armDigest n))
    rsTx := x.lse.rsTx ++ x.lse.rsAsk.map (fun n => (n, was.pn, (was.armCells n).flatMap (fun k => (was.clpRec k).bytes), 0))
    rsAsk := []
    rsOwn := x.lse.rsWant.map (fun n => (was.pn, n, (was.armCells n).map (fun k => ((was.clpRec k).vf, (was.clpRec k).q)))) ++
      x.lse.rsOwn.filter (fun o => x.lse.rsWant.contains o.2.1) } }

/-- RESYNC_REQ_RX.
Log entry 85 (DEDUCED). -/
def execResyncReqRx (u : UnitId) (arm : Fin 6) (s : State) : Host.Outcome State Fault Refusal :=
  unitStep s u (fun x =>
    if !x.isHolder || x.inQuiet || x.lse.rsAsk.contains arm.val || x.lse.rsTx.any (fun t => t.1 == arm.val) then x
    else { x with lse := { x.lse with rsAsk := x.lse.rsAsk ++ [arm.val] } })

/-- RESYNC_BLOCK_RX: block `blk` of the records of an arm as they stood in period `m`. -/
def execResyncBlockRx (u : UnitId) (arm : Fin 6) (m : BitVec 48) (blk : Nat) (data : Bytes) (s : State) : Host.Outcome State Fault Refusal :=
  unitStep s u (fun x =>
    if x.inQuiet || !x.lse.rsWant.contains arm.val then x
    else if blk = 0 then
      let own := ((x.lse.rsOwn.find? (fun o => o.1 == m.toNat && o.2.1 == arm.val)).map (·.2.2)).getD []
      { x with lse := { x.lse with
        rsRx := { arm := arm.val, m := m.toNat, data := data, own := own } :: x.lse.rsRx.filter (fun r => r.arm != arm.val)
        rsOwn := x.lse.rsOwn.filter (fun o => o.2.1 != arm.val) } }
    else
      { x with lse := { x.lse with rsRx := x.lse.rsRx.map (fun r =>
          if r.arm = arm.val ∧ r.m = m.toNat ∧ r.data.length = 4096 * blk then { r with data := r.data ++ data } else r) } })

/-- Takes the holder's record `b` of 64 bytes; `own` is the unit's own VF and Q of PN m.
Log entry 85 (DEDUCED). -/
def ClpRec.resync (r : ClpRec) (b : Bytes) (own : Word × BitVec 64) : ClpRec :=
  let w (i : Nat) : Nat := leAt b (4 * i) 4
  let word (i : Nat) : Word := BitVec.ofNat 32 (w i)
  let f := w 0
  let dv := (b32 (word 1)).sub (b32 own.1)
  let dq := (b64 (BitVec.ofNat 64 (leAt b 24 8))).sub (b64 own.2)
  { r with
    seeded := bitAt f 0, stale := bitAt f 1, unreach := bitAt f 2, retired := bitAt f 3, retpend := bitAt f 4, warn := bitAt f 5
    chkfail := bitAt f 6, hold := bitAt f 7, fxcl := bitAt f 8, toggle := bitAt f 9, ins := bitAt f 10, neg := bitAt f 11
    outcnt := f / 2 ^ 12 % 16, stalecnt := f / 2 ^ 16 % 256, chkcnt := f / 2 ^ 24
    c := word 3, esr := word 4, esrt := word 5, va := word 8, qa := BitVec.ofNat 64 (leAt b 36 8), wear := w 12 % 65536
    rcnt := w 12 / 65536 % 256, pair := w 8 != 0 || leAt b 36 8 != 0
    vf := e32 ((b32 r.vf).add dv), q := e64 ((b64 r.q).add dq)
    hist := r.hist.map (fun e => { e with vf := e32 ((b32 e.vf).add dv), q := e64 ((b64 e.q).add dq) }) }

/-- RESYNC_APPLY: every block of the arm has come. -/
def execResyncApply (u : UnitId) (arm : Fin 6) (s : State) : Host.Outcome State Fault Refusal :=
  unitStep s u (fun x =>
    let cells := x.armCells arm.val
    match x.lse.rsRx.find? (fun r => r.arm == arm.val) with
    | none => x
    | some rx =>
      if rx.data.length < 64 * cells.length ∨ !x.works 0x22000 then x
      else
        let x : UnitSt := { x with lse := { x.lse with rsRx := x.lse.rsRx.filter (fun r => r.arm != arm.val)
                                                       rsWant := x.lse.rsWant.filter (· != arm.val) } }
        ((List.range cells.length).foldl (fun (x : UnitSt) i =>
          let k := cells.getD i 0
          x.onRec k (fun r => r.resync (slice rx.data (64 * i) 64) (rx.own.getD i (r.vf, r.q)))) x).showClp)

/-! The hand-over (R413, R414, R534). -/

/-- HANDOVER_DEADLINE: the compute start of P − 3 without HOVACK. -/
def execHandoverDeadline (u : UnitId) (s : State) : Host.Outcome State Fault Refusal :=
  unitStep s u (fun x =>
    match x.lse.hovP with
    | some p =>
      if x.lse.hovMine ∧ !x.lse.hovAcked ∧ p ≤ x.pn + 3 then
        let x := (x.hovRefuse 5).hovForget
        match x.flt.escWait with
        | some n =>
          let x : UnitSt := { x with flt := { x.flt with escWait := none } }
          ((x.block (x.t0 x.pn + x.compOfs)).set FLT_ESCLAST.SRC n).set FLT_ESCLAST.ACT 0
        | none => x
      else x
    | none => x)

/-- A unit enters HOLDER by a hand-over, with epoch E + 1. -/
def UnitSt.hovTake (x : UnitSt) : UnitSt := ((x.setLstate 2).setEpoch (x.seenEpoch + 1)).showRelay []

/-- A unit leaves HOLDER by a hand-over: its frames then name the partner with epoch E + 1. -/
def UnitSt.hovGive (x : UnitSt) : UnitSt :=
  let e := (x.lse.epoch + 1) % 2 ^ 32
  let x : UnitSt := { x with lse := { x.lse with seen := some (max x.seenEpoch e) } }
  let x : UnitSt := { x with flt := { x.flt with escWait := none } }
  ((x.standby).set LSE_HOV.RES 2).inc LSE_CNT2.HOV

/-- HANDOVER_SWITCH: the compute start of P − 1 of a committed hand-over. -/
def execHandoverSwitch (u : UnitId) (s : State) : Host.Outcome State Fault Refusal :=
  unitStep s u (fun x =>
    match x.lse.hovP with
    | some p =>
      if !x.lse.hovAcked ∨ x.pn + 1 ≠ p then x
      else if x.lse.hovMine then (if x.isHolder then x.hovGive else x)
      else if x.lstate = 0 then x.hovTake
      else x
    | none => x)

end Sys2Proof.Machine
end

