-- ==== Sys2Proof/Machine/Ream.lean ====
section
/-! DEFINITION. Ream snapshots (R472 to R478) and the events of the PCIe link and functions (R466). -/
namespace Sys2Proof.Machine

/-! Contents (R477, R478). -/

/-- The entry of cell `k` on port `p`, and whether it is VALID. -/
def UnitSt.reamCell (x : UnitSt) (p k : Nat) : Bytes × Bool :=
  let v := x.view k
  let r := x.clpRec k
  let ok := v.slotPn == some x.pn
  let own := x.slotFor (x.port p).blk k
  let rx := sget (fun _ => 2 ^ 40) (x.port p).partnerCmd (k % 64)
  let got := !x.isHolder && (x.port p).partnerPn == some x.pn && decide (rx < 2 ^ 40)
  let fl := b2n ok + 2 * b2n (ok && v.viaSpl) + 4 * b2n (!x.isHolder && !got) + 8 * b2n r.stale + 16 * b2n r.unreach
    + 32 * b2n (x.available k) + 64 * b2n r.retired + 128 * b2n r.toggle
  ((if ok then (v.slot ++ List.replicate 16 0).take 16 else List.replicate 16 0) ++ cmdSlotBytes (k % 64) x.pn (if got then rx else own)
    ++ leBytes 2 fl ++ leBytes 4 r.vx.toNat ++ leBytes 4 (min r.wear 65535), ok)

/-- The area of a loop channel. -/
def UnitSt.reamLoop (x : UnitSt) (c : Nat) : Bytes :=
  leBytes 4 (x.fld LPE_CHOUT.O c) ++ leBytes 4 (x.fld LPE_CHUPRE.UC c) ++ leBytes 4 (x.fld LPE_CHERRV.E c) ++
    leBytes 4 (x.word (LPE_CHSTAT.ACT.addr c)).toNat ++ leBytes 8 (x.pair LPE_CHI_LO.I_LO LPE_CHI_HI.I_HI c) ++
    leBytes 4 (x.word (LPE_CHSATCNT.CNT.addr c)).toNat

/-- The area of an arm. -/
def UnitSt.reamArm (x : UnitSt) (n : Nat) : Bytes :=
  let a := sget (fun _ => []) x.cal.agg n
  leBytes 4 (a.getD 2 0).toNat ++ leBytes 4 (a.getD 3 0).toNat ++ leBytes 4 (x.word (0x210A0 + 4 * n)).toNat ++
    leBytes 4 (x.word (0x210B8 + 4 * n)).toNat ++ (x.forecast n).flatMap (fun w => leBytes 4 w.toNat) ++
    leBytes 4 (e32 (.ofFrac (x.carry n).eps ns)).toNat

/-- The header from FLAGS on, from byte 4. -/
def UnitSt.reamHeader (x : UnitSt) (nvalid : Nat) : Bytes :=
  let t := x.t0 x.pn
  leBytes 2 (x.rflags x.pn + 4 * b2n x.inHold + 8 * b2n x.splUp + 16 * x.fld LPE_STAT.OWN) ++ leBytes 2 nvalid
    ++ leBytes 8 x.pn ++ leBytes 8 (t / ns) ++ leBytes 2 (t % ns) ++
    [BitVec.ofNat 8 (x.fld TIM_PERIOD.T), BitVec.ofNat 8 x.lstate] ++ leBytes 4 (if x.isHolder then x.lse.epoch else x.seenEpoch)
    ++ leBytes 4 x.cfgd

/-- The non-zero bytes of an area at offset `o`. -/
def areaBytes (o : Nat) (bs : Bytes) : List (Nat × Byte) := (bs.zipIdx.filter (fun b => b.1 != 0)).map (fun b => (o + b.2, b.1))

/-- The bytes of a buffer that holds the given bytes and 0 elsewhere. -/
def reamTable (l : List (Nat × Byte)) : Sparse Byte := l.foldl (fun m e => sset (fun _ => (0 : Byte)) m e.1 e.2) []

/-- The contents of a Ream of the running period, but for GEN; the X of an input may be free (R374).
Log entry 126 (DEDUCED). -/
def UnitSt.reamBytes (x : UnitSt) : List (Nat × Byte) × UnitSt :=
  let cells := x.livePorts.flatMap (fun sp => (strandCells sp.1 (x.ncell sp.2)).map (fun k =>
    (0x1000 + 0x800 * (k / 64) + 0x20 * (k % 64), x.reamCell sp.2 k)))
  let nvalid := (cells.filter (fun c => c.2.2)).length
  let (ins, x) := (List.range 32).foldl (fun (a : List (Nat × Byte) × UnitSt) n =>
    let r := a.2.inputAt n (fun r => decide (r.te ≤ a.2.t0 a.2.pn))
    let (b, y) := a.2.inputEntry n r (a.2.t0 a.2.pn)
    (a.1 ++ areaBytes (0x32000 + 0x10 * n) b, y)) ([], x)
  (areaBytes 4 (x.reamHeader nvalid) ++ cells.flatMap (fun c => areaBytes c.1 c.2.1)
    ++ ((List.range 96).filter (fun c => (x.chan c).on)).flatMap (fun c => areaBytes (0x31000 + 0x20 * c) (x.reamLoop c))
    ++ ((List.range 16).filter (fun g => x.bit LPE_GCFG.EN g)).flatMap (fun g => areaBytes (0x31C00 + 0x10 * g)
        (leBytes 4 (x.fld LPE_GOUT.G g) ++ leBytes 1 (x.fld LPE_GCFG.WIN g) ++ leBytes 1 (x.fld LPE_GCFG.RAMP g + 2)))
    ++ (List.range 6).flatMap (fun n => areaBytes (0x31D00 + 0x40 * n) (x.reamArm n)) ++ ins, x)

/-! Publication (R473, R474, R476). -/

/-- Applies `f` to Ream buffer `b`. -/
def UnitSt.onBuf (x : UnitSt) (b : Nat) (f : ReamBuf → ReamBuf) : UnitSt :=
  if b = 0 then { x with host := { x.host with ream0 := f x.host.ream0 } } else { x with host := { x.host with ream1 := f x.host.ream1 } }

/-- The buffer of the next publication. -/
def UnitSt.reamTarget (x : UnitSt) : Nat :=
  if x.bit PCIE_REAMPIN.PINNED then 1 - x.fld PCIE_REAMPIN.PBUF else 1 - x.fld PCIE_REAMCUR.BUF

/-- A publication begins at compute start: GEN of the target buffer is 0 until it ends. -/
def UnitSt.reamStart (x : UnitSt) : UnitSt :=
  if x.inQuiet || !x.tim.counting then x
  else
    let b := x.reamTarget
    let x := x.onBuf b (fun r => { r with gen := 0 })
    let x := if x.bit PCIE_REAMPIN.PINNED then (x.set PCIE_REAMCUR.BUF b).set PCIE_REAMCUR.GEN 0 else x
    { x with host := { x.host with reamBusy := some b } }

/-- Forms the contents of the publication in hand while its PN runs: at the latest where the period ends (R472).
Log entry 126 (DEDUCED). -/
def UnitSt.reamForm (x : UnitSt) : UnitSt :=
  if x.host.reamBusy.isSome && x.host.reamHeld.isNone then
    let (bytes, x) := x.reamBytes
    { x with host := { x.host with reamHeld := some (reamTable bytes) } }
  else x

/-- REAM_PUBLISH_DONE: the contents and the new generation stand in the buffer, then in `PCIE_REAMCUR`; where the buffer is pinned
by now, in `PCIE_REAMPGEN` as well.
Log entry 126 (DEDUCED). -/
def UnitSt.reamDone (x : UnitSt) : UnitSt :=
  match x.host.reamBusy with
  | none => x
  | some b =>
    let gen := if x.host.reamGen + 1 < 2 ^ 31 then x.host.reamGen + 1 else 1
    let x := x.reamForm
    let x := x.onBuf b (fun _ => { gen := gen, bytes := x.host.reamHeld.getD [] })
    let x : UnitSt := { x with host := { x.host with reamGen := gen, reamBusy := none, reamHeld := none } }
    let x := (x.set PCIE_REAMCUR.BUF b).set PCIE_REAMCUR.GEN gen
    if x.host.pinNext then
      let x : UnitSt := { x with host := { x.host with pinNext := false } }
      ((x.set PCIE_REAMPIN.PINNED 1).set PCIE_REAMPIN.PBUF b).set PCIE_REAMPGEN.PGEN gen
    else if x.bit PCIE_REAMPIN.PINNED && x.fld PCIE_REAMPIN.PBUF == b then x.set PCIE_REAMPGEN.PGEN gen
    else x

def execReamPublishDone (u : UnitId) (s : State) : Host.Outcome State Fault Refusal := unitStep s u UnitSt.reamDone

/-! Link and functions (R466). -/

/-- Resets the configuration space and the MSI-X table of function `f` (R465, R466). -/
def UnitSt.fnReset (x : UnitSt) (f : Nat) : UnitSt :=
  if f = 0 then ({ x with pci := { x.pci with fn0 := ({} : PciSt).fn0 } }).set PCIE_LINK.BME0 0
  else { x with pci := { x.pci with fn1 := ({} : PciSt).fn1, bme1 := false } }

/-- PCIE_FLR_PF0.
Log entry 124 (DEDUCED). -/
def execPcieFlrPf0 (u : UnitId) (s : State) : Host.Outcome State Fault Refusal :=
  unitStep s u (fun x => (((x.fnReset 0).inc PCIE_CNT2.LINKDN).advanceHost 0 |>.pinWrite 0 false).reelLinkEnd)

/-- PCIE_FLR_PF1: an open session ends with its epoch and pin (R471). -/
def execPcieFlrPf1 (u : UnitId) (s : State) : Host.Outcome State Fault Refusal :=
  unitStep s u (fun x =>
    let x := (x.fnReset 1).inc PCIE_CNT2.LINKDN
    if x.fld PCIE_SESSSTAT.STATE = 2 then x.sessEnd else (x.advanceHost 1).pinWrite 1 false)

/-- PCIE_BME_CLEAR.
Log entry 124 (DEDUCED). -/
def execPcieBmeClear (u : UnitId) (s : State) : Host.Outcome State Fault Refusal :=
  unitStep s u (fun x => ((x.set PCIE_LINK.BME0 0).inc PCIE_CNT2.LINKDN).reelLinkEnd)

/-- PCIE_LINK_DOWN: hot reset, PERSTN or link down.
Log entry 124 (DEDUCED). -/
def execPcieLinkDown (u : UnitId) (s : State) : Host.Outcome State Fault Refusal :=
  unitStep s u (fun x =>
    let was := x.bit PCIE_LINK.UP
    let x := ((((x.fnReset 0).fnReset 1).set PCIE_LINK.UP 0).set PCIE_LINK.WIDTH 0).set PCIE_LINK.SPEED 0
    let x := (x.set PCIE_STAT.LINKUP 0).inc PCIE_CNT2.LINKDN
    let x := if was then (x.err PCIE_ERR.LINKDN).evt PCIE_EVT.LINKDN else x
    let x := (x.advanceHost 0).pinWrite 0 false
    let x := if x.fld PCIE_SESSSTAT.STATE = 2 then x.sessEnd else (x.advanceHost 1).pinWrite 1 false
    x.reelLinkEnd)

/-- PCIE_LINK_UP: the link is in DL_Active with `width` lanes at `speed`, and the host has configured the functions: bus master and
MSI-X enables read `bme`.
Log entries 28 (PRESUMED), 124 (DEDUCED). -/
def execPcieLinkUp (u : UnitId) (width : BitVec 4) (speed : Fin 8) (bme : Bool) (s : State) : Host.Outcome State Fault Refusal :=
  unitStep s u (fun x =>
    let was := x.bit PCIE_LINK.UP
    let x := (((x.set PCIE_LINK.UP 1).set PCIE_LINK.WIDTH width.toNat).set PCIE_LINK.SPEED speed.val).set PCIE_LINK.BME0 (b2n bme)
    let x := x.set PCIE_STAT.LINKUP 1
    let x : UnitSt := { x with pci := { fn0 := { x.pci.fn0 with msix := bme }, fn1 := { x.pci.fn1 with msix := bme }, bme1 := bme } }
    let x := if was then x else x.evt PCIE_EVT.LINKUP
    if bme then x.reelLinkBack else x)

end Sys2Proof.Machine
end

