-- ==== Sys2Proof/Machine/Bars.lean ====
section
/-! DEFINITION. The base address registers of the PCIe functions beside BAR 0 (R460): the Ream buffers in BAR 2 (R462, R463, R473),
the MSI-X table and its pending bits in BAR 4 (R492). -/
namespace Sys2Proof.Machine

/-- Whether a requester's address names BAR 2 or BAR 4: a function names the BAR in bits 31:24 and the offset in bits 23:0.
Log entry 27 (DESIGN CHOICE). -/
def inBar (q : Requester) (a : Nat) : Bool :=
  (q.fn?).isSome && ((a / 2 ^ 24 == 2 && decide (a % 2 ^ 24 < 0x80000)) || (a / 2 ^ 24 == 4 && decide (a % 2 ^ 24 < 0x4000)))

/-- The word of BAR 2 at offset `o`: buffer 1 stands from 0x4_0000 on; word 0 of a buffer is GEN, with the buffer's number in
bit 31 (R460, R473, R477). -/
def UnitSt.bar2Word (x : UnitSt) (o : Nat) : Word :=
  let b := o / 0x40000
  let r := if b = 0 then x.host.ream0 else x.host.ream1
  let w := o % 0x40000 / 4 * 4
  BitVec.ofNat 32 (if w = 0 then b * 2 ^ 31 + r.gen else leAt ((List.range 4).map (fun i => sget (fun _ => (0 : Byte)) r.bytes (w + i))) 0 4)

/-- The word of function `f`'s BAR 4 at offset `o`: 16 bytes for each vector of the table, bit 0 of the fourth word its mask bit;
the pending bits from 0x2000 on (R460).
Log entry 228 (PRESUMED). -/
def UnitSt.bar4Word (x : UnitSt) (f o : Nat) : Word :=
  let c := x.fn f
  let w := o / 4 * 4
  if w < 0x400 then
    (if w % 16 = 12 then BitVec.ofNat 32 (b2n (c.masks.getLsbD (w / 16))) else sget (fun _ => (0 : Word)) c.table w)
  else if w = 0x2000 then c.pba.extractLsb' 0 32
  else if w = 0x2004 then c.pba.extractLsb' 32 32
  else 0

/-- Sets the mask bit of vector `v` of function `f`; unmasking a vector whose pending bit is set sends its message (R492).
Log entry 228 (PRESUMED). -/
def UnitSt.maskVector (x : UnitSt) (f v : Nat) (m : Bool) : UnitSt :=
  let bit := 1#64 <<< v
  if m then x.onFn f (fun c => { c with masks := c.masks ||| bit })
  else
    let was := (x.fn f).pba.getLsbD v
    let x := x.onFn f (fun c => { c with masks := c.masks &&& ~~~bit, pba := c.pba &&& ~~~bit })
    if was then x.sendMsix f v else x

/-- The revision ID of both functions of a unit: SREV of `GEN_VER` (R459, R599). -/
def UnitSt.revisionId (x : UnitSt) : Nat := (x.word 0x4).toNat / 2 ^ 16 % 2 ^ 8

/-- A read of BAR 2 or BAR 4 by a function; a locked PF1 reads BAR 2 as 0 (R462, R463). -/
def UnitSt.barRead (x : UnitSt) (q : Requester) (a : Nat) : UnitSt :=
  let o := a % 2 ^ 24
  if a / 2 ^ 24 = 4 then x.answer q (x.bar4Word ((q.fn?).getD 0) o)
  else if q = .pf1 ∧ !x.bit PCIE_STAT.SESS then x.deny.answer q 0
  else x.answer q (x.bar2Word o)

/-- A write to BAR 2 is denied (R463); one to the MSI-X table takes effect, one to its pending bits none. -/
def UnitSt.barWrite (x : UnitSt) (q : Requester) (a : Nat) (v : Word) : UnitSt :=
  let o := a % 2 ^ 24
  let f := (q.fn?).getD 0
  if a / 2 ^ 24 = 2 then x.deny
  else if 0x400 ≤ o then x
  else if o % 16 = 12 then x.maskVector f (o / 16) (v.getLsbD 0)
  else x.onFn f (fun c => { c with table := sset (fun _ => (0 : Word)) c.table (o / 4 * 4) v })

end Sys2Proof.Machine
end

