-- ==== Sys2Proof/Machine/Clock.lean ====
section
/-! DEFINITION. The clocks of a unit: REF25 and the holdover (R643), PLLs and the junction temperature (R651); the JTAG
instructions of both parts (R646 to R648). -/
namespace Sys2Proof.Machine

/-! REF25 (R643). -/

/-- Milliseconds of a holdover at `t`, saturating.
Log entry 37 (DEDUCED). -/
def UnitSt.holdMs (x : UnitSt) (t : Instant) : Nat := min 65535 ((t - x.clkAt) / (1000 * us))

/-- REF_LOSS: 4 µs without an edge.
Log entries 36 (DESIGN CHOICE), 37 (DEDUCED). -/
def execRefLoss (u : UnitId) (at_ : Instant) (s : State) : Host.Outcome State Fault Refusal :=
  unitStep s u (fun x =>
    let x := x.tick at_
    if x.bit CLK_STAT.HOLD then x
    else
      let x := ((x.err CLK_ERR.REFLOSS).set CLK_REF.PRESENT 0).inc CLK_REF.LOSSCNT
      { (x.set CLK_STAT.HOLD 1).set CLK_HOLD.ELAPSED 0 with clkAt := at_ })

/-- REF_RETURN: REF25 has been present for 10 ms; no phase step.
Log entries 36 (DESIGN CHOICE), 37 (DEDUCED). -/
def execRefReturn (u : UnitId) (at_ : Instant) (s : State) : Host.Outcome State Fault Refusal :=
  unitStep s u (fun x =>
    let x := x.tick at_
    if x.bit CLK_REF.PRESENT then x
    else
      let x := if x.bit CLK_STAT.HOLD then x.set CLK_HOLD.ELAPSED (x.holdMs at_) else x
      (x.set CLK_REF.PRESENT 1).set CLK_STAT.HOLD 0)

/-! PLLs and temperature (R651). -/

/-- PLL_UNLOCK: PLL `n` in the order of `CLK_PLL.LOCK`; TIME, CORE and FAB set PLLCRIT.
Log entry 36 (DESIGN CHOICE). -/
def execPllUnlock (u : UnitId) (n : Fin 7) (s : State) : Host.Outcome State Fault Refusal :=
  unitStep s u (fun x =>
    let w := x.fld CLK_PLL.LOCK
    let x := if bitAt w n.val then x.set CLK_PLL.LOCK (w ^^^ (1 <<< n.val)) else x
    x.err (if n.val < 3 then CLK_ERR.PLLCRIT else CLK_ERR.PLLLOSS))

/-- TJ_THRESHOLD: the junction temperature, in 0.25 °C, with the highest seen and the two thresholds.
Log entry 37 (DEDUCED). -/
def execTjThreshold (u : UnitId) (tj : BitVec 10) (s : State) : Host.Outcome State Fault Refusal :=
  unitStep s u (fun x =>
    let x := x.set CLK_TJ.TJ tj.toNat
    let x := if toInt 10 (x.fld CLK_TJ.PEAK) < tj.toInt then x.set CLK_TJ.PEAK tj.toNat else x
    let x := if toInt 10 (x.fld CLK_TJTH.HI) < tj.toInt then x.err CLK_ERR.TJHI else x
    if toInt 10 (x.fld CLK_TJTH.CRIT) < tj.toInt then x.err CLK_ERR.TJCRIT else x)

/-! JTAG (R646 to R648). The pins that R648 lists have observe-only cells: no instruction changes them (Pins.lean). -/

/-- The instruction register takes `code`, and the data register captures `dr`.
Log entry 59 (PRESUMED). -/
def JtagSt.select (j : JtagSt) (code dr : Nat) : JtagSt := { j with ir := code, dr := dr }

/-- Applies `f` to the test access port of a part. -/
def State.onJtag (s : State) (p : Part) (f : JtagSt → JtagSt) : State :=
  match p with
  | .unit u => s.onUnit u (fun x => { x with jtag := f x.jtag })
  | .cell c => s.onCell c (fun x => { x with jtag := f x.jtag })

/-- An instruction that R648 allows only while the pin of the part is low (`low`: RESETN of an FD7200; OV of an FD1600 below
`CPROT_PWR.VDORM`); otherwise it acts as BYPASS.
Log entry 61 (DEDUCED). -/
def jtagPins (p : Part) (code : Nat) (low : Bool) (s : State) : State :=
  s.onJtag p (fun j => if low then j.select code j.bsr else j.select 0x3F 0)

/-- JTAG_EXTEST.
Log entry 61 (DEDUCED). -/
def execJtagExtest (p : Part) (low : Bool) (s : State) : Host.Outcome State Fault Refusal := .next (jtagPins p 0x00 low s)

/-- JTAG_HIGHZ: the outputs float; the bypass register stands between TDI and TDO.
Log entry 61 (DEDUCED). -/
def execJtagHighz (p : Part) (low : Bool) (s : State) : Host.Outcome State Fault Refusal :=
  .next (s.onJtag p (fun j => j.select (if low then 0x03 else 0x3F) 0))

/-- JTAG_CLAMP: the outputs hold the boundary register's values behind the bypass register.
Log entry 61 (DEDUCED). -/
def execJtagClamp (p : Part) (low : Bool) (s : State) : Host.Outcome State Fault Refusal :=
  .next (s.onJtag p (fun j => j.select (if low then 0x04 else 0x3F) 0))

/-- The IDCODE of a part: its silicon revision in bits 31:28.
Log entry 60 (PRESUMED). -/
def State.idcode (s : State) (p : Part) : Nat :=
  match p with
  | .unit u => ((s.unit u).word 0x4).toNat / 2 ^ 16 % 16 * 2 ^ 28 + 0x720023B
  | .cell c => ((s.cell c).word 0x4).toNat / 2 ^ 16 % 16 * 2 ^ 28 + 0x160023B

/-- JTAG_IDCODE. -/
def execJtagIdcode (p : Part) (s : State) : Host.Outcome State Fault Refusal :=
  .next (s.onJtag p (fun j => j.select 0x01 (s.idcode p)))

/-- JTAG_SAMPLE_PRELOAD: the boundary cells capture the pins, and take what is shifted in. -/
def execJtagSamplePreload (p : Part) (pins load : Nat) (s : State) : Host.Outcome State Fault Refusal :=
  .next (s.onJtag p (fun j => { j.select 0x02 pins with bsr := load }))

/-- JTAG_FLASHPROG: an FD7200 without a valid image connects the access register; otherwise BYPASS (R647, R649). -/
def execJtagFlashprog (p : Part) (s : State) : Host.Outcome State Fault Refusal :=
  .next (match p with
    | .unit u => s.onJtag p (fun j => if (s.unit u).bit FLS_ERR.NOIMG then j.select 0x10 j.rd.toNat else j.select 0x3F 0)
    | .cell _ => s.onJtag p (fun j => j.select 0x3F 0))

/-- Whether a part's debug access is closed (R647).
Log entry 62 (DESIGN CHOICE). -/
def State.debugClosed (s : State) (p : Part) : Bool :=
  match p with
  | .unit u => (s.unit u).bit SEC_OTPSTAT.CLOSED
  | .cell c => Config.cellClosed c.key

/-- JTAG_DEBUG: access to the core debug modules of an open part.
Log entry 64 (DESIGN CHOICE). -/
def execJtagDebug (p : Part) (s : State) : Host.Outcome State Fault Refusal :=
  .next (s.onJtag p (fun j => if s.debugClosed p then j.select 0x3F 0 else j.select 0x20 0))

/-- Whether a code names an instruction of a part (R647). -/
def jtagKnown (p : Part) (code : Nat) : Bool :=
  [0x00, 0x01, 0x02, 0x03, 0x04, 0x20].contains code || (code == 0x10 && (match p with | .unit _ => true | .cell _ => false))

/-- JTAG_BYPASS: the code 0x3F or one that names no instruction; the instructions of the table have rows of their own. -/
def execJtagBypass (p : Part) (code : BitVec 6) (s : State) : Host.Outcome State Fault Refusal :=
  .next (if jtagKnown p code.toNat then s else s.onJtag p (fun j => j.select 0x3F 0))

end Sys2Proof.Machine
end

