-- ==== Sys2Proof/Machine/CellMeas.lean ====
section
/-! DEFINITION. Cell measurement (R146 to R184): outputs of the decimators, windows and syncs, injected conversions,
spare-slice rotation, retired slices, and the values the status slot takes. -/
namespace Sys2Proof.Machine

/-! Presets and modes (R153 to R156, R161). -/

/-- The output interval, group delay and settling count of a preset. -/
def presetInterval : Nat → Nat
  | 1 => 400 * ns
  | 2 => 1600 * ns
  | _ => 6400 * ns
def presetDelay : Nat → Nat
  | 1 => 600 * ns
  | 2 => 2400 * ns
  | _ => 9600 * ns
def presetSettle : Nat → Nat
  | 1 => 3
  | 2 => 5
  | _ => 7

/-- Preset and mode of a channel: in Idle VCAP runs Vellum in stream mode (R183). -/
def CellSt.preset (x : CellSt) (n : Nat) : Nat := if x.idleMeas then 3 else x.fld CMEAS_CHCFG.PRESET n
def CellSt.chMode (x : CellSt) (n : Nat) : Nat := if x.idleMeas then 0 else x.fld CMEAS_CHCFG.MODE n

/-- The median length: 1 turns the median off (R155). -/
def CellSt.median (x : CellSt) (n : Nat) : Nat :=
  match x.fld CMEAS_CHCFG.MEDIAN n with
  | 0 => 1
  | m => 2 * m + 1

/-- The outputs a channel passes over after a restart: settling count + L (R155, R164, R167). -/
def CellSt.settleCount (x : CellSt) (n : Nat) : Nat :=
  presetSettle (x.preset n) + (if x.median n = 1 then 0 else x.median n)

/-- The slice that serves a channel; 7 is none (R148, R181). -/
def CellSt.sliceOf (x : CellSt) (n : Nat) : Nat := (x.word 0x3060).toNat / 2 ^ (4 * n) % 8
def CellSt.setSlice (x : CellSt) (n v : Nat) : CellSt :=
  match n with
  | 0 => x.set CMEAS_MAP.CH0 v
  | 1 => x.set CMEAS_MAP.CH1 v
  | 2 => x.set CMEAS_MAP.CH2 v
  | _ => x.set CMEAS_MAP.CH3 v
def CellSt.spare (x : CellSt) : Nat := x.fld CMEAS_MAP.SPARE

/-- Shows whether a channel settles. -/
def CellSt.setSettle (x : CellSt) (n : Nat) (v : Bool) : CellSt :=
  let st := x.fld CMEAS_STAT.SETTLE
  (x.set CMEAS_RES.SETTLE (b2n v) n).set CMEAS_STAT.SETTLE (if v then orBit st n else st &&& (15 ^^^ (1 <<< n)))

/-- Whether the spare tracks channel `n`: in SETTLE, COMPARE or DEFER, outside Idle (R173). -/
def CellSt.tracks (x : CellSt) (n : Nat) : Bool :=
  let st := x.fld CMEAS_ROT.STATE
  decide (2 ≤ st) && decide (st ≤ 4) && x.fld CMEAS_ROT.TARGET == n && decide (x.spare < 5) && !x.idleMeas

/-- A channel passes over its settling count + L outputs again; `mark` sets SETTLE (R152, R164, R167). -/
def CellSt.settleAgain (x : CellSt) (n : Nat) (mark : Bool) : CellSt :=
  let x := x.onCh n (fun h => { h with pass := x.settleCount n, hist := [] })
  if mark then (if (x.ch n).valid then x else x.set CMEAS_RES.VALUE 0 n).setSettle n true else x

/-- The spare passes over the settling count + L outputs of its target. -/
def CellSt.spareAgain (x : CellSt) (n : Nat) : CellSt :=
  { x with rot := { x.rot with pass := x.settleCount n, hist := [] } }

/-- A channel's decimator restarts at `t`, and with it the spare's that tracks the channel (R164, R167, R175). -/
def CellSt.restart (x : CellSt) (n : Nat) (t : Instant) (mark : Bool) : CellSt :=
  let x := (x.onCh n (fun h => { h with anchor := t, wait := false })).settleAgain n mark
  if x.tracks n then x.spareAgain n else x

/-! Results (R152, R155, R160, R174). -/

/-- A raw output corrected by its slice's and then its channel's coefficients, in 2^-23 of full scale. -/
def CellSt.correct (x : CellSt) (slice n : Nat) (raw : Int) : Int × CellSt :=
  let so := toInt 16 (x.fld CMEAS_SLCAL.OFS slice)
  let sg := toInt 16 (x.fld CMEAS_SLCAL.GERR slice)
  let co := toInt 16 (x.fld CMEAS_CHCAL.OFS n)
  let cg := toInt 16 (x.fld CMEAS_CHCAL.GERR n)
  let d1 : Int := 4194304 + sg
  let d2 : Int := 1048576 + cg
  x.divFree (((raw - 2 * so) * 4194304 - 8 * co * d1) * 1048576) (d1 * d2)

/-- A result clipped at full scale (R152).
Log entry 156 (DESIGN CHOICE). -/
def CellSt.clip (x : CellSt) (z : Int) : Int × CellSt :=
  if z < -8388608 ∨ 8388607 < z then (clampInt (-8388608) 8388607 z, x.err CMEAS_ERR.OVLD) else (z, x)

/-- The middle of a list of odd length in order of size. -/
def medianOf (zs : List Int) : Int :=
  (zs.find? (fun z =>
    let below := (zs.filter (fun y => decide (y < z))).length
    let upto := (zs.filter (fun y => decide (y ≤ z))).length
    decide (below ≤ zs.length / 2) && decide (zs.length / 2 < upto))).getD 0

/-- Whether the slice of a channel runs: the channel is served, the block works, and in Idle VCAP's alone (R181, R183). -/
def CellSt.running (x : CellSt) (n : Nat) : Bool :=
  x.sliceOf n != 7 && x.works 0x3000 && (!x.idleMeas || n == 0)

/-- Whether `t` is a ready instant of channel `n`: its anchor plus a multiple of the output interval (R156). -/
def CellSt.isReady (x : CellSt) (n : Nat) (t : Instant) : Bool :=
  let a := (x.ch n).anchor
  decide (a < t) && (t - a) % presetInterval (x.preset n) == 0

/-- The first ready instant of channel `n` after `t`. -/
def CellSt.readyAfter (x : CellSt) (n : Nat) (t : Instant) : Instant :=
  let a := (x.ch n).anchor
  let d := presetInterval (x.preset n)
  a + ((t - a) / d + 1) * d

/-- The last ready instant of channel `n` at or before `t`. -/
def CellSt.readyUpTo (x : CellSt) (n : Nat) (t : Instant) : Instant :=
  let a := (x.ch n).anchor
  let d := presetInterval (x.preset n)
  a + (t - a) / d * d

/-- A raw output of a slice for channel `n`, corrected and clipped, before the outputs `hist`: the median with them, and the
outputs that the next median takes (R152, R155, R174). -/
def CellSt.sample (x : CellSt) (slice n : Nat) (raw : Int) (hist : List Int) : Int × List Int × CellSt :=
  let (z, x) := x.correct slice n raw
  let (z, x) := x.clip z
  let hist := (z :: hist).take 7
  (medianOf (hist.take (x.median n)), hist, x)

/-- Whether a raw output shows an input beyond 1.2 of full scale, at which a slice resets its modulator (R152). -/
def overInput (raw : Int) : Bool := decide (10066330 ≤ raw.natAbs)

/-- The output of channel `n`'s own slice ready at `t`: the value the channel takes, if it takes one (R152, R155, R166,
R167). VAUX also shows against VSET. -/
def CellSt.mainOutput (x : CellSt) (n : Nat) (raw : Int) (t : Instant) : Option Int × CellSt :=
  if overInput raw then (none, (x.err CMEAS_ERR.OVLD).settleAgain n true)
  else
    let (v, hist, x) := x.sample (x.sliceOf n) n raw (x.ch n).hist
    let h := x.ch n
    if h.wait then (none, x.setCh n { h with hist := hist })
    else if h.pass ≠ 0 then
      let x := x.setCh n { h with hist := hist, pass := h.pass - 1 }
      (none, if h.pass = 1 then x.setSettle n false else x)
    else
      let delay := presetDelay (x.preset n) + (x.median n - 1) / 2 * presetInterval (x.preset n)
      let x := x.setCh n { h with hist := hist, valid := true, eff := t - delay }
      let x := x.set CMEAS_RES.VALUE (ofInt 24 v) n
      (some v, if n = 3 then x.showReg (v * 40960 / 8388608).toNat else x)

/-- The output of the spare that tracks channel `n`, ready at `t` with the channel's: it settles, and in COMPARE it is
compared with the value the channel has taken, if it took one (R173, R175, R176). -/
def CellSt.spareOutput (x : CellSt) (n : Nat) (raw : Int) (took : Option Int) (t : Instant) : CellSt :=
  if overInput raw then (x.err CMEAS_ERR.OVLD).spareAgain n
  else
    let (v, hist, x) := x.sample x.spare n raw x.rot.hist
    let x := { x with rot := { x.rot with hist := hist } }
    if x.rot.pass ≠ 0 then { x with rot := { x.rot with pass := x.rot.pass - 1 } }
    else
      match took with
      | some w =>
        if x.fld CMEAS_ROT.STATE = 3 ∧ !x.rot.agreed ∧ x.rot.diffs.length < 64 then
          { x with rot := { x.rot with diffs := (v - w) :: x.rot.diffs, doneAt := t } }
        else x
      | none => x

/-- Outputs of channel `n`'s slice and of the spare, where it tracks the channel, at the ready instant `t`. -/
def CellSt.output (x : CellSt) (n : Nat) (raw spare : Int) (t : Instant) : CellSt :=
  if !x.running n || !x.isReady n t then x
  else
    let (took, x) := x.mainOutput n raw t
    if x.tracks n then x.spareOutput n spare took t else x

/-- DECIM_OUTPUT: the spare's output counts where it tracks the channel.
Log entry 156 (DESIGN CHOICE). -/
def execDecimOutput (c : CellId) (ch : Fin 4) (raw : RawPair) (at_ : Instant) (s : State) :
    Host.Outcome State Fault Refusal :=
  cellStep s c (fun x => (x.output ch.val raw.main raw.spare at_).tick at_)

/-! Windows (R162 to R165). -/

/-- The start that governs of those that wait, and how many it replaces: a start that comes while the delay of the one
before runs replaces it.
Log entry 166 (DEDUCED). -/
def lastStart (delay : Nat) : Instant → List Instant → Instant × Nat × List Instant
  | s, [] => (s, 0, [])
  | s, t :: ts =>
    if t < s + delay then
      let (u, n, r) := lastStart delay t ts
      (u, n + 1, r)
    else (s, 0, t :: ts)

/-- Drops the starts that later ones up to `t` have replaced while their delay ran, and counts them (R165).
Log entry 230 (DESIGN CHOICE). -/
def CellSt.dropReplaced (x : CellSt) (n : Nat) (t : Instant) : Nat → CellSt
  | 0 => x
  | k + 1 =>
    match (x.ch n).starts with
    | a :: b :: ss =>
      if b ≤ t ∧ b < a + x.fld CMEAS_WDLY.DELAY n * qns then
        ((x.onCh n (fun h => { h with starts := b :: ss })).inc CMEAS_CNT.WREP).dropReplaced n t k
      else x
    | _ => x

/-- A window delay ends: the decimator restarts.
Log entry 230 (DESIGN CHOICE). -/
def CellSt.windowRestart (x : CellSt) (n : Nat) : CellSt :=
  match (x.ch n).starts with
  | [] => x
  | s :: ss =>
    let delay := x.fld CMEAS_WDLY.DELAY n * qns
    let (u, k, rest) := lastStart delay s ss
    let x := (List.range k).foldl (fun x _ => x.inc CMEAS_CNT.WREP) x
    let x := (x.onCh n (fun h => { h with starts := rest })).tick (u + delay)
    x.restart n (u + delay) false

/-- WINDOW_RESTART. -/
def execWindowRestart (c : CellId) (ch : Fin 4) (s : State) : Host.Outcome State Fault Refusal :=
  cellStep s c (fun x => x.windowRestart ch.val)

/-! Sync (R157, R166 to R168). -/

/-- The spare returns to SETTLE from SETTLE, COMPARE or DEFER: the comparison is abandoned. -/
def CellSt.rotResettle (x : CellSt) : CellSt :=
  let st := x.fld CMEAS_ROT.STATE
  if 2 ≤ st ∧ st ≤ 4 then
    { x with rot := { x.rot with due := none, injAt := none, agreed := false, diffs := [] } }.set CMEAS_ROT.STATE 2
  else x

/-- Whether a channel in a window mode makes no starts (R162, R163). -/
def CellSt.noStarts (x : CellSt) (n : Nat) : Bool :=
  if x.chMode n = 1 then x.fld CMEAS_CHCFG.TIMDIV n == 0 else decide (6 ≤ x.fld CMEAS_CHCFG.EVSEL n)

/-- A sync at the boundary `t0`: the main decimators restart; a window channel waits for its next start, and one that makes
none keeps its anchor (R162, R166).
Log entry 195 (DEDUCED). -/
def CellSt.syncAt (x : CellSt) (t0 : Instant) : CellSt :=
  let x := (List.range 4).foldl (fun x n =>
    if x.chMode n = 0 then (x.restart n t0 true).onCh n (fun h => { h with anch := true })
    else if x.noStarts n then
      let x := x.settleAgain n true
      if x.tracks n then x.spareAgain n else x
    else (x.restart n t0 true).onCh n (fun h => { h with wait := true })) x
  x.rotResettle

/-- A write of `CMEAS_SYNC`. -/
def CellSt.syncWrite (x : CellSt) (w : Word) : CellSt := if CMEAS_SYNC.REQ.get w 0 = 1 then { x with sync := true } else x

/-- CMEAS_SYNC_REQ. -/
def execCmeasSyncReq (c : CellId) (r : CellReq) (s : State) : Host.Outcome State Fault Refusal :=
  cellStep s c (fun x => x.access r 0x3118 (fun x => (rcOk, x.syncWrite 0x100)))

/-- SYNC_PIN_EDGE: the pin is CTMXD0 while `CTMX_DSEL0` selects SYNC (R653). -/
def execSyncPinEdge (c : CellId) (s : State) : Host.Outcome State Fault Refusal :=
  cellStep s c (fun x =>
    if x.bit CMEAS_SYNC.SRC && x.fld CTMX_DSEL.SEL 0 == 1 && x.works 0xA000 && x.works 0x3000
    then { x with sync := true } else x)

def CellSt.rotState (x : CellSt) : Nat := x.fld CMEAS_ROT.STATE
def CellSt.target (x : CellSt) : Nat := x.fld CMEAS_ROT.TARGET

/-! Injected conversions (R169 to R172). -/

/-- Shows the channels whose injection is pending. -/
def CellSt.showInj (x : CellSt) : CellSt :=
  x.set CMEAS_INJ.BUSY ((List.range 4).foldl (fun m n => if (x.ch n).inj.isSome then orBit m n else m) 0)

/-- Starts an injection at `start` plus the delay on the channels of `mask`; none where one of them is busy.
Log entry 231 (DESIGN CHOICE). -/
def CellSt.inject (x : CellSt) (mask preset : Nat) (start : Instant) : Option CellSt :=
  let chs := bitsOf 4 mask
  if chs.any (fun n => (x.ch n).inj.isSome) then none
  else
    let p := if preset = 0 then x.fld CMEAS_INJCFG.PRESET else preset
    let s := start + x.fld CMEAS_INJCFG.DELAY * qns
    some (chs.foldl (fun x n => if !x.running n then x else x.onCh n (fun h => { h with inj := some (p, s) })) x).showInj

/-- The first modulator clock edge after `t`: 12.5 ns steps, from the lock of a strand port on in phase with the boundaries,
before it in a free phase (R150, R169). -/
def CellSt.modEdge (x : CellSt) (t : Instant) : Instant × CellSt :=
  let step := 25 * ns / 2
  if x.locked .a || x.locked .b || decide (2 ≤ x.servo) then
    (t + (step - ((t : Int) - (x.tim.t0 : Int)) % step).toNat, x)
  else
    let (v, x) := x.draw
    (t + 1 + v % step, x)

/-- A write of `CMEAS_INJ` at `t` (R172).
Log entry 196 (DEDUCED). -/
def CellSt.injWrite (x : CellSt) (w : Word) (t : Instant) : Nat × CellSt :=
  let mask := CMEAS_INJ.CH.get w 0
  if mask = 0 then (rcEmpty, x)
  else
    let (e, y) := x.modEdge t
    match y.inject mask (CMEAS_INJ.PRESET.get w 0) e with
    | some y => (rcOk, y)
    | none => (rcRefused, x.err CMEAS_ERR.INJBUSY)

/-- CMEAS_INJ_WRITE. -/
def execCmeasInjWrite (c : CellId) (r : CellReq) (v : Word) (at_ : Instant) (s : State) : Host.Outcome State Fault Refusal :=
  cellStep s c (fun x => (x.tick at_).access r 0x30D8 (fun x => x.injWrite v at_))

/-- The SNAP of an accepted frame at the boundary `t0` (R169, R172). -/
def CellSt.snap (x : CellSt) (t0 : Instant) : CellSt :=
  match x.inject (x.fld CMEAS_INJCFG.SNAPCH) 0 t0 with
  | some y => y
  | none => x.inc CMEAS_CNT2.SNAPREF

/-- The injected result of channel `n` falls ready; an input beyond 1.2 of full scale has reset the modulator of its slice
(R152). -/
def CellSt.injReady (x : CellSt) (n : Nat) (raw : Int) : CellSt :=
  match (x.ch n).inj, x.running n with
  | none, _ => x
  | _, false => x
  | some (p, s), true =>
    let ready := s + presetSettle p * presetInterval p
    let eff := ready - presetDelay p
    let (z, x) := x.correct (x.sliceOf n) n raw
    let (z, x) := x.clip z
    let x := if overInput raw then (x.err CMEAS_ERR.OVLD).settleAgain n true else x
    let x := x.onCh n (fun h => { h with inj := none, injRes := some (z, eff) })
    let x := (x.set CMEAS_INJRES.VALUE (ofInt 24 z) n).set CMEAS_INJRES.NEW 1 n
    let x := (x.setPair CMEAS_INJT_LO.NS CMEAS_INJT_HI.NS (eff / ns % 2 ^ 64)).set CMEAS_INJT_FRAC.FRAC (eff % ns)
    let x := if x.rotState = 4 ∧ x.tracks n then { x with rot := { x.rot with injAt := some ready } } else x
    (x.showInj).tick ready

/-- INJ_RESULT_READY. -/
def execInjResultReady (c : CellId) (ch : Fin 4) (raw : Int) (s : State) : Host.Outcome State Fault Refusal :=
  cellStep s c (fun x => x.injReady ch.val raw)

/-- A read of `CMEAS_INJRES` clears NEW. -/
def CellSt.injresRead (x : CellSt) (n : Nat) : Word × CellSt := (x.word (0x30E0 + 4 * n), x.set CMEAS_INJRES.NEW 0 n)

/-- INJRES_READ. -/
def execInjresRead (c : CellId) (r : CellReq) (ch : Fin 4) (s : State) : Host.Outcome State Fault Refusal :=
  cellStep s c (fun x => x.access r (0x30E0 + 4 * ch.val) (fun x =>
    let (w, x) := x.injresRead ch.val
    (rcOk, x.onReq r (fun q => { q with rdata := w }))))

/-! Spare-slice rotation (R173 to R180). -/

/-- The rotation interval as a span. -/
def CellSt.rotInterval (x : CellSt) : Nat := x.fld CMEAS_ROT.INTERVAL * 10000 * us

/-- The spare state becomes NONE (R179 to R181). -/
def CellSt.spareNone (x : CellSt) : CellSt :=
  ((x.set CMEAS_ROT.STATE 7).set CMEAS_MAP.SPARE 7).set CMEAS_STAT.NOSPARE 1

/-- Marks a slice retired, in `CMEAS_RETIRE`, its copy SPARE and the ledger (R179, R550, R603). -/
def CellSt.retireSlice (x : CellSt) (n : Nat) : CellSt :=
  let m := orBit (x.fld CMEAS_RETIRE.RET) n
  (((x.set CMEAS_RETIRE.RET m).setWord 0x3028 (BitVec.ofNat 32 m)).err CMEAS_ERR.SLRET).ledger false
    (ledgerEntry 2 0 [BitVec.ofNat 8 m])

/-- SPARE_CALIB_DONE: the spare's coefficients are written; from CALIB it becomes READY (R173, R174). -/
def execSpareCalibDone (c : CellId) (ofs gerr : BitVec 16) (s : State) : Host.Outcome State Fault Refusal :=
  cellStep s c (fun x =>
    if x.rotState ≤ 1 ∧ x.spare < 5 ∧ x.idleMeas = false ∧ x.pow = .on ∧ x.works 0x3000 then
      ((x.set CMEAS_SLCAL.OFS ofs.toNat x.spare).set CMEAS_SLCAL.GERR gerr.toNat x.spare).set CMEAS_ROT.STATE 1
    else x)

/-- The spare connects to channel `n` and settles there (R173). -/
def CellSt.spareTo (x : CellSt) (n : Nat) : CellSt :=
  let x := (x.set CMEAS_ROT.TARGET n).set CMEAS_ROT.STATE 2
  { x with rot := { x.rot with diffs := [] } }.spareAgain n

/-- A step starts at `t`: the spare connects to the next target (R173, R175). -/
def CellSt.stepStart (x : CellSt) (t : Instant) : CellSt :=
  { x with rot := { x.rot with stepAt := t, due := none, injAt := none, agreed := false, take := false } }.spareTo x.rot.next

/-- ROTATION_STEP_START: the rotation interval has elapsed in READY. -/
def execRotationStepStart (c : CellId) (at_ : Instant) (s : State) : Host.Outcome State Fault Refusal :=
  cellStep s c (fun x =>
    if x.rotState = 1 ∧ x.rotInterval ≠ 0 ∧ x.rot.stepAt + x.rotInterval ≤ at_ ∧ x.idleMeas = false ∧ x.pow = .on
        ∧ x.works 0x3000
    then (x.stepStart at_).tick at_ else x)

/-- SPARE_SETTLED: settling count + L outputs have passed; a takeover without comparison is now due (R173, R179). -/
def execSpareSettled (c : CellId) (s : State) : Host.Outcome State Fault Refusal :=
  cellStep s c (fun x =>
    if x.rotState = 2 ∧ x.rot.pass = 0 ∧ x.idleMeas = false ∧ x.pow = .on then
      { x with rot := { x.rot with agreed := x.rot.take, diffs := [], doneAt := x.now } }.set CMEAS_ROT.STATE 3
    else x)

/-- Whether 64 compared outputs disagree (R176); differences in 2^-23 of full scale.
Log entry 155 (DEDUCED). -/
def CellSt.disagree (x : CellSt) (ds : List Int) : Bool :=
  let mth : Nat := x.fld CMEAS_CMPTH.MTH * 128
  let pth : Nat := x.fld CMEAS_CMPTH.PTH * 128
  decide (mth * ds.length < (ds.foldl (· + ·) 0).natAbs) || ds.any (fun d => decide (pth < d.natAbs))

/-- The comparison ends (R176 to R179).
Log entry 155 (DEDUCED). -/
def CellSt.compareDone (x : CellSt) : CellSt :=
  let bad := x.disagree x.rot.diffs
  match x.rot.doubt with
  | some t =>
    if bad then
      ({ x with rot := { x.rot with doubt := none, fails := 0 } }.retireSlice x.spare).spareNone
    else
      { x with rot := { x.rot with doubt := none, fails := 0, take := true } }.spareTo t
  | none =>
    if !bad then { x with rot := { x.rot with agreed := true, fails := 0 } }
    else if x.rot.fails = 0 then
      (({ x with rot := { x.rot with fails := 1, next := x.target } }.err CMEAS_ERR.CMP).inc CMEAS_CNT.CMPFAIL).set
        CMEAS_ROT.STATE 0
    else { x with rot := { x.rot with doubt := some x.target } }.spareTo ((x.target + 1) % 4)

/-- SPARE_COMPARE_DONE: 64 outputs have been compared. -/
def execSpareCompareDone (c : CellId) (at_ : Instant) (s : State) : Host.Outcome State Fault Refusal :=
  cellStep s c (fun x =>
    if x.rotState = 3 ∧ x.rot.agreed = false ∧ x.rot.diffs.length = 64 ∧ x.idleMeas = false ∧ x.pow = .on then
      x.compareDone.tick at_ else x)

/-- The swap at the ready instant `t`, or its deferral while an injection is pending on the target (R177 to R179).
Log entry 155 (DEDUCED). -/
def CellSt.sliceSwap (x : CellSt) (t : Instant) : CellSt :=
  let n := x.target
  if (x.ch n).inj.isSome then
    match x.rot.due with
    | some _ => x
    | none => { x with rot := { x.rot with due := some t } }.set CMEAS_ROT.STATE 4
  else
    let old := x.sliceOf n
    let x := if x.rot.due.isSome then x.inc CMEAS_CNT.SWDEF else x
    let x := ((x.setSlice n x.spare).set CMEAS_MAP.SPARE old).onCh n (fun h => { h with hist := x.rot.hist })
    let take := x.rot.take
    let x := { x with rot := { x.rot with next := (n + 1) % 4, due := none, injAt := none, agreed := false, take := false,
                                          fails := 0, diffs := [] } }
    if take then (x.retireSlice old).spareNone else x.set CMEAS_ROT.STATE 0

/-- Whether `t` is the instant of a swap: the first ready instant after the comparison or the settling of a takeover, or of a
deferred swap the first at or after the injected result is ready (R177 to R179). -/
def CellSt.swapAt (x : CellSt) (t : Instant) : Bool :=
  if x.rotState = 3 then t == x.readyAfter x.target x.rot.doneAt
  else match x.rot.injAt with
    | some r => t == x.readyAfter x.target (r - 1)
    | none => false

/-- SLICE_SWAP. -/
def execSliceSwap (c : CellId) (at_ : Instant) (s : State) : Host.Outcome State Fault Refusal :=
  cellStep s c (fun x =>
    if (x.rotState = 3 ∨ x.rotState = 4) ∧ x.rot.agreed ∧ x.idleMeas = false ∧ x.pow = .on ∧ x.swapAt at_ then
      (x.sliceSwap at_).tick at_ else x)

/-- The step ends without a swap; the next one serves the same target (R175, R178). -/
def CellSt.stepSkip (x : CellSt) : CellSt :=
  ({ x with rot := { x.rot with next := x.target, due := none, injAt := none, agreed := false, take := false,
                                diffs := [] } }.inc CMEAS_CNT.SWSKIP).set CMEAS_ROT.STATE 1

/-- SWAP_SKIP: an injection is still pending at the last ready instant within one period of the due instant (R178). -/
def execSwapSkip (c : CellId) (at_ : Instant) (s : State) : Host.Outcome State Fault Refusal :=
  cellStep s c (fun x =>
    match x.rot.due with
    | some d =>
      if x.rotState = 4 ∧ (x.ch x.target).inj.isSome ∧ x.idleMeas = false ∧ at_ = x.readyUpTo x.target (d + x.period) then
        x.stepSkip.tick at_ else x
    | none => x)

/-- ROTATION_STEP_SKIP: 64 outputs have not come within one rotation interval (R175); a takeover of R179 needs none. -/
def execRotationStepSkip (c : CellId) (at_ : Instant) (s : State) : Host.Outcome State Fault Refusal :=
  cellStep s c (fun x =>
    if (x.rotState = 2 ∨ x.rotState = 3) ∧ x.rot.agreed = false ∧ x.rot.take = false ∧ x.rot.diffs.length < 64
        ∧ x.chMode x.target ≠ 0 ∧ x.rot.stepAt + x.rotInterval ≤ at_ ∧ x.idleMeas = false then x.stepSkip.tick at_
    else x)

/-! Retired slices (R181). -/

/-- CMEAS_RETIRE_WRITE: the register takes the word at the next boundary. -/
def execCmeasRetireWrite (c : CellId) (r : CellReq) (v : Word) (s : State) : Host.Outcome State Fault Refusal :=
  cellStep s c (fun x => x.access r 0x3064 (fun x => x.unlocked r 0x3064 (fun x => (rcOk, x.atNext 0x3064 (v &&& 0x1F)))))

/-- Moves the channels of retired slices and finds the spare anew at the boundary `t0`. -/
def CellSt.remap (x : CellSt) (t0 : Instant) : CellSt :=
  let ret := x.fld CMEAS_RETIRE.RET
  let x := x.setWord 0x3028 (BitVec.ofNat 32 ret)
  let usable (n : Nat) : Bool := decide (n < 5) && !bitAt ret n
  let x := (List.range 4).foldl (fun x n =>
    if usable (x.sliceOf n) then x
    else
      match (List.range 5).find? (fun k => usable k && (List.range 4).all (fun m => x.sliceOf m != k)) with
      | some k => (x.setSlice n k).restart n t0 true
      | none =>
        let x := ((x.setSlice n 7).set CMEAS_RES.VALUE 0 n).setSettle n true
        (x.onCh n (fun h => { h with valid := false })).err CMEAS_ERR.SLRET) x
  let free (k : Nat) : Bool := usable k && (List.range 4).all (fun m => x.sliceOf m != k)
  if free x.spare then x
  else
    match (List.range 5).find? free with
    | some k =>
      { x with rot := { x.rot with due := none, injAt := none, agreed := false, take := false, doubt := none, diffs := [] } }
        |>.set CMEAS_MAP.SPARE k |>.set CMEAS_ROT.STATE 0 |>.set CMEAS_STAT.NOSPARE 0
    | none => x.spareNone

/-! Calibration requests (R182). -/

/-- A CALREQ: ROTATE at `t`; in Idle the rotation has stopped (R183).
Log entry 232 (DESIGN CHOICE). -/
def CellSt.calRotate (x : CellSt) (t : Instant) : Nat × CellSt :=
  if x.rotState = 1 ∧ x.idleMeas = false then (rcOk, x.stepStart t) else (rcRefused, x)

/-- A CALREQ: SPARECAL. -/
def CellSt.calSpare (x : CellSt) : Nat × CellSt :=
  if 1 < x.rotState ∨ x.idleMeas = true then (rcRefused, x) else (rcOk, x.set CMEAS_ROT.STATE 0)

/-- A CALREQ: RELOAD; the core reloads CHCAL and TLIN from FRAM at the next boundary.
Log entry 233 (DESIGN CHOICE). -/
def CellSt.calReload (x : CellSt) : Nat × CellSt := (rcOk, { x with mem := { x.mem with reload := true } })

/-! What a boundary does to measurement. -/

/-- A preset, median length or mode of a channel changes at the boundary `t0` (R154); in Idle the median of VCAP alone is in
use (R183). A start whose delay runs stays (R164), unless the mode that made it ends. -/
def CellSt.chcfgChanged (x : CellSt) (n : Nat) (old : Word) (t0 : Instant) : CellSt :=
  let used : Word := if !x.idleMeas then 0x333 else if n = 0 then 0x300 else 0
  let new := x.word (0x3040 + 4 * n)
  if new &&& used = old &&& used then x
  else
    (x.restart n t0 true).onCh n (fun h =>
      { h with starts := if new &&& used &&& 3 = old &&& used &&& 3 then h.starts else [], anch := true })

/-- Exit from Idle at the boundary `t0`: every channel resumes its settings, the spare returns to CALIB, and a step that was
under way is repeated on its target (R175, R183).
Log entry 198 (DEDUCED). -/
def CellSt.measResume (x : CellSt) (t0 : Instant) : CellSt :=
  let x := (List.range 4).foldl (fun (x : CellSt) n => x.restart n t0 true) { x with resume := false }
  if x.rotState = 7 then x
  else
    let next := if 2 ≤ x.rotState ∧ x.rotState ≤ 4 then x.rot.doubt.getD x.target else x.rot.next
    { x with rot := { x.rot with due := none, injAt := none, agreed := false, take := false, doubt := none, next := next,
                                 diffs := [] } }.set CMEAS_ROT.STATE 0

/-- The end of Idle for measurement, anchors, timer window starts and the sync of a boundary (R157, R162, R166, R183). -/
def CellSt.measBoundary (x : CellSt) (pn : Nat) (t0 : Instant) (sync : Bool) : CellSt :=
  let x := if x.resume then x.measResume t0 else x
  let x := (List.range 4).foldl (fun x n =>
    match x.chMode n with
    | 0 =>
      if !(x.ch n).anch && x.servo == 2 then (x.restart n t0 true).onCh n (fun h => { h with anch := true }) else x
    | 1 =>
      let d := x.fld CMEAS_CHCFG.TIMDIV n
      let x := if d ≠ 0 ∧ pn % d = 0 then x.addStart n t0 else x
      x.dropReplaced n t0 (x.ch n).starts.length
    | _ => x.dropReplaced n t0 (x.ch n).starts.length) x
  if sync then x.syncAt t0 else x

/-- Entry to Idle (R183): VCAP goes to Vellum in stream mode; no conversion of a slice that stops comes to an end, and no
window start is left.
Log entry 195 (DEDUCED). -/
def CellSt.measIdle (x : CellSt) (t0 : Instant) : CellSt :=
  let x := (List.range 4).foldl (fun x n =>
    x.onCh n (fun h => { h with starts := [], inj := if n = 0 then h.inj else none })) x
  (x.restart 0 t0 true).showInj

/-! The values of a status slot (R108, R159, R160, R171). -/

/-- The breakpoint codes of TEMP. -/
def CellSt.tlinCode (x : CellSt) (i : Nat) : Int := toInt 16 (x.fld CMEAS_TLIN.CODE i)
def CellSt.tlinDeg (x : CellSt) (i : Nat) : Int := toInt 10 (x.fld CMEAS_TLIN.DEGC i)

/-- TEMP of a result: linear between the breakpoints, to the nearest step, ties to the higher temperature.
Log entry 156 (DESIGN CHOICE). -/
def CellSt.tempOf (x : CellSt) (res : Int) : Int × CellSt :=
  if (List.range 16).all (fun i => decide (x.tlinCode i < x.tlinCode (i + 1))) then
    let v := res / 256
    if v ≤ x.tlinCode 0 then (x.tlinDeg 0, x)
    else if x.tlinCode 16 ≤ v then (x.tlinDeg 16, x)
    else
      match (List.range 16).find? (fun i => decide (x.tlinCode i ≤ v) && decide (v < x.tlinCode (i + 1))) with
      | none => (x.tlinDeg 16, x)
      | some i =>
        let dx := x.tlinCode (i + 1) - x.tlinCode i
        let num := (v - x.tlinCode i) * (x.tlinDeg (i + 1) - x.tlinDeg i)
        (x.tlinDeg i + (2 * num + dx) / (2 * dx), x)
  else (-512, x.err CMEAS_ERR.TLIN)

/-- The result a latch at `t` takes for channel `n`: an injected result once, else the channel's own (R158, R171). -/
def CellSt.takeResult (x : CellSt) (n : Nat) : (Int × Option Instant) × CellSt :=
  match (x.ch n).injRes with
  | some (z, e) => ((z, some e), x.onCh n (fun h => { h with injRes := none }))
  | none =>
    if x.sliceOf n = 7 ∨ !(x.ch n).valid then ((0, none), x)
    else ((toInt 24 (x.fld CMEAS_RES.VALUE n), some (x.ch n).eff), x)

/-- AGE at the latch instant `t`: 1 ns units, saturating; without a valid result 0xFFFF.
Log entry 176 (DESIGN CHOICE). -/
def ageOf (t : Instant) : Option Instant → Nat
  | none => 0xFFFF
  | some e => min 0xFFFF ((t - e) / ns)

end Sys2Proof.Machine
end

