-- ==== Sys2Proof/Machine/CellProt.lean ====
section
/-! DEFINITION. Cell resets and power states, local trips, ALIVE, the self-supply, the lease record and what follows its
expiry (R191, R221 to R257, R398 to R404, R577 to R579, R590 to R592, R655). -/
namespace Sys2Proof.Machine

/-! Resets (R577, R590, R592). -/

/-- The slices retired by the last KIND 0x02 entry of the event ledger (R577).
Log entry 163 (DESIGN CHOICE). -/
def CellSt.ledgerRetired (x : CellSt) : Nat :=
  (x.mem.event.foldl (fun m e => if byteAt e 12 = 2 then byteAt e 0 else m) 0) % 32

/-- A calibration word of FRAM as the register at `a` takes it: bits that are no field read 0 (R604). -/
def calWord (k a : Nat) : Word := Config.cellPart k a &&& (if a < 0x3094 then 0xFFFFFFFF else 0xFFFF03FF)

/-- The calibration of FRAM into the CMEAS registers. -/
def CellSt.loadCal (x : CellSt) : CellSt :=
  (List.range 21).foldl (fun x i => x.setWord (0x3084 + 4 * i) (calWord x.key (0x3084 + 4 * i))) x

/-- Boot steps 2 and 3: the core reads FRAM and checks it (R574, R577).
Log entry 164 (DESIGN CHOICE). -/
def CellSt.readFram (x : CellSt) (t : Instant) : CellSt :=
  let hdr := Config.framOk x.key 0
  let cal := Config.framOk x.key 1
  let x := if hdr then x else x.err CFRM_ERR.HDR
  let x := if cal then x else x.err CFRM_ERR.CAL
  let x := if hdr && cal then x.loadCal else x
  let x := if Config.framOk x.key 2 then x.set CFRM_CERTLEN.LEN ((Config.cellPart x.key 0x904C).toNat % 2048)
    else (x.err CFRM_ERR.CERT).set CFRM_CERTLEN.LEN 0
  (x.set CMEAS_RETIRE.RET x.ledgerRetired).remap t

/-- A reset of the cell at `t` (R590): everything returns to its reset value but OTP, FRAM and, on a cell reset, the
bypass fire latch; `CFLT_LATCH` is copied; every fault source is masked (R556); the cell boots into Idle. -/
def CellSt.resetTo (x : CellSt) (kind : Nat) (t : Instant) : CellSt :=
  let y : CellSt := { CellSt.reset x.key with
    out := x.out, free := x.free, mem := x.mem.kept,
    lnkA := { lostAt := some t, srchAt := t }, lnkB := { lostAt := some t, srchAt := t },
    prot := { alive := .toggles t, coreAt := t, bootAt := t },
    sup := { ssAt := t }, rot := { stepAt := t }, jtag := if kind = 0 then {} else x.jtag }
  let y := (List.range 4).foldl (fun (y : CellSt) n => y.onCh n (fun h => { h with anchor := t })) y
  let y := (y.setWord 0x9048 (x.word 0x9048)).tick t
  let y := y.set CGEN_RSTCAUSE.KIND kind
  let y := if kind = 0 then y
    else
      let y := (y.setWord 0x40A8 (x.word 0x40A8)).setWord 0x60 (x.word 0x8040)
      { y with flt := { y.flt with masked := (List.range 11).map (fun n => (n, 10)) } }
  y.readFram t

/-- CELL_POWER_ON_RESET. -/
def execCellPowerOnReset (c : CellId) (at_ : Instant) (s : State) : Host.Outcome State Fault Refusal :=
  cellStep s c (fun x => x.resetTo 0 at_)

/-- CELL_POWER_LOSS: the cell is Off; FRAM keeps its contents. -/
def execCellPowerLoss (c : CellId) (s : State) : Host.Outcome State Fault Refusal :=
  cellStep s c (fun x => { CellSt.reset x.key with
    pow := .off, prot := { alive := .undriven }, out := x.out, free := x.free, mem := x.mem.kept })

/-- The key of `CGEN_RST` and what a write of it does (R590, R655). -/
def CellSt.rstWrite (x : CellSt) (r : CellReq) (w : Word) (t : Instant) : Nat × CellSt :=
  if w ≠ 0xB007 then (rcRefused, x.err CGEN_ERR.RANGE)
  else if r.isCore then (rcOk, x.resetTo 3 t)
  else (rcRefused, x)

/-- CGEN_RST_WRITE. -/
def execCgenRstWrite (c : CellId) (r : CellReq) (v : Word) (at_ : Instant) (s : State) : Host.Outcome State Fault Refusal :=
  cellStep s c (fun x => x.access r 0x4C (fun x => x.rstWrite r v at_))

/-! Power states (R250, R252, R253, R579). -/

/-- The cell leaves Idle for Blocked at `t` (R250): the STOP block is set, the core restarts with boot steps 2 and 3 and
without a patch, the measurement resumes at the next boundary (R183). -/
def CellSt.enterBlocked (x : CellSt) (t : Instant) : CellSt :=
  let x : CellSt := { x with
    pow := .on, waking := false, mem := { x.mem with sram := [], patch := false, reload := false },
    resume := true, prot := { x.prot with orphAt := t, orphN := 0, coreAt := t } }
  let x := ((x.set CGEN_RSTCAUSE.CORERST 1).set CGEN_PVER.PVER 0).setBoth CLNK_STAT.STOPB 1
  (x.readFram t).holdCheck

/-- The cell enters Idle at `t` (R183, R250, R579): gates off, the core off. -/
def CellSt.enterIdle (x : CellSt) (t : Instant) : CellSt :=
  let x : CellSt := { x with
    pow := .idle, mem := { x.mem with sram := [], patch := false },
    resume := false, sup := { x.sup with huReq := false, hu := none } }
  (x.holdCheck).measIdle t

/-- SSDRV goes off and the controller switches no more. -/
def CellSt.supStop (x : CellSt) : CellSt :=
  { x with sup := { x.sup with drv := false, ready := true } }.set CSUP_STAT.RUN 0

/-- Whether VCAP, from its Vellum result, is below VDORM (R252). -/
def CellSt.belowDorm (x : CellSt) : Bool :=
  (x.ch 0).valid && decide (toInt 24 (x.fld CMEAS_RES.VALUE 0) * 3200 < (x.fld CPROT_PWR.VDORM * 8388608 : Nat))

/-- The cell enters Dormant: ALIVE is not driven and the self-supply stops (R239, R255). -/
def CellSt.enterDormant (x : CellSt) : CellSt :=
  ({ x with pow := .dormant, prot := { x.prot with alive := .undriven } }.supStop).holdCheck

/-- A write of `CPROT_PWRREQ` (R252, R655). -/
def CellSt.pwrreqWrite (x : CellSt) (w : Word) : Nat × CellSt :=
  if w ≠ 0xD0D0 then (rcRefused, x.err CPROT_ERR.RANGE)
  else if x.pow = .idle ∧ x.belowDorm then (rcOk, x.enterDormant)
  else (rcRefused, x.err CPROT_ERR.DORMREF)

/-- CPROT_PWRREQ_WRITE. -/
def execCprotPwrreqWrite (c : CellId) (r : CellReq) (v : Word) (s : State) : Host.Outcome State Fault Refusal :=
  cellStep s c (fun x => x.access r 0x506C (fun x => x.pwrreqWrite v))

/-- DORMANT_LINK_TIMEOUT: both ports have been out of lock for 100 ms in Idle below VDORM. -/
def execDormantLinkTimeout (c : CellId) (at_ : Instant) (s : State) : Host.Outcome State Fault Refusal :=
  cellStep s c (fun x =>
    match x.lnkA.lostAt, x.lnkB.lostAt with
    | some a, some b =>
      if x.pow = .idle ∧ x.belowDorm ∧ max a b + 100000 * us ≤ at_ then (x.tick at_).enterDormant else x
    | _, _ => x)

/-- CELL_WAKE_LIGHT: signal on a light-detect input for 50 µs. -/
def execCellWakeLight (c : CellId) (at_ : Instant) (s : State) : Host.Outcome State Fault Refusal :=
  cellStep s c (fun x => if x.pow = .dormant then x.resetTo 4 at_ else x)

/-- CELL_WAKE_CHARGE: the OV input rises above VDORM. -/
def execCellWakeCharge (c : CellId) (at_ : Instant) (s : State) : Host.Outcome State Fault Refusal :=
  cellStep s c (fun x => if x.pow = .dormant then x.resetTo 4 at_ else x)

/-! Local trips (R221 to R228). -/

/-- Whether trip sources act: not in Dormant or Off (R255). -/
def CellSt.protOn (x : CellSt) : Bool := x.pow == .on || x.pow == .idle

/-- Whether source `n` is enabled (R221, R227). -/
def CellSt.tripEn (x : CellSt) (n : Nat) : Bool :=
  if n < 4 then x.bit CPROT_TRIPCFG.EN n
  else if n = 4 then x.bit CPROT_OVCFG.EN
  else x.bit CSUP_CFG.UVEN && x.bit CSUP_STAT.SSDONE

/-- Whether a source that stays active fires the bypass (R226). -/
def CellSt.tripAct (x : CellSt) (n : Nat) : Bool :=
  if n < 4 then x.bit CPROT_TRIPCFG.ACT n else if n = 4 then x.bit CPROT_OVCFG.ACT else false

/-- Whether the comparator of source `n` is active now. -/
def CellSt.rawOn (x : CellSt) (n : Nat) : Bool := bitAt (x.fld CPROT_STAT.RAW) n
def CellSt.setRaw (x : CellSt) (n : Nat) (v : Bool) : CellSt :=
  let m := x.fld CPROT_STAT.RAW
  x.set CPROT_STAT.RAW (if v then orBit m n else m &&& (63 ^^^ (1 <<< n)))

/-- Whether TRIPn is inside a blanking window at `t` (R224). -/
def CellSt.blanked (x : CellSt) (n : Nat) (t : Instant) : Bool :=
  decide (n < 4) && (List.range 4).any (fun g =>
    bitAt (x.fld CPROT_TRIPCFG.ASSOC n) g &&
      (match sget (fun _ => none) x.sw.lastOn g with
       | some e => decide (t < e + x.fld CPROT_TRIPCFG.BLANK n * qns)
       | none => false))

def CellSt.activeSince (x : CellSt) (n : Nat) : Option Instant := sget (fun _ => none) x.prot.since n
def CellSt.setSince (x : CellSt) (n : Nat) (t : Option Instant) : CellSt :=
  { x with prot := { x.prot with since := sset (fun _ => none) x.prot.since n t } }

/-- The trip-to-bypass delay of a source runs out (R226); a bypass that has fired fires no more (R217). -/
def CellSt.tripFire (x : CellSt) : CellSt :=
  if x.bit CSW_BYPSTAT.FIRED then x else (x.err CPROT_ERR.BYPTRIP).fire 4

/-- A source's trip takes effect at `t` (R222, R226). -/
def CellSt.tripEffect (x : CellSt) (n : Nat) (t : Instant) : CellSt :=
  let m := x.fld CPROT_LATCH.LATCH
  let x := (x.tick t).setSince n (some t)
  let x := if bitAt m n then x
    else
      let x := ((x.set CPROT_LATCH.LATCH (orBit m n)).set CPROT_STAT.TRIP 1).inc CPROT_CNT.TRIPS
      let x := x.ledger false (ledgerEntry 3 0 [BitVec.ofNat 8 (orBit m n)])
      ({ x with prot := { x.prot with tripNew := true } }).holdCheck
  if x.tripAct n && x.fld CPROT_BYPDLY.BYPDLY == 0 then x.tripFire else x

/-- CELL_TRIP_INPUT: the comparator of a source becomes active. -/
def execCellTripInput (c : CellId) (n : Fin 6) (at_ : Instant) (s : State) : Host.Outcome State Fault Refusal :=
  cellStep s c (fun x =>
    if !x.protOn then x
    else
      let x := x.setRaw n.val true
      if x.tripEn n.val && !x.blanked n.val at_ then x.tripEffect n.val at_ else x)

/-- BLANK_END: an input that is still active takes effect. -/
def execBlankEnd (c : CellId) (n : Fin 4) (at_ : Instant) (s : State) : Host.Outcome State Fault Refusal :=
  cellStep s c (fun x =>
    if x.protOn && x.tripEn n.val && x.rawOn n.val && (x.activeSince n.val).isNone && !x.blanked n.val at_
    then x.tripEffect n.val at_ else x)

/-- TRIP_SOURCE_INACTIVE. -/
def execTripSourceInactive (c : CellId) (n : Fin 6) (s : State) : Host.Outcome State Fault Refusal :=
  cellStep s c (fun x => (x.setRaw n.val false).setSince n.val none)

/-- TRIP_BYPASS_DELAY: a source has stayed active for BYPDLY. -/
def execTripBypassDelay (c : CellId) (n : Fin 5) (at_ : Instant) (s : State) : Host.Outcome State Fault Refusal :=
  cellStep s c (fun x =>
    match x.activeSince n.val with
    | some t =>
      if x.protOn && x.tripEn n.val && x.tripAct n.val && decide (t + x.fld CPROT_BYPDLY.BYPDLY * us ≤ at_)
      then (x.tick at_).tripFire else x
    | none => x)

/-- A write of `CPROT_TRIPCLR` (R225).
Log entry 157 (DEDUCED). -/
def CellSt.tripclrWrite (x : CellSt) (w : Word) : Nat × CellSt :=
  let x := (bitsOf 6 w.toNat).foldl (fun x n =>
    let m := x.fld CPROT_LATCH.LATCH
    if !bitAt m n then x
    else if x.rawOn n && (n != 5 || x.tripEn 5) then x.err CPROT_ERR.CLRREF
    else x.set CPROT_LATCH.LATCH (m ^^^ (1 <<< n))) x
  (rcOk, (x.set CPROT_STAT.TRIP (b2n (x.bit CPROT_LATCH.LATCH))).holdCheck)

/-- CPROT_TRIPCLR_WRITE. -/
def execCprotTripclrWrite (c : CellId) (r : CellReq) (v : Word) (s : State) : Host.Outcome State Fault Refusal :=
  cellStep s c (fun x => x.access r 0x505C (fun x => x.tripclrWrite v))

/-! ALIVE (R238). -/

/-- Whether the CORE island may run at `t`: outside Idle, and in Idle while the core runs its boot steps, which are complete
25 ms after the reset or wake at the latest (R37, R254, R579).
Log entry 191 (DESIGN CHOICE). -/
def CellSt.coreRuns (x : CellSt) (t : Instant) : Bool :=
  x.pow == .on || (x.pow == .idle && x.waking && decide (t ≤ x.prot.bootAt + 25000 * us))

/-- CELL_CORE_WDOG_EXPIRE: 10 ms without a service, counted from 0 each time CORE starts.
Log entry 191 (DESIGN CHOICE). -/
def execCellCoreWdogExpire (c : CellAt) (s : State) : Host.Outcome State Fault Refusal :=
  cellStep s c.cell (fun x =>
    if x.coreRuns c.at_ && decide (x.prot.coreAt + 10000 * us ≤ c.at_) then (x.err CPROT_ERR.WDOG).stopAlive else x)

/-- PROT_CLOCK_FAIL. -/
def execProtClockFail (c : CellId) (s : State) : Host.Outcome State Fault Refusal :=
  cellStep s c (fun x => if x.protOn then x.stopAlive else x)

/-! Self-supply (R243 to R247). VAUX operands are in mV. -/


/-- 12.5 ns units as a span. -/
def supSpan (n : Nat) : Nat := n * 25 * ns / 2

/-- The end of the off-time that runs: at once where none does.
Log entry 193 (DEDUCED). -/
def CellSt.offEnd (x : CellSt) (t : Instant) : Instant :=
  if x.sup.ready then t else x.sup.since + supSpan (x.fld CSUP_TIME.TOFF)

/-- SUP_TURN_ON: SSDRV goes on after the off-time while VAUX is below VSET; in mode 1 an off-time at whose end VAUX was below
VSET is exactly TOFF (R243).
Log entry 193 (DEDUCED). -/
def execSupTurnOn (c : CellId) (vaux : Nat) (at_ : Instant) (s : State) : Host.Outcome State Fault Refusal :=
  cellStep s c (fun x =>
    if x.protOn && x.bit CSUP_CFG.EN && x.works 0x6000 && !x.sup.drv && x.sup.hu.isNone
        && decide (x.offEnd at_ ≤ at_) && decide (vaux < x.fld CSUP_VSET.VSET * 40)
    then
      let on := if x.bit CSUP_CFG.MODE && !x.bit CSUP_STAT.REG then x.offEnd at_ else at_
      (({ x with sup := { x.sup with drv := true, since := on, ovStop := false } }.set CSUP_STAT.RUN 1).showReg vaux).tick at_
    else x)

/-- Sixteen times the peak-current threshold at `t`, in mV: it rises in 16 steps during the soft start (R244).
Log entry 192 (DESIGN CHOICE). -/
def CellSt.ipk16 (x : CellSt) (t : Instant) : Nat :=
  let step := (t - x.sup.ssAt) * 16 / (max 1 (x.fld CSUP_CFG.SST) * 1000 * us)
  x.fld CSUP_LIM.IPK * 2 * (if x.bit CSUP_STAT.SSDONE then 16 else min 16 (step + 1))

/-- SUP_TURN_OFF: the on-time ends at TON, or before it when SSCS, in mV, reaches IPK once LEB is over (R243).
Log entry 192 (DESIGN CHOICE). -/
def execSupTurnOff (c : CellId) (v : SupSense) (at_ : Instant) (s : State) : Host.Outcome State Fault Refusal :=
  cellStep s c (fun x =>
    let tend := x.sup.since + supSpan (x.fld CSUP_TIME.TON)
    let ilim := decide (x.ipk16 at_ ≤ 16 * v.sscs) && decide (x.sup.since + supSpan (x.fld CSUP_LIM.LEB) ≤ at_)
      && decide (at_ < tend)
    if x.sup.drv && (ilim || decide (tend ≤ at_)) then
      let x := ({ x with sup := { x.sup with drv := false, ready := false, since := min at_ tend } }.showReg v.vaux).tick at_
      if ilim then x.inc CSUP_CNT.ILIM else x
    else x)

/-- A write of `CSUP_CFG` or `CSUP_VSET` has taken effect at `t`: a controller that is not enabled switches no more, VAUX stands
against the VSET written (R257), and the UV source is active or not as UVEN now says (R221, R222). -/
def CellSt.supWritten (x : CellSt) (t : Instant) : CellSt :=
  let x := (if x.bit CSUP_CFG.EN then x else x.supStop).showReg x.sup.vaux
  if !x.tripEn 5 then x.setSince 5 none
  else if x.protOn && x.rawOn 5 && (x.activeSince 5).isNone then x.tripEffect 5 t
  else x

/-- SOFT_START_END. -/
def execSoftStartEnd (c : CellId) (vaux : Nat) (at_ : Instant) (s : State) : Host.Outcome State Fault Refusal :=
  cellStep s c (fun x =>
    if x.protOn && !x.bit CSUP_STAT.SSDONE && decide (x.sup.ssAt + max 1 (x.fld CSUP_CFG.SST) * 1000 * us ≤ at_) then
      let low := decide (vaux < x.fld CSUP_VSET.VUV * 40)
      let x := (((x.set CSUP_STAT.SSDONE 1).showReg vaux).setRaw 5 low).tick at_
      if low then
        let x := x.err CSUP_ERR.SSFAIL
        if x.tripEn 5 then x.tripEffect 5 at_ else x
      else x
    else x)

/-- SUP_OV_STOP: VAUX rises above VOV. -/
def execSupOvStop (c : CellId) (at_ : Instant) (s : State) : Host.Outcome State Fault Refusal :=
  cellStep s c (fun x =>
    if x.protOn && !x.sup.ovStop && x.works 0x6000 then
      let x := { x with sup := if x.sup.drv then { x.sup with drv := false, ready := false, since := at_, ovStop := true }
        else { x.sup with ovStop := true } }
      (((((x.set CSUP_STAT.RUN 0).showReg (max x.sup.vaux (x.fld CSUP_VOV.VOV * 40 + 1)))).inc CSUP_CNT.OVSTOP).err CSUP_ERR.OV).tick at_
    else x)

/-- A write of `CSUP_HU` (R246, R247). -/
def CellSt.huWrite (x : CellSt) (w : Word) : CellSt :=
  let x := (x.set CSUP_HU.DROP (CSUP_HU.DROP.get w 0)).set CSUP_HU.WIN (CSUP_HU.WIN.get w 0)
  if CSUP_HU.REQ.get w 0 = 0 then x
  else if x.fld CSUP_HU.WIN = 0 then x.set CSUP_HU.RES 3
  else if x.pow != .on || !x.bit CSUP_STAT.SSDONE || !x.bit CSUP_STAT.REG || x.sup.huReq || x.sup.hu.isSome
      || decide (x.fld CSUP_VSET.VSET ≤ x.fld CSUP_VSET.VUV + x.fld CSUP_HU.DROP) then
    (x.set CSUP_HU.RES 2).err CSUP_ERR.HUREF
  else { x with sup := { x.sup with huReq := true } }

/-- HOLDUP_REQ. -/
def execHoldupReq (c : CellId) (r : CellReq) (v : Word) (s : State) : Host.Outcome State Fault Refusal :=
  cellStep s c (fun x => x.access r 0x6054 (fun x => (rcOk, x.huWrite v)))

/-- The hold-up measurement that was requested starts at the boundary `t0` (R246). -/
def CellSt.huStart (x : CellSt) (t0 : Instant) : CellSt :=
  if x.sup.huReq then
    { x with sup := { x.sup with huReq := false, drv := false, since := t0,
                                 hu := some (toInt 24 (x.fld CMEAS_RES.VALUE 3), t0) } }.set CSUP_STAT.RUN 0
  else x

/-- The hold-up from a fall of `dv` 2^-23 parts of 40.96 V in `dt`, in 10 µs units; where nothing has fallen the spec
gives no value.
Log entry 162 (DEDUCED). -/
def CellSt.holdUp (x : CellSt) (dv dt : Int) : Int × CellSt :=
  let num : Int := ((x.fld CSUP_VSET.VSET : Int) - x.fld CSUP_VSET.VUV) * 40 * dt * 8388608
  let den : Int := 40960 * dv * (10 * us : Nat)
  if 0 < den then x.divFree num den
  else
    let (v, x) := x.draw
    ((v % 65536 : Nat), x)

/-- HOLDUP_END: after WIN, or a fall of DROP.
Log entry 162 (DEDUCED). -/
def execHoldupEnd (c : CellId) (at_ : Instant) (s : State) : Host.Outcome State Fault Refusal :=
  cellStep s c (fun x =>
    match x.sup.hu with
    | none => x
    | some (v0, t) =>
      let dv : Int := v0 - toInt 24 (x.fld CMEAS_RES.VALUE 3)
      if t + x.fld CSUP_HU.WIN * us ≤ at_ ∨ (x.fld CSUP_HU.DROP * 40 * 8388608 : Nat) ≤ dv * 40960 then
        let (mv, x) := x.divFree (dv * 40960) 8388608
        let (du, x) := x.divFree ((at_ : Int) - t) (us : Nat)
        let (h, x) := x.holdUp dv ((at_ : Int) - t)
        let hold := (clampInt 0 65535 h).toNat
        let x := (x.set CSUP_HURES.DV (ofInt 16 mv)).set CSUP_HURES.DT (ofInt 16 du)
        let x := ((x.set CSUP_HOLD.HOLD hold).set CSUP_HOLD.VALID 1).set CSUP_HU.RES 1
        let x := { x with sup := { x.sup with hu := none, ready := true } }.tick at_
        x.ledger false (ledgerEntry 5 0 (leBytes 2 hold))
      else x)

/-! The lease record (R398 to R404). -/

def CellSt.exppn (x : CellSt) : Nat := x.pair CPROT_LEXP_LO.PN_LO CPROT_LEXP_HI.PN_HI
def CellSt.abdpn (x : CellSt) : Nat := x.pair CPROT_LABD_LO.PN_LO CPROT_LABD_HI.PN_HI
def CellSt.setAbdpn (x : CellSt) (v : Nat) : CellSt :=
  (x.setPair CPROT_LABD_LO.PN_LO CPROT_LABD_HI.PN_HI v).set CPROT_LEASE.ABD (b2n (v != 0))

/-- HOLDER as the record codes it: 0 none, 1 A, 2 B. -/
def holderCode : UnitId → Nat
  | .a => 1
  | .b => 2

/-- The cell accepts a claiming frame with execution PN `y` (R401, R232). -/
def CellSt.leaseAccept (x : CellSt) (w : Watermark) (y : Nat) (low : Bool) : CellSt :=
  let x := x.set CPROT_LEASE.LLEN w.llen
  let x := if w.abd then (if y < w.abdpn then x.setAbdpn w.abdpn else x.inc CPROT_LCNT2.LBAD) else x
  let e := y + (if low then 64 else 1) * w.llen
  let e := if x.abdpn ≠ 0 then min e (x.abdpn - 1) else e
  let x := (x.setPair CPROT_LEXP_LO.PN_LO CPROT_LEXP_HI.PN_HI (e % 2 ^ 48)).set CPROT_LEASE.EXP 0
  (x.set CPROT_OSTAT.ORPHAN 0).set CPROT_OSTAT.OELAPSED 0

/-- The test of a claiming frame of unit `u` against the record: the rows of R400 in their order. -/
def CellSt.leaseTest (x : CellSt) (u : UnitId) (w : Watermark) (y : Nat) (low : Bool) : Bool × CellSt :=
  let holder := x.fld CPROT_LEASE.HOLDER
  let epoch := x.fld CPROT_LEPOCH.EPOCH
  let claim (x : CellSt) : CellSt := (x.set CPROT_LEASE.HOLDER (holderCode u)).set CPROT_LEPOCH.EPOCH w.epoch
  if holder = 0 then (true, (claim x).leaseAccept w y low)
  else if holder = holderCode u ∧ w.epoch = epoch then (true, x.leaseAccept w y low)
  else if w.epoch = (epoch + 1) % 2 ^ 32 then
    (if x.exppn < y then (true, (((claim x).setAbdpn 0).inc CPROT_LCNT3.TAKE).leaseAccept w y low)
     else (false, x.inc CPROT_LCNT1.EARLY))
  else if w.epoch = epoch then (false, x.inc CPROT_LCNT2.UNIT)
  else (false, x.inc CPROT_LCNT1.EPOCH)

/-- The instant of adoption for the next boundary. -/
def CellSt.adoptAt (x : CellSt) : Instant := x.tim.t0 + x.period - 300 * ns

/-- LEASE_EXPIRE. -/
def execLeaseExpire (c : CellId) (s : State) : Host.Outcome State Fault Refusal :=
  cellStep s c (fun x =>
    if x.protOn && x.fld CPROT_LEASE.HOLDER != 0 && !x.bit CPROT_LEASE.EXP && decide (x.exppn ≤ x.pn) then
      let x := ((x.set CPROT_LEASE.EXP 1).set CPROT_OSTAT.ORPHAN 1).inc CPROT_CNT.ORPH
      let x := { x with prot := { x.prot with orphAt := x.adoptAt, orphN := 0 } }
      x.tick x.adoptAt
    else x)

/-- ORPHAN_BLOCK: at the boundary after COAST boundaries as an orphan. -/
def execOrphanBlock (c : CellId) (s : State) : Host.Outcome State Fault Refusal :=
  cellStep s c (fun x =>
    if x.pow == .on && x.bit CPROT_OSTAT.ORPHAN && decide (x.fld CPROT_ORPH.COAST < x.prot.orphN)
    then (x.set CPROT_OSTAT.OBLK 1).holdCheck else x)

/-- ORPHAN_BYPASS: an orphan without a break for OTIME. -/
def execOrphanBypass (c : CellId) (at_ : Instant) (s : State) : Host.Outcome State Fault Refusal :=
  cellStep s c (fun x =>
    if x.pow == .on && x.bit CPROT_OSTAT.ORPHAN && x.fld CPROT_ORPH.OTIME != 0
        && decide (x.prot.orphAt + x.fld CPROT_ORPH.OTIME * 1000 * us ≤ at_)
    then (x.tick at_).fire 2 else x)

/-- A write of `CPROT_LCLR` (R404, R655). -/
def CellSt.lclrWrite (x : CellSt) (w : Word) : Nat × CellSt :=
  if w ≠ 0x1EA5 then (rcRefused, x.err CPROT_ERR.RANGE)
  else if x.bit CPROT_LEASE.EXP || x.fld CPROT_LEASE.HOLDER == 0 then
    let x := ((x.set CPROT_LEASE.HOLDER 0).set CPROT_LEPOCH.EPOCH 0).set CPROT_LEASE.LLEN 0
    (rcOk, ((x.setPair CPROT_LEXP_LO.PN_LO CPROT_LEXP_HI.PN_HI 0).setAbdpn 0).inc CPROT_LCNT3.CLR)
  else (rcRefused, x.err CPROT_ERR.LCLRREF)

/-- LEASE_CLEAR. -/
def execLeaseClear (c : CellId) (r : CellReq) (v : Word) (s : State) : Host.Outcome State Fault Refusal :=
  cellStep s c (fun x => x.access r 0x5098 (fun x => x.lclrWrite v))

/-! Adoption (R191, R192, R230). -/

/-- The slot accepted for the boundary of period `pn`: the A-side port's where both hold one (R99). -/
def CellSt.acceptedSlot (x : CellSt) (pn : Nat) : Option Nat :=
  if x.acc.pn = pn then (match x.acc.slotA with | some w => some w | none => x.acc.slotB) else none

/-- The stage adopts the command for the next boundary. -/
def CellSt.adopt (x : CellSt) : CellSt :=
  let t := x.adoptAt
  let last : Option Nat := if x.sw.ran then some (x.pair CSW_LAST_LO.SLOT_LO CSW_LAST_HI.SLOT_HI) else none
  match x.acceptedSlot (x.pn + 1) with
  | some w =>
    let bad := !x.bridge && (cslotBstate w == 2 || cslotAlt w == 2)
    let x := if bad then (x.inc CSW_CNT3.BADST).err CSW_ERR.BADST else x
    { x with sw := { x.sw with adopted := some ⟨some w, false, t⟩, ever := true } }
  | none => { x with sw := { x.sw with adopted := some ⟨last, true, t⟩ } }

/-- CMD_ADOPT. -/
def execCmdAdopt (c : CellId) (s : State) : Host.Outcome State Fault Refusal :=
  cellStep s c (fun x => if x.pow = .on ∧ x.works 0x4000 then x.adopt.tick x.adoptAt else x)

end Sys2Proof.Machine
end

