-- ==== Sys2Proof/Machine/CellFault.lean ====
section
/-! DEFINITION. The cell's fault collector, masking windows, ledger and patches (R528 to R532, R540 to R542, R550, R551,
R554 to R556, R578). -/
namespace Sys2Proof.Machine

/-! The collector (R554, R555). -/

def CellSt.masked (x : CellSt) (n : Nat) : Option Nat := (x.flt.masked.find? (fun e => e.1 == n)).map (fun e => e.2)

/-- Shows whether a MAJOR or FATAL bit is latched. -/
def CellSt.showMajor (x : CellSt) : CellSt :=
  x.set CFLT_STAT.MAJOR (b2n ((List.range 11).any (fun n =>
    bitAt (x.fld CFLT_LATCH.LATCH) n && decide (2 ≤ x.fld CFLT_LCLS.CLS n))))

/-- Latch events of the sources `ns`, each with the class of its line (1 INFO to 4 FATAL), in one collector cycle (R529
to R531, R555).
Log entry 160 (DEDUCED). -/
def CellSt.latch (x : CellSt) (ns : List (Nat × Nat)) (t : Instant) (cyc : Nat) : CellSt :=
  if ns = [] then x
  else
    let first := x.fld CFLT_LATCH.LATCH == 0
    let bits := ns.foldl (fun m e => orBit m e.1) 0
    let x := ns.foldl (fun x e =>
      let x := x.set CFLT_LATCH.LATCH (orBit (x.fld CFLT_LATCH.LATCH) e.1)
      x.set CFLT_LCLS.CLS (max (x.fld CFLT_LCLS.CLS e.1) (e.2 - 1)) e.1) x
    let x := x.setWord 0x801C (x.word 0x801C ||| 1)
    let x := if first then
        ((x.set CFLT_FSRC.FSRC bits).setPair CFLT_FIRST_LO.NS CFLT_FIRST_HI.NS (t / 65536 % 2 ^ 64)).set CFLT_FCYC.FCYC cyc
      else x
    let x := if ns.any (fun e => e.2 == 4) then
        ({ x with flt := { x.flt with graceAt := [] } }).fatal
      else
        ns.foldl (fun x e => if e.2 = 3 then
          { x with flt := { x.flt with graceAt := (e.1, t) :: x.flt.graceAt.filter (fun g => g.1 != e.1) } } else x) x
    x.showMajor

/-- One cycle of the collector at `t`: rises of unmasked lines latch, rises of masked lines are consequential trips, the
grace timer of a line below MAJOR stops. -/
def CellSt.collect (x : CellSt) (t : Instant) (cyc : Nat) : CellSt :=
  let lines := (List.range 11).map (fun n => (n, x.srcLine n))
  let rises := lines.filter (fun e => decide (sget (fun _ => 0) x.flt.seen e.1 < e.2))
  let seen : Sparse Nat := lines.foldl (fun m e => sset (fun _ => 0) m e.1 e.2) x.flt.seen
  let x : CellSt := { x with flt := { x.flt with
    seen := seen,
    graceAt := x.flt.graceAt.filter (fun g => (lines.find? (fun e => e.1 == g.1 && decide (3 ≤ e.2))).isSome) } }
  let x := (rises.filter (fun e => (x.masked e.1).isSome)).foldl (fun x e =>
    (x.set CFLT_CONSQ.CONSQ (orBit (x.fld CFLT_CONSQ.CONSQ) e.1)).inc CFLT_CNT.CONSQ) x
  (x.latch (rises.filter (fun e => (x.masked e.1).isNone)) t cyc).tick t

/-- CELL_FAULT_LATCH: one collector cycle. -/
def execCellFaultLatch (c : CellId) (at_ : Instant) (cyc : BitVec 32) (s : State) : Host.Outcome State Fault Refusal :=
  cellStep s c (fun x => if x.pow = .off then x else x.collect at_ cyc.toNat)

/-- CELL_GRACE_EXPIRE: CRESET or PROMOTE (R555); in Dormant a cell reset comes of a wake alone (R250). -/
def execCellGraceExpire (c : CellId) (n : Fin 11) (at_ : Instant) (s : State) : Host.Outcome State Fault Refusal :=
  cellStep s c (fun x =>
    match x.flt.graceAt.find? (fun g => g.1 == n.val) with
    | none => x
    | some (_, t) =>
      if t + x.fld CFLT_SCFG.GRACE n.val * us ≤ at_ then
        (if x.fld CFLT_SCFG.ESC n.val = 0 then (if x.protOn then x.resetTo 2 at_ else x)
         else ({ x with flt := { x.flt with graceAt := x.flt.graceAt.filter (fun g => g.1 != n.val) } }.fatal).tick at_)
      else x)

/-! Masking windows (R556). A window of a cell reset counts from 10 and waits for the servo to reach Locked. -/

/-- Opens a masking window for a source, where none of a cell reset waits for Locked; its grace timer stops. -/
def CellSt.openMask (x : CellSt) (n : Nat) : CellSt :=
  let w := if x.masked n = some 10 then 10 else 0
  { x with flt := { x.flt with masked := (n, w) :: x.flt.masked.filter (fun e => e.1 != n),
                               graceAt := x.flt.graceAt.filter (fun e => e.1 != n) } }

/-- The sources that depend on a block that is reset. -/
def cmaskDependants : Nat → List Nat
  | 2 => [8]
  | 3 => [8]
  | 8 => [5, 4]
  | _ => []

/-- A period token arrives at the windows. -/
def CellSt.maskToken (x : CellSt) : CellSt :=
  { x with flt := { x.flt with masked := x.flt.masked.map (fun e =>
      if e.2 < 10 then (e.1, min 2 (e.2 + 1))
      else if e.2 = 10 ∧ x.servo ≠ 2 then e else (e.1, min 12 (e.2 + 1))) } }

/-- CELL_MASK_WINDOW_END: the windows that have seen their second token end; a line that carries a class latches. -/
def execCellMaskWindowEnd (c : CellId) (at_ : Instant) (cyc : BitVec 32) (s : State) : Host.Outcome State Fault Refusal :=
  cellStep s c (fun x =>
    let gone := x.flt.masked.filter (fun e => e.2 == 2 || e.2 == 12)
    let x := { x with flt := { x.flt with masked := x.flt.masked.filter (fun e => !(e.2 == 2 || e.2 == 12)) } }
    let now := gone.map (fun e => (e.1, x.srcLine e.1))
    let seen : Sparse Nat := now.foldl (fun m e => sset (fun _ => 0) m e.1 e.2) x.flt.seen
    let x : CellSt := { x with flt := { x.flt with seen := seen } }
    (x.latch (now.filter (fun e => e.2 != 0)) at_ cyc.toNat).tick at_)

/-- A write of `CFLT_LATCH`: a bit clears while its line carries none (R532). -/
def CellSt.latchClear (x : CellSt) (bits : Nat) : CellSt :=
  ((bitsOf 32 bits).foldl (fun x n =>
    let m := x.fld CFLT_LATCH.LATCH
    if !bitAt m n then x
    else if x.srcLine n = 0 then (x.set CFLT_LATCH.LATCH (m ^^^ (1 <<< n))).set CFLT_LCLS.CLS 0 n
    else x.err CFLT_ERR.CLRREF) x).showMajor

/-- CELL_FLT_LATCH_CLEAR. -/
def execCellFltLatchClear (c : CellId) (r : CellReq) (v : Word) (s : State) : Host.Outcome State Fault Refusal :=
  cellStep s c (fun x => x.access r 0x8040 (fun x => (rcOk, x.latchClear v.toNat)))

/-! Ledger (R550, R551). -/

/-- Whether a unit's request is being appended or waits. -/
def CellSt.ledgerBusy (x : CellSt) : Bool :=
  (match x.mem.append with | some (r, _) => r | none => false) || x.mem.queue.any (fun e => e.1)

/-- A write of `CFLT_LREQ3` requests the append of a KIND 0x10 entry.
Log entry 161 (DEDUCED). -/
def CellSt.lreqWrite (x : CellSt) (w : Word) : Nat × CellSt :=
  let kind := CFLT_LREQ3.KIND.get w 0
  if kind = 0 then (rcEmpty, x)
  else if kind ≠ 0x10 then (rcRefused, x.err CFLT_ERR.RANGE)
  else if x.ledgerBusy then (rcRefused, x.set CFLT_LREQ3.RES 2)
  else
    let data := (List.range 3).flatMap (fun i => leBytes 4 (x.fld CFLT_LREQ0.DATA i))
    (rcOk, (x.set CFLT_LREQ3.RES 0).ledger true (ledgerEntry 0x10 (CFLT_LREQ3.SUB.get w 0) data))

/-- LEDGER_REQ. -/
def execLedgerReq (c : CellId) (r : CellReq) (v : Word) (s : State) : Host.Outcome State Fault Refusal :=
  cellStep s c (fun x => x.access r 0x810C (fun x => x.lreqWrite v))

/-- Whether an entry goes to the event ledger (R576). -/
def isEvent (e : Bytes) : Bool :=
  let k := byteAt e 12
  k == 2 || k == 4 || (k == 0x10 && (byteAt e 13 == 2 || byteAt e 13 == 3))

/-- Puts an entry into its area of FRAM: the event ledger is never overwritten, the ring drops its oldest entry. -/
def CellSt.framAppend (x : CellSt) (e : Bytes) : CellSt :=
  if isEvent e then
    (if x.mem.event.length < 128 then { x with mem := { x.mem with event := x.mem.event ++ [e] } } else x)
  else
    let n := x.fld CFRM_LEDG.RINGN
    let ring := x.mem.ring ++ [e]
    let x := { x with mem := { x.mem with ring := if n < ring.length then ring.drop 1 else ring } }
    x.set CFRM_LEDG.NEXT (if n = 0 then 0 else (x.fld CFRM_LEDG.NEXT + 1) % n)

/-- FRAM_APPEND_COMPLETE: the entry in progress has been written, or the write is not confirmed. -/
def execFramAppendComplete (c : CellId) (ok : Bool) (s : State) : Host.Outcome State Fault Refusal :=
  cellStep s c (fun x =>
    match x.mem.append with
    | none => x
    | some (req, e) =>
      if x.pow ≠ .on then x
      else
        let x := if ok then x.framAppend e else x.err CFRM_ERR.WRFAIL
        let x := if ok && req then x.set CFLT_LREQ3.RES 1 else x
        match x.mem.queue with
        | [] => { x with mem := { x.mem with append := none } }
        | q :: qs => { x with mem := { x.mem with append := some q, queue := qs } })

/-- The KIND 0x01 entry of this cell: operating hours, the gate on-edge counts and the highest TEMP since the last one.
Log entry 163 (DESIGN CHOICE). -/
def CellSt.dailyEntry (x : CellSt) : Bytes :=
  ledgerEntry 1 0 (Config.dailyData (x.mem.opTime / (3600 * sec))
    ((List.range 4).map (fun n => x.pair CSW_SW_LO.ON_LO CSW_SW_HI.ON_HI n)) (x.mem.tempMax.getD 0))

/-- CELL_LEDGER_DAILY: 24 h of Run or Blocked since the last KIND 0x01 entry.
Log entry 163 (DESIGN CHOICE). -/
def execCellLedgerDaily (c : CellId) (s : State) : Host.Outcome State Fault Refusal :=
  cellStep s c (fun x =>
    if x.pow = .on ∧ x.mem.dailyAt + 24 * 3600 * sec ≤ x.mem.opTime then
      { x with mem := { x.mem with dailyAt := x.mem.opTime, tempMax := none } }.ledger false x.dailyEntry
    else x)

/-! Patches (R578). -/

/-- A write of `CGEN_PATCH` with ACT at 1. -/
def CellSt.patchWrite (x : CellSt) (w : Word) : Nat × CellSt :=
  let n := x.fld CGEN_PLEN.PLEN
  let buf (lo len : Nat) : Bytes := (List.range len).map (fun i => sget (fun _ => 0) x.mem.sram (lo + i))
  if CGEN_PATCH.ACT.get w 0 = 0 then (rcOk, x)
  else if n = 0 then (rcEmpty, x.set CGEN_PATCH.RES 4)
  else if x.pow != .on || !x.held then (rcRefused, (x.set CGEN_PATCH.RES 2).err CGEN_ERR.PATCH)
  else if !Config.romVerify (buf 0 n) (buf n 96) then (rcRefused, (x.set CGEN_PATCH.RES 3).err CGEN_ERR.PATCH)
  else (rcOk, { x with mem := { x.mem with patch := true } }.set CGEN_PATCH.RES 1)

/-- PATCH_ACTIVATE.
Log entry 222 (DESIGN CHOICE). -/
def execPatchActivate (c : CellId) (r : CellReq) (s : State) : Host.Outcome State Fault Refusal :=
  cellStep s c (fun x => x.access r 0x50 (fun x => x.patchWrite 0x80000000))

/-- The patch that waits runs from the boundary.
Log entry 222 (DESIGN CHOICE). -/
def CellSt.patchBoundary (x : CellSt) : CellSt :=
  if x.mem.patch then { x with mem := { x.mem with patch := false } }.set CGEN_PVER.PVER (x.fld CGEN_PIMG.IMAGE) else x

end Sys2Proof.Machine
end

