-- ==== Sys2Proof/Machine/CellRegs.lean ====
section
/-! DEFINITION. Access to the registers of a cell by its core and by management entries (R102 to R104, R599 to R606, R610
to R612): which write does what, and reads with their latches. -/
namespace Sys2Proof.Machine

/-! Block resets (R601). -/

/-- The counters of the cell pages. -/
def cellCounter (a : Nat) : Bool :=
  [0x1048, 0x104C, 0x1050, 0x1054, 0x2048, 0x204C, 0x2050, 0x2054, 0x3110, 0x3114, 0x4074, 0x4078, 0x407C, 0x4080,
   0x6060, 0x7078].contains a

/-- What a block reset of a cell page leaves: the hop index and its strand (R135), the STOP block, the fire latch, and
what comes from OTP and FRAM. -/
def cellKeep (a : Nat) : Bool :=
  [0x1040, 0x2040, 0x40A8, 0x7068, 0x9044, 0x9048, 0x904C].contains a || (decide (0x9400 ≤ a) && decide (a ≤ 0x97FC))

/-- A write of 1 to SRST of the page at `b` at `t`. -/
def CellSt.blockReset (x : CellSt) (b : Nat) (t : Instant) : CellSt :=
  match pageOf cellPages b with
  | none => x
  | some p =>
    if p.srstRO then x
    else
      let stopb := x.fld CLNK_STAT.STOPB 0
      let x := { x with regs := pageReset (cellReset x.key) p.fields cellKeep cellCounter b x.regs }
      let x : CellSt := match b with
        | 0x1000 => ({ x with lnkA := { lostAt := some t, srchAt := t }, hdr := (0, 0, 0) }).set CLNK_STAT.STOPB stopb 0
        | 0x2000 => ({ x with lnkB := { lostAt := some t, srchAt := t } }).set CLNK_STAT.STOPB stopb 1
        | 0x3000 => ({ x with chs := [], rot := { stepAt := t }, sync := false,
                              bpend := x.bpend.filter (fun e => e.1 / 0x1000 != 3) }).remap t
        | 0x4000 =>
          let y := { x with sw := { cfgDone := x.sw.cfgDone, oldDt := x.sw.oldDt, oldMinp := x.sw.oldMinp,
                                    oldRefr := x.sw.oldRefr } }
          y.holdCheck
        | 0x6000 => { x with sup := { ssAt := t } }
        | 0x7000 => ({ x with tim := {} }).holdCheck
        | 0x9000 => { x with mem := { x.mem with append := none, queue := [] } }
        | _ => x
      let src := csrcOf b
      (src :: cmaskDependants src).foldl CellSt.openMask x

/-! Writes. -/

/-- The word a write leaves of an old word: the bits of MASK take the data. -/
def underMask (old data mask : Word) : Word := (old &&& ~~~mask) ||| (data &&& mask)

/-- The refused values of the FD1600 registers: R153, R161, R184, R220, R555, R653. -/
def cellChecks : List FieldCheck :=
  [⟨CMEAS_CHCFG.PRESET, 1, 3, CMEAS_ERR.RANGE⟩, ⟨CMEAS_CHCFG.MODE, 0, 2, CMEAS_ERR.RANGE⟩,
   ⟨CMEAS_INJCFG.PRESET, 1, 3, CMEAS_ERR.RANGE⟩, ⟨CSW_DT.DT, 400, 16383, CSW_ERR.RANGE⟩,
   ⟨CFLT_SCFG.ESC, 0, 1, CFLT_ERR.RANGE⟩, ⟨CFLT_SCFG.GRACE, 1, 100000, CFLT_ERR.RANGE⟩,
   ⟨CTMX_DSEL.SEL, 0, 12, CTMX_ERR.RANGE⟩, ⟨CTMX_ASEL.SEL, 0, 4, CTMX_ERR.RANGE⟩]

/-- Puts the old value back into every field whose written value is refused, and sets the error bits.
Log entry 161 (DEDUCED). -/
def CellSt.vet (x : CellSt) (a : Nat) (data : Word) : Bool × Word × CellSt :=
  cellChecks.foldl (fun dx c =>
    if c.fld.covers a then
      let i := c.fld.regIx a
      let v := c.fld.get dx.2.1 i
      if (c.lo ≤ v ∧ v ≤ c.hi) ∧ !(a == 0xA044 && v == 1) then dx
      else (true, c.fld.put dx.2.1 i (c.fld.get (x.pendingWord a) i), dx.2.2.err c.err)
    else dx) (false, data, x)

/-- The registers whose RWL fields take effect at the next boundary (R184, R654). -/
def atBoundaryReg (a : Nat) : Bool :=
  (a / 0x1000 == 3 && accMask fieldsCMEAS .rwl a != 0) || [0x4044, 0x4048, 0x404C].contains a

/-- A write under the access codes, LOCK and the refused values. -/
def CellSt.plainWrite (x : CellSt) (r : CellReq) (a : Nat) (data mask : Word) : Nat × CellSt :=
  match pageOf cellPages a with
  | none => (rcAddr, x)
  | some p =>
    let rwl := accMask p.fields .rwl a
    let locked := x.pageLocked a && (mask.toNat &&& rwl) != 0
    let x : CellSt := if locked && r.isCore then x.err CGEN_ERR.RANGE else x
    let setm := (accMask p.fields .rw a ||| (if locked then 0 else rwl)) &&& mask.toNat
    let old := x.pendingWord a
    let (bad, w, x) := x.vet a (mergeWrite old data setm 0)
    let w := mergeWrite w data 0 (accMask p.fields .w1c a &&& mask.toNat)
    let x := if atBoundaryReg a then x.atNext a w else x.setWord a w
    (if locked then rcLocked else if bad then rcRefused else rcOk, x)

/-- A write of a header register (R599 to R602); an unmasked detail bit raises the line, and EVT bit 0 (R608). -/
def CellSt.headerWrite (x : CellSt) (r : CellReq) (p : PageInfo) (a : Nat) (data mask : Word) (t : Instant) : Nat × CellSt :=
  let b := a - a % 0x1000
  match a % 0x1000 with
  | 0x00C =>
    let (code, x) : Nat × CellSt :=
      if p.enRO || !bitAt mask.toNat 0 then (rcOk, x)
      else if data.toNat % 2 = 0 ∧ x.pow = .on ∧ !p.exempt then
        (if r.isCore then (rcOk, x.err CGEN_ERR.RANGE) else (rcRefused, x.err CGEN_ERR.RANGE))
      else (rcOk, x.setWord a (data &&& 1))
    (code, if bitAt (data &&& mask).toNat 1 then x.blockReset b t else x)
  | 0x014 | 0x01C => (rcOk, x.setWord a (x.word a &&& ~~~(data &&& mask)))
  | 0x018 =>
    let y := x.setWord a (underMask (x.word a) data mask)
    (rcOk, if x.srcLine (csrcOf b) = 0 ∧ y.srcLine (csrcOf b) ≠ 0 then y.setWord (b + 0x1C) (y.word (b + 0x1C) ||| 1) else y)
  | 0x020 | 0x02C => (rcOk, x.setWord a (underMask (x.word a) data mask))
  | 0x024 => (rcOk, if bitAt (data &&& mask).toNat 0 then x.setWord a 1 else x)
  | _ => (rcOk, x)

/-- A write of `CTIM_PCHG` (R63). -/
def CellSt.pchgWrite (x : CellSt) (w : Word) : Nat × CellSt :=
  let t := CTIM_PCHG.NEW_T.get w 0
  if CTIM_PCHG.ARM.get w 0 = 1 ∧ (t < 20 ∨ 200 < t) then (rcRefused, x)
  else (rcOk, (x.set CTIM_PCHG.ARM (CTIM_PCHG.ARM.get w 0)).set CTIM_PCHG.NEW_T t)

/-- A write of `CLNK_HOP` or `CLNK_TAILOFS`, which stand the same in both pages (R145). -/
def CellSt.bothWrite (x : CellSt) (f : Fld) (w : Word) : Nat × CellSt := (rcOk, x.setBoth f (f.get w 0))

/-- A write of `data` under `mask` to the register at `a` by `r`, executed at `t`; the result code (R102, R103). -/
def CellSt.regWrite (x : CellSt) (r : CellReq) (a : Nat) (data mask : Word) (t : Instant) : Nat × CellSt :=
  x.guarded r a (fun x =>
    match pageOf cellPages a with
    | none => (rcAddr, x)
    | some p =>
      let now := underMask (x.word a) data mask
      let cmd := data &&& mask
      if a % 0x1000 < 0x040 then x.headerWrite r p a data mask t
      else
        match a with
        | 0x4C => x.rstWrite r cmd t
        | 0x50 => x.patchWrite cmd
        | 0x1040 | 0x2040 => x.unlocked r a (fun x => x.bothWrite CLNK_HOP.ARM now)
        | 0x1044 | 0x2044 => x.unlocked r a (fun x => x.bothWrite CLNK_TAILOFS.STAT now)
        | 0x30D8 => x.injWrite cmd t
        | 0x3064 => x.unlocked r a (fun x => (rcOk, x.atNext a (underMask (x.pendingWord a) data mask &&& 0x1F)))
        | 0x3118 =>
          let (code, x) := x.plainWrite r a data mask
          (code, x.syncWrite cmd)
        | 0x4040 => x.unlocked r a (fun x => x.cfgWrite (underMask (x.sw.cfgPend.getD (x.word a)) data mask))
        | 0x4050 => x.cperWrite now
        | 0x4054 => x.cdutyWrite now
        | 0x405C => x.ccmtWrite cmd
        | 0x40A4 => x.bypfireWrite r cmd
        | 0x505C => x.tripclrWrite cmd
        | 0x506C => x.pwrreqWrite cmd
        | 0x5098 => x.lclrWrite cmd
        | 0x6040 | 0x604C =>
          let (code, x) := x.plainWrite r a data mask
          (code, x.supWritten t)
        | 0x6054 => (rcOk, x.huWrite now)
        | 0x707C => x.pchgWrite now
        | 0x8040 => (rcOk, x.latchClear cmd.toNat)
        | 0x810C => x.lreqWrite cmd
        | _ => x.plainWrite r a data mask)

/-! Reads (R104, R605, R606). -/

/-- A read of the register at `a`: the word, whether it carries an error code, and the cell after its side effects. The fire
latch reads in Dormant too (R611). -/
def CellSt.regRead (x : CellSt) (r : CellReq) (a : Nat) : Word × Bool × CellSt :=
  if x.pow = .off ∨ (x.pow = .dormant ∧ a ≠ 0x40A8) then (0, false, x)
  else if !cellHasReg a then (BitVec.ofNat 32 rcAddr, true, if r.isCore then x.err CGEN_ERR.RANGE else x)
  else if !x.islandOn (cellIsland a) then (0, false, x.err CGEN_ERR.XING)
  else
    let fs : List Fld := match pageOf cellPages a with | some p => p.fields | none => []
    let w := x.word a &&& ~~~(BitVec.ofNat 32 (accMask fs .wo a))
    match groupOf cellPairs a with
    | some rest => (w, false, x.onReq r (fun q => { q with latch := rest.map (fun b => (b, x.word b)) }))
    | none =>
      match (x.req r).latch.find? (fun e => e.1 == a) with
      | some (_, v) => (v, false, x.onReq r (fun q => { q with latch := q.latch.filter (fun e => e.1 != a) }))
      | none =>
        if 0x30E0 ≤ a ∧ a ≤ 0x30EC then
          let (w, x) := x.injresRead ((a - 0x30E0) / 4)
          (w, false, x)
        else (w, false, x)

end Sys2Proof.Machine
end

