-- ==== Sys2Proof/Machine/Net.lean ====
section
/-! DEFINITION. The commands of the station network: received frames, sampled values, GOOSE, launch queues, links
(R497 to R523). -/
namespace Sys2Proof.Machine

/-- The number `n` bytes of a frame at an offset spell, highest first. -/
def beAt (bs : Bytes) (o n : Nat) : Nat := ((bs.drop o).take n).foldl (fun v b => v * 256 + b.toNat) 0

/-! Subscriptions (R509, R518). -/

/-- The sampled-value subscriptions and the GOOSE subscriptions a frame belongs to. -/
def UnitSt.svOf (x : UnitSt) (p appid macl : Nat) : List Nat :=
  (List.range 16).filter (fun s => x.bit NET_SVCFG.EN s && portIn (x.fld NET_SVCFG.PORTS s) p
    && x.fld NET_SVCFG.APPID s == appid && x.fld NET_SVRATE.MACL s == macl)
def UnitSt.gsOf (x : UnitSt) (p appid macl : Nat) : List Nat :=
  (List.range 32).filter (fun s => x.bit NET_GSCFG.EN s && portIn (x.fld NET_GSCFG.PORTS s) p
    && x.fld NET_GSCFG.APPID s == appid && x.fld NET_GSMAC.MACL s == macl)

/-! Received frames (R498, R500). -/

/-- A frame without its 802.1Q tag. -/
def untag (bs : Bytes) : Bytes := if beAt bs 12 2 = 0x8100 then bs.take 12 ++ bs.drop 16 else bs

/-- Places a frame in the firmware receive ring. The spec does not lay out the bytes of an entry: they are free.
Log entry 130 (DESIGN CHOICE). -/
def UnitSt.netRingPut (x : UnitSt) (p : Nat) (bs : Bytes) (t : Instant) : UnitSt :=
  if x.net.rxFull then x.inc NET_CNT.DROP p
  else
    let w := x.fld NET_RXWP.WP
    let (v, x) := x.draw
    let x := x.netSram (fun x => x.sramPut (x.fld NET_RXBASE.BASE / 64 * 64 + 1536 * w) (beBytes 1536 v))
    let x := x.onNet (fun n => { n with ring := sset (fun _ => none) n.ring w (some ⟨bs, p, t⟩)
                                        rxFull := (w + 1) % 256 == x.fld NET_RXRP.RP })
    (x.set NET_RXWP.WP ((w + 1) % 256)).evt NET_EVT.RX

/-- Sorts an accepted frame: 0 PTP, 1 sampled values, 2 GOOSE, 3 firmware ring, 4 none (R498). -/
def UnitSt.netSort (x : UnitSt) (bs : Bytes) : Nat :=
  let dst := beAt bs 0 6
  let et := beAt bs 12 2
  if et = 0x88F7 ∧ (dst = 0x011B19000000 ∨ dst = 0x0180C200000E) then 0
  else if et = 0x88BA ∧ 0x010CCD040000 ≤ dst ∧ dst ≤ 0x010CCD04FFFF then 1
  else if et = 0x88B8 ∧ 0x010CCD010000 ≤ dst ∧ dst ≤ 0x010CCD01FFFF then 2
  else if dst = x.pair NET_MAC_LO.MAC_LO NET_MAC_HI.MAC_HI ∨ dst = 0xFFFFFFFFFFFF then 3
  else 4

/-- A station port takes a frame, with its FCS, whose start passes the pins at `t` (R498 to R500). What the frame says to PTP or to
a subscription is the command of its own that follows. -/
def UnitSt.netTake (x : UnitSt) (p : Nat) (bytes : Bytes) (fcs : Bool) (t : Instant) : UnitSt :=
  if !x.netEn p then x
  else if !fcs then x.inc NET_CNT.FCS p
  else if bytes.length < 64 ∨ 1522 < bytes.length then x.inc NET_CNT.DROP p
  else
    let bs := untag bytes
    let appid := beAt bs 14 2
    let macl := beAt bs 4 2
    match x.netSort bs with
    | 0 => x
    | 1 => if x.svOf p appid macl == [] then x.inc NET_CNT.DROP p else x
    | 2 => if x.gsOf p appid macl == [] then x.inc NET_CNT.DROP p else x
    | 3 => x.netRingPut p bs (x.rxStamp p t)
    | _ => x.inc NET_CNT.DROP p

/-- NET_FRAME_RX.
Log entries 127 (DEDUCED), 128 (DEDUCED), 129 (PRESUMED), 132 (DEDUCED). -/
def execNetFrameRx (u : UnitId) (p : Fin 2) (bytes : Bytes) (fcs : Bool) (at_ : Instant) (s : State) :
    Host.Outcome State Fault Refusal :=
  unitStep s u (fun x => (x.netTake p.val bytes fcs at_).tick at_)

/-! Sampled values (R509 to R514). -/

def UnitSt.sv (x : UnitSt) (n : Nat) : SvSt := sget (fun _ => {}) x.net.sv n
def UnitSt.setSv (x : UnitSt) (n : Nat) (v : SvSt) : UnitSt :=
  x.onNet (fun s => { s with sv := sset (fun _ => {}) s.sv n v })

/-- Whether quantity quality `q` is good enough under smpSynch `sy` (R511).
Log entry 134 (DEDUCED). -/
def UnitSt.svGood (x : UnitSt) (n sy : Nat) (q : Word) : Bool :=
  decide (x.fld NET_SVCFG.SYNCMIN n ≤ sy) && q.toNat % 4 == 0 && (!bitAt q.toNat 11 || x.bit NET_SVCFG.TEST n)

/-- What quantity `k` of stream `n` delivers (R511). -/
def UnitSt.svWord (x : UnitSt) (n sy k : Nat) : Option (Word × Word) → Word
  | some (raw, q) =>
    if x.svGood n sy q then r32 ((b32 (x.word (NET_SVSC.SC.addr (8 * n + k)))).mul (Val.ofInt raw.toInt)) else qnan
  | none => qnan

/-- A sample of stream `n` with receive stamp `t` (R510 to R512, R514).
Log entry 133 (DEDUCED). -/
def UnitSt.svTake (x : UnitSt) (n cnt sy : Nat) (vals : List (Word × Word)) (t : Instant) : UnitSt :=
  let rate := x.fld NET_SVRATE.RATE n
  if rate ≤ cnt then x.inc NET_CNT2.SVLATE
  else
    -- the part of I after S, and S; I is kept as the first 2^-16 ns not before it
    let ofs : Int := ((cnt * sec + rate - 1) / rate : Nat) + toInt 32 (x.fld NET_SVOFS.SVOFS n) * ns
    let sec0 : Int := ((t : Int) - ofs) / sec * sec
    let i : Int := sec0 + ofs
    let exact : Int := (sec0 + toInt 32 (x.fld NET_SVOFS.SVOFS n) * ns) * rate + cnt * sec
    if i < 0 ∨ exact < ((t : Int) - x.fld NET_SVAGE.MAXAGE n * us) * rate then x.inc NET_CNT2.SVLATE
    else
      let v := x.sv n
      let seen := v.seen.filter (fun c => decide (t < c.2 + sec))
      if seen.any (fun c => c.1 == cnt) then x.inc NET_CNT2.SVDUP
      else
        let ws := (List.range 8).map (fun k => x.svWord n sy k vals[k]?)
        let good := (vals.take 8).any (fun rq => x.svGood n sy rq.2)
        let x := x.setSv n { samples := (⟨cnt, i.toNat, t, ws⟩ :: v.samples).take 64
                             seen := (cnt, t) :: seen
                             validAt := if good then t else v.validAt }
        let x := x.set NET_SVSTAT.SMPCNT cnt n
        if good then x.set NET_SVSTAT.FLT 0 n else x

/-- A sampled-value frame: the low 16 bits of its destination address, APPID, smpCnt, smpSynch and the first 8 quantities of
its first ASDU with their qualities.
Log entries 129 (PRESUMED), 133 (DEDUCED). -/
def execSvFrameRx (u : UnitId) (p : Fin 2) (macl appid cnt : BitVec 16) (synch : BitVec 8) (vals : List (Word × Word))
    (at_ : Instant) (s : State) : Host.Outcome State Fault Refusal :=
  unitStep s u (fun x =>
    if !x.netEn p.val then x
    else
      match x.svOf p.val appid.toNat macl.toNat with
      | [] => x.inc NET_CNT.DROP p.val
      | l => l.foldl (fun x n => x.svTake n cnt.toNat synch.toNat vals (x.rxStamp p.val at_)) x)

/-- The time without a valid sample after which stream `n` is in fault (R514). -/
def UnitSt.svLimit (x : UnitSt) (n : Nat) : Nat := max (4 * sec / max 1 (x.fld NET_SVRATE.RATE n)) (1000 * us)

def execSvStreamFault (u : UnitId) (n : Fin 16) (at_ : Instant) (s : State) : Host.Outcome State Fault Refusal :=
  unitStep s u (fun x =>
    if x.works 0x14000 && x.bit NET_SVCFG.EN n.val && !x.bit NET_SVSTAT.FLT n.val
        && decide ((x.sv n.val).validAt + x.svLimit n.val ≤ at_) then
      ((x.set NET_SVSTAT.FLT 1 n.val).err NET_ERR.SVFLT).evt NET_EVT.SVFLT
    else x)

/-! GOOSE (R516 to R520). -/

def UnitSt.gs (x : UnitSt) (n : Nat) : GsSt := sget (fun _ => {}) x.net.gs n
def UnitSt.setGs (x : UnitSt) (n : Nat) (v : GsSt) : UnitSt :=
  x.onNet (fun s => { s with gs := sset (fun _ => {}) s.gs n v })

/-- Sets the fast bit of subscription `n` (R520).
Log entry 136 (DEDUCED). -/
def UnitSt.setFast (x : UnitSt) (n : Nat) (b : Bool) : UnitSt :=
  let was := x.bit NET_GSSTAT.FAST n
  let f := x.fld NET_GFAST.FAST
  let x := (x.set NET_GSSTAT.FAST (b2n b) n).set NET_GFAST.FAST (if b then f ||| 2 ^ n else f &&& (2 ^ 32 - 1 - 2 ^ n))
  if was = b then x
  else
    let x := x.evt NET_EVT.FAST
    if b && x.bit NET_GSCFG.FTRIP n then x.err NET_ERR.GTRIP else x

/-- A message on subscription `n` with stNum, sqNum, timeAllowedtoLive in ms, the top-level elements of allData (a BOOLEAN or
another type), and its frame (R518 to R520).
Log entry 135 (DEDUCED). -/
def UnitSt.gsTake (x : UnitSt) (n st sq tal : Nat) (data : List (Option Bool)) (frame : Bytes) (t : Instant) : UnitSt :=
  let g := x.gs n
  let valid := x.bit NET_GSSTAT.VALID n
  let fresh := !valid || x.bit NET_GSSTAT.TALX n || decide (g.talEnd ≤ t)
  let d := (sq + 2 ^ 32 - g.sq) % 2 ^ 32
  if !(fresh || st != g.st || (decide (0 < d) && decide (d < 2 ^ 31))) then x.inc NET_CNT3.GDUP
  else
    let isNew := !valid || st != g.st
    let x := x.setGs n ⟨st, sq, t + tal * 1000 * us⟩
    let x := (x.set NET_GSSTAT.VALID 1 n).set NET_GSSTAT.TALX 0 n
    let x := if isNew then
        ((x.netSram (fun x => x.sramPut (x.fld NET_GSBASE.BASE + 1536 * n) (frame.take 1536))).set NET_GSSTN.STNUM st n).evt
          NET_EVT.GNEW
      else x
    let f := x.fld NET_GSCFG.FPOS n
    if f < 255 then x.setFast n ((data.getD f none).getD (x.bit NET_GSCFG.FDEF n)) else x

def execGooseRx (u : UnitId) (p : Fin 2) (macl appid : BitVec 16) (st sq tal : BitVec 32) (data : List (Option Bool))
    (frame : Bytes) (at_ : Instant) (s : State) : Host.Outcome State Fault Refusal :=
  unitStep s u (fun x =>
    if !x.netEn p.val then x
    else
      match x.gsOf p.val appid.toNat macl.toNat with
      | [] => x.inc NET_CNT.DROP p.val
      | l => l.foldl (fun x n => x.gsTake n st.toNat sq.toNat tal.toNat data frame (x.rxStamp p.val at_)) x)

/-- timeAllowedtoLive of the last accepted message has run out (R519, R520).
Log entry 136 (DEDUCED). -/
def execGooseTalExpire (u : UnitId) (n : Fin 32) (at_ : Instant) (s : State) : Host.Outcome State Fault Refusal :=
  unitStep s u (fun x =>
    if x.works 0x14000 && x.bit NET_GSCFG.EN n.val && x.bit NET_GSSTAT.VALID n.val && !x.bit NET_GSSTAT.TALX n.val
        && decide ((x.gs n.val).talEnd ≤ at_) then
      let x := (x.set NET_GSSTAT.TALX 1 n.val).err NET_ERR.GTAL
      if x.fld NET_GSCFG.FPOS n.val < 255 then x.setFast n.val (x.bit NET_GSCFG.FDEF n.val) else x
    else x)

/-- A write of `NET_GPSEND` (R516). -/
def execGooseNewState (u : UnitId) (q : Requester) (v : Word) (at_ : Instant) (s : State) :
    Host.Outcome State Fault Refusal :=
  unitStep s u (fun x => x.guard q true 0x146B0 (fun x => x.gpStart (v.toNat % 8) at_))

/-- Whether a copy of publication `n` waits for a port. -/
def UnitSt.gpWaits (x : UnitSt) (n : Nat) : Bool :=
  (x.netWait 0 ++ x.netWait 1).any (fun j => match j with | .goose m _ => m == n | _ => false)

/-- A publication's next copy is due (R516): the copies leave at T1, 2 T1, 4 T1 and so on after the launch until the interval
reaches T0, and then every T0.
Log entry 137 (DEDUCED). -/
def execGooseRetransmit (u : UnitId) (n : Fin 8) (at_ : Instant) (s : State) : Host.Outcome State Fault Refusal :=
  unitStep s u (fun x =>
    match x.gp n.val with
    | none => x
    | some g =>
      if x.works 0x14000 && x.gpMay n.val && decide (g.due ≤ at_) && (g.sent || !x.gpWaits n.val) then
        let d := min g.ival (x.fld NET_GPCFG.T0 n.val)
        let g' : GpSt := { g with sq := (g.sq + 1) % 2 ^ 32, due := g.due + d * 1000 * us, ival := g.ival + d }
        (x.setGp n.val (some g')).gpSend n.val g.sq at_
      else x)

/-! Launch queues and links (R521 to R523, R525). -/

/-- A write of `NET_TXD3` submits (R521). -/
def UnitSt.txWrite (x : UnitSt) (v : Word) : UnitSt := (x.set NET_TXD3.AT_HI v.toNat).netSram UnitSt.txSubmit

/-- NET_TX_SUBMIT. -/
def execNetTxSubmit (u : UnitId) (q : Requester) (v : Word) (s : State) : Host.Outcome State Fault Refusal :=
  unitStep s u (fun x => x.guard q true 0x146CC (fun x => x.txWrite v))

def execNetTxLaunch (u : UnitId) (p : Fin 2) (at_ : Instant) (s : State) : Host.Outcome State Fault Refusal :=
  unitStep s u (fun x => (x.txLaunch p.val at_).tick at_)

def execNetTxComplete (u : UnitId) (p : Fin 2) (at_ : Instant) (s : State) : Host.Outcome State Fault Refusal :=
  unitStep s u (fun x => (x.txEnd p.val at_).tick at_)

/-- A read of `NET_TXCPL0` retires the completion that waits, and `NET_TXCPL1` and `NET_TXCPL2` take its stamp (R525). -/
def UnitSt.txCplRead (x : UnitSt) (q : Requester) : UnitSt :=
  let x := x.answer q (x.word 0x146D4)
  match x.net.cpl with
  | [] => x
  | (_, _, stamp) :: l =>
    ((x.setPair NET_TXCPL1.TS_LO NET_TXCPL2.TS_HI stamp).onNet (fun n => { n with cpl := l })).txShow

def execNetTxcplRead (u : UnitId) (q : Requester) (s : State) : Host.Outcome State Fault Refusal :=
  unitStep s u (fun x =>
    x.guardRead q 0x146D4 (fun x => x.txCplRead q))

end Sys2Proof.Machine
end

