-- ==== Sys2Proof/Machine/Ptp.lean ====
section
/-! DEFINITION. PTP and 1PPS (R501 to R508), and the links of the station ports (R523, R525). -/
namespace Sys2Proof.Machine

/-! Port states (R501): 0 DISABLED, 1 LISTENING, 2 UNCALIBRATED, 3 SLAVE, 4 PASSIVE, 5 FAULTY. -/

/-- `PTP_PSTATE` of a port.
Log entry 141 (DESIGN CHOICE). -/
def ptpState (p : Nat) : Fld := if p = 0 then PTP_PSTATE.P0 else PTP_PSTATE.P1

/-- Whether PTP runs on port `p`. -/
def UnitSt.ptpOn (x : UnitSt) (p : Nat) : Bool :=
  x.works 0x15000 && x.bit PTP_CFG.EN && portIn (x.fld PTP_CFG.PORTS) p && x.netEn p

/-- A port that takes part in the selection of a master.
Log entry 141 (DESIGN CHOICE). -/
def UnitSt.ptpLive (x : UnitSt) (p : Nat) : Bool := x.ptpOn p && x.netUp p

/-! The default best master clock algorithm over both ports (R501). -/

/-- The order of masters: the lower key is the better one.
Log entry 140 (PRESUMED). -/
def PtpMaster.order (m : PtpMaster) (p : Nat) : List Nat := [m.p1, m.cls, m.acc, m.var, m.p2, m.gm, m.steps, m.src, p]

/-- Lexicographic order of keys. -/
def keyLt : List Nat → List Nat → Bool
  | a :: l, b :: m => if a < b then true else if b < a then false else keyLt l m
  | [], _ :: _ => true
  | _, [] => false

/-- Whether a master has sent two Announce messages within four intervals and is near enough.
Log entry 140 (PRESUMED). -/
def PtpMaster.qualified (m : PtpMaster) : Bool :=
  decide (m.steps < 255) && match m.prev with | some t => decide (m.last ≤ t + 4 * sec) | none => false

/-- The best master of each live port, and of all. -/
def UnitSt.ptpBestOf (x : UnitSt) (p : Nat) : Option PtpMaster :=
  if !x.ptpLive p then none
  else ((x.ptpPort p).masters.filter (·.qualified)).foldl
    (fun b m => match b with | none => some m | some c => if keyLt (m.order p) (c.order p) then some m else some c) none
def UnitSt.ptpBest (x : UnitSt) : Option (Nat × PtpMaster) :=
  match x.ptpBestOf 0, x.ptpBestOf 1 with
  | none, none => none
  | some m, none => some (0, m)
  | none, some m => some (1, m)
  | some m, some k => if keyLt (k.order 1) (m.order 0) then some (1, k) else some (0, m)

/-- Loss of PTP lock: the rate stays as it is (R505). -/
def UnitSt.ptpLose (x : UnitSt) : UnitSt :=
  let x := ((x.set TIM_SRC.PTPLOCK 0).set PTP_STAT.LOCK 0).err PTP_ERR.NOSYNC
  let x := if x.isHolder then x.coastRate else x
  x.onPtp (fun s => { s with offs := [], outl := 0 })

/-- Selects the master and sets the port states (R501); another grandmaster than before ends the lock (R505).
Log entry 142 (DEDUCED). -/
def UnitSt.ptpSelect (x : UnitSt) : UnitSt :=
  let best := x.ptpBest
  let x := ([0, 1] : List Nat).foldl (fun (x : UnitSt) p =>
    let v :=
      if !x.ptpOn p then 0
      else if !x.netUp p then 5
      else
        match best with
        | some (k, _) =>
          if k = p then (if (x.ptpPort p).mpd2.isSome then 3 else 2)
          else if (x.ptpBestOf p).isSome then 4 else 1
        | none => 1
    x.set (ptpState p) v) x
  let x := x.set PTP_STAT.SLAVE (b2n (x.fld PTP_PSTATE.P0 == 3 || x.fld PTP_PSTATE.P1 == 3))
  match best with
  | none => x.onPtp (fun s => { s with master := none })
  | some (p, m) =>
    let other := match x.ptp.gm with | some g => g != m.gm | none => false
    let x := x.setPair PTP_GMID_LO.ID_LO PTP_GMID_HI.ID_HI m.gm
    let x := x.onPtp (fun s => { s with master := some (p, m.src), gm := some m.gm })
    if other then x.ptpLose.err PTP_ERR.GMCHG else x

/-- Forgets the masters of port `p` that have been silent for three Announce intervals at `t` (R501). -/
def UnitSt.ptpExpire (x : UnitSt) (p : Nat) (t : Instant) : UnitSt :=
  x.onPtpPort p (fun q => { q with masters := q.masters.filter (fun m => decide (t < m.last + 3 * sec)) })

/-- An Announce (R501): domain, sending port, grandmaster identity and the properties the algorithm compares. -/
def execPtpAnnounceRx (u : UnitId) (p : Fin 2) (domain : BitVec 8) (src : BitVec 80) (gm : BitVec 64)
    (p1 cls acc : BitVec 8) (var : BitVec 16) (p2 : BitVec 8) (steps : BitVec 16) (at_ : Instant) (s : State) :
    Host.Outcome State Fault Refusal :=
  unitStep s u (fun x =>
    if x.ptpLive p.val && x.fld PTP_CFG.DOMAIN == domain.toNat then
      let old := (x.ptpPort p.val).masters.find? (fun m => m.src == src.toNat)
      let m : PtpMaster := ⟨src.toNat, gm.toNat, p1.toNat, cls.toNat, acc.toNat, var.toNat, p2.toNat, steps.toNat, at_,
        old.map (·.last)⟩
      let x := x.onPtpPort p.val (fun q => { q with
        masters := m :: q.masters.filter (fun m => m.src != src.toNat) })
      ((x.ptpExpire 0 at_).ptpExpire 1 at_).ptpSelect
    else x)

/-- Three Announce intervals without Announce of a master on a port (R501). -/
def execPtpAnnounceTimeout (u : UnitId) (p : Fin 2) (at_ : Instant) (s : State) : Host.Outcome State Fault Refusal :=
  unitStep s u (fun x =>
    if x.ptpLive p.val && (x.ptpPort p.val).masters.any (fun m => decide (m.last + 3 * sec ≤ at_)) then
      (x.ptpExpire p.val at_).ptpSelect
    else x)

/-! Path delay (R502). -/

/-- A port sends Pdelay_Req; an exchange before it that has had no response is counted. -/
def execPdelayReqSend (u : UnitId) (p : Fin 2) (at_ : Instant) (s : State) : Host.Outcome State Fault Refusal :=
  unitStep s u (fun x =>
    if !x.ptpLive p.val then x
    else
      let x := if (x.ptpPort p.val).asked then x.inc PTP_CNT2.PDFAIL else x
      let seq := ((x.ptpPort p.val).seq + 1) % 65536
      let x := x.onPtpPort p.val (fun q => { q with seq := seq, asked := true, req := none })
      (x.inc PTP_CNT2.PDTX).jobSend p.val at_ (.pdReq seq))

/-- A port answers a Pdelay_Req with a one-step Pdelay_Resp. -/
def execPdelayReqRx (u : UnitId) (p : Fin 2) (seq : BitVec 16) (src : BitVec 80) (at_ : Instant) (s : State) :
    Host.Outcome State Fault Refusal :=
  unitStep s u (fun x =>
    if !x.ptpLive p.val then x else x.jobSend p.val at_ (.pdResp seq.toNat src.toNat (x.rxStamp p.val at_)))

/-- A response: the mean path delay is half of what remains of the round trip after the peer's turnaround `turn`, in
2^-16 ns.
Log entry 142 (DEDUCED). -/
def execPdelayRespRx (u : UnitId) (p : Fin 2) (seq : BitVec 16) (turn : Int) (at_ : Instant) (s : State) :
    Host.Outcome State Fault Refusal :=
  unitStep s u (fun x =>
    match (x.ptpPort p.val).req with
    | none => x
    | some (n, t1) =>
      if x.ptpLive p.val && n == seq.toNat then
        let m : Int := (x.rxStamp p.val at_ : Int) - t1 - turn
        let (v, x) := x.draw
        let r := m / 512 + (if m % 512 = 0 then 0 else ((v % 2 : Nat) : Int))
        let x := (x.set PTP_MPD.MPD (ofInt 32 r) p.val).onPtpPort p.val (fun q => { q with
          mpd2 := some m, asked := false, req := none })
        x.ptpSelect
      else x)

/-! Offsets, lock and servo (R503 to R506). Offsets are kept as twice their value in 2^-16 ns. -/

/-- Twice the offset of a Sync with receive stamp `t2` (R503).
Log entry 142 (DEDUCED). -/
def UnitSt.ptpOffset (x : UnitSt) (p : Nat) (t2 t1 : Instant) (corr : Int) : Int :=
  2 * ((t2 : Int) - t1 - corr - toInt 32 (x.fld PTP_ASYM.ASYM p)) - ((x.ptpPort p).mpd2.getD 0)

/-- Reports an offset in `TIM_PTPOFS`: whole ns; the rounding, and what stands there out of range, are open.
Log entry 143 (DESIGN CHOICE). -/
def UnitSt.ptpReport (x : UnitSt) (o : Int) : UnitSt :=
  let (v, x) := x.draw
  let r := o / 131072 + (if o % 131072 = 0 then 0 else ((v % 2 : Nat) : Int))
  x.set TIM_PTPOFS.PTPOFS (if -(2 ^ 31 : Int) ≤ r ∧ r < 2 ^ 31 then ofInt 32 r else v % 2 ^ 32)

/-- Whether four offsets lie within 1 µs of their mean (R504). -/
def ptpSteady (l : List Int) : Bool :=
  let sum := l.foldl (· + ·) 0
  l.length == 4 && l.all (fun o => decide ((4 * o - sum).natAbs ≤ 8 * us))

/-- PTP's own instants move with converter time when it steps by `m` (R51).
Log entry 142 (DEDUCED). -/
def UnitSt.ptpShift (x : UnitSt) (m : Int) : UnitSt :=
  let mv (t : Instant) : Instant := ((t : Int) - m).toNat
  let port (x : UnitSt) (p : Nat) : UnitSt :=
    x.onPtpPort p (fun q => { q with masters := q.masters.map (fun a => { a with last := mv a.last, prev := a.prev.map mv }) })
  (port (port x 0) 1).onPtp (fun s => { s with syncAt := mv s.syncAt })

/-- Whether the unit takes its time from PTP: one that has adopted the base of a running partner, or aligns to a holder, does not
step (R51, R54, R506).
Log entry 142 (DEDUCED). -/
def UnitSt.mayStep (x : UnitSt) : Bool :=
  !x.tim.firstLock && !x.tim.launched && (x.isHolder || (!x.tim.baseSet && x.fld TIM_SRC.ALIGN == 0))

/-- PTP lock (R504): the single step by the mean where R51 allows it, else a slew (R52, R505).
Log entry 142 (DEDUCED). -/
def UnitSt.ptpLock (x : UnitSt) (t : Instant) : UnitSt :=
  let sum := x.ptp.offs.foldl (· + ·) 0
  let step := x.mayStep
  let x := (x.set TIM_SRC.PTPLOCK 1).set PTP_STAT.LOCK 1
  let x : UnitSt := { x with tim := { x.tim with firstLock := true } }
  let x := x.onPtp (fun s => { s with offs := [], outl := 0 })
  if step then
    let (v, x) := x.draw
    let m := sum / 8 + (if sum % 8 = 0 then 0 else ((v % 2 : Nat) : Int))
    (((x.setNow ((x.now : Int) - m).toNat).ptpShift m).set TIM_SRC.STEPPED 1).coastRate
  else
    let x := x.set TIM_SRC.SLEW (b2n (decide (8 * 100 * ns ≤ sum.natAbs)))
    if x.isHolder then x.coastRate.steer t else x

/-- An offset under lock (R504, R505): more than 10 µs from the prediction it is not used, and four such in a row end the lock;
otherwise the servo turns it into a rate correction, which the standby does not apply (R506). The servo's prediction and
law are open.
Log entries 31 (DESIGN CHOICE), 143 (DESIGN CHOICE). -/
def UnitSt.ptpTrack (x : UnitSt) (o : Int) (t : Instant) : UnitSt :=
  let (v, x) := x.draw
  if 20 * us < (o - toInt 80 v).natAbs then
    let x := x.inc PTP_CNT1.OUTL
    if x.ptp.outl = 3 then x.ptpLose else x.onPtp (fun s => { s with outl := s.outl + 1 })
  else
    let x := x.onPtp (fun s => { s with outl := 0 })
    let x := if o.natAbs < 200 * ns then x.set TIM_SRC.SLEW 0 else x
    if x.isHolder then x.steer t else x

/-- An offset, formed at `t`.
Log entry 143 (DESIGN CHOICE). -/
def UnitSt.ptpUse (x : UnitSt) (o : Int) (t : Instant) : UnitSt :=
  let x := x.ptpReport o
  if x.bit TIM_SRC.PTPLOCK then x.ptpTrack o t
  else
    let x := x.onPtp (fun s => { s with offs := (o :: s.offs).take 4 })
    if ptpSteady x.ptp.offs then x.ptpLock t else x

/-- Whether a message on port `p` comes from the selected master while the port is in SLAVE. -/
def UnitSt.ptpFrom (x : UnitSt) (p domain src : Nat) : Bool :=
  x.ptpLive p && x.fld (ptpState p) == 3 && x.fld PTP_CFG.DOMAIN == domain && x.ptp.master == some (p, src)

/-- A Sync (R503): its originTimestamp `t1` and correctionField, or with `twoStep` the correctionField alone.
Log entry 129 (PRESUMED). -/
def execPtpSyncRx (u : UnitId) (p : Fin 2) (domain : BitVec 8) (src : BitVec 80) (seq : BitVec 16) (t1 : Instant)
    (corr : Int) (twoStep : Bool) (at_ : Instant) (s : State) : Host.Outcome State Fault Refusal :=
  unitStep s u (fun x =>
    if x.ptpFrom p.val domain.toNat src.toNat then
      let t2 := x.rxStamp p.val at_
      let x := (x.inc PTP_CNT1.SYNCRX).onPtp (fun s => { s with syncAt := at_ })
      if twoStep then x.onPtpPort p.val (fun q => { q with sync := some (seq.toNat, t2, corr) })
      else (x.onPtpPort p.val (fun q => { q with sync := none })).ptpUse (x.ptpOffset p.val t2 t1 corr) at_
    else x)

/-- The Follow_Up of a two-step master: preciseOriginTimestamp and its own correctionField (R503). -/
def execPtpFollowUpRx (u : UnitId) (p : Fin 2) (domain : BitVec 8) (src : BitVec 80) (seq : BitVec 16) (t1 : Instant)
    (corr : Int) (at_ : Instant) (s : State) : Host.Outcome State Fault Refusal :=
  unitStep s u (fun x =>
    match (x.ptpPort p.val).sync with
    | none => x
    | some (n, t2, c) =>
      if x.ptpFrom p.val domain.toNat src.toNat && n == seq.toNat then
        (x.onPtpPort p.val (fun q => { q with sync := none })).ptpUse (x.ptpOffset p.val t2 t1 (c + corr)) at_
      else x)

/-- No Sync has been accepted for SYNCTMO seconds (R505). -/
def execPtpSyncTimeout (u : UnitId) (at_ : Instant) (s : State) : Host.Outcome State Fault Refusal :=
  unitStep s u (fun x =>
    if x.works 0x15000 && (x.bit PTP_CFG.EN || x.bit TIM_SRC.PTPLOCK) && decide (x.ptp.syncAt + max 1 (x.fld PTP_INTV.SYNCTMO) * sec ≤ at_) then x.ptpLose
    else x)

/-! 1PPS (R507, R508). -/

def execPpsOut (u : UnitId) (at_ : Instant) (s : State) : Host.Outcome State Fault Refusal :=
  unitStep s u (fun x =>
    if x.works 0x15000 && x.bit PTP_PPSOUT.EN && at_ % sec == 0 then
      (x.tick at_).emit (.pps at_ (max 1 (x.fld PTP_PPSOUT.WIDTH)))
    else x)

/-- PPSIN_EDGE: the stamp is the whole ns of the edge. -/
def execPpsinEdge (u : UnitId) (at_ : Instant) (s : State) : Host.Outcome State Fault Refusal :=
  unitStep s u (fun x =>
    if x.works 0x15000 && x.bit PTP_PPSIN.EN then
      let t := at_ / ns
      let r := t % 1000000000
      let d : Int := if 1000000000 ≤ 2 * r then (r : Int) - 1000000000 else r
      let x := (x.setPair PTP_PPSIN_LO.NS_LO PTP_PPSIN_HI.NS_HI t).set PTP_PPSDIF.DIF (ofInt 32 d)
      if x.fld PTP_PPSIN.TH < d.natAbs then x.err PTP_ERR.PPS else x
    else x)

/-! Links (R523, R525). -/

/-- NET_LINK_CHANGE: a port that is not enabled can lose its link and gain none.
Log entries 139 (DEDUCED), 140 (PRESUMED). -/
def execNetLinkChange (u : UnitId) (p : Fin 2) (up : Bool) (s : State) : Host.Outcome State Fault Refusal :=
  unitStep s u (fun x =>
    if !x.works 0x14000 || (up && !x.netEn p.val) || x.netUp p.val == up then x
    else
      let x := (x.set NET_STAT.LINK (x.fld NET_STAT.LINK ^^^ (2 ^ p.val))).evt NET_EVT.LINK
      let x := if up then x else (x.err NET_ERR.LINKDN).txDown p.val
      let x := if up then x else x.onPtpPort p.val (fun q => { q with masters := [], mpd2 := none, sync := none, req := none })
      x.ptpSelect)

/-- After a write of `NET_PCFGn` or `PTP_CFG`: a port that is now enabled takes its mode (R497), and PTP follows. -/
def UnitSt.netWritten (was x : UnitSt) : UnitSt :=
  let x := ([0, 1] : List Nat).foldl (fun (x : UnitSt) p =>
    if x.bit NET_PCFG.EN p && !was.bit NET_PCFG.EN p then
      x.onNet (fun n => { n with mode := sset (fun _ => 2) n.mode p (x.fld NET_PCFG.MODE p) })
    else x) x
  x.ptpSelect

end Sys2Proof.Machine
end

