-- ==== Sys2Proof/Machine/Reel.lean ====
section
/-! DEFINITION. Reel's captures (R365 to R381, R391 to R396): closing a period, the host ring, START, HALT and MARK. -/
namespace Sys2Proof.Machine

/-! The boundary (R370, R372, R379). -/

/-- What the period that ends leaves for its close. -/
def UnitSt.reelSnap (x : UnitSt) : ReelSnap :=
  { pn := x.pn, t0 := x.t0 x.pn, t := x.fld TIM_PERIOD.T, flags := x.rflags x.pn, stat := b2n x.inHold + 4 * b2n x.splUp
    epoch := if x.isHolder then x.lse.epoch else x.seenEpoch
    cells := x.cellsBodies x.pn, loop := x.loopBody, arms := x.armsBody }

/-- Reel at the end of a period, before PN advances. -/
def UnitSt.reelBoundary (x : UnitSt) : UnitSt :=
  { x with reel := { x.reel with snap := if x.capturing then some x.reelSnap else none } }

/-- Reel at the start of a period: an accepted START takes effect (R379); sets dropped before it are still to be told (R396). -/
def UnitSt.reelBegin (x : UnitSt) : UnitSt :=
  let x : UnitSt := { x with reel := { x.reel with held := ((x.pn, x.isHolder) :: x.reel.held).take 4 } }
  if x.reel.start && x.works 0x31000 then
    { x.set REEL_STAT.CAP 1 with reel := { x.reel with
      start := false, fresh := true, ending := none, stopAt := none, det := [], masks := [], fired := [], marks := []
      events := [], markSeq := 0 } }
  else x

/-! The period close (R371, R391 to R396). -/

/-- The end that governs after the STOP marks of a set, in their order (R391 to R393).
Log entry 120 (DEDUCED). -/
def governEnd (pn : Nat) (old : Option (Nat × Nat × Nat)) (ms : List Mark) : Option (Nat × Nat × Nat) :=
  (ms.filter (·.stop)).foldl (fun e m =>
    let p := pn + m.post
    match e with
    | none => some (p, m.kind + 2, m.num)
    | some (q, _, _) => if p < q then some (p, m.kind + 2, m.num) else e) old

/-- The MARK records of a set. -/
def markRecs (pn flags seq : Nat) (spare : Bool) (ms : List Mark) : List ReelRec :=
  (ms.zip (List.range ms.length)).map (fun mi => ⟨0x08, pn, 0, flags, markBody mi.1 (pn + mi.1.post) (seq + mi.2 + 1), false, spare⟩)

/-- The last record of a set carries its mark for R368. -/
def markLast (rs : List ReelRec) : List ReelRec :=
  match rs.reverse with
  | [] => []
  | r :: l => ({ r with last := true } :: l).reverse

/-- The records of a period before its marks.
Log entry 208 (DEDUCED). -/
def UnitSt.setRecs (x : UnitSt) (p : ReelSnap) (inputs events : Bytes) : List ReelRec :=
  let r (t sub : Nat) (b : Bytes) : ReelRec := ⟨t, p.pn, sub, p.flags, b, false, false⟩
  (if x.reel.fresh then [r 0x01 0 (x.startBody p.t)] else [])
    ++ (match x.reel.gap with | some g => [⟨0x09, g.first, 0, g.flags, lossBody g, false, false⟩] | none => [])
    ++ [r 0x02 0 (periodBody p (x.fld REEL_STAT.CAP == 2))]
    ++ p.cells.map (fun c => r 0x03 c.1 c.2)
    ++ (if x.fld REEL_CFG.INDIV = 0 then [] else [r 0x04 0 inputs])
    ++ (if x.bit REEL_CFG.LOOPEN then [r 0x05 0 p.loop] else [])
    ++ (if x.bit REEL_CFG.ARMEN then [r 0x06 0 p.arms] else [])
    ++ (if events = [] then [] else [r 0x07 0 events])

/-- Counts the marks written and lost. -/
def UnitSt.countMarks (x : UnitSt) (written lost : Nat) : UnitSt :=
  let add (f : Fld) (n : Nat) (x : UnitSt) : UnitSt := x.set f (min 65535 (x.fld f + n))
  let x := add REEL_CNT2.MARKDROP lost (add REEL_CNT2.MARKS written x)
  let x : UnitSt := { x with reel := { x.reel with markSeq := x.reel.markSeq + written } }
  if written = 0 then x else x.evt REEL_EVT.MARK

/-- Places the set of a period, or drops it apart from its marks and its STOP (R395). -/
def UnitSt.placeSet (x : UnitSt) (p : ReelSnap) (recs : List ReelRec) (ms : List Mark) (stop : Option (Nat × Nat)) (nev : Nat) : UnitSt :=
  let stopRec (spare : Bool) : List ReelRec :=
    match stop with | some (c, n) => [⟨0x0A, p.pn, 0, p.flags, stopBody c n, false, spare⟩] | none => []
  let whole := markLast (recs ++ markRecs p.pn p.flags x.reel.markSeq false ms ++ stopRec false)
  let size := (whole.map (·.size)).foldl (· + ·) 0
  if stageUse false x.reel.staging + size ≤ stageRoom then
    let x := if x.reel.gap.isSome then x.inc REEL_CNT1.LOSSR else x
    let x := x.countMarks ms.length 0
    ({ x with reel := { x.reel with fresh := false, gap := none } } : UnitSt).stage whole
  else
    let room := (stageReserve - stageUse true x.reel.staging - (stopRec true).length * 32) / 48
    let kept := ms.take room
    let lost := ms.length - kept.length
    let rs := markLast (markRecs p.pn p.flags x.reel.markSeq true kept ++ stopRec true)
    let g : ReelGap := match x.reel.gap with
      | none => ⟨p.pn, p.flags, p.pn, 1, lost, nev⟩
      | some g => ⟨g.first, g.flags, p.pn, g.nper + 1, g.nmark + lost, g.nevt + nev⟩
    let x := ((x.inc REEL_CNT1.LOSSP).evt REEL_EVT.LOSS).countMarks kept.length lost
    ({ x with reel := { x.reel with gap := some g } } : UnitSt).stage rs

/-- Closes the period of a snapshot. -/
def UnitSt.closeSet (x : UnitSt) (p : ReelSnap) : UnitSt :=
  let t1 := p.t0 + p.t * 250 * ns
  let x := x.placeAll p.pn t1
  let (inputs, x) := x.inputsBody p.t0 t1
  let evs := (x.reel.events.filter (fun e => decide (e.2 < t1))).reverse
  let nev := min 64 evs.length
  let x := x.set REEL_CNT3.EVDROP (min 65535 (x.fld REEL_CNT3.EVDROP + (evs.length - nev)))
  let due := sortMarks (x.reel.marks.filter (fun m => decide (m.pn ≤ p.pn))).reverse
  let ms := due.take 16
  let x : UnitSt := { x with reel := { x.reel with
    events := x.reel.events.filter (fun e => !decide (e.2 < t1))
    marks := x.reel.marks.filter (fun m => !decide (m.pn ≤ p.pn))
    stopAt := governEnd p.pn x.reel.stopAt due } }
  let x := x.set REEL_CNT2.MARKDROP (min 65535 (x.fld REEL_CNT2.MARKDROP + (due.length - ms.length)))
  let stop := match x.reel.ending, x.reel.stopAt with
    | some c, _ => some (c, 0)
    | none, some (q, c, n) => if q ≤ p.pn then some (c, n) else none
    | none, none => none
  let recs := x.setRecs p inputs (eventsBody (evs.take nev))
  let x := x.placeSet p recs ms stop nev
  let x := if x.reel.stopAt.isSome then x.set REEL_STAT.CAP 2 else x
  match stop with
  | none => x
  | some (c, _) => (if c = 3 then x.captureStopped.err REEL_ERR.MSTOP else x.captureStopped).evt REEL_EVT.STOP

/-- The trigger and mask registers as they stand take effect; a trigger or mask that becomes enabled starts disarmed or armed
(R381, R383, R390). -/
def UnitSt.takeTriggers (x : UnitSt) : UnitSt :=
  let was := x
  let x : UnitSt := { x with reel := { x.reel with
    eff := x.regs.filter (fun e => decide (0x310D0 ≤ e.1) && decide (e.1 < 0x31410)) } }
  let x := (List.range 16).foldl (fun x k =>
    if was.reelFld REEL_TRIGCFG.EN k = 0 ∧ x.reelFld REEL_TRIGCFG.EN k = 1 then
      { x with reel := { x.reel with det := sset (fun _ => 0) x.reel.det k 0 } } else x) x
  (List.range 32).foldl (fun x k =>
    if was.reelFld REEL_MCFG.EN k = 0 ∧ x.reelFld REEL_MCFG.EN k = 1 then
      { x with reel := { x.reel with masks := sset (fun _ => {}) x.reel.masks k {} } } else x) x

/-- REEL_PERIOD_CLOSE: t0(PN+1) + 1.0 µs closes period PN. -/
def execReelPeriodClose (u : UnitId) (s : State) : Host.Outcome State Fault Refusal :=
  unitStep s u (fun x =>
    if !x.works 0x31000 || !x.tim.counting || x.pn == 0 then x
    else
      let x := match x.reel.snap with
        | some p => if x.capturing && p.pn + 1 == x.pn then x.closeSet p else x
        | none => x
      let x : UnitSt := { x with reel := { x.reel with snap := none, closed := x.pn - 1 } }
      x.takeTriggers)

/-! The host ring (R366 to R368). -/

/-- The ring's size and the bytes in it that the host has not read. -/
def UnitSt.ringSize (x : UnitSt) : Nat := x.fld REEL_RSIZE.SIZE * 4096
def UnitSt.ringFill (x : UnitSt) : Nat :=
  let sz := x.ringSize
  if sz = 0 then 0 else (x.fld REEL_WPTR.WPTR + sz - x.fld REEL_RPTR.RPTR / 8 * 8 % sz) % sz

/-- The bytes of a record with its header.
Log entry 119 (DEDUCED). -/
def recBytes (rtype flags words seq pn sub : Nat) (body : Bytes) : Bytes :=
  [BitVec.ofNat 8 rtype, BitVec.ofNat 8 flags] ++ leBytes 2 words ++ leBytes 4 seq ++ leBytes 6 pn ++ leBytes 2 sub ++ body

/-- Writes `bytes` of a record at the write offset; SEQ and WPTR advance.
Log entry 119 (DEDUCED). -/
def UnitSt.ringPut (x : UnitSt) (bytes : Bytes) : UnitSt :=
  let w := x.fld REEL_WPTR.WPTR
  let x := x.emit (.hostWrite 0 false (x.pair REEL_RBASE_LO.ADDR_LO REEL_RBASE_HI.ADDR_HI + w) bytes)
  let x := x.set REEL_SEQ.SEQ ((x.fld REEL_SEQ.SEQ + 1) % 2 ^ 32)
  x.set REEL_WPTR.WPTR ((w + bytes.length) % x.ringSize)

/-- The write-back of WPTR and SEQ (R368). -/
def UnitSt.writeBack (x : UnitSt) : UnitSt :=
  x.emit (.hostWrite 0 false (x.pair REEL_WBADDR_LO.WB_LO REEL_WBADDR_HI.WB_HI)
    (leBytes 8 (x.fld REEL_WPTR.WPTR) ++ leBytes 4 (x.fld REEL_SEQ.SEQ) ++ leBytes 4 0))

/-- Moves the oldest record from staging to the ring where R366 allows, after a PAD where the ring's end is too near (R367). -/
def UnitSt.ringWrite (x : UnitSt) : UnitSt :=
  match x.reel.staging with
  | [] => x.set REEL_STAT.STALL 0
  | r :: rest =>
    let sz := x.ringSize
    let n := r.size
    let rem := sz - x.fld REEL_WPTR.WPTR
    let pad := if rem < n then rem else 0
    if sz < x.ringFill + pad + n + 8 then x.set REEL_STAT.STALL 1
    else
      let x := if pad = 0 then x
        else x.ringPut ((recBytes 0 r.flags (pad / 8) (x.fld REEL_SEQ.SEQ) 0 0 (List.replicate (pad - 16) 0)).take pad)
      let x := x.ringPut (recBytes r.rtype r.flags (n / 8) (x.fld REEL_SEQ.SEQ) r.pn r.sub r.body)
      let x := if r.last then x.writeBack else x
      let x := ({ x.set REEL_STAT.STALL 0 with reel := { x.reel with staging := rest } } : UnitSt).showStage
      if x.fld REEL_FILL.HTH * sz ≤ x.ringFill * 256 then x.evt REEL_EVT.FILL else x

/-- REEL_RING_WRITE. -/
def execReelRingWrite (u : UnitId) (s : State) : Host.Outcome State Fault Refusal :=
  unitStep s u (fun x =>
    if x.works 0x31000 && x.bit PCIE_LINK.UP && x.bit PCIE_LINK.BME0 && x.ringSize != 0 then x.ringWrite else x)

/-! Commands (R379, R380, R387). -/

/-- OP START. -/
def UnitSt.reelStart (x : UnitSt) : UnitSt :=
  let sz := x.fld REEL_RSIZE.SIZE
  if x.fld REEL_STAT.CAP = 1 ∨ x.fld REEL_STAT.CAP = 2 then x.set REEL_CMD.RES 3
  else if sz = 0 then x.set REEL_CMD.RES 2
  else if sz < 16 ∨ 2 ^ 20 < sz ∨ x.fld REEL_RBASE_LO.ADDR_LO % 4096 ≠ 0 then x.set REEL_CMD.RES 5
  else if x.reelOver (x.fld TIM_PERIOD.T) then x.set REEL_CMD.RES 4
  else { x.set REEL_CMD.RES 1 with reel := { x.reel with start := true } }

/-- OP HALT.
Log entry 120 (DEDUCED). -/
def UnitSt.reelHalt (x : UnitSt) : UnitSt :=
  if x.fld REEL_STAT.CAP = 1 ∨ x.fld REEL_STAT.CAP = 2 then
    { x.set REEL_CMD.RES 1 with reel := { x.reel with ending := some (x.reel.ending.getD 1) } }
  else x.set REEL_CMD.RES 3

/-- OP MARK, accepted at instant `t`. -/
def UnitSt.reelMark (x : UnitSt) (t : Instant) : UnitSt :=
  if x.fld REEL_STAT.CAP = 1 ∨ x.fld REEL_STAT.CAP = 2 then
    (x.set REEL_CMD.RES 1).addMark { time := t / ns, qual := 5, frac := 0, kind := 2, num := 0, stop := false, fall := false
                                     value := 0, post := 0, pn := x.pnOf t }
  else x.set REEL_CMD.RES 3

/-- A write of `REEL_CMD` at instant `t`. -/
def UnitSt.reelCmd (x : UnitSt) (v : Word) (t : Instant) : UnitSt :=
  match v.toNat % 4 with
  | 1 => x.reelStart
  | 2 => x.reelHalt
  | 3 => x.reelMark t
  | _ => x

/-- REEL_START. -/
def execReelStart (u : UnitId) (q : Requester) (s : State) : Host.Outcome State Fault Refusal :=
  unitStep s u (fun x => x.guard q true 0x310C0 (fun x => x.reelStart))

/-- REEL_HALT. -/
def execReelHalt (u : UnitId) (q : Requester) (s : State) : Host.Outcome State Fault Refusal :=
  unitStep s u (fun x => x.guard q true 0x310C0 (fun x => x.reelHalt))

/-- REEL_MARK. -/
def execReelMark (u : UnitId) (q : Requester) (at_ : Instant) (s : State) : Host.Outcome State Fault Refusal :=
  unitStep s u (fun x => (x.tick at_).guard q true 0x310C0 (fun x => x.reelMark at_))

/-- XTRIG_RX: the partner's forwarded trigger (R386). -/
def execXtrigRx (u : UnitId) (num : Fin 16) (qual : Fin 8) (frac : Fin 8) (fall : Bool) (time : Nat) (s : State) :
    Host.Outcome State Fault Refusal :=
  unitStep s u (fun x => if x.inQuiet then x else x.reelPartner num.val qual.val frac.val fall time)

/-- Entry to Quiet ends the capture with the last period before it, cause QUIET (R380).
Log entries 54 (DEDUCED), 122 (DEDUCED). -/
def UnitSt.reelQuiet (x : UnitSt) : UnitSt :=
  if x.fld REEL_STAT.CAP = 1 ∨ x.fld REEL_STAT.CAP = 2 then
    let x : UnitSt := { x with reel := { x.reel with ending := some 6 } }
    match x.reel.snap with
    | some p => x.closeSet p
    | none =>
      let x := x.stage [⟨0x0A, x.pn - 1, 0, x.rflags (x.pn - 1), stopBody 6 0, true, true⟩]
      x.captureStopped.evt REEL_EVT.STOP
  else x

end Sys2Proof.Machine
end

