-- ==== Sys2Proof/Machine/Fault.lean ====
section
/-! DEFINITION. The fault collector of a unit, reactions, watchdogs (R527 to R539), block resets and masking windows (R540 to
R542, R601), SRAM errors and rows (R544 to R546), the health record (R547, R548). -/
namespace Sys2Proof.Machine

/-! The collector (R529 to R531, R542). -/

def UnitSt.masked (x : UnitSt) (n : Nat) : Bool := x.flt.masked.any (fun e => e.1 == n)

/-- Shows the grace timers that run. -/
def UnitSt.showGrace (x : UnitSt) : UnitSt :=
  x.set FLT_GSTAT_LO.RUN (x.flt.graceAt.foldl (fun m e => orBit m e.1) 0)

/-- Latch events `ev` of sources, each with the class of its line (1 INFO to 4 FATAL), in one collector cycle (R529 to
R531, R533).
Log entries 144 (DEDUCED), 145 (DEDUCED). -/
def UnitSt.latch (x : UnitSt) (ev : List (Nat × Nat)) (t : Instant) (cyc : Nat) : UnitSt :=
  if ev = [] then x
  else
    let first := x.fld FLT_LATCH_LO.LATCH == 0
    let bits := ev.foldl (fun m e => orBit m e.1) 0
    let x := ev.foldl (fun (x : UnitSt) e =>
      let x := x.set FLT_LATCH_LO.LATCH (orBit (x.fld FLT_LATCH_LO.LATCH) e.1)
      x.set FLT_LCLS.CLS (max (x.fld FLT_LCLS.CLS e.1) (e.2 - 1)) e.1) x
    let x := x.evt FLT_EVT.LATCH
    let x := if first then
        ((x.set FLT_FSRC_LO.FSRC bits).setPair FLT_FIRST_LO.NS FLT_FIRST_HI.NS (t / ns % 2 ^ 64)).set FLT_FCYC.FCYC cyc
      else x
    let h := x.flt.health
    let x : UnitSt := { x with flt := { x.flt with health := { h with
      minors := h.minors + (ev.filter (fun e => decide (2 ≤ e.2))).length } } }
    let x : UnitSt :=
      if ev.any (fun e => e.2 == 4) then
        let x : UnitSt := { x with flt := { x.flt with graceAt := [] } }
        if x.fenced then x else x.fence t
      else if x.fenced then x
      else
        ev.foldl (fun (x : UnitSt) e => if e.2 = 3 then
          { x with flt := { x.flt with graceAt := (e.1, t) :: x.flt.graceAt.filter (fun g => g.1 != e.1) } } else x) x
    (x.showFault.showGrace).set PWR_COND.NOFENCE (b2n (!x.fenced))

/-- One cycle of the collector at `t`: rises of unmasked lines latch, rises of masked lines are consequential trips, the grace
timer of a line below MAJOR stops. Reel sees the event sources that have been raised since the last cycle (R376).
Log entry 144 (DEDUCED). -/
def UnitSt.collect (x : UnitSt) (t : Instant) (cyc : Nat) : UnitSt :=
  let lines := (List.range 29).map (fun n => (n, x.srcLine n))
  let rises := lines.filter (fun e => decide (sget (fun _ => 0) x.flt.seen e.1 < e.2))
  let seen : Sparse Nat := lines.foldl (fun m e => sset (fun _ => 0) m e.1 e.2) x.flt.seen
  let x : UnitSt := { x with flt := { x.flt with
    seen := seen,
    graceAt := x.flt.graceAt.filter (fun g => (lines.find? (fun e => e.1 == g.1 && decide (3 ≤ e.2))).isSome) } }
  let x := x.set FLT_CYC.CYC cyc
  let conseq := rises.filter (fun e => x.masked e.1)
  let h := x.flt.health
  let x : UnitSt := { x with flt := { x.flt with health := { h with consq := h.consq + conseq.length } } }
  let x := conseq.foldl (fun (x : UnitSt) e =>
    (x.set FLT_CONSQ_LO.CONSQ (orBit (x.fld FLT_CONSQ_LO.CONSQ) e.1)).inc FLT_CNT.CONSQ) x
  let x := (x.latch (rises.filter (fun e => !x.masked e.1)) t cyc).showGrace
  let up := (List.range 392).filter x.raised
  let new := up.filter (fun n => !x.reel.raised.contains n)
  let x := if x.works 0x31000 then new.foldl (fun (x : UnitSt) n => x.reelEvent n t) x else x
  ({ x with reel := { x.reel with raised := up } }).tick t

/-- FAULT_LATCH: one collector cycle at `at_`, number `cyc`. -/
def execFaultLatch (u : UnitId) (at_ : Instant) (cyc : BitVec 32) (s : State) : Host.Outcome State Fault Refusal :=
  unitStep s u (fun x => if x.boot = .off then x else x.collect at_ cyc.toNat)

/-- FLT_LATCH_CLEAR (R532). -/
def execFltLatchClear (u : UnitId) (q : Requester) (v : Word) (s : State) : Host.Outcome State Fault Refusal :=
  unitStep s u (fun x => x.guard q true 0x3040 (fun x => (x.fltLatchClear v.toNat).showFault))

/-! Escalation (R534, R535). -/

/-- Records an escalation of source `n` with the action taken: 0 BLOCK, 1 hand-over, 2 RESET. -/
def UnitSt.escRecord (x : UnitSt) (n act : Nat) : UnitSt :=
  (((x.set FLT_ESCLAST.SRC n).set FLT_ESCLAST.ACT act).inc FLT_CNT.ESC).evt FLT_EVT.ESC

/-- The action an escalation code stands for in the unit's lease state: 0 BLOCK, 1 HANDOVER, 2 RESET.
Log entry 145 (DEDUCED). -/
def UnitSt.escAction (x : UnitSt) (esc : Nat) : Nat :=
  if x.lstate = 0 then 2 else if x.lstate = 1 ∧ esc = 1 then 0 else esc

/-- Carries out the escalation of source `n`. -/
def UnitSt.escalate (x : UnitSt) (n act : Nat) (t : Instant) : UnitSt :=
  match act with
  | 0 => (x.block t).escRecord n 0
  | 1 =>
    let (ok, x) := x.hovRequest (x.pn + 3)
    if ok then ({ x with flt := { x.flt with escWait := some n } }).escRecord n 1 else (x.block t).escRecord n 0
  | _ =>
    let x := x.escRecord n 2
    if x.hovRunning then { x with flt := { x.flt with rstWait := x.lse.hovP } } else x.resetTo 2

/-- GRACE_EXPIRE: the grace timers that have run out by `at_` carry out their escalations, in the order BLOCK, HANDOVER,
RESET; a timer then stays stopped until its line rises again.
Log entry 145 (DEDUCED). -/
def execGraceExpire (u : UnitId) (at_ : Instant) (s : State) : Host.Outcome State Fault Refusal :=
  unitStep s u (fun x =>
    let gone := (x.flt.graceAt.filter (fun g => decide (g.2 + x.fld FLT_SCFG.GRACE g.1 * us ≤ at_))).map (·.1)
    if gone = [] ∨ x.fenced then x
    else
      let x : UnitSt := { x with flt := { x.flt with graceAt := x.flt.graceAt.filter (fun g => !gone.contains g.1) } }
      let x := (x.tick at_).showGrace
      let acts := gone.map (fun n => (n, x.escAction (x.fld FLT_SCFG.ESC n)))
      let run (x : UnitSt) (k : Nat) : UnitSt :=
        (acts.filter (fun e => e.2 == k)).foldl (fun (x : UnitSt) e => x.escalate e.1 k at_) x
      let x := run (run x 0) 1
      match (acts.filter (fun e => e.2 == 2)).map (·.1) with
      | [] => x
      | n :: l => (l.foldl (fun (x : UnitSt) m => x.escRecord m 2) x).escalate n 2 at_)

/-- An escalation reset that waited for a hand-over falls due at its boundary (R535). -/
def UnitSt.escBoundary (x : UnitSt) : UnitSt :=
  match x.flt.rstWait with
  | some p => if p ≤ x.pn then x.resetTo 2 else x
  | none => x

/-! Watchdogs (R539). -/

/-- A write of `FLT_WDOGn` at `t`: TMO under LOCK, and the key. -/
def UnitSt.wdogWrite (x : UnitSt) (n : Nat) (v : Word) (t : Instant) : UnitSt :=
  let old := x.fld FLT_WDOG.TMO n
  let x := x.writeWord (0x3088 + 4 * n) v
  let kick := v.toNat % 65536
  let x := if kick ≠ 0xA1E ∧ kick ≠ 0 then x.err FLT_ERR.RANGE else x
  let f := x.flt
  let start := kick == 0xA1E || x.fld FLT_WDOG.TMO n != old
  { x with flt := { f with
    expired := if kick = 0xA1E then f.expired.filter (· != n) else f.expired
    kickAt := if start then sset (fun _ => 0) f.kickAt n t else f.kickAt } }

def execWdogKick (u : UnitId) (q : Requester) (n : Fin 4) (v : Word) (at_ : Instant) (s : State) :
    Host.Outcome State Fault Refusal :=
  unitStep s u (fun x => x.guard q true (0x3088 + 4 * n.val) (fun x => x.wdogWrite n.val v at_))

/-- WDOG_EXPIRE: TMO ms without a kick; the line carries MAJOR until the next one (R528). -/
def execWdogExpire (u : UnitId) (n : Fin 4) (at_ : Instant) (s : State) : Host.Outcome State Fault Refusal :=
  unitStep s u (fun x =>
    let tmo := x.fld FLT_WDOG.TMO n.val
    if tmo ≠ 0 ∧ !x.flt.expired.contains n.val ∧ sget (fun _ => 0) x.flt.kickAt n.val + tmo * 1000 * us ≤ at_ then
      { x with flt := { x.flt with expired := n.val :: x.flt.expired } }
    else x)

/-! Block resets and masking windows (R540 to R542, R601). -/

/-- The sources that depend on a source whose block is reset (R540). -/
def maskDependants : Nat → List Nat
  | 4 => [5, 6, 7, 8, 9, 10, 11, 12, 13, 14, 15, 16, 19, 20]
  | 5 | 6 | 7 | 8 => [9, 10, 11, 15, 14]
  | 9 => [11, 15]
  | 10 => [9, 14]
  | 11 => [10, 15, 14]
  | 12 => [10, 11, 14]
  | 13 => [11, 12, 14]
  | 16 => [15, 12, 11]
  | 19 => [20, 4, 12]
  | 20 => [4]
  | 17 => [18, 14]
  | 23 => escalationMasks.filter (· != 23)
  | _ => []

/-- Opens a masking window for a source; its grace timer stops. -/
def UnitSt.openMask (x : UnitSt) (n : Nat) : UnitSt :=
  { x with flt := { x.flt with masked := (n, 0) :: x.flt.masked.filter (fun e => e.1 != n),
                               graceAt := x.flt.graceAt.filter (fun e => e.1 != n) } }

/-- The counters of the unit pages. -/
def unitCounter (a : Nat) : Bool :=
  if 0x24000 ≤ a ∧ a < 0x2E000 then (LPE_CHSATCNT.CNT).covers a
  else if 0x100000 ≤ a then decide (0x4C ≤ a % 0x1000) && decide (a % 0x1000 ≤ 0x54)
  else [0x210D4, 0x210D8, 0x220FC, 0x22100, 0x23330, 0x23334, 0x30354, 0x31410, 0x31414, 0x31418, 0x3141C, 0x3206C, 0x32070,
    0x32074, 0x33060, 0x33064, 0x20118, 0x2011C, 0x20120, 0x100E8, 0x100EC, 0x11068, 0x14050, 0x14054, 0x14058, 0x1405C,
    0x1506C, 0x15070, 0x7048].contains a

/-- The registers of the HOST island that only a power-on reset resets: the link, the session, the Ream registers, the mailboxes,
epochs and doorbells; ERR, EVT and the counters are a block reset's (R465, R468, R485, R601). -/
def hostKeep (a : Nat) : Bool :=
  decide (0x10000 ≤ a) && decide (a < 0x14000) && !([0x14, 0x1C].contains (a % 0x1000)) && !unitCounter a

/-- What a block reset leaves beside the fields of R601: converter time, base, PN and T, which a unit steps at most once
(R51), the rate (R57), the levels of the trip pins, the rows and the spares left, what the boot showed of the slots, and what the HOST
island holds. -/
def unitKeep (a : Nat) : Bool :=
  hostKeep a || (decide (0x6040 ≤ a) && decide (a ≤ 0x604C)) || (decide (0x4040 ≤ a) && decide (a ≤ 0x4064)) || a == 0x407C || a == 0x4080 || a == 0x7054 || a == 0x705C
    || (MIN_TRIPSTAT.LVL).covers a

/-- The state of a block beside its registers after its reset at `t`.
Log entries 35 (DEDUCED), 81 (DEDUCED), 116 (DEDUCED). -/
def UnitSt.resetBlock (x : UnitSt) (b : Nat) (t : Instant) : UnitSt :=
  if 0x100000 ≤ b then
    let p := (b - 0x100000) / 0x1000
    let x := x.cutFrame p t
    let x := x.onPort p (fun q => { PortSt.reset p with strand := q.strand, newStrand := q.newStrand })
    x.evtBit b 1
  else
    match b with
    | 0x4000 => { x with tim := { x.tim with pchg := none, peer := none, pchgGo := false, pchgAns := false
                                             pchgIds := [], misalign := 0, aligned := false, rateAt := none } }
    | 0x6000 => { x with fls := none }
    | 0x7000 => { x with mem := { x.mem with rows := [], copy := [] } }
    | 0x14000 =>
      let x : UnitSt := { x with net := {} }
      (([0, 1] : List Nat).foldl (fun (x : UnitSt) p =>
        x.onNet (fun n => { n with mode := sset (fun _ => 2) n.mode p (x.fld NET_PCFG.MODE p) })) x).ptpSelect
    | 0x15000 => (({ x with ptp := {} }).set TIM_SRC.PTPLOCK 0).ptpSelect
    | 0x20000 => { x with hbx := {} }
    | 0x21000 => { x with cal := {} }
    | 0x22000 => { x with clp := {} }
    | 0x23000 => ({ x with lpe := { fresh := x.lpe.fresh } } : UnitSt).retireMoves
    | 0x30000 => { x with mins := { back := true } }
    | 0x31000 => { x with reel := {} }
    | 0x32000 =>
      let was := x.isHolder
      let x := (x.set LSE_STAT.STATE (if x.bit FLT_STAT.FENCED then 3 else 0))
      let x := if was then x.hbxLeaveHolder.gpLeave else x
      { x with lse := {} }
    | 0x33000 => { x with spl := {} }
    | _ =>
      if 0x24000 ≤ b ∧ b < 0x2E000 then
        (List.range 10).foldl (fun (x : UnitSt) i =>
          { x with lpe := { x.lpe with chs := sset (fun _ => {}) x.lpe.chs ((b - 0x24000) / 0x1000 * 10 + i) {} } }) x
      else x

/-- A write of 1 to SRST of the page at `b` at `t` (R601).
Log entry 35 (DEDUCED). -/
def UnitSt.blockReset (x : UnitSt) (b : Nat) (t : Instant) : UnitSt :=
  match pageOf unitPages b with
  | none => x
  | some p =>
    if p.srstRO then x
    else
      let held := x.isHolder
      let x : UnitSt := { x with regs := pageReset (unitReset x.id) p.fields unitKeep unitCounter b x.regs }
      let x := if b = 0x32000 ∧ held then x.set LSE_STAT.STATE 2 else x
      let x := x.resetBlock b t
      let src := srcOf b
      (src :: maskDependants src).foldl UnitSt.openMask x

/-- BLOCK_RESET: a write of CTRL, at `a`, with SRST at 1 and EN at `en`. -/
def execBlockReset (p : RegPort) (a : BitVec 32) (en : Bool) (at_ : Instant) (s : State) : Host.Outcome State Fault Refusal :=
  if a.toNat % 0x1000 ≠ 0x00C then .next s
  else
    let v : Word := BitVec.ofNat 32 (2 + b2n en)
    match p with
    | .unit u q => unitStep s u (fun x => x.guard q true a.toNat (fun x => (x.writeWord a.toNat v).blockReset (a.toNat - 0x00C) at_))
    | .cell c r => cellStep s c (fun x => (x.regWrite r a.toNat v 0xFFFFFFFF at_).2)

/-- MASK_WINDOW_END: the windows that have seen their second token end; a line that carries a class latches (R542).
Log entry 220 (DEDUCED). -/
def execMaskWindowEnd (u : UnitId) (at_ : Instant) (cyc : BitVec 32) (s : State) : Host.Outcome State Fault Refusal :=
  unitStep s u (fun x =>
    let gone := x.flt.masked.filter (fun e => decide (2 ≤ e.2))
    let x : UnitSt := { x with flt := { x.flt with masked := x.flt.masked.filter (fun e => decide (e.2 < 2)) } }
    let now := gone.map (fun e => (e.1, x.srcLine e.1))
    let seen : Sparse Nat := now.foldl (fun m e => sset (fun _ => 0) m e.1 e.2) x.flt.seen
    let x : UnitSt := { x with flt := { x.flt with seen := seen } }
    (x.latch (now.filter (fun e => e.2 != 0)) at_ cyc.toNat).tick at_)

/-- LOCK_WRITE: a write of the LOCK register at `a` (R602). -/
def execLockWrite (p : RegPort) (a : BitVec 32) (v : Word) (at_ : Instant) (s : State) : Host.Outcome State Fault Refusal :=
  if a.toNat % 0x1000 ≠ 0x024 then .next s
  else
    match p with
    | .unit u q => unitStep s u (fun x => x.guard q true a.toNat (fun x => x.writeWord a.toNat v))
    | .cell c r => cellStep s c (fun x => (x.regWrite r a.toNat v 0xFFFFFFFF at_).2)

/-! SRAM errors and rows (R545, R546). -/

/-- The spare rows left in macro `m`, those being copied to taken.
Log entry 146 (DEDUCED). -/
def UnitSt.sparesLeft (x : UnitSt) (m : Nat) : Nat :=
  min 32 (Config.spareRows x.id m) - sget (fun _ => 0) x.mem.used m - (x.mem.copy.filter (fun c => c.1 / 1024 == m)).length

/-- Counts a correctable error of a row at `t`; a row beyond the 64 of the table is not entered.
Log entry 146 (DEDUCED). -/
def UnitSt.rowError (x : UnitSt) (row : Nat) (t : Instant) : UnitSt :=
  match x.mem.rows.find? (fun r => r.1 == row) with
  | some (_, n, _) => { x with mem := { x.mem with rows := (row, n + 1, t) :: x.mem.rows.filter (fun r => r.1 != row) } }
  | none => if x.mem.rows.length < 64 then { x with mem := { x.mem with rows := (row, 1, t) :: x.mem.rows } } else x

/-- SRAM_ECC_ERROR: a read or a scrub of an SRAM finds one wrong bit, or two, in a word (R545). -/
def execSramEccError (p : Part) (addr : BitVec 26) (double : Bool) (at_ : Instant) (s : State) :
    Host.Outcome State Fault Refusal :=
  match p with
  | .unit u => unitStep s u (fun x =>
      if !x.works 0x7000 then x
      else if double then ((x.err MEM_ERR.UE).inc MEM_CNT.UE).set MEM_UEADDR.ADDR addr.toNat
      else
        let x := ((x.err MEM_ERR.CE).inc MEM_CNT.CE).set MEM_CEADDR.ADDR addr.toNat
        let h := x.flt.health
        ({ x with flt := { x.flt with health := { h with ce := h.ce + 1 } } }).rowError (addr.toNat / 1024) at_)
  | .cell c => cellStep s c (fun x =>
      if x.pow = .off ∨ x.pow = .dormant then x
      else if double then x.err CFLT_ERR.ECCU
      else (x.err CFLT_ERR.ECCC).inc CFLT_CNT.ECCC)

/-- SCRUB_OVERRUN: a pass has not ended within PERIOD.
Log entry 147 (DEDUCED). -/
def execScrubOverrun (u : UnitId) (s : State) : Host.Outcome State Fault Refusal :=
  unitStep s u (fun x => if x.scrubs then x.err MEM_ERR.SCRUB else x)

/-- Starts the copy of a row to a spare row of its macro, or sets NOSPARE; `req` where `MEM_RETREQ` asked for it.
Log entry 146 (DEDUCED). -/
def UnitSt.rowCopy (x : UnitSt) (row : Nat) (req : Bool) : UnitSt :=
  if x.mem.copy.any (fun c => c.1 == row) then
    { x with mem := { x.mem with copy := x.mem.copy.map (fun c => if c.1 = row then (row, c.2 || req) else c) } }
  else if x.sparesLeft (row / 1024) = 0 then
    (if req then x.set MEM_RETREQ.RES 2 else x).err MEM_ERR.NOSPARE
  else { x with mem := { x.mem with copy := (row, req) :: x.mem.copy } }

/-- ROW_RETIRE: a row with ROWTH errors in the table. -/
def execRowRetire (u : UnitId) (row : Fin 49152) (s : State) : Host.Outcome State Fault Refusal :=
  unitStep s u (fun x =>
    let th := x.fld MEM_ROWTH.ROWTH
    if x.works 0x7000 && th != 0 && x.mem.rows.any (fun r => r.1 == row.val && decide (th ≤ r.2.1))
        && !x.mem.copy.any (fun c => c.1 == row.val) then x.rowCopy row.val false
    else x)

/-- Whether the mapping may switch at `t`: outside c to c + 1.7 µs of the running period. -/
def UnitSt.maySwitch (x : UnitSt) (t : Instant) : Bool :=
  let c := x.t0 x.pn + x.compOfs
  !x.tim.counting || decide (t < c) || decide (c + 1700 * ns ≤ t)

/-- ROW_RETIRE_SWITCH: the copy of a row is complete and its mapping switches. -/
def execRowRetireSwitch (u : UnitId) (row : Fin 49152) (at_ : Instant) (s : State) : Host.Outcome State Fault Refusal :=
  unitStep s u (fun x =>
    match x.mem.copy.find? (fun c => c.1 == row.val) with
    | none => x
    | some (_, req) =>
      if !x.works 0x7000 || !x.maySwitch at_ then x
      else
        let m := row.val / 1024
        let x : UnitSt := { x with mem := { x.mem with
          copy := x.mem.copy.filter (fun c => c.1 != row.val)
          rows := x.mem.rows.filter (fun r => r.1 != row.val)
          mapped := if x.mem.mapped.contains row.val then x.mem.mapped else row.val :: x.mem.mapped
          used := sset (fun _ => 0) x.mem.used m (sget (fun _ => 0) x.mem.used m + 1) } }
        let x := (x.set MEM_SPARE.RETIRED (x.fld MEM_SPARE.RETIRED + 1)).set MEM_SPARE.LEFT (x.fld MEM_SPARE.LEFT - 1)
        let x := (x.err MEM_ERR.RETIRE).set MEM_LASTRET.ROW row.val
        let x := if min 32 (Config.spareRows x.id m) ≤ sget (fun _ => 0) x.mem.used m then x.err MEM_ERR.NOSPARE else x
        if req then x.set MEM_RETREQ.RES 1 else x)

/-- ROW_ENTRY_AGE_DROP: AGE hours without a further error. -/
def execRowEntryAgeDrop (u : UnitId) (row : Fin 49152) (at_ : Instant) (s : State) : Host.Outcome State Fault Refusal :=
  unitStep s u (fun x =>
    let old (r : Nat × Nat × Nat) : Bool := r.1 == row.val && decide (r.2.2 + x.fld MEM_ROWTH.AGE * 3600 * sec ≤ at_)
    if x.works 0x7000 then { x with mem := { x.mem with rows := x.mem.rows.filter (fun r => !old r) } } else x)

/-- A write of `MEM_RETREQ`. -/
def UnitSt.retreqWrite (x : UnitSt) (v : Word) : UnitSt :=
  let row := v.toNat % 65536
  if 49152 ≤ row then x.set MEM_RETREQ.RES 3 else (x.set MEM_RETREQ.RES 0).rowCopy row true

/-- MEM_RETREQ. -/
def execMemRetreq (u : UnitId) (q : Requester) (v : Word) (s : State) : Host.Outcome State Fault Refusal :=
  unitStep s u (fun x => x.guard q true 0x7058 (fun x => x.retreqWrite v))

/-! The health record (R547, R548). -/

/-- Writes a record into a health window. -/
def UnitSt.putRecord (x : UnitSt) (f : Fld) (bs : Bytes) : UnitSt :=
  (List.range 64).foldl (fun (x : UnitSt) i => x.set f (leAt bs (4 * i) 4) i) x

/-- The generation after `g`.
Log entry 149 (DEDUCED). -/
def nextGen (g : Nat) : Nat := if g + 1 < 2 ^ 31 then g + 1 else 1

/-- Eye margins measured at the strand ports: the registers, and `STRP_ERR.EYE` below the threshold (R144).
Log entry 148 (DESIGN CHOICE). -/
def UnitSt.takeEyes (x : UnitSt) (eyes : EyeMargins) : UnitSt :=
  eyes.foldl (fun (x : UnitSt) e =>
    let p := e.1
    if 100 ≤ p then x
    else
      let x := (x.set STRP_EYE.HMARG e.2.1 p).set STRP_EYE.VMARG e.2.2 p
      if x.fld STRP_EYE.HMARG p < x.fld STRP_EYE.HMIN p then x.err STRP_ERR.EYE p else x) x

/-- The record of the second that ends at `t`, from GEN on.
Log entry 148 (DESIGN CHOICE). -/
def UnitSt.healthBytes (x : UnitSt) (gen : Nat) (t : Instant) (tj : Int) (spleye : List Nat) : Bytes :=
  let h := x.flt.health
  let spports := ([96, 97, 98, 99] : List Nat).filter (fun p => (x.port p).strand == 0x7F)
  let lanes := ([2, 3] : List Nat).filter (fun n => x.bit SPL_LSTAT.LOCK n && !x.bit SPL_LSTAT.USE n && !x.bit SPL_LSTAT.RET n)
  let flt := (x.views.filter (fun kv => kv.2.slot != [] && bitAt (slotFlags kv.2.slot) 1)).length
  let arm (n : Nat) : Bytes :=
    let cells := x.armCells n
    leBytes 2 (cells.filter x.available).length ++ leBytes 2 (cells.filter (fun k => (x.clpRec k).retired)).length ++
      leBytes 2 (cells.filter (fun k => (x.clpRec k).warn)).length ++ leBytes 2 (sget (fun _ => 0) h.armbits n)
  leBytes 4 gen ++ leBytes 4 (unitBit x.id + 2 * b2n x.isHolder + 4 * b2n (x.bit FLT_STAT.FENCED) + 8 * b2n x.splUp
      + 16 * b2n (x.bit FLT_STAT.FAULT))
    ++ leBytes 8 (t / ns) ++ leBytes 8 (x.fld FLT_LATCH_LO.LATCH) ++ leBytes 4 h.minors ++ leBytes 4 h.consq ++ leBytes 4 h.ce
    ++ leBytes 2 (x.fld MEM_SPARE.LEFT) ++ leBytes 1 (min 8 x.spares.length) ++ leBytes 1 spports.length ++ leBytes 1 lanes.length
    ++ leBytes 1 (ofInt 8 tj) ++ leBytes 2 (min 65535 h.spot) ++ leBytes 2 h.spotMis ++ leBytes 2 flt
    ++ (List.range 96).flatMap (fun s => leBytes 1 (match x.portOf s with
        | some p => if x.ncell p = 0 then 255 else x.fld STRP_EYE.HMARG p
        | none => 255))
    ++ (List.range 4).flatMap (fun n => leBytes 2 (spleye.getD n 0))
    ++ (List.range 6).flatMap arm

/-- HEALTH_RECORD at the whole second `at_` (R547); the highest junction temperature of the interval in °C, the eye margins of the
strand ports, and those of the four physical Splice lanes come from outside.
Log entry 148 (DESIGN CHOICE). -/
def execHealthRecord (u : UnitId) (at_ : Instant) (tj : Int) (eyes : EyeMargins) (spleye : List Nat) (s : State) :
    Host.Outcome State Fault Refusal :=
  unitStep s u (fun x =>
    if x.boot ≠ .up ∨ at_ % sec ≠ 0 then x
    else
      let x := ((x.tick at_).scrubStep at_).takeEyes eyes
      let gen := nextGen x.flt.health.gen
      let bs := x.healthBytes gen at_ tj spleye
      let x := (x.putRecord FLT_HREC.WORD bs).evt FLT_EVT.HEALTH
      let x := if x.splUp || x.away 0x33000 then x.sayVia FLT_ERR.XING (.health bs) else x
      { x with flt := { x.flt with health := { gen := gen, pgen := x.flt.health.pgen } } })

/-- HEALTH_RECORD_RX: the partner's record, under the generation of its own window.
Log entry 149 (DEDUCED). -/
def execHealthRecordRx (u : UnitId) (record : Bytes) (s : State) : Host.Outcome State Fault Refusal :=
  unitStep s u (fun x =>
    if !x.islandOn .spl then x
    else
      let gen := nextGen x.flt.health.pgen
      let x := (x.putRecord FLT_PHREC.WORD (leBytes 4 gen ++ record.drop 4)).evt FLT_EVT.PHEALTH
      { x with flt := { x.flt with health := { x.flt.health with pgen := gen } } })

end Sys2Proof.Machine
end

