-- ==== Sys2Proof/Machine/Headbox.lean ====
section
/-! DEFINITION. The commands of Headbox: submission, the delay list, missing replies and time-outs, completions, flush
(R433 to R453). -/
namespace Sys2Proof.Machine

/-- A write of `HBX_SUBD7` of a port submits the descriptor in `HBX_SUBD0` to `HBX_SUBD7`; `HBX_SUBRES` gives the result
and the ID (R436). -/
def UnitSt.submitWrite (x : UnitSt) (port : Nat) (v : Word) : UnitSt :=
  let x := x.set HBX_SUBD.D v.toNat (8 * port + 7)
  let (code, id, x) := x.submit port (descOf (fun i => BitVec.ofNat 32 (x.fld HBX_SUBD.D (8 * port + i))))
  (x.set HBX_SUBRES.CODE code port).set HBX_SUBRES.ID id port

/-- HBX_SUBMIT. -/
def execHbxSubmit (u : UnitId) (q : Requester) (port : Fin 6) (v : Word) (s : State) : Host.Outcome State Fault Refusal :=
  unitStep s u (fun x => x.guard q true (0x2021C + 0x40 * port.val) (fun x => x.submitWrite port.val v))

/-- The 1 µs tick at converter time `at_`: due timed transactions enter their queues (R447), and a FENCED unit says FENCE again
(R426).
Log entry 226 (DESIGN CHOICE). -/
def execHbxTimedRelease (u : UnitId) (at_ : Instant) (s : State) : Host.Outcome State Fault Refusal :=
  unitStep s u (fun x =>
    let x := x.tick at_
    let x := if x.fenced then x.sayVia LSE_ERR.XING .fence else x
    if x.works 0x20000 then x.hbxRelease else x)

/-- Cells whose reply is overdue are counted missing (R449). -/
def execHbxReplyMissing (u : UnitId) (s : State) : Host.Outcome State Fault Refusal :=
  unitStep s u (fun x => if x.works 0x20000 then x.hbxMissing else x)

/-- Transactions whose time-out has run out complete with TIMEOUT (R449). -/
def execHbxTimeout (u : UnitId) (s : State) : Host.Outcome State Fault Refusal :=
  unitStep s u (fun x => if x.works 0x20000 then x.hbxTimeouts else x)

/-- Returns and retires the oldest completion of a port, and latches its details (R451).
Log entry 77 (DEDUCED). -/
def UnitSt.cplRead (x : UnitSt) (q : Requester) (port : Nat) : UnitSt :=
  match sget (fun _ => []) x.hbx.fifo port with
  | [] => (x.setWord (HBX_CPL0.ID.addr port) 0).answer q 0
  | c :: l =>
    let x := { x with hbx := { x.hbx with fifo := sset (fun _ => []) x.hbx.fifo port l } }
    let x := ((x.set HBX_CPL0.VALID 1 port).set HBX_CPL0.STATUS c.status port).set HBX_CPL0.ID c.id port
    let x := x.set HBX_CPL1.RDATA c.rdata.toNat port
    let x := (x.set HBX_CPL2.NREP c.nrep port).set HBX_CPL2.NFAIL c.nfail port
    let x := (x.set HBX_CPL3.NMISS c.nmiss port).set HBX_CPL3.PN c.pn port
    let x := (x.set HBX_PSTAT.CPLCNT l.length port).set HBX_PSTAT.OUT (x.hbxOut port) port
    x.answer q (x.word (HBX_CPL0.ID.addr port))

def execHbxCplRead (u : UnitId) (q : Requester) (port : Fin 6) (s : State) : Host.Outcome State Fault Refusal :=
  unitStep s u (fun x =>
    let a := 0x20224 + 0x40 * port.val
    x.guardRead q a (fun x => x.cplRead q port.val))

/-- A write of `HBX_FLUSH`: the unsent transactions of the broadcast queue or of a strand queue complete with FLUSHED
(R453). -/
def UnitSt.flushWrite (x : UnitSt) (v : Word) : UnitSt :=
  let bc := bitAt v.toNat 31
  let ids := (x.hbx.held.filter (fun t =>
    t.sentOn == [] && (if bc then t.desc.bcast else !t.desc.bcast && t.desc.strand == v.toNat % 128))).map (·.id)
  x.hbxEnd (fun t => ids.contains t.id) stFlushed

/-- HBX_FLUSH. -/
def execHbxFlush (u : UnitId) (q : Requester) (v : Word) (s : State) : Host.Outcome State Fault Refusal :=
  unitStep s u (fun x => x.guard q true 0x20044 (fun x => x.flushWrite v))

end Sys2Proof.Machine
end

