-- ==== Sys2Proof/Machine/Loops.lean ====
section
/-! DEFINITION. What the host, the partner and the period do to the loop engines: enables (R304, R321, R333), swaps (R316 to
R320), setpoints (R326), saturation thresholds (R328), moves (R331), and Reel's envelope masks (R389, R390). -/
namespace Sys2Proof.Machine

/-! Enables (R304, R310, R321, R333). -/

/-- Whether a same-period source `w` stands in a lower rank than `rank`. -/
def UnitSt.srcRankOk (x : UnitSt) (rank w : Nat) : Bool :=
  match w / 256 % 16 with
  | 3 => decide (x.fld LPE_CHCFG.RANK (w % 256) < rank)
  | 7 => decide (x.groupRank (w % 256) < rank)
  | _ => true

/-- Whether the three sources of channel `c` exist and stand in lower ranks. -/
def UnitSt.chanSrcOk (x : UnitSt) (c : Nat) : Bool :=
  [x.fld LPE_CHSRC1.SRCR c, x.fld LPE_CHSRC1.SRCY c, x.fld LPE_CHSRC2.SRCV c].all (fun w =>
    srcOk w && x.srcRankOk (x.fld LPE_CHCFG.RANK c) w)

/-- Whether a group has at most eight members, all in one rank.
Log entry 109 (DEDUCED). -/
def UnitSt.groupOk (x : UnitSt) (g : Nat) : Bool :=
  let ms := (List.range 96).filter (fun c => x.inGroup c g)
  decide (ms.length ≤ 8) && ms.all (fun c => x.fld LPE_CHCFG.RANK c == x.groupRank g)

/-- Whether a configuration of channel `c` may stand: its group, and the sources of every channel that is enabled or due to be
(R304, R321).
Log entry 210 (DEDUCED). -/
def UnitSt.mayConfigure (x : UnitSt) (c : Nat) : Bool :=
  (!x.bit LPE_CHCFG.GEN c || x.groupOk (x.fld LPE_CHCFG.GRP c)) && ((List.range 96).filter (fun d => x.bit LPE_CHCFG.EN d)).all x.chanSrcOk

/-- Whether channel `c` may be enabled: its configuration, its sources, its active bank, and an engine that is not retired (R304,
R310, R321, R332). -/
def UnitSt.mayEnable (x : UnitSt) (c : Nat) : Bool :=
  x.mayConfigure c && x.chanSrcOk c && x.bankOk c (x.fld LPE_CHSTAT.ACT c) && !x.retired (x.engine c)

/-- A write of `LPE_CHCFG` of channel `c`; one that is refused changes no field.
Log entries 108 (DEDUCED), 210 (DEDUCED). -/
def UnitSt.chcfgWrite (x : UnitSt) (c : Nat) (v : Word) : UnitSt :=
  let a := LPE_CHCFG.EN.addr c
  let fields : Word := v &&& 0x3F9C0000
  if x.bit LPE_CHCFG.EN c then
    let x := if fields = (x.word a &&& 0x3F9C0000) then x else x.err LPE_ERR.CFG
    if bitAt v.toNat 31 then x else (x.set LPE_CHCFG.EN 0 c).onChan c (fun s => { s with cleared := true })
  else
    let y := x.setWord a fields
    if !y.mayConfigure c then x.err LPE_ERR.CFG
    else if !bitAt v.toNat 31 then y
    else if y.mayEnable c then y.set LPE_CHCFG.EN 1 c else y.err LPE_ERR.CFG

/-- LPE_CHCFG_WRITE. -/
def execLpeChcfgWrite (u : UnitId) (q : Requester) (c : Fin 96) (v : Word) (s : State) : Host.Outcome State Fault Refusal :=
  unitStep s u (fun x => x.guard q true (LPE_CHCFG.EN.addr c.val) (fun x => x.chcfgWrite c.val v))

/-! Swaps (R316 to R320). -/

/-- The result a swap request meets (R316): 1 queued, or the refusal.
Log entry 211 (DEDUCED). -/
def UnitSt.swapCode (x : UnitSt) (r : SwapReq) : Nat :=
  if r.n = 0 then 3
  else if r.pn < x.pn + 2 ∨ 4096 < r.n ∨ 96 ≤ r.ch ∨ !x.bit LPE_CHCFG.EN r.ch then 7
  else if !x.bankOk r.ch r.bank then 5
  else if 16 ≤ x.lpe.queue.length ∨ x.lpe.queue.any (fun q => q.ch == r.ch && q.pn == r.pn) then 6
  else 1

/-- A write of `LPE_SWAP`.
Log entry 211 (DEDUCED). -/
def UnitSt.swapWrite (x : UnitSt) (v : Word) : UnitSt :=
  let pn := if bitAt v.toNat 30 then x.pn + 2 else x.pair LPE_SWAPPN_LO.PN_LO LPE_SWAPPN_HI.PN_HI
  let r : SwapReq := { ch := v.toNat % 128, bank := v.toNat / 2 ^ 31, n := v.toNat / 65536 % 8192, pn := pn, last := true }
  let code := x.swapCode r
  let clear (c : ChanSt) : ChanSt := { c with due := c.due.map (fun q => { q with last := false }) }
  let x := x.set LPE_SWAPRES.RES code
  let x : UnitSt := { x with lpe := { x.lpe with
    queue := x.lpe.queue.map (fun q => { q with last := false })
    chs := x.lpe.chs.foldl (fun m e => sset (fun _ => {}) m e.1 (clear e.2)) [] } }
  if code ≠ 1 then x
  else
    let x : UnitSt := { x with lpe := { x.lpe with queue := x.lpe.queue ++ [r] } }
    if x.splUp then x.say (.swap r.ch r.bank r.n r.pn) else x.err LPE_ERR.SPLONE

/-- LPE_SWAP_REQ. -/
def execLpeSwapReq (u : UnitId) (q : Requester) (v : Word) (s : State) : Host.Outcome State Fault Refusal :=
  unitStep s u (fun x => x.guard q true 0x23044 (fun x => x.swapWrite v))

/-- SWAP_REQ_RX: the partner's request, queued for the same PN or refused.
Log entries 26 (DEDUCED), 74 (DEDUCED). -/
def execSwapReqRx (u : UnitId) (ch : Fin 128) (bank : Fin 2) (n : Fin 8192) (pn : BitVec 48) (s : State) :
    Host.Outcome State Fault Refusal :=
  unitStep s u (fun x =>
    if !x.works 0x23000 then x.crossTo 0x23000 SPL_ERR.XING
    else
      let r : SwapReq := { ch := ch.val, bank := bank.val, n := n.val, pn := pn.toNat, last := false }
      let code := x.swapCode r
      if code = 1 then { x with lpe := { x.lpe with queue := x.lpe.queue ++ [r] } }
      else x.say (.swapRefusal ch.val code))

/-- SWAP_REFUSAL_RX: the request acts in this unit alone. -/
def execSwapRefusalRx (u : UnitId) (_ch : Fin 128) (_res : Fin 8) (s : State) : Host.Outcome State Fault Refusal :=
  unitStep s u (fun x => if x.works 0x23000 then x.err LPE_ERR.SPLONE else x)

/-- SWAP_EFFECT: the queued swaps whose effective PN has come; the computation of the period carries them out, and one whose
channel is not enabled is removed. -/
def execSwapEffect (u : UnitId) (s : State) : Host.Outcome State Fault Refusal :=
  unitStep s u (fun x =>
    if !x.works 0x23000 then x
    else
      let due := x.lpe.queue.filter (fun r => decide (r.pn ≤ x.pn))
      let x : UnitSt := { x with lpe := { x.lpe with queue := x.lpe.queue.filter (fun r => decide (x.pn < r.pn)) } }
      due.foldl (fun (x : UnitSt) r =>
        if (x.chan r.ch).on then x.onChan r.ch (fun c => { c with due := c.due ++ [r] })
        else if r.last then x.set LPE_SWAPRES.RES 7 else x) x)

/-! Setpoints (R326). -/

/-- A write of 1 to `LPE_SETPCMT.CMT`: the pending copies as they stand, for the compute start of PN + 2. -/
def UnitSt.setpCommit (x : UnitSt) : UnitSt :=
  let vals := (List.range 64).map (fun i => (i, BitVec.ofNat 32 (x.fld LPE_SETP.SETP i)))
  let x : UnitSt := { x with lpe := { x.lpe with commits := x.lpe.commits ++ [(x.pn + 2, vals)] } }
  if x.splUp then x.say (.setp (x.pn + 2) vals) else x.err LPE_ERR.SPLONE

/-- SETP_COMMIT_REQ. -/
def execSetpCommitReq (u : UnitId) (q : Requester) (s : State) : Host.Outcome State Fault Refusal :=
  unitStep s u (fun x => x.guard q true 0x23054 (fun x => x.setpCommit))

/-- SETP_COMMIT_RX: the values the partner has taken.
Log entry 213 (DEDUCED). -/
def execSetpCommitRx (u : UnitId) (pn : BitVec 48) (vals : List Word) (s : State) : Host.Outcome State Fault Refusal :=
  unitStep s u (fun x =>
    if !x.works 0x23000 then x.crossTo 0x23000 SPL_ERR.XING
    else
      let vs := (List.range 64).filterMap (fun i => (vals[i]?).map (fun v => (i, v)))
      { x with lpe := { x.lpe with commits := x.lpe.commits ++ [(pn.toNat, vs)] } })

/-- SETP_COMMIT_EFFECT: at the compute start of its PN a commit takes effect; it stands until the computation of that PN has
taken it.
Log entry 213 (DEDUCED). -/
def execSetpCommitEffect (u : UnitId) (s : State) : Host.Outcome State Fault Refusal :=
  unitStep s u (fun x =>
    if !x.works 0x23000 then x
    else
      let x := x.takeCommits
      { x with lpe := { x.lpe with commits := x.lpe.commits.filter (fun c => decide (x.pn ≤ c.1)) } })

/-! Saturation time (R328). -/

/-- SAT_WARN: the count of a channel has reached SWARN. -/
def execSatWarn (u : UnitId) (c : Fin 96) (s : State) : Host.Outcome State Fault Refusal :=
  unitStep s u (fun x =>
    let t := x.fld LPE_CHSWARN.SWARN c.val
    if (x.chan c.val).on && t != 0 && decide (t ≤ x.fld LPE_CHSATCNT.CNT c.val) && !(x.chan c.val).warned then
      ((x.err LPE_ERR.SATW).set LPE_SATCH.WCH c.val).onChan c.val (fun s => { s with warned := true })
    else x)

/-- SAT_FAULT: the count of a channel has reached SFAULT. -/
def execSatFault (u : UnitId) (c : Fin 96) (s : State) : Host.Outcome State Fault Refusal :=
  unitStep s u (fun x =>
    let t := x.fld LPE_CHSFLT.SFAULT c.val
    if (x.chan c.val).on && t != 0 && decide (t ≤ x.fld LPE_CHSATCNT.CNT c.val) && !(x.chan c.val).failed then
      ((x.err LPE_ERR.SATF).set LPE_SATCH.FCH c.val).onChan c.val (fun s => { s with failed := true })
    else x)

/-! Moves (R331). -/

/-- A write of `LPE_MOVE`. -/
def UnitSt.moveWrite (x : UnitSt) (v : Word) : UnitSt :=
  let c := v.toNat % 128
  let e := v.toNat / 256 % 128
  if c < 96 ∧ x.spares.contains e then
    let x := x.set LPE_MOVE.RES 1
    { x with lpe := { x.lpe with moves := (c, e) :: x.lpe.moves.filter (fun m => m.1 != c) } }
  else x.set LPE_MOVE.RES 2

/-- LPE_MOVE_REQ. -/
def execLpeMoveReq (u : UnitId) (q : Requester) (v : Word) (s : State) : Host.Outcome State Fault Refusal :=
  unitStep s u (fun x => x.guard q true 0x23058 (fun x => x.moveWrite v))

/-! Reel's envelope masks (R389, R390). -/

/-- A mask's state after a period that was outside or not, and whether it is violated. -/
def maskNext (m : MaskSt) (dwell : Nat) (out : Bool) : MaskSt × Bool :=
  let o := if out then m.out + 1 else 0
  let i := if out then 0 else m.inn + 1
  if m.armed ∧ dwell ≤ o then ({ armed := false, out := 0, inn := 0 }, true)
  else if !m.armed ∧ dwell ≤ i then ({ armed := true, out := 0, inn := 0 }, false)
  else ({ m with out := o, inn := i }, false)

/-- One mask in a period.
Log entry 122 (DEDUCED). -/
def UnitSt.maskStep (x : UnitSt) (k : Nat) : UnitSt :=
  let dwell := x.reelFld REEL_MCFG.DWELL k
  if x.reelFld REEL_MCFG.EN k = 0 ∨ dwell = 0 then x
  else
    let prev (c : Nat) : Word := sget (fun _ => 0) x.lpe.prev c
    let src := x.reelFld REEL_MCFG.SRC k
    let (sv, t, x) := x.srcValue prev src
    let (zv, _, x) := x.srcValue prev (x.reelFld REEL_MCFG.CEN k)
    let sV := b32 sv
    let zV := b32 zv
    let hi := b32 (BitVec.ofNat 32 (x.reelFld REEL_MHI.MHI k))
    let lo := b32 (BitVec.ofNat 32 (x.reelFld REEL_MLO.MLO k))
    let out := !sV.finite || !zV.finite || (zV.add hi).lt sV || sV.lt (zV.sub lo)
    let (m, viol) := maskNext (sget (fun _ => {}) x.reel.masks k) dwell out
    let x : UnitSt := { x with reel := { x.reel with masks := sset (fun _ => {}) x.reel.masks k m } }
    if viol then
      let kind := src / 256 % 16
      let sample := kind == 1 || kind == 2
      let x := x.inc REEL_CNT4.MVIOL
      if !x.capturing then x
      else x.addMark
        { time := (if sample then nearestNs t else x.t0 x.pn / ns), qual := if sample then 2 else 3, frac := 0, kind := 1, num := k
          stop := x.reelFld REEL_MCFG.STOP k == 1, fall := false, value := sv, post := x.reelFld REEL_MPOST.POST k, pn := x.pn }
    else x

/-- MASK_EVALUATE: c + 0.62 µs of every period; marks are written while a capture runs.
Log entry 122 (DEDUCED). -/
def execMaskEvaluate (u : UnitId) (s : State) : Host.Outcome State Fault Refusal :=
  unitStep s u (fun x => if x.works 0x31000 && x.tim.counting then (List.range 32).foldl (fun x k => x.maskStep k) x else x)

end Sys2Proof.Machine
end

