-- ==== Sys2Proof/Machine/Power.lean ====
section
/-! DEFINITION. The power states of a unit: Run, Hold and Quiet (R53, R68, R586, R587). -/
namespace Sys2Proof.Machine

/-- Shows the conditions of `PWR_COND` that other rules do not already keep: TIME (R53), CFGD where there is no partner, and
not FENCED.
Log entry 52 (DEDUCED). -/
def UnitSt.showCond (x : UnitSt) : UnitSt :=
  let x := x.set PWR_COND.TIME (b2n (x.bit TIM_SRC.PTPLOCK || x.bit TIM_SRC.PARTNER || x.bit TIM_SRC.FREERUN))
  let x := if x.splUp then x else x.set PWR_COND.CFGD 1
  x.set PWR_COND.NOFENCE (b2n (!x.fenced))

/-- Whether every condition of `PWR_COND` is met (R586).
Log entry 52 (DEDUCED). -/
def UnitSt.mayRun (x : UnitSt) : Bool :=
  x.bit PWR_COND.LOADED && x.bit PWR_COND.TIME && x.bit PWR_COND.CFGD && x.bit PWR_COND.BUDGET && x.bit PWR_COND.NOFENCE

/-- A request that R586 does not allow. -/
def UnitSt.pwrRefuse (x : UnitSt) : UnitSt := (x.set PWR_REQ.RES 3).err PWR_ERR.REQREF

/-- The loop channels start when the unit enters Run (R333, R335); at the first entry after a reset, beside a partner that holds
the lease, they keep the values taken from its mirror record (R334).
Log entry 55 (DEDUCED). -/
def UnitSt.loopsStart (x : UnitSt) : UnitSt :=
  if x.takesLoops then x
  else
    let x := (List.range 96).foldl (fun (x : UnitSt) c =>
      if x.bit LPE_CHCFG.EN c then (x.endSwaps c).onChan c (fun s => { s with start := true }) else x) x
    { x with lpe := { x.lpe with groups := [], fresh := false } }

/-- Request Run: from Hold, with every condition met.
Log entries 53 (DEDUCED), 55 (DEDUCED). -/
def UnitSt.reqRun (x : UnitSt) : UnitSt :=
  let x := x.showCond
  if x.inHold && x.mayRun then
    let x : UnitSt := { x with quietDue := false }
    let x := ((x.set PWR_STAT.STATE 0).set PWR_REQ.RES 1).latCheck
    x.armsStart.loopsStart
  else x.pwrRefuse

/-- The pages of the islands that are off or in retention in Quiet (R36). -/
def waitingPages : List Nat :=
  (unitPages.flatMap (fun p => (List.range p.insts).map (fun i => p.base + 0x1000 * i))).filter
    (fun b => quietOff.contains (unitIsland b))

/-- The islands return from off (R44, R362, R586, R591): their blocks do no work before the next period token, and the records'
SEEDED is cleared.
Log entry 54 (DEDUCED). -/
def UnitSt.leaveQuiet (x : UnitSt) : UnitSt :=
  let x : UnitSt := { x with disabled := x.disabled ++ waitingPages }
  let x : UnitSt := { x with clp := { x.clp with
    recs := x.clp.recs.foldl (fun m e => sset ClpRec.reset m e.1 { e.2 with seeded := false }) [] } }
  x.enterHold.minReturn

/-- Request Hold: from Run or Quiet.
Log entry 53 (DEDUCED). -/
def UnitSt.reqHold (x : UnitSt) : UnitSt :=
  if x.inRun then (x.enterHold).set PWR_REQ.RES 1
  else if x.inQuiet then x.leaveQuiet.set PWR_REQ.RES 1
  else x.pwrRefuse

/-- Request Quiet: from Hold, with every configured strand port in LOW or OFF; Quiet begins at the next boundary.
Log entry 53 (DEDUCED). -/
def UnitSt.reqQuiet (x : UnitSt) : UnitSt :=
  if x.inHold && x.livePorts.all (fun sp => decide (x.pstate sp.2 ≤ 1)) then
    { x.set PWR_REQ.RES 2 with quietDue := true }
  else x.pwrRefuse

/-- A write of `PWR_REQ` (R594): STATE 0b11 is refused. -/
def UnitSt.pwrWrite (x : UnitSt) (v : Word) : UnitSt :=
  match v.toNat % 4 with
  | 0 => x.reqRun
  | 1 => x.reqHold
  | 2 => x.reqQuiet
  | _ => x.pwrRefuse

/-- PWR_REQ_RUN. -/
def execPwrReqRun (u : UnitId) (q : Requester) (s : State) : Host.Outcome State Fault Refusal :=
  unitStep s u (fun x => x.guard q true 0x2040 (fun x => x.reqRun))

/-- PWR_REQ_HOLD. -/
def execPwrReqHold (u : UnitId) (q : Requester) (s : State) : Host.Outcome State Fault Refusal :=
  unitStep s u (fun x => x.guard q true 0x2040 (fun x => x.reqHold))

/-- PWR_REQ_QUIET. -/
def execPwrReqQuiet (u : UnitId) (q : Requester) (s : State) : Host.Outcome State Fault Refusal :=
  unitStep s u (fun x => x.guard q true 0x2040 (fun x => x.reqQuiet))

/-- Splice is off: it is down, no FENCE heard before counts (R408), and its lanes are out of lock (R36, R425, R428).
Log entry 54 (DEDUCED). -/
def UnitSt.spliceOff (x : UnitSt) : UnitSt :=
  let x := (x.splDown.set SPL_STAT.LANES 0).set SPL_RELAY.RMAX 0
  let x := ([0, 1, 2, 3] : List Nat).foldl (fun (x : UnitSt) n => x.set SPL_LSTAT.LOCK 0 n) x
  { x with spl := { x.spl with silent := 2 }, lse := { x.lse with fenceRx := false } }

/-- Headbox turns off with its queues, its delay list and its completion FIFOs (R453).
Log entry 54 (DEDUCED). -/
def UnitSt.headboxOff (x : UnitSt) : UnitSt :=
  let x := x.hbxEnd (fun _ => true) stCancelled
  let x : UnitSt := { x with hbx := { x.hbx with held := [], delay := [], fifo := [] } }
  let x := (x.set HBX_QSTAT.DL 0).set HBX_QSTAT.BQ 0
  (List.range 6).foldl (fun (x : UnitSt) p => (x.set HBX_PSTAT.CPLCNT 0 p).set HBX_PSTAT.OUT 0 p) x

/-- QUIET_ENTER: the boundary at which a requested Quiet begins (R36, R362, R380, R453, R586).
Log entry 54 (DEDUCED). -/
def execQuietEnter (u : UnitId) (s : State) : Host.Outcome State Fault Refusal :=
  unitStep s u (fun x =>
    if x.quietDue && x.inHold then
      let x := x.reelQuiet.headboxOff.spliceOff
      let x := (x.set PWR_QTRIP.LVL (x.fld MIN_TRIPSTAT.LVL)).set PWR_REQ.RES 1
      { x.set PWR_STAT.STATE 2 with quietDue := false, quietTrip := false }
    else x)

end Sys2Proof.Machine
end

