-- ==== Sys2Proof/Machine/RegWrite.lean ====
section
/-! DEFINITION. Reads and writes of registers by address (R600 to R606): which write does what on a unit, the refusals that
concern more than one field, the words that a read forms, and the 64-bit rule; the FLASHPROG register (R649). -/
namespace Sys2Proof.Machine

/-! Loop channel pages (R315, R333, R337). -/

/-- The channel and the offset in its block of an address in the LPECH pages, which hold ten blocks each; 96 stands for none. -/
def chanAt (a : Nat) : Nat × Nat :=
  let o := a % 0x1000 - 0x40
  (if o < 10 * 0x180 then (a - 0x24000) / 0x1000 * 10 + o / 0x180 else 96, o % 0x180)

/-- Whether bank `b` of channel `c` takes no write: its channel is enabled, and it is the active bank, the target of a fade or
named in a queued request. -/
def UnitSt.bankBusy (x : UnitSt) (c b : Nat) : Bool :=
  x.bit LPE_CHCFG.EN c
    && (x.fld LPE_CHSTAT.ACT c == b || (x.bit LPE_CHSTAT.FADE c && x.fld LPE_CHSTAT.TGT c == b)
      || (x.lpe.queue ++ (x.chan c).due).any (fun r => r.ch == c && r.bank == b))

/-- A write in an LPECH page. -/
def UnitSt.chanWrite (x : UnitSt) (a : Nat) (v : Word) : UnitSt :=
  let (c, o) := chanAt a
  if 96 ≤ c then x
  else if o = 0 then x.chcfgWrite c v
  else if o = 4 ∨ o = 8 then (if x.bit LPE_CHCFG.EN c then x.err LPE_ERR.CFG else x.writeWord a v)
  else if 0x10 ≤ o ∧ o ≤ 0x18 then (x.writeWord a v).rearmSat c
  else if 0x40 ≤ o ∧ o < 0x90 ∧ x.bankBusy c 0 then x.err LPE_ERR.BANKBUSY
  else if 0xC0 ≤ o ∧ o < 0x110 ∧ x.bankBusy c 1 then x.err LPE_ERR.BANKBUSY
  else x.writeWord a v

/-! Mailbox slots (R480 to R482, R496). -/

/-- A write in a mailbox slot: the sender's alone counts; CTRL posts, and DATA of a FULL slot is discarded.
Log entry 23 (DEDUCED). -/
def UnitSt.slotWrite (x : UnitSt) (q : Requester) (a : Nat) (v : Word) : UnitSt :=
  let h2f := decide (a < 0x13000)
  let ch := (a % 0x1000 - 0x100) / 0x40
  let o := a % 0x40
  if h2f != (q.fn?).isSome then x
  else if o = 0x38 then x.post q ch v
  else if bitAt (x.fld (if h2f then MBX_H2FFULL.FULL else MBX_F2HFULL.FULL)) ch then x.err MBX_ERR.BUSY
  else x.writeWord a v

/-! Strand ports (R136, R144). -/

/-- A write in a STRP page at `t`.
Log entry 177 (DESIGN CHOICE). -/
def UnitSt.strpWrite (x : UnitSt) (a : Nat) (v : Word) (t : Instant) : UnitSt :=
  let p := (a - 0x100000) / 0x1000
  match a % 0x1000 with
  | 0x40 => x.assignWrite p v
  | 0x48 =>
    match v.toNat % 8 with
    | 0 => x.portOff p
    | 1 => x.portLow p
    | 2 => x.portTrain p
    | 3 => x.portEnum p t
    | 5 => x.portActive p
    | _ => x.portRefuse p
  | _ => x.writeWord a v

/-! Reel (R381, R382, R389). -/

/-- Whether Reel refuses a write of the register at `a` while a capture is in RUN or POSTING. -/
def reelBusyReg (a : Nat) : Bool := (decide (0x31040 ≤ a) && decide (a < 0x310B0)) || a == 0x310B8 || a == 0x310BC

/-- A binary32 word that is finite and not negative. -/
def finiteNonNeg (w : Word) : Bool :=
  match b32 w with
  | .fin s n _ => !s || n == 0
  | _ => false

/-- Whether trigger `n` may be enabled as its registers stand.
Log entry 123 (DEDUCED). -/
def UnitSt.trigOk (x : UnitSt) (n : Nat) : Bool :=
  let k := x.fld REEL_TRIGCFG.KIND n
  decide (k ≤ 4) && !((k == 1 || k == 2) && x.fld REEL_TRIGCFG.DIR n == 0) && finiteNonNeg (x.word (REEL_TRIGHYS.HYST.addr n))

/-- A write of `REEL_TRIGCFG` or `REEL_TRIGHYS` of trigger `n`: a refused value leaves EN at 0.
Log entry 123 (DEDUCED). -/
def UnitSt.trigWrite (x : UnitSt) (a n : Nat) (v : Word) : UnitSt :=
  let x := x.writeWord a v
  if x.trigOk n then x else (x.set REEL_TRIGCFG.EN 0 n).err REEL_ERR.CFG

/-- Whether mask `n` may be enabled as its registers stand. -/
def UnitSt.maskOk (x : UnitSt) (n : Nat) : Bool :=
  let src := x.fld REEL_MCFG.SRC n
  let hi := b32 (x.word (REEL_MHI.MHI.addr n))
  let lo := b32 (x.word (REEL_MLO.MLO.addr n))
  src / 256 % 16 != 0 && srcOk src && hi.finite && lo.finite && !(hi.add lo).lt (.fin false 0 1)

/-- A write of `REEL_MCFG` of mask `n`; a mask that is enabled starts armed (R390).
Log entry 123 (DEDUCED). -/
def UnitSt.mcfgWrite (x : UnitSt) (a n : Nat) (v : Word) : UnitSt :=
  let was := x.bit REEL_MCFG.EN n
  let x := x.writeWord a v
  if x.bit REEL_MCFG.EN n && !x.maskOk n then (x.set REEL_MCFG.EN 0 n).err REEL_ERR.CFG
  else if x.bit REEL_MCFG.EN n && !was then { x with reel := { x.reel with masks := sset (fun _ => {}) x.reel.masks n {} } }
  else x

/-- A write in the REEL page at `t`. -/
def UnitSt.reelWrite (x : UnitSt) (a : Nat) (v : Word) (t : Instant) : UnitSt :=
  if a = 0x310C0 then x.reelCmd v t
  else if reelBusyReg a ∧ (x.fld REEL_STAT.CAP = 1 ∨ x.fld REEL_STAT.CAP = 2) then x.err REEL_ERR.BUSY
  else if 0x310D0 ≤ a ∧ a < 0x31110 then x.trigWrite a ((a - 0x310D0) / 4) v
  else if 0x31150 ≤ a ∧ a < 0x31190 then x.trigWrite a ((a - 0x31150) / 4) v
  else if 0x31210 ≤ a ∧ a < 0x31290 then x.mcfgWrite a ((a - 0x31210) / 4) v
  else if a = 0x310B4 then x.writeWord a (v &&& ~~~7)
  else x.writeWord a v

/-! Central inputs (R359, R363). -/

/-- A write of `MIN_TRIPCFG`: a class of 0b11 is refused, input by input. -/
def UnitSt.tripcfgWrite (x : UnitSt) (v : Word) : UnitSt :=
  let bad := (List.range 16).filter (fun n => v.toNat / 2 ^ (2 * n) % 4 == 3)
  let keep : Word := BitVec.ofNat 32 (bad.foldl (fun m n => m ||| (3 <<< (2 * n))) 0)
  let old := x.word 0x30348
  let locked := (x.word 0x30024).toNat % 2 = 1
  let x := x.writeWord 0x30348 ((v &&& ~~~keep) ||| (old &&& keep))
  if bad = [] ∨ locked then x else x.err MIN_ERR.CFG

/-- A write of `MIN_CHDLY`: a return delay that RTDSET moves by more than 2 ns compares Λ again (R346). -/
def UnitSt.chdlyWrite (x : UnitSt) (a : Nat) (v : Word) : UnitSt := UnitSt.rtdMoved x (x.writeWord a v)

/-- A write of `MIN_TRIPCLR` clears latch bits. -/
def UnitSt.tripclrWrite (x : UnitSt) (v : Word) : UnitSt :=
  x.set MIN_TRIPSTAT.LATCH (BitVec.ofNat 32 (x.fld MIN_TRIPSTAT.LATCH) &&& ~~~v).toNat

/-! Calender and the loop engines' common registers (R299, R304, R311, R312, R332). -/

/-- A write of `CAL_ARMCFG` of arm `n`: a type other than the configuration's sets ERR.TYPE (R17). -/
def UnitSt.armcfgWrite (x : UnitSt) (n : Nat) (v : Word) : UnitSt :=
  let x := x.writeWord (0x21040 + 4 * n) v
  match x.conf.types[n]? with
  | some t => if x.fld CAL_ARMCFG.TYPE n = t then x else x.err CAL_ERR.TYPE
  | none => x

/-- A write of `LPE_ARMD` or `LPE_FCS`: a source that may not stand there sets ERR.CFG; its arm then takes 0.0.
Log entry 111 (DEDUCED). -/
def UnitSt.armSrcWrite (x : UnitSt) (a : Nat) (v : Word) : UnitSt :=
  let x := x.writeWord a v
  let w := (x.word a).toNat
  let lo := w % 8192
  let ok := if a < 0x230E8 then srcOk lo && (lo / 256 % 16 == 3 || lo / 256 % 16 == 7) else srcOk lo && srcOk (w / 65536 % 8192)
  if ok then x else x.err LPE_ERR.CFG

/-- A write of `LPE_RETIRE`: engines above 103 read 0; channels of a retired engine move (R332). -/
def UnitSt.retireWrite (x : UnitSt) (a : Nat) (v : Word) : UnitSt :=
  (x.writeWord a (if a = 0x2306C then v &&& 0xFF else v)).retireMoves

/-! The station ports (R497, R500, R510, R516, R518, R525). -/

/-- A write in the NET page at `t`. -/
def UnitSt.netWrite (x : UnitSt) (a : Nat) (v : Word) (t : Instant) : UnitSt :=
  if a = 0x146B0 then x.gpStart (v.toNat % 8) t
  else if a = 0x146CC then x.txWrite v
  else
    let y := x.writeWord a v
    if (NET_PCFG.EN).covers a then UnitSt.netWritten x y
    else if a = 0x14068 then y.onNet (fun n => { n with rxFull := false })
    else if (NET_SVCFG.EN).covers a then
      let n := (a - 0x14080) / 4
      if y.bit NET_SVCFG.EN n && !x.bit NET_SVCFG.EN n then
        y.onNet (fun s => { s with sv := sset (fun _ => {}) s.sv n { validAt := t } })
      else y
    else if (NET_GSCFG.EN).covers a then
      let n := (a - 0x14400) / 4
      if y.bit NET_GSCFG.EN n != x.bit NET_GSCFG.EN n then
        ((y.set NET_GSSTAT.VALID 0 n).set NET_GSSTAT.TALX 0 n).onNet (fun s => { s with gs := sset (fun _ => {}) s.gs n {} })
      else if y.bit NET_GSSTAT.TALX n && decide (y.fld NET_GSCFG.FPOS n < 255) then y.setFast n (y.bit NET_GSCFG.FDEF n)
      else y
    else if (NET_GPCFG.EN).covers a then
      let n := (a - 0x14610) / 4
      if y.gpMay n then y else y.gpStop n
    else y

/-! Test multiplexer (R650, R652). -/

/-- The selects of `TMX_DSEL`. -/
def dselOk (n : Nat) : Bool :=
  decide (n ≤ 7) || (decide (0x10 ≤ n) && decide (n < 0x30)) || (decide (0x40 ≤ n) && decide (n < 0x50))
    || (decide (0x80 ≤ n) && decide (n < 0xE4))

/-! Writes by address. -/

/-- A write of `PCIE_SESSCMD` (R468, R470). -/
def UnitSt.sessWrite (x : UnitSt) (q : Requester) (v : Word) : UnitSt :=
  if q ≠ .pf1 ∨ x.host.opening.isSome then x
  else
    match v.toNat % 8 with
    | 0 => x
    | 1 => x.sessChal
    | 2 => x.sessOpen (v.toNat / 16 % 4)
    | 3 => x.sessClose
    | _ => x.set PCIE_SESSCMD.RES 5

/-- A write of the register at `a` by `q` at `t`, which R462 and R607 allow: the command registers act, the others take the
value under R600 to R604.
Log entry 18 (DEDUCED). -/
def UnitSt.regWrite (x : UnitSt) (q : Requester) (a : Nat) (v : Word) (t : Instant) : UnitSt :=
  if a % 0x1000 = 0x00C then
    let x := x.writeWord a v
    if bitAt v.toNat 1 then x.blockReset (a - 0x00C) t else x
  else if a % 0x1000 < 0x040 then x.writeWord a v
  else if 0x100000 ≤ a then x.strpWrite a v t
  else if 0x24000 ≤ a ∧ a < 0x2E000 then x.chanWrite a v
  else if 0x31000 ≤ a ∧ a < 0x32000 then x.reelWrite a v t
  else if 0x14000 ≤ a ∧ a < 0x15000 then x.netWrite a v t
  else if (slotChannel a).isSome then x.slotWrite q a v
  else if 0x21040 ≤ a ∧ a < 0x21058 then x.armcfgWrite ((a - 0x21040) / 4) v
  else if (0x230D0 ≤ a ∧ a < 0x230E8) ∨ (0x23100 ≤ a ∧ a < 0x23118) then x.armSrcWrite a v
  else if 0x23060 ≤ a ∧ a < 0x23070 then x.retireWrite a v
  else if 0x300C0 ≤ a ∧ a < 0x30140 then x.chdlyWrite a v
  else if 0x3088 ≤ a ∧ a < 0x3098 then x.wdogWrite ((a - 0x3088) / 4) v t
  else if 0x8040 ≤ a ∧ a < 0x8060 then
    (if dselOk (v.toNat % 256) then x.writeWord a v else x.err TMX_ERR.RANGE)
  else
    match a with
    | 0x4C => x.rstWrite v
    | 0x50 => x.prstWrite v
    | 0x58 => x.bootWrite v
    | 0x2040 => x.pwrWrite v
    | 0x4068 => x.pchgRequest v
    | 0x5078 => x.secCmd v
    | 0x6050 => x.flsCmd v
    | 0x7058 => x.retreqWrite v
    | 0x1004C => x.reamPinWrite q v
    | 0x10054 => x.sessWrite q v
    | 0x100E0 => x.rearm q false v
    | 0x100E4 => x.rearm q true v
    | 0x1104C => x.hepincWrite q v
    | 0x11080 => if (q.fn?).isSome then x.dbSet true 0 v else x
    | 0x110A0 => if (q.fn?).isSome then x.dbSet true 1 v else x
    | 0x1108C => if (q.fn?).isNone then x.dbSet false 0 v else x
    | 0x110AC => if (q.fn?).isNone then x.dbSet false 1 v else x
    | 0x11084 => if dbSide q true then x.writeWord a v else x
    | 0x110A4 => if dbSide q true then x.writeWord a v else x
    | 0x11090 => if dbSide q false then x.writeWord a v else x
    | 0x110B0 => if dbSide q false then x.writeWord a v else x
    | 0x11088 => if dbSide q true then x.dbMask true 0 v else x
    | 0x110A8 => if dbSide q true then x.dbMask true 1 v else x
    | 0x11094 => if dbSide q false then x.dbMask false 0 v else x
    | 0x110B4 => if dbSide q false then x.dbMask false 1 v else x
    | 0x15040 => UnitSt.netWritten x (x.writeWord a v)
    | 0x20044 => x.flushWrite v
    | 0x2021C => x.submitWrite 0 v
    | 0x2025C => x.submitWrite 1 v
    | 0x2029C => x.submitWrite 2 v
    | 0x202DC => x.submitWrite 3 v
    | 0x2031C => x.submitWrite 4 v
    | 0x2035C => x.submitWrite 5 v
    | 0x210D0 => x.fxWrite v
    | 0x220F8 => x.clpCmd (v.toNat % 8)
    | 0x23044 => x.swapWrite v
    | 0x23054 => if v.toNat % 2 = 1 then x.setpCommit else x
    | 0x23058 => x.moveWrite v
    | 0x30344 => if bitAt v.toNat 31 then x.syncRequest t else x
    | 0x30348 => x.tripcfgWrite v
    | 0x30350 => x.tripclrWrite v
    | 0x32048 => x.hovWrite v
    | _ => x.writeWord a v

/-- Whether `a` is the address of a low word of a pair or group (R606). -/
def lowWord (ps : List (Fld × List Nat)) (a : Nat) : Bool := (groupOf ps a).isSome

/-- Whether `a` is the address of the high word that is written with the low word before it. -/
def highWord (ps : List (Fld × List Nat)) (a : Nat) : Bool := decide (4 ≤ a) && lowWord ps (a - 4)

/-- A write by a requester under the 64-bit rule (R606).
Log entry 20 (DESIGN CHOICE). -/
def UnitSt.busWrite (x : UnitSt) (q : Requester) (a : Nat) (v : Word) (t : Instant) : UnitSt :=
  if lowWord unitPairs a then x.writeLow q a v
  else if highWord unitPairs a then
    let (lo, x) := x.takeHold q a
    let x := match lo with | some w => x.regWrite q (a - 4) w t | none => x
    x.regWrite q a v t
  else x.regWrite q a v t

/-! Reads by address. -/

/-- The SPARE word of the page at `b` (R603).
Log entry 52 (DEDUCED). -/
def UnitSt.spareWord (x : UnitSt) (b : Nat) : Word :=
  let bits (n : Nat) (p : Nat → Bool) : Word := BitVec.ofNat 32 (((List.range n).filter p).foldl orBit 0)
  match b with
  | 0 => bits 4 (fun n => decide ((x.port (96 + n)).strand < 96))
  | 0x23000 => bits 8 (fun n => (List.range 96).any (fun c => x.engine c == 96 + n))
  | 0x33000 => bits 2 (fun n => (x.logOf (2 + n)).isSome)
  | 0x7000 => bits 1 (fun _ => x.mem.mapped != [])
  | _ => 0

/-- The live word of the register at `a` as `q` reads it. -/
def UnitSt.liveWord (x : UnitSt) (q : Requester) (a : Nat) : Word :=
  if a % 0x1000 = 0x028 then x.spareWord (a - 0x028)
  else
    match a with
    | 0x7010 => (x.set MEM_STAT.SCRUBBING (b2n x.scrubs)).readable a
    | 0x3010 => (x.set FLT_STAT.ALIVE (b2n x.toggles)).readable a
    | 0x1048 => if x.bit CLK_STAT.HOLD then BitVec.ofNat 32 (x.holdMs x.now) else x.readable a
    | 0x2044 => x.showCond.readable a
    | 0x10058 => x.showLock.readable a
    | 0x22010 => x.showClp.readable a
    | 0x32010 => x.showReady.readable a
    | 0x23010 => x.showSpares.readable a
    | 0x11050 => BitVec.ofNat 32 (x.req q).res
    | _ => x.readable a

/-- A read of a register that R462 and R607 allow, with its side effects (R605, R606). -/
def UnitSt.busRead (x : UnitSt) (q : Requester) (a : Nat) : UnitSt :=
  match groupOf unitPairs a with
  | some rest => x.onReq q (fun r => { r with rdata := x.liveWord q a, latch := rest.map (fun o => (o, x.liveWord q o)) })
  | none =>
    match (x.req q).latch.find? (fun e => e.1 == a) with
    | some (_, v) => x.onReq q (fun r => { r with rdata := v, latch := r.latch.filter (fun e => e.1 != a) })
    | none =>
      if a = 0x220B0 then x.recRead q
      else if 0x220B0 < a ∧ a < 0x220F0 then x.answer q (x.recWords.getD ((a - 0x220B0) / 4) 0)
      else if a = 0x146D4 then x.txCplRead q
      else if (HBX_CPL0.ID).covers a then x.cplRead q ((a - 0x20224) / 0x40)
      else if (MBXH_EPOCH.EPOCH).covers a ∧ (q.fn?).isNone then x.readEpoch q ((a - 0x1213C) / 0x40)
      else if (MBXF_EPOCH.EPOCH).covers a ∧ (q.fn?).isSome then x.readEpoch q ((a - 0x1313C) / 0x40)
      else x.answer q (x.liveWord q a)

/-! The commands. -/

/-- A guarded read; where the access is refused the word read is 0 (R463, R607). A function may also read its BAR 2 and BAR 4.
Log entries 19 (DESIGN CHOICE), 27 (DESIGN CHOICE). -/
def UnitSt.readAt (x : UnitSt) (q : Requester) (a : Nat) : UnitSt :=
  if inBar q a then x.barRead q a else x.guardRead q a (fun x => x.busRead q a)

/-- A guarded write by a requester; a function may also write to its BAR 2 and BAR 4.
Log entries 20 (DESIGN CHOICE), 27 (DESIGN CHOICE). -/
def UnitSt.writeAt (x : UnitSt) (q : Requester) (a : Nat) (v : Word) (t : Instant) : UnitSt :=
  if inBar q a then x.barWrite q a v else x.guard q true a (fun x => x.busWrite q a v t)

/-- A read of a cell register by its core or through an entry (R606, R612).
Log entry 19 (DESIGN CHOICE). -/
def CellSt.readAt (x : CellSt) (r : CellReq) (a : Nat) : CellSt :=
  let (w, _, x) := x.regRead r a
  x.onReq r (fun q => { q with rdata := w })

/-- A cell's write under the 64-bit rule. -/
def CellSt.busWrite (x : CellSt) (r : CellReq) (a : Nat) (v : Word) (t : Instant) : CellSt :=
  if lowWord cellPairs a then x.onReq r (fun q => { q with hold := some (a, v) })
  else if highWord cellPairs a then
    let h := (x.req r).hold
    match h with
    | some (b, w) =>
      if b + 4 = a then
        let x := x.onReq r (fun q => { q with hold := none })
        ((x.regWrite r b w 0xFFFFFFFF t).2.regWrite r a v 0xFFFFFFFF t).2
      else (x.regWrite r a v 0xFFFFFFFF t).2
    | none => (x.regWrite r a v 0xFFFFFFFF t).2
  else (x.regWrite r a v 0xFFFFFFFF t).2

/-- LOW_WORD_READ: a read at `a`.
Log entry 19 (DESIGN CHOICE). -/
def execLowWordRead (p : RegPort) (a : BitVec 32) (s : State) : Host.Outcome State Fault Refusal :=
  match p with
  | .unit u q => unitStep s u (fun x => x.readAt q a.toNat)
  | .cell c r => cellStep s c (fun x => x.readAt r a.toNat)

/-- HIGH_WORD_READ: a read at `a`.
Log entry 19 (DESIGN CHOICE). -/
def execHighWordRead (p : RegPort) (a : BitVec 32) (s : State) : Host.Outcome State Fault Refusal :=
  match p with
  | .unit u q => unitStep s u (fun x => x.readAt q a.toNat)
  | .cell c r => cellStep s c (fun x => x.readAt r a.toNat)

/-- A guarded write of a whole word at `t`. -/
def State.writeAt (s : State) (p : RegPort) (a : Nat) (v : Word) (t : Instant) : State :=
  match p with
  | .unit u q => s.onUnit u (fun x => (x.tick t).writeAt q a v t)
  | .cell c r => s.onCell c (fun x => x.busWrite r a v t)

/-- LOW_WORD_WRITE: a write at `a`.
Log entry 20 (DESIGN CHOICE). -/
def execLowWordWrite (p : RegPort) (a : BitVec 32) (v : Word) (at_ : Instant) (s : State) : Host.Outcome State Fault Refusal :=
  .next (s.writeAt p a.toNat v at_)

/-- HIGH_WORD_WRITE: a write at `a`.
Log entry 20 (DESIGN CHOICE). -/
def execHighWordWrite (p : RegPort) (a : BitVec 32) (v : Word) (at_ : Instant) (s : State) : Host.Outcome State Fault Refusal :=
  .next (s.writeAt p a.toNat v at_)

/-- REG_WRITE: a write at `a` with byte enables; one that does not cover an aligned word reaches no register, and on PCIe sets
`PCIE_ERR.RANGE` (R605).
Log entries 20 (DESIGN CHOICE), 21 (DEDUCED). -/
def execRegWrite (p : RegPort) (a : BitVec 32) (v : Word) (be : BitVec 4) (at_ : Instant) (s : State) :
    Host.Outcome State Fault Refusal :=
  if be = 0xF ∧ a.toNat % 4 = 0 then .next (s.writeAt p a.toNat v at_)
  else
    match p with
    | .unit u q => unitStep s u (fun x => if (q.fn?).isSome && x.islandOn .host then x.err PCIE_ERR.RANGE else x)
    | .cell _ _ => .next s

/-! FLASHPROG (R649). -/

/-- A little-endian word of the SRAM.
Log entries 14 (DESIGN CHOICE), 16 (DEDUCED). -/
def UnitSt.sramWord (x : UnitSt) (a : Nat) : Word :=
  BitVec.ofNat 32 (leAt ((List.range 4).map (fun i => sget (fun _ => (0 : Byte)) x.mem.sram (a + i))) 0 4)

/-- The access of the 66-bit register at Update-DR.
Log entries 39 (DEDUCED), 63 (DEDUCED). -/
def UnitSt.flashprog (x : UnitSt) (write sram : Bool) (a : Nat) (data : Word) (t : Instant) : UnitSt :=
  let done (x : UnitSt) (w : Word) : UnitSt := { x with jtag := { x.jtag with rd := w, dr := w.toNat } }
  if a % 4 ≠ 0 then x
  else if sram then
    (if !x.inSram a 4 then x
     else if write then x.sramPut a (leBytes 4 data.toNat)
     else done x (x.sramWord a))
  else if 0x1000 ≤ a then x
  else if write then x.regWrite (.core 0) (0x6000 + a) data t
  else done x (x.readable (0x6000 + a))

/-- JTAG_FLASHPROG_ACCESS: acts while the instruction stands and there is no valid image. -/
def execJtagFlashprogAccess (u : UnitId) (write sram : Bool) (addr data : Word) (at_ : Instant) (s : State) :
    Host.Outcome State Fault Refusal :=
  unitStep s u (fun x =>
    if x.jtag.ir = 0x10 ∧ x.bit FLS_ERR.NOIMG then x.flashprog write sram addr.toNat data at_ else x)

end Sys2Proof.Machine
end

