-- ==== Sys2Proof/Machine/Boundary.lean ====
section
/-! DEFINITION. The boundary of a period at a unit (R41, R58, R60), a period change taking effect (R62), and the compute
start (R32 to R35, R273, R302). -/
namespace Sys2Proof.Machine

/-! Boundaries. -/

/-- PN advances; a unit whose base has been set counts PN 0 at base (R58, R60). The boundary is t0(PN) of the base in force, also
where a base taken from the partner puts it before the time the unit had.
Log entry 227 (DESIGN CHOICE). -/
def UnitSt.nextPn (x : UnitSt) : UnitSt :=
  let x : UnitSt := if x.tim.counting then x.setPn (x.pn + 1) else { x with tim := { x.tim with counting := true } }
  (x.setNow (x.t0 x.pn)).atBoundary

/-- PERIOD_BOUNDARY: t0 of the next period, and the period token to every island; a unit without base counts no periods. A Ream still
being written keeps the contents of the period that ends (R472). -/
def execPeriodBoundary (u : UnitId) (s : State) : Host.Outcome State Fault Refusal :=
  unitStep s u (fun x =>
    if !x.tim.baseSet then x
    else (((((x.reamForm.reelBoundary.nextPn).reelBegin).minBoundary).loopBoundary).clpBoundary).escBoundary)

/-- The length of the period changes to `t` at the boundary of `p`: base := t0(p) − p × T_new, and T := T_new. -/
def UnitSt.changeT (x : UnitSt) (p t : Nat) : UnitSt :=
  let b := (x.t0 p + 2 ^ 80 - p * (t * 250 * ns) % 2 ^ 80) % 2 ^ 80
  (((x.reelBudget t).setBase b).set TIM_PERIOD.T t).clpPeriod

/-- The boundary of PN_eff at the unit that asked for the change: RES reads done, or where the unit has left Hold meanwhile, that
it was refused.
Log entry 169 (DESIGN CHOICE). -/
def UnitSt.ownChange (x : UnitSt) : UnitSt :=
  match x.tim.pchg with
  | some (p, t) =>
    if x.tim.pchgGo ∧ p = x.pn then (if x.inHold then (x.changeT p t).pchgEnd 1 else x.pchgEnd 2) else x
  | none => x

/-- The boundary of PN_eff at the partner.
Log entry 169 (DESIGN CHOICE). -/
def UnitSt.peerChange (x : UnitSt) : UnitSt :=
  match x.tim.peer with
  | some (p, t) =>
    if p = x.pn then
      let x := if x.inHold then x.changeT p t else x
      { x with tim := { x.tim with peer := none } }
    else x
  | none => x

/-- PCHG_EFFECT: the boundary of PN_eff (R62, R377). -/
def execPchgEffect (u : UnitId) (s : State) : Host.Outcome State Fault Refusal :=
  unitStep s u (fun x => x.peerChange.ownChange)

/-! The compute start. -/

/-- Strand ports, relay and rates at a compute start (R112, R126, R134, R138), and the holdover of R54. -/
def UnitSt.portsCompute (x : UnitSt) : UnitSt :=
  let x := x.livePorts.foldl UnitSt.portCompute x
  let x := x.relayCompute
  let x := (List.range 100).foldl UnitSt.rateCompute x
  let x := x.livePorts.foldl (fun (x : UnitSt) sp => x.measureKick sp.2) x
  x.holdover

/-- Whether the unit reaches cell `k`, by its own port or by relay (R284, R412). -/
def UnitSt.reaches (x : UnitSt) (k : Nat) : Bool :=
  match x.portOf (k / 64) with | some p => x.canReach p (k % 64) | none => false

/-- Automatic clears of cells that report no holder (R412).
Log entry 217 (DEDUCED). -/
def UnitSt.autoClear (x : UnitSt) : UnitSt :=
  if !x.isHolder || !x.bit LSE_CFG.AUTOCLR then x
  else
    let dly := max 1 (x.fld LSE_CFG.CLRDLY)
    let pn := x.pn
    (x.views.filter (fun kv => decide (dly ≤ kv.2.noHold) && x.reaches kv.1 &&
        (match kv.2.clrAt with | none => true | some p => decide (p + dly ≤ pn)))).foldl
      (fun x kv =>
        let (id, x) := x.submit6 (writeDesc false (kv.1 / 64) (kv.1 % 64) 0x5098 0x1EA5 0)
        if id = 0 then x
        else (x.inc LSE_CNT3.ACLR).onView kv.1 (fun v => { v with clrAt := some pn })) x

/-- The lease and Headbox evaluations (R406 to R412, R422, R449); `pact` is the level of the partner's ACTIVE line. -/
def UnitSt.evaluate (x : UnitSt) (pact : Bool) : UnitSt :=
  let x := if x.works 0x20000 then x.hbxCompute else x
  let x := if x.works 0x32000 then ((x.leaseCompute pact).autoClear).mirrorCompute.showReady else x
  x

/-- Caliper, the loop engines and the start of the Ream publication; `y` is the partner, and `mis` names the spare engines
whose spot check finds a difference (R329). -/
def UnitSt.compute (x y : UnitSt) (mis : List Nat) : UnitSt :=
  let x : UnitSt := { x with cal := { x.cal with late := false, prev := if x.cal.late then x.cal.prev else x.cal.slots } }
  (((x.clpCompute y).recordsStand).loopCompute mis).keepForecast.reamStart

/-- COMPUTE_START: c of the running period. The relay the holder asks for takes effect at the partner as well (R126).
Log entries 73 (DEDUCED), 110 (DESIGN CHOICE). -/
def execComputeStart (u : UnitId) (pact : Bool) (mis : List Nat) (s : State) : Host.Outcome State Fault Refusal :=
  let x := s.unit u
  let y := s.unit u.other
  if !x.tim.counting || x.inQuiet || x.boot != .up then .next s
  else
    let x := ((x.tick (x.t0 x.pn + x.compOfs)).portsCompute.evaluate pact).compute y mis
    let y := if x.isHolder && x.splUp then y.showRelay x.relayed else y
    .next ((s.setUnit u x).setUnit u.other y)

end Sys2Proof.Machine
end

