-- ==== Sys2Proof/Machine/CellFrames.lean ====
section
/-! DEFINITION. What a cell does with frames and fault sets on its strand ports (R64, R69, R72 to R80, R88 to R138, R399,
R400, R656): command frames, time, management entries, status frames, tails, enumeration, rates. -/
namespace Sys2Proof.Machine

/-- Whether the port of a side receives: the LNK island runs, the page is enabled, the receiver is in lock. -/
def CellSt.hears (x : CellSt) (s : Side) : Bool := x.locked s && x.works (0x1000 + 0x1000 * sideIx s)

/-! Replies (R105). -/

/-- Queues a reply; with 16 waiting, the oldest is dropped.
Log entries 165 (DEDUCED), 186 (DEDUCED). -/
def CellSt.reply (x : CellSt) (u : UnitId) (tag : Nat) (rdata : Word) (rerr : Bool) : CellSt :=
  let full := decide (16 ≤ x.replies.length)
  let q := if full then x.replies.drop 1 else x.replies
  { x with replies := q ++ [{ req := u, tag := tag, rdata := rdata, rerr := rerr, pn := x.pn }] }

def CellSt.replyCode (_ : CellSt) (u : UnitId) (tag : Nat) (cx : Nat × CellSt) : CellSt :=
  cx.2.reply u tag (BitVec.ofNat 32 cx.1) false

/-! Entries (R101, R102, R106, R137, R138, R656). -/

/-- BYPASS: a single hop, the key, and a frame whose Watermark is accepted as the holder's. -/
def CellSt.entryBypass (x : CellSt) (data : Word) (single holder : Bool) : Nat × CellSt :=
  if single && holder && data == 0x5A5A5A5A then (rcOk, x.fire 1) else (rcRefused, x)

/-- CALREQ (R182). -/
def CellSt.entryCalreq (x : CellSt) (data : Word) (t : Instant) : Nat × CellSt :=
  match data.toNat with
  | 0 => (rcEmpty, x)
  | 1 => x.calRotate t
  | 2 => x.calSpare
  | 3 => x.calReload
  | _ => (rcBadOp, x)

/-- INJECT (R169, R172). -/
def CellSt.entryInject (x : CellSt) (data : Word) (t : Instant) : Nat × CellSt :=
  let mask := data.toNat % 16
  if mask = 0 then (rcEmpty, x)
  else
    let (e, y) := x.modEdge t
    match y.inject mask (data.toNat / 16 % 4) e with
    | some y => (rcOk, y)
    | none => (rcRefused, x)

/-- RESET: the reset is made once its reply has left the cell (R656), so the reply is marked. -/
def CellSt.entryReset (x : CellSt) (u : UnitId) (tag : Nat) (data : Word) : CellSt :=
  if data = 0xC3 then
    let x := x.replyCode u tag (rcOk, x)
    { x with replies := x.replies.dropLast ++ x.replies.getLast?.toList.map (fun r => { r with reset := true }) }
  else x.replyCode u tag (rcRefused, x)

/-- RATE. -/
def CellSt.entryRate (x : CellSt) (addr data : Word) : Nat × CellSt :=
  let ahead := (addr - BitVec.ofNat 32 (x.pn % 2 ^ 32)).toNat
  if addr.toNat % 64 ≠ 0 ∨ ahead < 2 ∨ 2 ^ 31 ≤ ahead then (rcRefused, x)
  else (rcOk, { x with rate := some (addr.toNat, data.toNat % 2) })

/-- The bytes of a cell's SRAM (R8).
Log entry 187 (DESIGN CHOICE). -/
def cellSram : Nat := 512 * 1024

/-- A bulk block writes its payload into the download buffer, which lies in the SRAM of the core (R8, R578).
Log entries 159 (DEDUCED), 175 (DESIGN CHOICE), 187 (DESIGN CHOICE). -/
def CellSt.entryBulk (x : CellSt) (len off : Nat) (data : Bytes) : Nat × CellSt :=
  if len = 0 then (rcEmpty, x)
  else if 112 < len ∨ cellSram < off + len then (rcRefused, x)
  else if !x.islandOn .core then (rcOff, x)
  else
    let f (m : Sparse Byte) (i : Nat) : Sparse Byte := sset (fun _ => 0) m (off + i) (BitVec.ofNat 8 (byteAt data i))
    (rcOk, { x with mem := { x.mem with sram := (List.range len).foldl f x.mem.sram } })

/-- One entry of a management window of unit `u`, executed at `t`.
Log entry 165 (DEDUCED). -/
def CellSt.entry (x : CellSt) (u : UnitId) (op tag : Nat) (addr data mask : Word) (single holder : Bool) (t : Instant) :
    CellSt :=
  match op with
  | 0 => x
  | 1 =>
    let (w, e, x) := x.regRead (.unit u) addr.toNat
    x.reply u tag w e
  | 2 => x.replyCode u tag (if mask = 0 then (rcEmpty, x) else x.regWrite (.unit u) addr.toNat data mask t)
  | 3 => x.replyCode u tag (x.entryBypass data single holder)
  | 4 => x.replyCode u tag (x.entryCalreq data t)
  | 5 => x.replyCode u tag (x.entryInject data t)
  | 6 => x.entryReset u tag data
  | 7 => x.replyCode u tag (x.entryRate addr data)
  | _ => x.replyCode u tag (rcBadOp, x)

/-- Whether the cell takes entries: its links run and it holds a hop index (R135). -/
def CellSt.takesEntries (x : CellSt) : Bool := x.islandOn .lnk && x.hopValid

/-- A row of the command table that executes an entry by itself. -/
def CellSt.ifEntries (x : CellSt) (f : CellSt → CellSt) : CellSt := if x.takesEntries then f x else x

def execEntryRead (c : CellId) (u : UnitId) (tag : Fin 8) (addr : Word) (s : State) : Host.Outcome State Fault Refusal :=
  cellStep s c (fun x => x.ifEntries (fun x => x.entry u 1 tag.val addr 0 0 true true 0))

def execEntryWrite (c : CellId) (u : UnitId) (tag : Fin 8) (addr data mask : Word) (at_ : Instant) (s : State) :
    Host.Outcome State Fault Refusal :=
  cellStep s c (fun x => x.ifEntries (fun x => x.entry u 2 tag.val addr data mask true true at_))

def execEntryBypass (c : CellId) (u : UnitId) (tag : Fin 8) (data : Word) (single holder : Bool) (s : State) :
    Host.Outcome State Fault Refusal :=
  cellStep s c (fun x => x.ifEntries (fun x => x.entry u 3 tag.val 0 data 0 single holder 0))

def execCalreqRotate (c : CellId) (u : UnitId) (tag : Fin 8) (at_ : Instant) (s : State) : Host.Outcome State Fault Refusal :=
  cellStep s c (fun x => x.ifEntries (fun x => x.entry u 4 tag.val 0 1 0 true true at_))

def execCalreqSparecal (c : CellId) (u : UnitId) (tag : Fin 8) (s : State) : Host.Outcome State Fault Refusal :=
  cellStep s c (fun x => x.ifEntries (fun x => x.entry u 4 tag.val 0 2 0 true true 0))

def execCalreqReload (c : CellId) (u : UnitId) (tag : Fin 8) (s : State) : Host.Outcome State Fault Refusal :=
  cellStep s c (fun x => x.ifEntries (fun x => x.entry u 4 tag.val 0 3 0 true true 0))

def execEntryInject (c : CellId) (u : UnitId) (tag : Fin 8) (data : Word) (at_ : Instant) (s : State) :
    Host.Outcome State Fault Refusal :=
  cellStep s c (fun x => x.ifEntries (fun x => x.entry u 5 tag.val 0 data 0 true true at_))

def execEntryReset (c : CellId) (u : UnitId) (tag : Fin 8) (data : Word) (s : State) : Host.Outcome State Fault Refusal :=
  cellStep s c (fun x => x.ifEntries (fun x => x.entry u 6 tag.val 0 data 0 true true 0))

def execEntryRate (c : CellId) (u : UnitId) (tag : Fin 8) (addr data : Word) (s : State) : Host.Outcome State Fault Refusal :=
  cellStep s c (fun x => x.ifEntries (fun x => x.entry u 7 tag.val addr data 0 true true 0))

def execEntryBulk (c : CellId) (u : UnitId) (tag : Fin 8) (len : Fin 256) (off : Word) (data : Bytes) (s : State) :
    Host.Outcome State Fault Refusal :=
  cellStep s c (fun x => x.ifEntries (fun x => x.replyCode u tag.val (x.entryBulk len.val off.toNat data)))

/-- Whether DEST names this cell. -/
def CellSt.named (x : CellSt) (dest : Nat) : Bool :=
  bitAt dest 7 && (dest % 128 == 0x7F || dest % 128 == x.hop)

/-- The window of a frame of unit `u`, executed at `t`.
Log entries 165 (DEDUCED), 174 (DESIGN CHOICE), 175 (DESIGN CHOICE). -/
def CellSt.window (x : CellSt) (u : UnitId) (w : Bytes) (bulk holder : Bool) (t : Instant) : CellSt :=
  if bulk then
    (if x.named (byteAt w 0) && byteAt w 1 == 0x10
     then x.replyCode u (byteAt w 2 % 8) (x.entryBulk (byteAt w 3) (leAt w 4 4) (w.drop 12)) else x)
  else
    (List.range 8).foldl (fun x i =>
      let e := slice w (16 * i) 16
      let word (n : Nat) : Word := BitVec.ofNat 32 (leAt e n 4)
      if x.named (byteAt e 0) then
        x.entry u (byteAt e 1) (byteAt e 2 % 8) (word 4) (word 8) (word 12) (byteAt e 0 % 128 != 0x7F) holder t
      else x) x

/-! Cell time (R73 to R80). -/

/-- A stamp on the 250 ps grid of cell time (R72, R74).
Log entry 171 (DESIGN CHOICE). -/
def CellSt.gridStamp (x : CellSt) (stamp : Instant) : Int × CellSt :=
  let (k, x) := x.divFree ((stamp : Int) - x.tim.t0) qns
  ((x.tim.t0 : Int) + k * qns, x)

/-- t0 of period `pn` by the cell's own time. -/
def CellSt.t0Of (x : CellSt) (pn : Nat) : Int := (x.tim.t0 : Int) + ((pn : Int) - x.pn) * x.period

/-- The arrival error of a frame with header PN `pn` on the port of `side` (R74).
Log entry 33 (DESIGN CHOICE). -/
def CellSt.arrival (x : CellSt) (side : Side) (pn lofs : Nat) (stamp : Int) : Int :=
  let d : Int := (match side with
    | .a => x.fld CTIM_PDLY_A.PDLY
    | .b => x.fld CTIM_PDLY_B.PDLY : Nat) * 256
  stamp - (x.t0Of pn + (lofs * qns : Nat) + d + Config.serdesTrim x.key side)

/-- Shows an arrival error in units of 2^-8 ns: that of an accepted frame (R73) which acts on the servo, and none in Search.
Log entries 170 (DESIGN CHOICE), 171 (DESIGN CHOICE). -/
def CellSt.showErr (x : CellSt) (e : Int) : CellSt :=
  let (q, x) := x.divFree e 256
  x.set CTIM_ELAST.ELAST (ofInt 32 (clampInt (-(2 ^ 31)) (2 ^ 31 - 1) q))

/-- The servo returns to Acquire (R77). -/
def CellSt.servoLost (x : CellSt) : CellSt :=
  let x := if x.servo = 2 then x.err CTIM_ERR.UNLOCK else x
  ((x.set CTIM_SERVO.STATE 1).set CTIM_SERVO.LOCKCNT 0).holdCheck

/-- The phase correction of Locked: one step of the 31.25 ps interpolator either way, or none (R72, R77); its law is left
open. The modulator clock moves with cell time, and so does what has been sampled on it.
Log entries 31 (DESIGN CHOICE), 197 (DEDUCED). -/
def CellSt.servoCorrect (x : CellSt) : CellSt :=
  if x.tim.done then x
  else
    let (v, x) := x.draw
    let c : Int := (((v % 3 : Nat) : Int) - 1) * 2048
    let x : CellSt := { x with
      chs := x.chs.map (fun e => (e.1, { e.2 with
        anchor := ((e.2.anchor : Int) + c).toNat, inj := e.2.inj.map (fun j => (j.1, ((j.2 : Int) + c).toNat)) })),
      rot := { x.rot with doneAt := ((x.rot.doneAt : Int) + c).toNat,
                          injAt := x.rot.injAt.map (fun (t : Instant) => ((t : Int) + c).toNat) } }
    { x with tim := { x.tim with t0 := ((x.tim.t0 : Int) + c).toNat, done := true } }

/-- The time port's frame acts on the servo: `e` is its arrival error; with `ok` false its PN fails R64, which counts as an
error above 2.0 ns (R73).
Log entries 31 (DESIGN CHOICE), 170 (DESIGN CHOICE). -/
def CellSt.servoApply (x : CellSt) (side : Side) (e : Int) (ok : Bool) : CellSt :=
  let x := (x.set CTIM_SERVO.TPORT (sideIx side)).showErr e
  if !ok || decide ((2 * ns : Nat) < e.natAbs) then x.servoLost
  else ((if x.servo = 3 then x.set CTIM_SERVO.STATE 2 else x).servoCorrect).holdCheck

/-- In Search and Acquire the header sets PN, T and the phase (R73, R77): t0 moves by the arrival error `e`.
Log entry 172 (DESIGN CHOICE). -/
def CellSt.servoSet (x : CellSt) (side : Side) (bytes : Bytes) (e : Int) : CellSt :=
  let t0 := (x.t0Of (framePn bytes) + e).toNat
  let x := (x.setPn (framePn bytes)).set CTIM_PERIOD.T (byteAt bytes 15)
  let x := { x with tim := { x.tim with t0 := t0 } }
  (x.set CTIM_SERVO.STATE 1).set CTIM_SERVO.TPORT (sideIx side)

/-- Records this period's accepted frame on a side: its error, and whether its PN passes R64.
Log entry 170 (DESIGN CHOICE). -/
def CellSt.seenErr (x : CellSt) (side : Side) (e : Int) (ok : Bool) : CellSt :=
  match side with
  | .a => { x with tim := { x.tim with seenA := some (e, ok) } }
  | .b => { x with tim := { x.tim with seenB := some (e, ok) } }

/-- Records the error of this period's command frame on a side, whoever sent it (R74).
Log entry 171 (DESIGN CHOICE). -/
def CellSt.portErr (x : CellSt) (side : Side) (e : Int) : CellSt :=
  match side with
  | .a => { x with tim := { x.tim with errA := some e } }
  | .b => { x with tim := { x.tim with errB := some e } }

/-- A frame that counts as accepted for the servo (R73), with its arrival error. In Search its error is against no time of
the converter; in Acquire a B-side frame does not act after one on the A-side port.
Log entry 170 (DESIGN CHOICE). -/
def CellSt.servoFrame (x : CellSt) (side : Side) (bytes : Bytes) (e : Int) : CellSt :=
  let ok := framePn bytes == x.pn
  let second := side == .b && x.tim.seenA.isSome
  match x.servo with
  | 0 => (x.seenErr side e false).servoSet side bytes e
  | 1 => let x := x.seenErr side e true
         if second then x else (x.showErr e).servoSet side bytes e
  | _ => let x := x.seenErr side e ok
         if side = .a ∨ x.fld CTIM_SERVO.TPORT = 1 then x.servoApply side e ok else x

/-- The cross-check at the end of a period (R80): while the servo is Locked, the difference of the other port's error from
the time port's enters the filter, whose law over 256 periods is left open.
Log entry 32 (DESIGN CHOICE). -/
def CellSt.crossCheck (x : CellSt) : CellSt :=
  let (own, other) := if x.fld CTIM_SERVO.TPORT = 0 then (x.tim.errA, x.tim.errB) else (x.tim.errB, x.tim.errA)
  match x.servo, own, other with
  | 2, some e, some f =>
    let ds := ((f - e) :: x.tim.xdiff).take 256
    let z := clampInt (-(2 ^ 31)) (2 ^ 31 - 1) (Config.crossFilter ds)
    let x := { x with tim := { x.tim with xdiff := ds } }.set CTIM_XCHK.XCHK (ofInt 32 z)
    if 256 < z.natAbs then x.err CTIM_ERR.XCHK else x
  | _, _, _ => x

/-- SERVO_LOCKED: 64 consecutive periods within 0.5 ns. -/
def execServoLocked (c : CellId) (s : State) : Host.Outcome State Fault Refusal :=
  cellStep s c (fun x =>
    if x.servo = 1 ∧ 64 ≤ x.fld CTIM_SERVO.LOCKCNT then (x.set CTIM_SERVO.STATE 2).holdCheck else x)

/-- SERVO_HOLDOVER: a period without an accepted frame; with both ports out of lock the servo goes on to Search. -/
def execServoHoldover (c : CellId) (s : State) : Host.Outcome State Fault Refusal :=
  cellStep s c (fun x =>
    if x.servo = 2 ∧ x.tim.none_ then
      (if !x.locked .a && !x.locked .b then (x.set CTIM_SERVO.STATE 0).holdCheck else x.set CTIM_SERVO.STATE 3)
    else x)

/-- Closes the servo's period (R73, R77): a B-side frame counts where the A-side port brought none; LOCKCNT counts.
Log entry 34 (DESIGN CHOICE). -/
def CellSt.servoPeriod (x : CellSt) : CellSt :=
  let x := match x.tim.seenA, x.tim.seenB with
    | none, some (e, ok) => if 2 ≤ x.servo ∧ x.fld CTIM_SERVO.TPORT = 0 then x.servoApply .b e ok else x
    | _, _ => x
  let x := x.crossCheck
  let e := match x.tim.seenA with | some e => some e | none => x.tim.seenB
  let good := match e with | some (e, ok) => ok && decide (2 * e.natAbs ≤ ns) | none => false
  let x := x.set CTIM_SERVO.LOCKCNT (if good then satInc 8 (x.fld CTIM_SERVO.LOCKCNT) else 0)
  { x with tim := { x.tim with seenA := none, seenB := none, errA := none, errB := none, done := false, none_ := e.isNone } }

/-! Command frames (R64, R69, R97 to R101, R399, R402). -/

/-- Takes a slot and flags for the boundary of period `y`. -/
def CellSt.accept (x : CellSt) (y : Nat) (f : AccSt → AccSt) : CellSt :=
  let a : AccSt := if x.acc.pn = y then x.acc else { pn := y }
  { x with acc := f a }

/-- What a command or bulk frame does: `stamp` is the instant of its start-of-frame comma, `done` that of the last byte
of this cell's slot, `at_` that at which its window is executed.
Log entries 182 (DESIGN CHOICE), 183 (DEDUCED). -/
def CellSt.cmdFrame (x : CellSt) (side : Side) (bytes : Bytes) (stamp done at_ : Instant) : CellSt :=
  let x := x.emit side.other bytes
  let i := sideIx side
  let hok := hcrcOk bytes
  let wok := wcrcOk bytes
  let x := if hok || decide (bytes.length < 22) then x else x.inc CLNK_CNT1.HCRC i
  let x := if wok || decide (bytes.length < 42) then x else x.inc CLNK_CNT1.HCRC i
  let n := byteAt bytes 13 % 128
  let whole := decide (bytes.length = cmdLen n)
  let c32 := crc32Ok bytes (cmdLen n)
  let x := if whole && !c32 then x.inc CLNK_CNT2.CRC32 i else x
  if !hok then x
  else
  let early := decide (x.servo < 2)
  let (sg, x) := x.gridStamp stamp
  let e := x.arrival side (framePn bytes) (leAt bytes 10 3) sg
  let x := x.portErr side e
  if !wok then x
  else
    let u := srcUnit bytes
    let w := wmOf bytes
    let y := (framePn bytes + 1) % 2 ^ 48
    let own := decide (w.holder = u)
    let x := if own then x.servoFrame side bytes e else x
    let h := x.hop
    let sok := x.hopValid && decide (h < n) && cmdSlotOk bytes h
    let x := if x.hopValid && decide (h < n) && !sok && decide (48 + 6 * h ≤ bytes.length) then x.inc CLNK_CNT1.SLOT i else x
    let pnOk := early || framePn bytes == x.pn
    let x := if sok && !pnOk then x.inc CTIM_CNT.PNMIS else x
    let claims := own && pnOk && decide (2 ≤ w.llen) && decide (w.llen ≤ 8) && x.hopValid
    let x := if own && pnOk && x.hopValid && !claims then x.inc CPROT_LCNT2.LBAD else x
    let (acc, x) := if claims then x.leaseTest u w y x.isLow else (false, x)
    let late := decide (x.adoptAt < done)
    let x : CellSt := if acc then { x with hdr := (byteAt bytes 3 % 128, n, leAt bytes 16 4) } else x
    let x := if sok && pnOk && late && !x.isLow then x.inc CTIM_CNT.LATE else x
    let slot := leAt bytes (42 + 6 * h) 6
    let x := if acc && sok && !late && x.pow == .on && !x.isLow then
        x.accept y (fun a => match side with | .a => { a with slotA := some slot } | .b => { a with slotB := some slot })
      else x
    if !c32 then x
    else
      let fl := byteAt bytes 14
      let x := if acc then
          x.accept y (fun a => { a with flags := a.flags ||| fl % 16, stopped := a.stopped && !bitAt fl 3 }) else x
      if bitAt fl 4 && x.takesEntries then x.window u (slice bytes (42 + 6 * n) 128) (byteAt bytes 1 == 2) acc at_ else x

/-- Counts `n` code and disparity errors on the port of a side (R145).
Log entry 184 (DESIGN CHOICE). -/
def CellSt.codeErrs (x : CellSt) (side : Side) (n : Nat) : CellSt :=
  x.set CLNK_CNT3.CODE (min 0xFFFF (x.fld CLNK_CNT3.CODE (sideIx side) + n)) (sideIx side)

/-- A frame that the row in hand is not about: it is forwarded, and counted where its TYPE is not in the table (R88, R90). -/
def CellSt.passOn (x : CellSt) (side : Side) (bytes : Bytes) : CellSt :=
  let x := x.emit side.other bytes
  if 1 ≤ byteAt bytes 1 ∧ byteAt bytes 1 ≤ 4 then x else x.codeErrs side 1

/-- CMD_FRAME_RX. -/
def execCmdFrameRx (c : CellId) (side : Side) (rx : RxFrame) (stamp done at_ : Instant) (s : State) :
    Host.Outcome State Fault Refusal :=
  cellStep s c (fun x =>
    if !x.hears side then x
    else
      let x := x.codeErrs side rx.errs.toNat
      if byteAt rx.bytes 1 = 1 ∨ byteAt rx.bytes 1 = 2 then (x.cmdFrame side rx.bytes stamp done at_).tick at_
      else x.passOn side rx.bytes)

/-! Status (R65, R107 to R116). -/

/-- The fields of FLAGS but RERR and SETTLE (R109). -/
def CellSt.statusFlags (x : CellSt) : Nat :=
  x.fld CPROT_PWR.STATE % 4 * 1024 + b2n (x.bit CPROT_STAT.TRIP || x.prot.tripNew) * 256
    + b2n (x.bit CSW_BYPSTAT.FIRED) * 128 + b2n x.nocmd * 64
    + (if x.bit CPROT_LEASE.EXP then 0 else x.fld CPROT_LEASE.HOLDER) * 16 + x.servo * 4
    + b2n (x.fld CFLT_LATCH.LATCH != 0) * 2

/-- The cell latches its status at t0 + 0.4 µs.
Log entry 186 (DEDUCED). -/
def CellSt.statusLatch (x : CellSt) : CellSt :=
  let t := x.tim.t0 + 400 * ns
  let settle := (x.ch 0).injRes.isNone && x.bit CMEAS_RES.SETTLE 0
  let ((vcap, eff), x) := x.takeResult 0
  let ((vchk, _), x) := x.takeResult 1
  let ((temp, _), x) := x.takeResult 2
  let ((vaux, _), x) := x.takeResult 3
  let (deg, x) := x.tempOf temp
  let x : CellSt := { x with mem := { x.mem with tempMax := some (max deg (x.mem.tempMax.getD deg)) } }
  let up (z : Int) : Nat := z.toNat
  let due := x.replies.head?.filter (fun r => r.pn != x.pn)
  let (rtag, rdata, rerr) : Nat × Nat × Bool := match due with
    | none => (0, 0, false)
    | some r => (unitBit r.req * 8 + r.tag % 8, r.rdata.toNat, r.rerr)
  let bits := ofInt 10 deg * 2 ^ 110 + up vaux / 8192 % 1024 * 2 ^ 100 + rtag * 2 ^ 96 + rdata * 2 ^ 64
    + up vchk / 128 % 65536 * 2 ^ 48 + ageOf t eff * 2 ^ 32 + up vcap / 8 % 2 ^ 20 * 2 ^ 12
    + (x.statusFlags + b2n settle * 512 + b2n rerr)
  let rst := if due.any (fun r => r.reset) then x.rstPend.or (some { pn := x.pn, due := x.adoptAt }) else x.rstPend
  ({ x with status := some (x.pn, leBytes 15 bits), replies := if due.isSome then x.replies.drop 1 else x.replies,
            rstPend := rst, prot := { x.prot with tripNew := false } }).tick t

/-- Whether the cell latches its status in this period: in Idle only where a low-rate status frame is launched (R137, R139,
R183). -/
def CellSt.latches (x : CellSt) : Bool :=
  x.islandOn .lnk && (x.pow != .idle || x.pn % 64 == 0 && decide (x.rateFrom ≤ x.tim.t0))

/-- STATUS_LATCH. -/
def execStatusLatch (c : CellId) (s : State) : Host.Outcome State Fault Refusal :=
  cellStep s c (fun x => if x.latches then x.statusLatch else x)

/-- Notes that a frame of period `pn` toward `d` has taken the reply of a RESET with it (R656).
Log entry 186 (DEDUCED). -/
def CellSt.markReset (x : CellSt) (d : Side) (pn : Nat) : CellSt :=
  { x with rstPend := x.rstPend.map (fun p =>
      if p.pn = pn then (match d with | .a => { p with toA := true } | .b => { p with toB := true }) else p) }

/-- The status slot of this cell for a frame of period `pn`, where it has latched one in this period. -/
def CellSt.ownSlot (x : CellSt) (pn : Nat) : Option Bytes :=
  match x.status with
  | some (k, body) =>
    if k = x.pn ∧ x.hopValid then some (body ++ [BitVec.ofNat 8 (statCrc x.hop (pn % 256) body)]) else none
  | none => none

/-- Replaces bytes of a frame as it passes, as far as the frame goes (R110, R123). -/
def putBytes (bs : Bytes) (pos : Nat) (new : Bytes) : Bytes :=
  bs.take pos ++ new.take (bs.length - pos) ++ bs.drop (pos + new.length)

/-- Closes a frame as it leaves: its recomputed CRC-32, or the complement where the CRC-32 that came was wrong (R111).
Log entry 69 (DEDUCED). -/
def reclose (bs : Bytes) (len : Nat) (ok : Bool) : Bytes :=
  if bs.length = len then
    let c := crc32 (slice bs 1 (len - 7))
    bs.take (len - 6) ++ leBytes 4 (if ok then c else 2 ^ 32 - 1 - c) ++ bs.drop (len - 2)
  else bs

/-- A status frame arrives on the port of `side`: the cell writes its slot, or drops it while it is the tail.
Log entry 158 (DEDUCED). -/
def CellSt.statusFrame (x : CellSt) (side : Side) (bytes : Bytes) : CellSt :=
  let d := side.other
  let hok := statHcrcOk bytes
  let x := if hok || decide (bytes.length < 26) then x else x.inc CLNK_CNT1.HCRC (sideIx side)
  let x := x.onLnk side (fun l => { l with seen := true, goodNow := l.goodNow || hok })
  if x.bit CLNK_STAT.TAIL (sideIx d) then x.inc CLNK_CNT3.TAILDROP (sideIx side)
  else
    let n := byteAt bytes 10 % 128
    let len := statLen n
    let ok := crc32Ok bytes len
    let x := if bytes.length = len ∧ !ok then x.inc CLNK_CNT2.CRC32 (sideIx side) else x
    let pn := leAt bytes 4 6
    match x.ownSlot pn with
    | some sl =>
      if x.hop < n then
        let x := x.emit d (reclose (putBytes bytes (26 + 16 * x.hop) sl) len ok)
        if 26 + 16 * x.hop + 16 ≤ bytes.length then x.markReset d pn else x
      else x.emit d (reclose bytes len ok)
    | none => x.emit d (reclose bytes len ok)

/-- STATUS_FRAME_PASS. -/
def execStatusFramePass (c : CellId) (side : Side) (bytes : Bytes) (s : State) : Host.Outcome State Fault Refusal :=
  cellStep s c (fun x =>
    if !x.hears side then x else if byteAt bytes 1 = 3 then x.statusFrame side bytes else x.passOn side bytes)

/-- TAIL_BECOME: the far receiver is out of lock, or has brought no status header for 2 periods. -/
def execTailBecome (c : CellId) (d : Side) (s : State) : Host.Outcome State Fault Refusal :=
  cellStep s c (fun x =>
    if x.islandOn .lnk && x.hopValid && (!x.locked d.other || decide (2 ≤ (x.lnk d.other).quiet)) then
      (x.set CLNK_STAT.TAIL 1 (sideIx d)).onLnk d.other (fun l => { l with good := 0 })
    else x)

/-- The slots of a status frame this cell originates toward `d`: its own, absent ones beyond it, and what the cells on
the way will overwrite.
Log entry 173 (DESIGN CHOICE). -/
def CellSt.tailSlots (x : CellSt) (d : Side) : Nat → Nat → CellSt × Bytes
  | _, 0 => (x, [])
  | h, n + 1 =>
    let (x, one) : CellSt × Bytes :=
      if h = x.hop then
        (x, match x.ownSlot x.pn with | some sl => sl | none => statSlotBytes h x.pn 0)
      else if (match d with | .a => decide (x.hop < h) | .b => decide (h < x.hop)) then (x, absentSlot h x.pn)
      else
        let (v, x) := x.draw
        (x, leBytes 16 v)
    let (x, rest) := x.tailSlots d (h + 1) n
    (x, one ++ rest)

/-- Whether the cell launches a status frame in this period: at low rate in the first period of each cycle (R139), and after a
change of rate from the first period whose t0 lies at least 64 µs after its boundary (R137). -/
def CellSt.launches (x : CellSt) : Bool := decide (x.rateFrom ≤ x.tim.t0) && (!x.isLow || x.pn % 64 == 0)

/-- TAIL_ORIGINATE. -/
def execTailOriginate (c : CellId) (d : Side) (s : State) : Host.Outcome State Fault Refusal :=
  cellStep s c (fun x =>
    if x.islandOn .lnk && x.hopValid && x.bit CLNK_STAT.TAIL (sideIx d) && x.launches
        && x.works (0x1000 + 0x1000 * sideIx d) then
      let (strand, n, cfgd) := x.hdr
      let (x, slots) := x.tailSlots d 0 n
      let hdr := statHeader d true strand x.pn n x.hop cfgd
      let x := x.emit d (statFrame hdr slots)
      (if x.hop < n then x.markReset d x.pn else x).tick (x.tim.t0 + x.fld CLNK_TAILOFS.STAT 0 * 10 * ns)
    else x)

/-- TAIL_END: status frames have arrived with a correct HCRC in 2 consecutive periods. -/
def execTailEnd (c : CellId) (d : Side) (s : State) : Host.Outcome State Fault Refusal :=
  cellStep s c (fun x =>
    if x.bit CLNK_STAT.TAIL (sideIx d) && x.locked d.other && decide (2 ≤ (x.lnk d.other).good)
    then x.set CLNK_STAT.TAIL 0 (sideIx d) else x)

/-- Closes a period of the status frames on both ports (R114, R116).
Log entries 34 (DESIGN CHOICE), 158 (DEDUCED), 189 (DEDUCED). -/
def CellSt.linkPeriod (x : CellSt) : CellSt :=
  [UnitId.a, UnitId.b].foldl (fun x s => x.onLnk s (fun l =>
    { l with quiet := if l.seen then 0 else l.quiet + 1, good := if l.goodNow then l.good + 1 else 0,
             seen := false, goodNow := false })) x

/-! Fault sets (R117 to R123). -/

/-- Acts on a fault set of code `code` from unit `o`, forwards it, counts the frame it cut, and says whether it is the first
of its kind in this period. -/
def CellSt.faultSet (x : CellSt) (side : Side) (code : Nat) (o : UnitId) (cut : Bool) : Bool × CellSt :=
  let x := x.emit side.other (Sys2Proof.Machine.faultSet (BitVec.ofNat 8 code) o)
  let i := sideIx side
  let x := if cut then x.inc CLNK_CNT2.ABORT i else x
  if (x.lnk side).acted.contains (code, unitBit o) then (false, x)
  else
    let x := x.onLnk side (fun l => { l with acted := (code, unitBit o) :: l.acted })
    (true, ((x.set CLNK_FSYM.CODE code i).set CLNK_FSYM.ORIG (unitBit o) i).inc CLNK_FSYM.CNT i)

/-- STOP_RX: the gates go off and the STOP block is set (R120); `cut` where the set cut a frame. -/
def execStopRx (c : CellId) (side : Side) (o : UnitId) (cut : Bool) (at_ : Instant) (s : State) :
    Host.Outcome State Fault Refusal :=
  cellStep s c (fun x =>
    if !x.hears side then x
    else
      let (first, x) := x.faultSet side 0x1E o cut
      if first then
        (({ (x.tick at_) with acc := { x.acc with stopped := true } }).setBoth CLNK_STAT.STOPB 1).holdCheck
      else x)

/-- ABORT_RX: a set whose code byte is that of no action is a code error, and is forwarded (R117).
Log entry 185 (DEDUCED). -/
def execAbortRx (c : CellId) (side : Side) (o : FaultCode) (cut : Bool) (s : State) :
    Host.Outcome State Fault Refusal :=
  cellStep s c (fun x =>
    if !x.hears side then x
    else if o.code = 0x2D then (x.faultSet side 0x2D o.origin cut).2
    else (x.emit side.other (faultSet o.code o.origin)).codeErrs side 1)

/-! Locks, searches and rates (R89, R136 to R138, R250, R251). -/

/-- Whether the receiver of a side listens at the low rate: the rate of its search, or that of its port (R138, R251).
Log entry 188 (DEDUCED). -/
def CellSt.listensLow (x : CellSt) (side : Side) : Bool :=
  if (x.lnk side).search then (x.lnk side).srchLow else x.bit CLNK_STAT.RATE (sideIx side)

/-- The port of a side of a cell takes lock at the rate it listens at; at full rate after a reset or a wake the cell leaves
Idle (R250, R251).
Log entry 188 (DEDUCED). -/
def CellSt.linkLock (x : CellSt) (side : Side) (low : Bool) (t : Instant) : CellSt :=
  if !x.works (0x1000 + 0x1000 * sideIx side) || low != x.listensLow side then x
  else
    let x := (x.set CLNK_STAT.LOCK 1 (sideIx side)).set CLNK_STAT.RATE (b2n low) (sideIx side)
    let x := (x.onLnk side (fun l => { l with lostAt := none, search := false })).tick t
    if x.pow = .idle ∧ !low ∧ x.waking then x.enterBlocked t else x

/-- The port of a side of a cell loses lock; `errs` code and disparity errors were decoded since its last frame. -/
def CellSt.linkLoss (x : CellSt) (side : Side) (errs : Nat) (t : Instant) : CellSt :=
  if !x.locked side then x
  else
    let x := x.codeErrs side errs
    let x := (x.set CLNK_STAT.LOCK 0 (sideIx side)).err CLNK_ERR.LOCKLOSS (sideIx side)
    let x := (x.onLnk side (fun l => { l with lostAt := some t })).tick t
    if x.servo = 3 ∧ !x.locked side.other then (x.set CTIM_SERVO.STATE 0).holdCheck else x

/-- LINK_LOCK: a strand port of a unit or a cell, or a physical Splice lane, takes lock. -/
def execLinkLock (e : LinkEnd) (low : Bool) (at_ : Instant) (s : State) : Host.Outcome State Fault Refusal :=
  match e with
  | .cell c side => cellStep s c (fun x => x.linkLock side low at_)
  | .unit u p => unitStep s u (fun x =>
      ((x.set STRP_STAT.LOCK 1 p.val).onPort p.val (fun q => { q with lockAt := some at_ })).tick at_)
  | .lane u n => unitStep s u (fun x => if x.inQuiet then x else
      (x.set SPL_LSTAT.LOCK 1 n.val).showLanes)

/-- LINK_LOCK_LOSS: a port in TRAIN, ENUM or MEASURE returns to TRAIN (R136); a Splice lane is retired (R424). -/
def execLinkLockLoss (e : LinkEnd) (loss : LockLoss) (s : State) : Host.Outcome State Fault Refusal :=
  match e with
  | .cell c side => cellStep s c (fun x => x.linkLoss side loss.errs.toNat loss.at_)
  | .unit u p => unitStep s u (fun x =>
      if !x.bit STRP_STAT.LOCK p.val then x
      else
        let x := ((x.codeErrs p.val loss.errs.toNat).set STRP_STAT.LOCK 0 p.val).err STRP_ERR.LOCKLOSS p.val
        let x := (x.onPort p.val (fun q => { q with lockAt := none })).tick loss.at_
        if 3 ≤ x.pstate p.val ∧ x.pstate p.val ≤ 4 then
          (x.setPstate p.val 2).onPort p.val (fun q => { q with echo := none })
        else x)
  | .lane u n => unitStep s u (fun x => if x.inQuiet then x else x.laneLost n)

/-- PORT_SEARCH_TOGGLE: a port that has searched for 1 ms at a rate goes on at the other. -/
def execPortSearchToggle (c : CellId) (p : SideAt) (s : State) : Host.Outcome State Fault Refusal :=
  cellStep s c (fun x =>
    if x.islandOn .lnk && !x.locked p.side && (x.lnk p.side).search && decide ((x.lnk p.side).srchAt + 1000 * us ≤ p.at_)
    then x.onLnk p.side (fun l => { l with srchLow := !l.srchLow, srchAt := p.at_ }) else x)

/-- CELL_LINE_SEARCH: both receivers have been out of lock for 10 ms. -/
def execCellLineSearch (c : CellId) (at_ : Instant) (s : State) : Host.Outcome State Fault Refusal :=
  cellStep s c (fun x =>
    match x.lnkA.lostAt, x.lnkB.lostAt with
    | some a, some b =>
      if x.islandOn .lnk && decide (max a b + 10000 * us ≤ at_) then
        { x with lnkA := { x.lnkA with search := true, srchLow := false, srchAt := at_ },
                 lnkB := { x.lnkB with search := true, srchLow := false, srchAt := at_ } }
      else x
    | _, _ => x)

/-- The effective boundary of a RATE entry at the cell: both ports switch (R137). -/
def CellSt.rateSwitch (x : CellSt) : CellSt :=
  match x.rate with
  | some (a, r) =>
    if x.pn % 2 ^ 32 = a then
      let x := { x with rate := none, rateFrom := x.tim.t0 + 64 * us }.setBoth CLNK_STAT.RATE r
      if r = 1 ∧ x.pow = .on then x.enterIdle x.tim.t0
      else if r = 0 ∧ x.pow = .idle then (x.enterBlocked x.tim.t0).measResume x.tim.t0
      else x
    else x
  | none => x

/-! Enumeration (R130 to R132, R581). -/

/-- The unit an enumeration frame came from. -/
def enumSrc (bytes : Bytes) : UnitId := unitOfBit (byteAt bytes 2 / 128)
def enumBack (bytes : Bytes) : Bool := bitAt (byteAt bytes 2) 6

/-- Changes byte `i` of an enumeration frame and closes it again.
Log entry 68 (DEDUCED). -/
def enumChange (bytes : Bytes) (i : Nat) (v : Nat) : Bytes :=
  reclose (putBytes bytes i [BitVec.ofNat 8 v]) 110 (enumOk bytes)

/-- Sets BACK.
Log entry 68 (DEDUCED). -/
def enumReturn (bytes : Bytes) : Bytes := enumChange bytes 2 (byteAt bytes 2 ||| 64)

/-- An enumeration frame that the cell only forwards from the port of `side`.
Log entry 69 (DEDUCED). -/
def CellSt.forward (x : CellSt) (side : Side) (bytes : Bytes) : CellSt := x.emit side.other bytes

/-- The hop index an ASSIGN gives (R131).
Log entry 180 (DESIGN CHOICE). -/
def assignHop (bytes : Bytes) : Int :=
  match enumSrc bytes with
  | .a => (byteAt bytes 5 : Nat)
  | .b => ((byteAt bytes 7 % 128 : Nat) : Int) - 1 - (byteAt bytes 5 : Nat)

/-- ASSIGN on the port of `side`.
Log entries 68 (DEDUCED), 180 (DESIGN CHOICE), 181 (DEDUCED). -/
def CellSt.enumAssign (x : CellSt) (side : Side) (bytes : Bytes) : CellSt :=
  if enumBack bytes then x.forward side bytes
  else
    let out := enumChange bytes 5 (byteAt bytes 5 + 1)
    let x := if x.locked side.other then x.emit side.other out
      else x.emit side (reclose (putBytes out 2 [BitVec.ofNat 8 (byteAt bytes 2 ||| 64)]) 110 (enumOk bytes))
    let h := assignHop bytes
    if !enumOk bytes ∨ h < 0 ∨ 63 < h then x
    else if x.hopValid && x.hopSide == some side.other then
      (if (x.hop : Int) = h then x else x.err CLNK_ERR.HOPMIS (sideIx side))
    else
      let x := ({ x with hopSide := some side }.setBoth CLNK_HOP.HOP h.toNat).setBoth CLNK_HOP.VALID 1
      (x.setBoth CLNK_HOP.STRAND (byteAt bytes 3 % 128)).setBoth CLNK_HOP.NCELL (byteAt bytes 7 % 128)

/-- A frame on the port of `side` for a row about enumeration frames: it acts where its TYPE and `eop` fit, any other frame
goes on; a whole enumeration frame with a wrong CRC-32 is counted (R88, R130, R145). -/
def CellSt.enumRx (x : CellSt) (side : Side) (bytes : Bytes) (eop : Bool) (f : CellSt → CellSt) : CellSt :=
  if !x.hears side then x
  else if byteAt bytes 1 ≠ 4 then x.passOn side bytes
  else
    let x := if bytes.length = 110 ∧ !enumOk bytes then x.inc CLNK_CNT2.CRC32 (sideIx side) else x
    if eop then f x else x.forward side bytes

/-- ENUM_ASSIGN. -/
def execEnumAssign (c : CellId) (side : Side) (bytes : Bytes) (s : State) : Host.Outcome State Fault Refusal :=
  cellStep s c (fun x => x.enumRx side bytes (byteAt bytes 4 == 1) (fun x => x.enumAssign side bytes))

/-- Whether the cell is the TARGET of an enumeration frame on its way out. -/
def CellSt.isTarget (x : CellSt) (bytes : Bytes) : Bool :=
  !enumBack bytes && x.hopValid && byteAt bytes 6 % 128 == x.hop

/-- ENUM_ECHO: the target returns the frame; the turnaround is the cell's own `CTIM_TURN`. -/
def execEnumEcho (c : CellId) (side : Side) (bytes : Bytes) (s : State) : Host.Outcome State Fault Refusal :=
  cellStep s c (fun x => x.enumRx side bytes (byteAt bytes 4 == 2) (fun x =>
    if x.isTarget bytes then x.emit side (enumReturn bytes) else x.forward side bytes))

/-- ENUM_IDREQ: the target takes the challenge, in place of one of the same unit; a cell that is not the target forwards the frame, as every cell does with an
IDRSP (R131).
Log entry 179 (DESIGN CHOICE). -/
def execEnumIdreq (c : CellId) (side : Side) (bytes : Bytes) (s : State) : Host.Outcome State Fault Refusal :=
  cellStep s c (fun x => x.enumRx side bytes (byteAt bytes 4 == 3) (fun x =>
    if x.isTarget bytes then
      (if enumOk bytes then
        { x with chal := x.chal.filter (fun e => e.1 != enumSrc bytes) ++ [(enumSrc bytes, slice bytes 8 32)] }
       else x)
    else x.forward side bytes))

/-- CELL_IDRSP_SEND: the signature over the oldest challenge, the strand, the hop index and the unit (R581). -/
def execCellIdrspSend (c : CellId) (s : State) : Host.Outcome State Fault Refusal :=
  cellStep s c (fun x =>
    match x.chal with
    | [] => x
    | (u, ch) :: more =>
      if !x.islandOn .core then x
      else
        let strand := x.fld CLNK_HOP.STRAND 0
        let msg : Bytes := ch ++ [BitVec.ofNat 8 strand, BitVec.ofNat 8 x.hop, BitVec.ofNat 8 (unitBit u)]
        { x with chal := more }.emit u
          (enumFrame u true strand 4 0 x.hop (x.fld CLNK_HOP.NCELL 0) (Config.sign x.key msg)))

/-! Strand-commanded reset (R656). -/

/-- CELL_STRAND_RESET: the reply has left both ways, or T − 0.3 µs has come. -/
def execCellStrandReset (c : CellId) (at_ : Instant) (s : State) : Host.Outcome State Fault Refusal :=
  cellStep s c (fun x =>
    match x.rstPend with
    | some p => if x.islandOn .lnk && (p.toA && p.toB || decide (p.due ≤ at_)) then x.resetTo 1 at_ else x
    | none => x)

end Sys2Proof.Machine
end

