-- ==== Sys2Proof/Machine/CellBoundary.lean ====
section
/-! DEFINITION. The boundary of a cell (R191 to R215, R230 to R235 and what other rules let take effect at a boundary)
and the effective boundary of a rate change (R137). -/
namespace Sys2Proof.Machine

/-- The settings that wait for the boundary take effect (R154, R181, R184, R654). -/
def CellSt.takePending (x : CellSt) (t0 : Instant) : CellSt :=
  let ws := x.bpend
  let olds := (List.range 4).map (fun n => x.word (0x3040 + 4 * n))
  let x : CellSt := { x with bpend := [], sw := { x.sw with
    oldDt := x.word 0x4044, oldMinp := x.word 0x4048, oldRefr := x.word 0x404C } }
  let x := ws.foldl (fun (x : CellSt) e =>
    let fs : List Fld := match pageOf cellPages e.1 with | some p => p.fields | none => []
    x.setWord e.1 (mergeWrite (x.word e.1) e.2 (accMask fs .rwl e.1) 0)) x
  let x := (List.range 4).foldl (fun x n => x.chcfgChanged n (olds.getD n 0) t0) x
  if ws.any (fun e => e.1 == 0x3064) then x.remap t0 else x

/-- The core reloads `CMEAS_CHCAL` and `CMEAS_TLIN` from FRAM (R182), where CORE runs; an area that fails its check leaves them
as they are (R577).
Log entry 233 (DESIGN CHOICE). -/
def CellSt.reloadCal (x : CellSt) : CellSt :=
  if x.mem.reload && x.islandOn .core then
    let x := { x with mem := { x.mem with reload := false } }
    if Config.framOk x.key 1 then x.loadCal else x.err CFRM_ERR.CAL
  else x

/-- PN advances, the time in Run or Blocked counts on (R550), and the period takes a new length where a change is armed for the
boundary (R63). -/
def CellSt.newPeriod (x : CellSt) : CellSt :=
  let t0 := x.tim.t0 + x.period
  let x : CellSt := { x with mem := { x.mem with opTime := x.mem.opTime + (if x.pow = .on then x.period else 0) } }
  let x := x.setPn (x.pn + 1)
  let x := ({ x with tim := { x.tim with t0 := t0 } }).tick t0
  if x.bit CTIM_PCHG.ARM ∧ x.fld CTIM_PCHGPN.PN = x.pn % 2 ^ 32 then
    (x.set CTIM_PERIOD.T (x.fld CTIM_PCHG.NEW_T)).set CTIM_PCHG.ARM 0
  else x

/-- DEBLOCK of an accepted holder's frame ends the STOP block, but neither one set on a FATAL latch nor one of a STOP after
the frame, and the orphan block of a cell that is no orphan (R120, R233). -/
def CellSt.deblock (x : CellSt) : CellSt :=
  let x := if x.bit CFLT_STAT.FATAL || x.acc.stopped then x else x.setBoth CLNK_STAT.STOPB 0
  (if x.bit CPROT_OSTAT.ORPHAN then x else x.set CPROT_OSTAT.OBLK 0).holdCheck

/-- Coast and orphan counts of a boundary (R230, R231, R235). -/
def CellSt.countCoast (x : CellSt) (t0 : Instant) : CellSt :=
  if x.pow != .on then { x with nocmd := false }
  else
    let coast := match x.sw.adopted with | some a => a.coast | none => true
    let x := { x with nocmd := coast }.set CPROT_OSTAT.COASTCNT (if coast then satInc 8 (x.fld CPROT_OSTAT.COASTCNT) else 0)
    if x.bit CPROT_OSTAT.ORPHAN then
      let x := { x with prot := { x.prot with orphN := x.prot.orphN + 1 } }
      x.set CPROT_OSTAT.OELAPSED (min 0xFFFF ((t0 - x.prot.orphAt) / (1000 * us)))
    else x

/-- Closes the link and servo counts of a period, which at low rate spans 64 periods (R73, R114, R139).
Log entry 34 (DESIGN CHOICE). -/
def CellSt.closePeriod (x : CellSt) : CellSt :=
  if x.isLow && x.pn % 64 != 63 then x else x.servoPeriod.linkPeriod

/-- A boundary of the cell. -/
def CellSt.boundary (x : CellSt) : CellSt :=
  let x := x.closePeriod
  let x : CellSt := { x with lnkA := { x.lnkA with acted := [] }, lnkB := { x.lnkB with acted := [] } }
  let x := x.newPeriod
  let pn := x.pn
  let t0 := x.tim.t0
  let flags := if x.acc.pn = pn then x.acc.flags else 0
  let commit := bitAt flags 2 || x.sw.cmtNext
  let sync := bitAt flags 0 || x.sync
  let x := ((x.takePending t0).reloadCal).patchBoundary.maskToken
  let x : CellSt := { x with disabled := x.disabledNow, sync := false, sw := { x.sw with cmtNext := false } }
  let x := if x.disabled.contains 0x6000 then x.supStop else x
  let x := if bitAt flags 3 then x.deblock else x
  let x := if commit && x.works 0x4000 then x.carrierCommit t0 else x
  let x := if x.works 0x3000 then x.measBoundary pn t0 sync else x
  let x := if bitAt flags 1 then x.snap t0 else x
  let x := x.countCoast t0
  let x := if x.works 0x6000 then x.huStart t0 else x
  x.swBoundary pn t0

/-- CELL_BOUNDARY. -/
def execCellBoundary (c : CellId) (s : State) : Host.Outcome State Fault Refusal :=
  cellStep s c (fun x => if x.islandOn .tim then x.boundary else x)

/-- RATE_SWITCH: at the effective boundary of a RATE entry the ports of the part switch. -/
def execRateSwitch (p : Part) (s : State) : Host.Outcome State Fault Refusal :=
  match p with
  | .cell c => cellStep s c CellSt.rateSwitch
  | .unit u => unitStep s u (fun x => (List.range 100).foldl (fun x p => x.rateSwitch p) x)

end Sys2Proof.Machine
end

