-- ==== Sys2Proof/Machine/ConfigLoad.lean ====
section
/-! DEFINITION. The configuration of a unit as firmware applies it (R12 to R18, R570 to R572). -/
namespace Sys2Proof.Machine

/-- The hop numbers of the full-bridge cells of a strand of `n` cells. -/
def bridgeHops (n mask : Nat) : List Nat := (List.range n).filter (fun h => bitAt mask h)

/-- Whether a strand entry agrees with the type of its arm (R13, R16, R17). -/
def strandOk (types : List Nat) (e : Nat × Nat × Nat) : Bool :=
  let (arm, n, mask) := e
  n == 0 || (decide (n ≤ 64) && (match types[arm]? with
    | some 0 => bridgeHops n mask == []
    | some 1 => (bridgeHops n mask).length == n
    | some 2 => true
    | _ => false))

/-- Whether arms and strands keep R12, R13, R16 and R17: every arm named has 1 to 16 strands and no more than 1024 cells.
Log entry 47 (DEDUCED). -/
def planOk (types : List Nat) (strands : List (Nat × Nat × Nat)) : Bool :=
  let used := strands.filter (fun e => e.2.1 != 0)
  decide (types.length ≤ 6) && decide (strands.length ≤ 96) && types.all (fun t => decide (t ≤ 2)) && used.all (strandOk types)
    && (List.range types.length).all (fun n =>
      let mine := used.filter (fun e => e.1 == n)
      decide (1 ≤ mine.length) && decide (mine.length ≤ 16) && decide ((mine.map (fun e => e.2.1)).sum ≤ 1024))

/-- The strand entries as the registers hold them. -/
def UnitSt.heldStrands (x : UnitSt) : List (Nat × Nat × Nat) :=
  (List.range 96).map (fun s =>
    match x.portOf s with
    | none => (0, 0, 0)
    | some p => (x.fld STRP_ASSIGN.ARM p, x.ncell p,
        (x.conf.fullBridge.filter (fun k => k / 64 == s)).foldl (fun m k => orBit m (k % 64)) 0))

/-- Whether the arms and strands that have been applied, register entries among them, keep R12, R13, R16 and R17. -/
def UnitSt.planHeld (x : UnitSt) : Bool :=
  planOk x.conf.types x.heldStrands && (List.range 100).all (fun p => decide (x.ncell p ≤ 64) && decide (x.fld STRP_ASSIGN.ARM p ≤ 5))

/-- The arm types of the CONVERTER blocks of a section. -/
def cfgTypes (bs : CfgBlocks) : List Nat := bs.flatMap (fun b => match b with | .converter _ _ _ ts => ts | _ => [])

/-- The strand entries of the STRANDS blocks of a section. -/
def cfgStrands (bs : CfgBlocks) : List (Nat × Nat × Nat) := bs.flatMap (fun b => match b with | .strands es => es | _ => [])

/-- Whether a register or a header register stands at `a` (R599, R607). -/
def unitHasReg (a : Nat) : Bool :=
  match pageOf unitPages a with
  | none => false
  | some p => a % 4 == 0 && (decide (a % 0x1000 < 0x30) || p.fields.any (fun f => f.covers a))

/-- A CONVERTER block: T where converter time has no base yet, LLEN, PREF and the arm types.
Log entries 46 (DESIGN CHOICE), 48 (DEDUCED). -/
def UnitSt.applyConverter (x : UnitSt) (t llen pref : Nat) (types : List Nat) : UnitSt × Bool :=
  if t < 20 ∨ 200 < t ∨ llen < 2 ∨ 8 < llen ∨ 1 < pref then (x, false)
  else
    let x := if x.tim.baseSet then x else x.set TIM_PERIOD.T t
    let x := (x.set LSE_CFG.LLEN llen).set LSE_CFG.PREF pref
    ({ x with conf := { x.conf with types := types } }, true)

/-- A STRANDS block: arm and NCELL of the port of each strand, and the full-bridge cells. -/
def UnitSt.applyStrands (x : UnitSt) (es : List (Nat × Nat × Nat)) : UnitSt :=
  let x := es.zipIdx.foldl (fun (x : UnitSt) e =>
    let p := (x.portOf e.2).getD e.2
    (x.set STRP_ASSIGN.ARM e.1.1 p).set STRP_ASSIGN.NCELL e.1.2.1 p) x
  let fb := es.zipIdx.flatMap (fun e => (bridgeHops e.1.2.1 e.1.2.2).map (fun h => e.2 * 64 + h))
  { x with conf := { x.conf with fullBridge := fb } }

/-- One REGS entry at `t`, and whether it stands: it does not where no register has its address, or where the write is refused,
which sets a detail bit of the register's page or of GEN. An entry for the other unit has no effect.
Log entry 49 (DEDUCED). -/
def UnitSt.applyReg (x : UnitSt) (e : Nat × Word × Word) (t : Instant) : UnitSt × Bool :=
  let a := e.1 % 0x1000000
  if !bitAt e.1 (match x.id with | .a => 30 | .b => 31) then (x, true)
  else if !unitHasReg a then (x, false)
  else
    let w := (x.word a &&& ~~~e.2.2) ||| (e.2.1 &&& e.2.2)
    let put (y : UnitSt) : UnitSt := y.guard (.core 0) true a (fun y => y.busWrite (.core 0) a w t)
    let b := a - a % 0x1000 + 0x14
    let clean := put ((x.setWord b 0).setWord 0x14 0)
    (put x, clean.word b == 0 && clean.word 0x14 == 0)

/-- The cells of a CELLREGS scope by key. -/
def UnitSt.scopeCells (x : UnitSt) (sc : CellScope) : List Nat :=
  match sc with
  | .all => (List.range 6).flatMap x.armCells
  | .arm n => x.armCells n
  | .strand n => match x.portOf n with | some p => strandCells n (x.ncell p) | none => []
  | .cell s h => [s * 64 + h]

/-- A CELLREGS block: firmware keeps it for step 7 of R583; the path asymmetries of the unit's own side serve MEASURE (R76).
Log entry 50 (DESIGN CHOICE). -/
def UnitSt.applyCellRegs (x : UnitSt) (sc : CellScope) (es : List (Nat × Word × Word)) : UnitSt :=
  let mine := match x.id with | .a => 0x7060 | .b => 0x7064
  es.foldl (fun (x : UnitSt) e =>
    if e.1 = mine then
      (x.scopeCells sc).foldl (fun (x : UnitSt) k =>
        let old := BitVec.ofInt 32 (sget (fun _ => (0 : Int)) x.conf.asym k)
        let w := (old &&& ~~~e.2.2) ||| (e.2.1 &&& e.2.2)
        { x with conf := { x.conf with asym := sset (fun _ => (0 : Int)) x.conf.asym k w.toInt } }) x
    else x) x

/-- One block at `t`, and whether it stands; an empty one has no effect (R560), and LOCK blocks are applied last.
Log entry 46 (DESIGN CHOICE). -/
def UnitSt.applyBlock (x : UnitSt) (b : CfgBlock) (t : Instant) : UnitSt × Bool :=
  match b with
  | .strands [] | .maintKeys [] => (x, true)
  | .converter p llen pref types => x.applyConverter p llen pref types
  | .strands es => (x.applyStrands es, true)
  | .regs es => es.foldl (fun (o : UnitSt × Bool) e => if o.2 then o.1.applyReg e t else o) (x, true)
  | .cellRegs sc es => (x.applyCellRegs sc es, true)
  | .maintKeys ks =>
    if 4 < ks.length then (x, false)
    else ({ x with conf := { x.conf with
      mkeys := ks.zipIdx.foldl (fun m k => sset (fun _ => ([] : Bytes)) m k.2 k.1) [] } }, true)
  | .lock _ => (x, true)
  | .unknown _ => (x, false)

/-- A LOCK block: writes 1 to LOCK of each page it lists. -/
def UnitSt.applyLock (x : UnitSt) (b : CfgBlock) (t : Instant) : UnitSt :=
  match b with
  | .lock ps => ps.foldl (fun (x : UnitSt) p => x.guard (.core 0) true (p * 0x1000 + 0x24) (fun y =>
      y.regWrite (.core 0) (p * 0x1000 + 0x24) 1 t)) x
  | _ => x

/-- A configuration is refused (R18, R586): the unit stays out of Run.
Log entries 49 (DEDUCED), 51 (DEDUCED). -/
def UnitSt.cfgRefuse (x : UnitSt) : UnitSt :=
  let x := x.set PWR_COND.LOADED 0
  let x := if x.inRun then x.enterHold else x
  { x with conf := { x.conf with refused := true } }

/-- The configuration digest (R571): SHA-384 of the CONFIG section in `GEN_CFGD0` to `GEN_CFGD11`; it is compared anew (R19).
Log entries 45 (DESIGN CHOICE), 51 (DEDUCED). -/
def UnitSt.setDigest (x : UnitSt) (sect : Bytes) : UnitSt :=
  let d := Config.sha384 sect
  ((List.range 12).foldl (fun (x : UnitSt) i => x.set GEN_CFGD.CFGD (leAt d (4 * i) 4) i) x).cfgdAgain

/-- Applies a configuration in section order, LOCK blocks last (R572).
Log entry 47 (DEDUCED). -/
def UnitSt.loadConfig (x : UnitSt) (bs : CfgBlocks) (sect : Bytes) (t : Instant) : UnitSt :=
  let x := (x.tick t).setDigest sect
  if !planOk (cfgTypes bs) (cfgStrands bs) then x.cfgRefuse
  else
    match bs.foldl (fun (o : UnitSt × Bool) b => if o.2 then o.1.applyBlock b t else o) (x, true) with
    | (y, false) => y.cfgRefuse
    | (y, true) =>
      if !y.planHeld then y.cfgRefuse
      else
      let y := bs.foldl (fun (y : UnitSt) b => y.applyLock b t) y
      { y.set PWR_COND.LOADED 1 with conf := { y.conf with refused := false } }

/-- CONFIG_LOAD: firmware of a unit that has booted applies the CONFIG section, given as its blocks and its bytes.
Log entry 45 (DESIGN CHOICE). -/
def execConfigLoad (u : UnitId) (blocks : CfgBlocks) (sect : Bytes) (at_ : Instant) (s : State) : Host.Outcome State Fault Refusal :=
  unitStep s u (fun x => if x.boot = .up then x.loadConfig blocks sect at_ else x)

end Sys2Proof.Machine
end

