-- ==== Sys2Proof/Machine/Dispatch.lean ====
section
/-! DEFINITION. What each command does: one arm per constructor, each one call of its meaning. -/
namespace Sys2Proof.Machine

def exec (i : Instr) (s : State) : Host.Outcome State Fault Refusal :=
  match i with
  | .periodBoundary u => Sys2Proof.Machine.execPeriodBoundary u s
  | .computeStart u pact mis => Sys2Proof.Machine.execComputeStart u pact mis s
  | .chkFail u c => Sys2Proof.Machine.execChkFail u c s
  | .wearRetire u c => Sys2Proof.Machine.execWearRetire u c s
  | .substepIntegrate u arm at_ => Sys2Proof.Machine.execSubstepIntegrate u arm at_ s
  | .holderLostClaim u => Sys2Proof.Machine.execHolderLostClaim u s
  | .relayEnd u strand => Sys2Proof.Machine.execRelayEnd u strand s
  | .reamPublishDone u => Sys2Proof.Machine.execReamPublishDone u s
  | .calenderRun u => Sys2Proof.Machine.execCalenderRun u s
  | .stageDeadlineMiss u cal => Sys2Proof.Machine.execStageDeadlineMiss u cal s
  | .maskEvaluate u => Sys2Proof.Machine.execMaskEvaluate u s
  | .prefetchFreeze u => Sys2Proof.Machine.execPrefetchFreeze u s
  | .frameBuild u => Sys2Proof.Machine.execFrameBuild u s
  | .mirrorSend u => Sys2Proof.Machine.execMirrorSend u s
  | .cmdFrameLaunch u l => Sys2Proof.Machine.execCmdFrameLaunch u l s
  | .statusFrameLaunch u l => Sys2Proof.Machine.execStatusFrameLaunch u l s
  | .statusFrameRx u p rx at_ cut => Sys2Proof.Machine.execStatusFrameRx u p rx at_ cut s
  | .cellBoundary c => Sys2Proof.Machine.execCellBoundary c s
  | .cmdAdopt c => Sys2Proof.Machine.execCmdAdopt c s
  | .leaseExpire c => Sys2Proof.Machine.execLeaseExpire c s
  | .orphanBlock c => Sys2Proof.Machine.execOrphanBlock c s
  | .orphanBypass c at_ => Sys2Proof.Machine.execOrphanBypass c at_ s
  | .statusLatch c => Sys2Proof.Machine.execStatusLatch c s
  | .cmdFrameRx c side rx stamp done at_ => Sys2Proof.Machine.execCmdFrameRx c side rx stamp done at_ s
  | .servoLocked c => Sys2Proof.Machine.execServoLocked c s
  | .servoHoldover c => Sys2Proof.Machine.execServoHoldover c s
  | .statusFramePass c side bytes => Sys2Proof.Machine.execStatusFramePass c side bytes s
  | .tailBecome c d => Sys2Proof.Machine.execTailBecome c d s
  | .tailOriginate c d => Sys2Proof.Machine.execTailOriginate c d s
  | .tailEnd c d => Sys2Proof.Machine.execTailEnd c d s
  | .stopRx c side o cut at_ => Sys2Proof.Machine.execStopRx c side o cut at_ s
  | .abortRx c side o cut => Sys2Proof.Machine.execAbortRx c side o cut s
  | .linkLockLoss e loss => Sys2Proof.Machine.execLinkLockLoss e loss s
  | .linkLock e low at_ => Sys2Proof.Machine.execLinkLock e low at_ s
  | .portSearchToggle c p => Sys2Proof.Machine.execPortSearchToggle c p s
  | .cellLineSearch c at_ => Sys2Proof.Machine.execCellLineSearch c at_ s
  | .relayFrameRx u bytes at_ => Sys2Proof.Machine.execRelayFrameRx u bytes at_ s
  | .spliceStatusFwdRx u strand hop slot => Sys2Proof.Machine.execSpliceStatusFwdRx u strand hop slot s
  | .enumAssign c side bytes => Sys2Proof.Machine.execEnumAssign c side bytes s
  | .enumEcho c side bytes => Sys2Proof.Machine.execEnumEcho c side bytes s
  | .enumIdreq c side bytes => Sys2Proof.Machine.execEnumIdreq c side bytes s
  | .cellIdrspSend c => Sys2Proof.Machine.execCellIdrspSend c s
  | .enumFrameRx u p bytes at_ => Sys2Proof.Machine.execEnumFrameRx u p bytes at_ s
  | .portReqOff u q p => Sys2Proof.Machine.execPortReqOff u q p s
  | .portReqLow u q p => Sys2Proof.Machine.execPortReqLow u q p s
  | .portReqTrain u q p => Sys2Proof.Machine.execPortReqTrain u q p s
  | .portReqEnum u q p at_ => Sys2Proof.Machine.execPortReqEnum u q p at_ s
  | .portReqActive u q p => Sys2Proof.Machine.execPortReqActive u q p s
  | .portMeasureDone u p => Sys2Proof.Machine.execPortMeasureDone u p s
  | .rateSwitch p => Sys2Proof.Machine.execRateSwitch p s
  | .portAssignWrite u q p v => Sys2Proof.Machine.execPortAssignWrite u q p v s
  | .entryRead c u tag addr => Sys2Proof.Machine.execEntryRead c u tag addr s
  | .entryWrite c u tag addr data mask at_ => Sys2Proof.Machine.execEntryWrite c u tag addr data mask at_ s
  | .entryBypass c u tag data single holder => Sys2Proof.Machine.execEntryBypass c u tag data single holder s
  | .calreqRotate c u tag at_ => Sys2Proof.Machine.execCalreqRotate c u tag at_ s
  | .calreqSparecal c u tag => Sys2Proof.Machine.execCalreqSparecal c u tag s
  | .calreqReload c u tag => Sys2Proof.Machine.execCalreqReload c u tag s
  | .entryInject c u tag data at_ => Sys2Proof.Machine.execEntryInject c u tag data at_ s
  | .entryReset c u tag data => Sys2Proof.Machine.execEntryReset c u tag data s
  | .cellStrandReset c at_ => Sys2Proof.Machine.execCellStrandReset c at_ s
  | .entryRate c u tag addr data => Sys2Proof.Machine.execEntryRate c u tag addr data s
  | .entryBulk c u tag len off data => Sys2Proof.Machine.execEntryBulk c u tag len off data s
  | .timPchgReq u q v => Sys2Proof.Machine.execTimPchgReq u q v s
  | .pchgReqRx u pn t => Sys2Proof.Machine.execPchgReqRx u pn t s
  | .pchgAnswerRx u pn => Sys2Proof.Machine.execPchgAnswerRx u pn s
  | .pchgDecide u => Sys2Proof.Machine.execPchgDecide u s
  | .pchgDropRx u pn => Sys2Proof.Machine.execPchgDropRx u pn s
  | .pchgEffect u => Sys2Proof.Machine.execPchgEffect u s
  | .spliceTimeTransfer u ofs lat at_ => Sys2Proof.Machine.execSpliceTimeTransfer u ofs lat at_ s
  | .alignError u => Sys2Proof.Machine.execAlignError u s
  | .decimOutput c ch raw at_ => Sys2Proof.Machine.execDecimOutput c ch raw at_ s
  | .windowRestart c ch => Sys2Proof.Machine.execWindowRestart c ch s
  | .cmeasSyncReq c r => Sys2Proof.Machine.execCmeasSyncReq c r s
  | .syncPinEdge c => Sys2Proof.Machine.execSyncPinEdge c s
  | .cmeasInjWrite c r v at_ => Sys2Proof.Machine.execCmeasInjWrite c r v at_ s
  | .injResultReady c ch raw => Sys2Proof.Machine.execInjResultReady c ch raw s
  | .injresRead c r ch => Sys2Proof.Machine.execInjresRead c r ch s
  | .spareCalibDone c ofs gerr => Sys2Proof.Machine.execSpareCalibDone c ofs gerr s
  | .rotationStepStart c at_ => Sys2Proof.Machine.execRotationStepStart c at_ s
  | .spareSettled c => Sys2Proof.Machine.execSpareSettled c s
  | .spareCompareDone c at_ => Sys2Proof.Machine.execSpareCompareDone c at_ s
  | .sliceSwap c at_ => Sys2Proof.Machine.execSliceSwap c at_ s
  | .swapSkip c at_ => Sys2Proof.Machine.execSwapSkip c at_ s
  | .rotationStepSkip c at_ => Sys2Proof.Machine.execRotationStepSkip c at_ s
  | .cmeasRetireWrite c r v => Sys2Proof.Machine.execCmeasRetireWrite c r v s
  | .swChange c leg => Sys2Proof.Machine.execSwChange c leg s
  | .gateCall c leg => Sys2Proof.Machine.execGateCall c leg s
  | .refreshStart c leg => Sys2Proof.Machine.execRefreshStart c leg s
  | .refreshEnd c leg => Sys2Proof.Machine.execRefreshEnd c leg s
  | .carrierEdge c at_ => Sys2Proof.Machine.execCarrierEdge c at_ s
  | .carrierTransferQ c => Sys2Proof.Machine.execCarrierTransferQ c s
  | .cswCfgWrite c r v => Sys2Proof.Machine.execCswCfgWrite c r v s
  | .cswCperWrite c r v => Sys2Proof.Machine.execCswCperWrite c r v s
  | .cswCdutyWrite c r v => Sys2Proof.Machine.execCswCdutyWrite c r v s
  | .cswCcmtCmt c r => Sys2Proof.Machine.execCswCcmtCmt c r s
  | .cswBypfireWrite c r v => Sys2Proof.Machine.execCswBypfireWrite c r v s
  | .cellTripInput c n at_ => Sys2Proof.Machine.execCellTripInput c n at_ s
  | .blankEnd c n at_ => Sys2Proof.Machine.execBlankEnd c n at_ s
  | .tripBypassDelay c n at_ => Sys2Proof.Machine.execTripBypassDelay c n at_ s
  | .cprotTripclrWrite c r v => Sys2Proof.Machine.execCprotTripclrWrite c r v s
  | .cellCoreWdogExpire c => Sys2Proof.Machine.execCellCoreWdogExpire c s
  | .protClockFail c => Sys2Proof.Machine.execProtClockFail c s
  | .supTurnOn c vaux at_ => Sys2Proof.Machine.execSupTurnOn c vaux at_ s
  | .supTurnOff c v at_ => Sys2Proof.Machine.execSupTurnOff c v at_ s
  | .softStartEnd c vaux at_ => Sys2Proof.Machine.execSoftStartEnd c vaux at_ s
  | .supOvStop c at_ => Sys2Proof.Machine.execSupOvStop c at_ s
  | .holdupReq c r v => Sys2Proof.Machine.execHoldupReq c r v s
  | .holdupEnd c at_ => Sys2Proof.Machine.execHoldupEnd c at_ s
  | .cprotPwrreqWrite c r v => Sys2Proof.Machine.execCprotPwrreqWrite c r v s
  | .dormantLinkTimeout c at_ => Sys2Proof.Machine.execDormantLinkTimeout c at_ s
  | .cellWakeLight c at_ => Sys2Proof.Machine.execCellWakeLight c at_ s
  | .cellWakeCharge c at_ => Sys2Proof.Machine.execCellWakeCharge c at_ s
  | .cellPowerOnReset c at_ => Sys2Proof.Machine.execCellPowerOnReset c at_ s
  | .cellPowerLoss c => Sys2Proof.Machine.execCellPowerLoss c s
  | .leaseClear c r v => Sys2Proof.Machine.execLeaseClear c r v s
  | .cgenRstWrite c r v at_ => Sys2Proof.Machine.execCgenRstWrite c r v at_ s
  | .patchActivate c r => Sys2Proof.Machine.execPatchActivate c r s
  | .cellLedgerDaily c => Sys2Proof.Machine.execCellLedgerDaily c s
  | .ledgerReq c r v => Sys2Proof.Machine.execLedgerReq c r v s
  | .cellFaultLatch c at_ cyc => Sys2Proof.Machine.execCellFaultLatch c at_ cyc s
  | .cellGraceExpire c n at_ => Sys2Proof.Machine.execCellGraceExpire c n at_ s
  | .cellMaskWindowEnd c at_ cyc => Sys2Proof.Machine.execCellMaskWindowEnd c at_ cyc s
  | .minResult u n sum => Sys2Proof.Machine.execMinResult u n sum s
  | .minSyncReq u q at_ => Sys2Proof.Machine.execMinSyncReq u q at_ s
  | .syncPnRx u pn => Sys2Proof.Machine.execSyncPnRx u pn s
  | .converterSync u => Sys2Proof.Machine.execConverterSync u s
  | .minNoclk u n => Sys2Proof.Machine.execMinNoclk u n s
  | .minStuck u n => Sys2Proof.Machine.execMinStuck u n s
  | .minFaultEnd u n at_ => Sys2Proof.Machine.execMinFaultEnd u n at_ s
  | .rtdChange u n rtd => Sys2Proof.Machine.execRtdChange u n rtd s
  | .tripInputChange u n level at_ => Sys2Proof.Machine.execTripInputChange u n level at_ s
  | .quietTripChange u n level at_ => Sys2Proof.Machine.execQuietTripChange u n level at_ s
  | .lpeChcfgWrite u q c v => Sys2Proof.Machine.execLpeChcfgWrite u q c v s
  | .lpeSwapReq u q v => Sys2Proof.Machine.execLpeSwapReq u q v s
  | .swapReqRx u ch bank n pn => Sys2Proof.Machine.execSwapReqRx u ch bank n pn s
  | .swapRefusalRx u ch res => Sys2Proof.Machine.execSwapRefusalRx u ch res s
  | .swapEffect u => Sys2Proof.Machine.execSwapEffect u s
  | .setpCommitReq u q => Sys2Proof.Machine.execSetpCommitReq u q s
  | .setpCommitRx u pn vals => Sys2Proof.Machine.execSetpCommitRx u pn vals s
  | .setpCommitEffect u => Sys2Proof.Machine.execSetpCommitEffect u s
  | .satWarn u c => Sys2Proof.Machine.execSatWarn u c s
  | .satFault u c => Sys2Proof.Machine.execSatFault u c s
  | .lpeMoveReq u q v => Sys2Proof.Machine.execLpeMoveReq u q v s
  | .clpCmdSeed u q => Sys2Proof.Machine.execClpCmdSeed u q s
  | .clpCmdRetire u q => Sys2Proof.Machine.execClpCmdRetire u q s
  | .clpCmdUnretire u q => Sys2Proof.Machine.execClpCmdUnretire u q s
  | .clpCmdClrchk u q => Sys2Proof.Machine.execClpCmdClrchk u q s
  | .clpCmdRx u op c cap esr pn => Sys2Proof.Machine.execClpCmdRx u op c cap esr pn s
  | .clpRecRead u q => Sys2Proof.Machine.execClpRecRead u q s
  | .calFxWrite u q v => Sys2Proof.Machine.execCalFxWrite u q v s
  | .reelPeriodClose u => Sys2Proof.Machine.execReelPeriodClose u s
  | .reelRingWrite u => Sys2Proof.Machine.execReelRingWrite u s
  | .reelStart u q => Sys2Proof.Machine.execReelStart u q s
  | .reelHalt u q => Sys2Proof.Machine.execReelHalt u q s
  | .reelMark u q at_ => Sys2Proof.Machine.execReelMark u q at_ s
  | .xtrigRx u num qual frac fall time => Sys2Proof.Machine.execXtrigRx u num qual frac fall time s
  | .leaseMsgSend u => Sys2Proof.Machine.execLeaseMsgSend u s
  | .leaseMsgRx u m => Sys2Proof.Machine.execLeaseMsgRx u m s
  | .spliceDown u => Sys2Proof.Machine.execSpliceDown u s
  | .fenceRx u => Sys2Proof.Machine.execFenceRx u s
  | .stopReqRx u at_ => Sys2Proof.Machine.execStopReqRx u at_ s
  | .spliceLaneRetire u n lost errs => Sys2Proof.Machine.execSpliceLaneRetire u n lost errs s
  | .spliceLaneMove u => Sys2Proof.Machine.execSpliceLaneMove u s
  | .mirrorCommitRx u record seq pn crc => Sys2Proof.Machine.execMirrorCommitRx u record seq pn crc s
  | .resyncReqRx u arm => Sys2Proof.Machine.execResyncReqRx u arm s
  | .resyncBlockRx u arm m blk data => Sys2Proof.Machine.execResyncBlockRx u arm m blk data s
  | .resyncApply u arm => Sys2Proof.Machine.execResyncApply u arm s
  | .handoverReq u q v => Sys2Proof.Machine.execHandoverReq u q v s
  | .hovreqRx u p => Sys2Proof.Machine.execHovreqRx u p s
  | .hovackRx u p => Sys2Proof.Machine.execHovackRx u p s
  | .handoverDeadline u => Sys2Proof.Machine.execHandoverDeadline u s
  | .handoverSwitch u => Sys2Proof.Machine.execHandoverSwitch u s
  | .hbxSubmit u q port v => Sys2Proof.Machine.execHbxSubmit u q port v s
  | .hbxTimedRelease u at_ => Sys2Proof.Machine.execHbxTimedRelease u at_ s
  | .hbxReplyMissing u => Sys2Proof.Machine.execHbxReplyMissing u s
  | .hbxTimeout u => Sys2Proof.Machine.execHbxTimeout u s
  | .hbxCplRead u q port => Sys2Proof.Machine.execHbxCplRead u q port s
  | .hbxFlush u q v => Sys2Proof.Machine.execHbxFlush u q v s
  | .pcieFlrPf0 u => Sys2Proof.Machine.execPcieFlrPf0 u s
  | .pcieFlrPf1 u => Sys2Proof.Machine.execPcieFlrPf1 u s
  | .pcieBmeClear u => Sys2Proof.Machine.execPcieBmeClear u s
  | .pcieLinkDown u => Sys2Proof.Machine.execPcieLinkDown u s
  | .pcieLinkUp u width speed bme => Sys2Proof.Machine.execPcieLinkUp u width speed bme s
  | .sessChal u q => Sys2Proof.Machine.execSessChal u q s
  | .sessOpen u q key => Sys2Proof.Machine.execSessOpen u q key s
  | .sessOpenDone u => Sys2Proof.Machine.execSessOpenDone u s
  | .sessClose u q => Sys2Proof.Machine.execSessClose u q s
  | .sessChalTimeout u => Sys2Proof.Machine.execSessChalTimeout u s
  | .sessIdleTimeout u => Sys2Proof.Machine.execSessIdleTimeout u s
  | .sessLockoutEnd u => Sys2Proof.Machine.execSessLockoutEnd u s
  | .reamPinWrite u q v => Sys2Proof.Machine.execReamPinWrite u q v s
  | .lowWordRead p a => Sys2Proof.Machine.execLowWordRead p a s
  | .highWordRead p a => Sys2Proof.Machine.execHighWordRead p a s
  | .lowWordWrite p a v at_ => Sys2Proof.Machine.execLowWordWrite p a v at_ s
  | .highWordWrite p a v at_ => Sys2Proof.Machine.execHighWordWrite p a v at_ s
  | .mbxPost u q ch v => Sys2Proof.Machine.execMbxPost u q ch v s
  | .mbxEpochRead u q ch => Sys2Proof.Machine.execMbxEpochRead u q ch s
  | .mbxHepinc u q v => Sys2Proof.Machine.execMbxHepinc u q v s
  | .mbxAgeExpire u h2f ch => Sys2Proof.Machine.execMbxAgeExpire u h2f ch s
  | .mbxDbSet u q f v => Sys2Proof.Machine.execMbxDbSet u q f v s
  | .mbxDbMaskWrite u q h2f f v => Sys2Proof.Machine.execMbxDbMaskWrite u q h2f f v s
  | .vectorRearm u q hi v => Sys2Proof.Machine.execVectorRearm u q hi v s
  | .netFrameRx u p bytes fcs at_ => Sys2Proof.Machine.execNetFrameRx u p bytes fcs at_ s
  | .ptpSyncRx u p domain src seq t1 corr twoStep at_ => Sys2Proof.Machine.execPtpSyncRx u p domain src seq t1 corr twoStep at_ s
  | .ptpAnnounceRx u p domain src gm p1 cls acc var p2 steps at_ => Sys2Proof.Machine.execPtpAnnounceRx u p domain src gm p1 cls acc var p2 steps at_ s
  | .ptpAnnounceTimeout u p at_ => Sys2Proof.Machine.execPtpAnnounceTimeout u p at_ s
  | .pdelayReqSend u p at_ => Sys2Proof.Machine.execPdelayReqSend u p at_ s
  | .pdelayReqRx u p seq src at_ => Sys2Proof.Machine.execPdelayReqRx u p seq src at_ s
  | .pdelayRespRx u p seq turn at_ => Sys2Proof.Machine.execPdelayRespRx u p seq turn at_ s
  | .ptpSyncTimeout u at_ => Sys2Proof.Machine.execPtpSyncTimeout u at_ s
  | .ppsOut u at_ => Sys2Proof.Machine.execPpsOut u at_ s
  | .ppsinEdge u at_ => Sys2Proof.Machine.execPpsinEdge u at_ s
  | .svFrameRx u p macl appid cnt synch vals at_ => Sys2Proof.Machine.execSvFrameRx u p macl appid cnt synch vals at_ s
  | .svStreamFault u n at_ => Sys2Proof.Machine.execSvStreamFault u n at_ s
  | .gooseNewState u q v at_ => Sys2Proof.Machine.execGooseNewState u q v at_ s
  | .gooseRetransmit u n at_ => Sys2Proof.Machine.execGooseRetransmit u n at_ s
  | .gooseRx u p macl appid st sq tal data frame at_ => Sys2Proof.Machine.execGooseRx u p macl appid st sq tal data frame at_ s
  | .gooseTalExpire u n at_ => Sys2Proof.Machine.execGooseTalExpire u n at_ s
  | .netTxSubmit u q v => Sys2Proof.Machine.execNetTxSubmit u q v s
  | .netTxLaunch u p at_ => Sys2Proof.Machine.execNetTxLaunch u p at_ s
  | .netTxComplete u p at_ => Sys2Proof.Machine.execNetTxComplete u p at_ s
  | .netTxcplRead u q => Sys2Proof.Machine.execNetTxcplRead u q s
  | .netLinkChange u p up => Sys2Proof.Machine.execNetLinkChange u p up s
  | .healthRecord u at_ tj eyes spleye => Sys2Proof.Machine.execHealthRecord u at_ tj eyes spleye s
  | .healthRecordRx u record => Sys2Proof.Machine.execHealthRecordRx u record s
  | .faultLatch u at_ cyc => Sys2Proof.Machine.execFaultLatch u at_ cyc s
  | .graceExpire u at_ => Sys2Proof.Machine.execGraceExpire u at_ s
  | .fltLatchClear u q v => Sys2Proof.Machine.execFltLatchClear u q v s
  | .cellFltLatchClear c r v => Sys2Proof.Machine.execCellFltLatchClear c r v s
  | .wdogKick u q n v at_ => Sys2Proof.Machine.execWdogKick u q n v at_ s
  | .wdogExpire u n at_ => Sys2Proof.Machine.execWdogExpire u n at_ s
  | .blockReset p a en at_ => Sys2Proof.Machine.execBlockReset p a en at_ s
  | .maskWindowEnd u at_ cyc => Sys2Proof.Machine.execMaskWindowEnd u at_ cyc s
  | .lockWrite p a v at_ => Sys2Proof.Machine.execLockWrite p a v at_ s
  | .sramEccError p addr double at_ => Sys2Proof.Machine.execSramEccError p addr double at_ s
  | .scrubOverrun u => Sys2Proof.Machine.execScrubOverrun u s
  | .rowRetire u row => Sys2Proof.Machine.execRowRetire u row s
  | .rowRetireSwitch u row at_ => Sys2Proof.Machine.execRowRetireSwitch u row at_ s
  | .rowEntryAgeDrop u row at_ => Sys2Proof.Machine.execRowEntryAgeDrop u row at_ s
  | .memRetreq u q v => Sys2Proof.Machine.execMemRetreq u q v s
  | .unitPowerOnReset u => Sys2Proof.Machine.execUnitPowerOnReset u s
  | .unitPinReset r => Sys2Proof.Machine.execUnitPinReset r s
  | .genRstWrite u q v => Sys2Proof.Machine.execGenRstWrite u q v s
  | .genPrstWrite u q v => Sys2Proof.Machine.execGenPrstWrite u q v s
  | .partnerResetRx u => Sys2Proof.Machine.execPartnerResetRx u s
  | .bootConfirm u q => Sys2Proof.Machine.execBootConfirm u q s
  | .bootTrialTimeout u => Sys2Proof.Machine.execBootTrialTimeout u s
  | .configLoad u blocks sect at_ => Sys2Proof.Machine.execConfigLoad u blocks sect at_ s
  | .secVerify u q ca => Sys2Proof.Machine.execSecVerify u q ca s
  | .secVerifyDone u => Sys2Proof.Machine.execSecVerifyDone u s
  | .secRaise u q => Sys2Proof.Machine.execSecRaise u q s
  | .secRandom u q => Sys2Proof.Machine.execSecRandom u q s
  | .flsErase u q => Sys2Proof.Machine.execFlsErase u q s
  | .flsProgram u q => Sys2Proof.Machine.execFlsProgram u q s
  | .flsRead u q => Sys2Proof.Machine.execFlsRead u q s
  | .flsCheck u q => Sys2Proof.Machine.execFlsCheck u q s
  | .flsOpDone u ecc => Sys2Proof.Machine.execFlsOpDone u ecc s
  | .pwrReqRun u q => Sys2Proof.Machine.execPwrReqRun u q s
  | .pwrReqHold u q => Sys2Proof.Machine.execPwrReqHold u q s
  | .pwrReqQuiet u q => Sys2Proof.Machine.execPwrReqQuiet u q s
  | .quietEnter u => Sys2Proof.Machine.execQuietEnter u s
  | .quietLeaseEval u pact => Sys2Proof.Machine.execQuietLeaseEval u pact s
  | .refLoss u at_ => Sys2Proof.Machine.execRefLoss u at_ s
  | .refReturn u at_ => Sys2Proof.Machine.execRefReturn u at_ s
  | .pllUnlock u n => Sys2Proof.Machine.execPllUnlock u n s
  | .tjThreshold u tj => Sys2Proof.Machine.execTjThreshold u tj s
  | .jtagExtest p low => Sys2Proof.Machine.execJtagExtest p low s
  | .jtagIdcode p => Sys2Proof.Machine.execJtagIdcode p s
  | .jtagSamplePreload p pins load => Sys2Proof.Machine.execJtagSamplePreload p pins load s
  | .jtagHighz p low => Sys2Proof.Machine.execJtagHighz p low s
  | .jtagClamp p low => Sys2Proof.Machine.execJtagClamp p low s
  | .jtagFlashprog p => Sys2Proof.Machine.execJtagFlashprog p s
  | .jtagFlashprogAccess u write sram addr data at_ => Sys2Proof.Machine.execJtagFlashprogAccess u write sram addr data at_ s
  | .jtagDebug p => Sys2Proof.Machine.execJtagDebug p s
  | .jtagBypass p code => Sys2Proof.Machine.execJtagBypass p code s
  | .regWrite p a v be at_ => Sys2Proof.Machine.execRegWrite p a v be at_ s
  | .partnerCmdFrameRx u p rx at_ => Sys2Proof.Machine.execPartnerCmdFrameRx u p rx at_ s
  | .ptpFollowUpRx u p domain src seq t1 corr at_ => Sys2Proof.Machine.execPtpFollowUpRx u p domain src seq t1 corr at_ s
  | .unitSupplyLoss u => Sys2Proof.Machine.execUnitSupplyLoss u s
  | .tripSourceInactive c n => Sys2Proof.Machine.execTripSourceInactive c n s
  | .framAppendComplete c ok => Sys2Proof.Machine.execFramAppendComplete c ok s

end Sys2Proof.Machine
end

