-- ==== Sys2Proof/Safety.lean ====
section
/-! DEFINITION. What holds of a state that a run can reach: every part is the part it says it is, and every register file
and addressed memory is in the one canonical form, so that equal contents are equal data. -/
namespace Sys2Proof.Machine

/-- The canonical form of an addressed memory: addresses rising, and no entry equal to what an unlisted address reads as. -/
abbrev Memory.wf (d : Nat → Byte) (m : Sparse Byte) : Bool := swf d m

/-- What an unlisted byte of the SRAM, of a Ream buffer and of a cell's download buffer reads as.
Log entry 14 (DESIGN CHOICE). -/
def Memory.zero : Nat → Byte := fun _ => 0

/-- The registers and memories of a unit are canonical: registers, flash, SRAM and the two Ream buffers. -/
def UnitSt.wf (x : UnitSt) : Bool :=
  swf (unitReset x.id) x.regs && Memory.wf (Config.flash x.id) x.flash && Memory.wf Memory.zero x.mem.sram &&
    Memory.wf Memory.zero x.host.ream0.bytes && Memory.wf Memory.zero x.host.ream1.bytes

/-- The registers and the download buffer of a cell are canonical. -/
def CellSt.wf (x : CellSt) : Bool := swf (cellReset x.key) x.regs && Memory.wf Memory.zero x.mem.sram

/-- Every part of the converter is the part it says it is, and its tables are canonical. -/
def State.wf (s : State) : Bool :=
  decide (s.a.id = .a) && decide (s.b.id = .b) && s.a.wf && s.b.wf && swf CellSt.reset s.cells &&
    s.cells.all (fun e => decide (e.2.key = e.1) && e.2.wf)

/-- The table of cells is canonical: keys rising, every key that of a cell of a strand, no entry equal to a cell as reset
leaves it. -/
def State.cellsWf (s : State) : Bool := swf CellSt.reset s.cells && s.cells.all (fun e => decide (e.1 < 6144))

end Sys2Proof.Machine

namespace Sys2Proof

/-- The part a register access goes to. -/
def RegPort.part : RegPort → Part
  | .unit u _ => .unit u
  | .cell c _ => .cell c

/-- The part at an end of a link. -/
def LinkEnd.part : LinkEnd → Part
  | .unit u _ => .unit u
  | .cell c _ => .cell c
  | .lane u _ => .unit u

/-- The parts a command may change: the part it happens at. Four commands reach over Splice to the partner as well: the
compute start of a holder (R126, R428), its mirror record (R418), an enumeration frame whose reach the partner learns (R133) and a refused
partner-forced reset (R589). -/
def Instr.parts : Instr → List Part
  | .periodBoundary u => [.unit u]
  | .computeStart _ _ _ => [.unit .a, .unit .b]
  | .chkFail u _ => [.unit u]
  | .wearRetire u _ => [.unit u]
  | .substepIntegrate u _ _ => [.unit u]
  | .holderLostClaim u => [.unit u]
  | .relayEnd u _ => [.unit u]
  | .reamPublishDone u => [.unit u]
  | .calenderRun u => [.unit u]
  | .stageDeadlineMiss u _ => [.unit u]
  | .maskEvaluate u => [.unit u]
  | .prefetchFreeze u => [.unit u]
  | .frameBuild u => [.unit u]
  | .mirrorSend _ => [.unit .a, .unit .b]
  | .cmdFrameLaunch u _ => [.unit u]
  | .statusFrameLaunch u _ => [.unit u]
  | .statusFrameRx u _ _ _ _ => [.unit u]
  | .cellBoundary c => [.cell c]
  | .cmdAdopt c => [.cell c]
  | .leaseExpire c => [.cell c]
  | .orphanBlock c => [.cell c]
  | .orphanBypass c _ => [.cell c]
  | .statusLatch c => [.cell c]
  | .cmdFrameRx c _ _ _ _ _ => [.cell c]
  | .servoLocked c => [.cell c]
  | .servoHoldover c => [.cell c]
  | .statusFramePass c _ _ => [.cell c]
  | .tailBecome c _ => [.cell c]
  | .tailOriginate c _ => [.cell c]
  | .tailEnd c _ => [.cell c]
  | .stopRx c _ _ _ _ => [.cell c]
  | .abortRx c _ _ _ => [.cell c]
  | .linkLockLoss e _ => [e.part]
  | .linkLock e _ _ => [e.part]
  | .portSearchToggle c _ => [.cell c]
  | .cellLineSearch c _ => [.cell c]
  | .relayFrameRx u _ _ => [.unit u]
  | .spliceStatusFwdRx u _ _ _ => [.unit u]
  | .enumAssign c _ _ => [.cell c]
  | .enumEcho c _ _ => [.cell c]
  | .enumIdreq c _ _ => [.cell c]
  | .cellIdrspSend c => [.cell c]
  | .enumFrameRx _ _ _ _ => [.unit .a, .unit .b]
  | .portReqOff u _ _ => [.unit u]
  | .portReqLow u _ _ => [.unit u]
  | .portReqTrain u _ _ => [.unit u]
  | .portReqEnum u _ _ _ => [.unit u]
  | .portReqActive u _ _ => [.unit u]
  | .portMeasureDone u _ => [.unit u]
  | .rateSwitch p => [p]
  | .portAssignWrite u _ _ _ => [.unit u]
  | .entryRead c _ _ _ => [.cell c]
  | .entryWrite c _ _ _ _ _ _ => [.cell c]
  | .entryBypass c _ _ _ _ _ => [.cell c]
  | .calreqRotate c _ _ _ => [.cell c]
  | .calreqSparecal c _ _ => [.cell c]
  | .calreqReload c _ _ => [.cell c]
  | .entryInject c _ _ _ _ => [.cell c]
  | .entryReset c _ _ _ => [.cell c]
  | .cellStrandReset c _ => [.cell c]
  | .entryRate c _ _ _ _ => [.cell c]
  | .entryBulk c _ _ _ _ _ => [.cell c]
  | .timPchgReq u _ _ => [.unit u]
  | .pchgReqRx u _ _ => [.unit u]
  | .pchgAnswerRx u _ => [.unit u]
  | .pchgDecide u => [.unit u]
  | .pchgDropRx u _ => [.unit u]
  | .pchgEffect u => [.unit u]
  | .spliceTimeTransfer u _ _ _ => [.unit u]
  | .alignError u => [.unit u]
  | .decimOutput c _ _ _ => [.cell c]
  | .windowRestart c _ => [.cell c]
  | .cmeasSyncReq c _ => [.cell c]
  | .syncPinEdge c => [.cell c]
  | .cmeasInjWrite c _ _ _ => [.cell c]
  | .injResultReady c _ _ => [.cell c]
  | .injresRead c _ _ => [.cell c]
  | .spareCalibDone c _ _ => [.cell c]
  | .rotationStepStart c _ => [.cell c]
  | .spareSettled c => [.cell c]
  | .spareCompareDone c _ => [.cell c]
  | .sliceSwap c _ => [.cell c]
  | .swapSkip c _ => [.cell c]
  | .rotationStepSkip c _ => [.cell c]
  | .cmeasRetireWrite c _ _ => [.cell c]
  | .swChange c _ => [.cell c]
  | .gateCall c _ => [.cell c]
  | .refreshStart c _ => [.cell c]
  | .refreshEnd c _ => [.cell c]
  | .carrierEdge c _ => [.cell c]
  | .carrierTransferQ c => [.cell c]
  | .cswCfgWrite c _ _ => [.cell c]
  | .cswCperWrite c _ _ => [.cell c]
  | .cswCdutyWrite c _ _ => [.cell c]
  | .cswCcmtCmt c _ => [.cell c]
  | .cswBypfireWrite c _ _ => [.cell c]
  | .cellTripInput c _ _ => [.cell c]
  | .blankEnd c _ _ => [.cell c]
  | .tripBypassDelay c _ _ => [.cell c]
  | .cprotTripclrWrite c _ _ => [.cell c]
  | .cellCoreWdogExpire c => [.cell c.cell]
  | .protClockFail c => [.cell c]
  | .supTurnOn c _ _ => [.cell c]
  | .supTurnOff c _ _ => [.cell c]
  | .softStartEnd c _ _ => [.cell c]
  | .supOvStop c _ => [.cell c]
  | .holdupReq c _ _ => [.cell c]
  | .holdupEnd c _ => [.cell c]
  | .cprotPwrreqWrite c _ _ => [.cell c]
  | .dormantLinkTimeout c _ => [.cell c]
  | .cellWakeLight c _ => [.cell c]
  | .cellWakeCharge c _ => [.cell c]
  | .cellPowerOnReset c _ => [.cell c]
  | .cellPowerLoss c => [.cell c]
  | .leaseClear c _ _ => [.cell c]
  | .cgenRstWrite c _ _ _ => [.cell c]
  | .patchActivate c _ => [.cell c]
  | .cellLedgerDaily c => [.cell c]
  | .ledgerReq c _ _ => [.cell c]
  | .cellFaultLatch c _ _ => [.cell c]
  | .cellGraceExpire c _ _ => [.cell c]
  | .cellMaskWindowEnd c _ _ => [.cell c]
  | .minResult u _ _ => [.unit u]
  | .minSyncReq u _ _ => [.unit u]
  | .syncPnRx u _ => [.unit u]
  | .converterSync u => [.unit u]
  | .minNoclk u _ => [.unit u]
  | .minStuck u _ => [.unit u]
  | .minFaultEnd u _ _ => [.unit u]
  | .rtdChange u _ _ => [.unit u]
  | .tripInputChange u _ _ _ => [.unit u]
  | .quietTripChange u _ _ _ => [.unit u]
  | .lpeChcfgWrite u _ _ _ => [.unit u]
  | .lpeSwapReq u _ _ => [.unit u]
  | .swapReqRx u _ _ _ _ => [.unit u]
  | .swapRefusalRx u _ _ => [.unit u]
  | .swapEffect u => [.unit u]
  | .setpCommitReq u _ => [.unit u]
  | .setpCommitRx u _ _ => [.unit u]
  | .setpCommitEffect u => [.unit u]
  | .satWarn u _ => [.unit u]
  | .satFault u _ => [.unit u]
  | .lpeMoveReq u _ _ => [.unit u]
  | .clpCmdSeed u _ => [.unit u]
  | .clpCmdRetire u _ => [.unit u]
  | .clpCmdUnretire u _ => [.unit u]
  | .clpCmdClrchk u _ => [.unit u]
  | .clpCmdRx u _ _ _ _ _ => [.unit u]
  | .clpRecRead u _ => [.unit u]
  | .calFxWrite u _ _ => [.unit u]
  | .reelPeriodClose u => [.unit u]
  | .reelRingWrite u => [.unit u]
  | .reelStart u _ => [.unit u]
  | .reelHalt u _ => [.unit u]
  | .reelMark u _ _ => [.unit u]
  | .xtrigRx u _ _ _ _ _ => [.unit u]
  | .leaseMsgSend u => [.unit u]
  | .leaseMsgRx u _ => [.unit u]
  | .spliceDown u => [.unit u]
  | .fenceRx u => [.unit u]
  | .stopReqRx u _ => [.unit u]
  | .spliceLaneRetire u _ _ _ => [.unit u]
  | .spliceLaneMove u => [.unit u]
  | .mirrorCommitRx u _ _ _ _ => [.unit u]
  | .resyncReqRx u _ => [.unit u]
  | .resyncBlockRx u _ _ _ _ => [.unit u]
  | .resyncApply u _ => [.unit u]
  | .handoverReq u _ _ => [.unit u]
  | .hovreqRx u _ => [.unit u]
  | .hovackRx u _ => [.unit u]
  | .handoverDeadline u => [.unit u]
  | .handoverSwitch u => [.unit u]
  | .hbxSubmit u _ _ _ => [.unit u]
  | .hbxTimedRelease u _ => [.unit u]
  | .hbxReplyMissing u => [.unit u]
  | .hbxTimeout u => [.unit u]
  | .hbxCplRead u _ _ => [.unit u]
  | .hbxFlush u _ _ => [.unit u]
  | .pcieFlrPf0 u => [.unit u]
  | .pcieFlrPf1 u => [.unit u]
  | .pcieBmeClear u => [.unit u]
  | .pcieLinkDown u => [.unit u]
  | .pcieLinkUp u _ _ _ => [.unit u]
  | .sessChal u _ => [.unit u]
  | .sessOpen u _ _ => [.unit u]
  | .sessOpenDone u => [.unit u]
  | .sessClose u _ => [.unit u]
  | .sessChalTimeout u => [.unit u]
  | .sessIdleTimeout u => [.unit u]
  | .sessLockoutEnd u => [.unit u]
  | .reamPinWrite u _ _ => [.unit u]
  | .lowWordRead p _ => [p.part]
  | .highWordRead p _ => [p.part]
  | .lowWordWrite p _ _ _ => [p.part]
  | .highWordWrite p _ _ _ => [p.part]
  | .mbxPost u _ _ _ => [.unit u]
  | .mbxEpochRead u _ _ => [.unit u]
  | .mbxHepinc u _ _ => [.unit u]
  | .mbxAgeExpire u _ _ => [.unit u]
  | .mbxDbSet u _ _ _ => [.unit u]
  | .mbxDbMaskWrite u _ _ _ _ => [.unit u]
  | .vectorRearm u _ _ _ => [.unit u]
  | .netFrameRx u _ _ _ _ => [.unit u]
  | .ptpSyncRx u _ _ _ _ _ _ _ _ => [.unit u]
  | .ptpAnnounceRx u _ _ _ _ _ _ _ _ _ _ _ => [.unit u]
  | .ptpAnnounceTimeout u _ _ => [.unit u]
  | .pdelayReqSend u _ _ => [.unit u]
  | .pdelayReqRx u _ _ _ _ => [.unit u]
  | .pdelayRespRx u _ _ _ _ => [.unit u]
  | .ptpSyncTimeout u _ => [.unit u]
  | .ppsOut u _ => [.unit u]
  | .ppsinEdge u _ => [.unit u]
  | .svFrameRx u _ _ _ _ _ _ _ => [.unit u]
  | .svStreamFault u _ _ => [.unit u]
  | .gooseNewState u _ _ _ => [.unit u]
  | .gooseRetransmit u _ _ => [.unit u]
  | .gooseRx u _ _ _ _ _ _ _ _ _ => [.unit u]
  | .gooseTalExpire u _ _ => [.unit u]
  | .netTxSubmit u _ _ => [.unit u]
  | .netTxLaunch u _ _ => [.unit u]
  | .netTxComplete u _ _ => [.unit u]
  | .netTxcplRead u _ => [.unit u]
  | .netLinkChange u _ _ => [.unit u]
  | .healthRecord u _ _ _ _ => [.unit u]
  | .healthRecordRx u _ => [.unit u]
  | .faultLatch u _ _ => [.unit u]
  | .graceExpire u _ => [.unit u]
  | .fltLatchClear u _ _ => [.unit u]
  | .cellFltLatchClear c _ _ => [.cell c]
  | .wdogKick u _ _ _ _ => [.unit u]
  | .wdogExpire u _ _ => [.unit u]
  | .blockReset p _ _ _ => [p.part]
  | .maskWindowEnd u _ _ => [.unit u]
  | .lockWrite p _ _ _ => [p.part]
  | .sramEccError p _ _ _ => [p]
  | .scrubOverrun u => [.unit u]
  | .rowRetire u _ => [.unit u]
  | .rowRetireSwitch u _ _ => [.unit u]
  | .rowEntryAgeDrop u _ _ => [.unit u]
  | .memRetreq u _ _ => [.unit u]
  | .unitPowerOnReset u => [.unit u]
  | .unitPinReset r => [.unit r.unit]
  | .genRstWrite u _ _ => [.unit u]
  | .genPrstWrite u _ _ => [.unit u]
  | .partnerResetRx _ => [.unit .a, .unit .b]
  | .bootConfirm u _ => [.unit u]
  | .bootTrialTimeout u => [.unit u]
  | .configLoad u _ _ _ => [.unit u]
  | .secVerify u _ _ => [.unit u]
  | .secVerifyDone u => [.unit u]
  | .secRaise u _ => [.unit u]
  | .secRandom u _ => [.unit u]
  | .flsErase u _ => [.unit u]
  | .flsProgram u _ => [.unit u]
  | .flsRead u _ => [.unit u]
  | .flsCheck u _ => [.unit u]
  | .flsOpDone u _ => [.unit u]
  | .pwrReqRun u _ => [.unit u]
  | .pwrReqHold u _ => [.unit u]
  | .pwrReqQuiet u _ => [.unit u]
  | .quietEnter u => [.unit u]
  | .quietLeaseEval u _ => [.unit u]
  | .refLoss u _ => [.unit u]
  | .refReturn u _ => [.unit u]
  | .pllUnlock u _ => [.unit u]
  | .tjThreshold u _ => [.unit u]
  | .jtagExtest p _ => [p]
  | .jtagIdcode p => [p]
  | .jtagSamplePreload p _ _ => [p]
  | .jtagHighz p _ => [p]
  | .jtagClamp p _ => [p]
  | .jtagFlashprog p => [p]
  | .jtagFlashprogAccess u _ _ _ _ _ => [.unit u]
  | .jtagDebug p => [p]
  | .jtagBypass p _ => [p]
  | .regWrite p _ _ _ _ => [p.part]
  | .partnerCmdFrameRx u _ _ _ => [.unit u]
  | .ptpFollowUpRx u _ _ _ _ _ _ _ => [.unit u]
  | .unitSupplyLoss u => [.unit u]
  | .tripSourceInactive c _ => [.cell c]
  | .framAppendComplete c _ => [.cell c]

end Sys2Proof
end

