-- ==== Sys2Proof/Certificates/Slice0/Obligations.lean ====
section
/-! DEFINITION. The statements for the provers, one definition each. -/

open Sys2Proof Sys2Proof.Machine

/-- Each of the nine JTAG instructions loads its code into the instruction register of the part it is shifted into and selects its data register; an instruction that the part refuses acts as BYPASS, code 0x3F with a captured 0. Nothing else of the converter changes. FLASHPROG_ACCESS, which works through the register, is stated with the writes of registers. BYPASS capturing 0 and IDCODE selected at reset are taken from IEEE 1149.1 (log entries 59 and 60). The definitions it names carry choices of the model: log entries 60, 61, 62, 64. -/
def Obligations.JtagInstructions : Prop :=
  (∀ (s : State) (p : Part) (low : Bool), exec (.jtagExtest p low) s = .next (s.onJtag p (fun j => if low then { j with ir := 0x00, dr := j.bsr } else { j with ir := 0x3F, dr := 0 }))) ∧
  (∀ (s : State) (p : Part), exec (.jtagIdcode p) s = .next (s.onJtag p (fun j => { j with ir := 0x01, dr := s.idcode p }))) ∧
  (∀ (s : State) (p : Part) (pins load : Nat), exec (.jtagSamplePreload p pins load) s = .next (s.onJtag p (fun j => { j with ir := 0x02, dr := pins, bsr := load }))) ∧
  (∀ (s : State) (p : Part) (low : Bool), exec (.jtagHighz p low) s = .next (s.onJtag p (fun j => { j with ir := if low then 0x03 else 0x3F, dr := 0 }))) ∧
  (∀ (s : State) (p : Part) (low : Bool), exec (.jtagClamp p low) s = .next (s.onJtag p (fun j => { j with ir := if low then 0x04 else 0x3F, dr := 0 }))) ∧
  (∀ (s : State) (u : UnitId), (s.unit u).bit FLS_ERR.NOIMG = true →
      exec (.jtagFlashprog (.unit u)) s = .next (s.onJtag (.unit u) (fun j => { j with ir := 0x10, dr := j.rd.toNat }))) ∧
  (∀ (s : State) (u : UnitId), (s.unit u).bit FLS_ERR.NOIMG = false →
      exec (.jtagFlashprog (.unit u)) s = .next (s.onJtag (.unit u) (fun j => { j with ir := 0x3F, dr := 0 }))) ∧
  (∀ (s : State) (c : CellId), exec (.jtagFlashprog (.cell c)) s = .next (s.onJtag (.cell c) (fun j => { j with ir := 0x3F, dr := 0 }))) ∧
  (∀ (s : State) (p : Part), s.debugClosed p = false →
      exec (.jtagDebug p) s = .next (s.onJtag p (fun j => { j with ir := 0x20, dr := 0 }))) ∧
  (∀ (s : State) (p : Part), s.debugClosed p = true →
      exec (.jtagDebug p) s = .next (s.onJtag p (fun j => { j with ir := 0x3F, dr := 0 }))) ∧
  (∀ (s : State) (p : Part) (code : BitVec 6), jtagKnown p code.toNat = false →
      exec (.jtagBypass p code) s = .next (s.onJtag p (fun j => { j with ir := 0x3F, dr := 0 })))

/-- REF_LOSS outside a holdover sets the error bit REFLOSS, clears PRESENT, counts in LOSSCNT and begins a holdover with ELAPSED 0; REF_RETURN in one stores the milliseconds elapsed, sets PRESENT and ends it; PLL_UNLOCK clears the lock bit of that PLL and sets PLLCRIT for the TIME, CORE and FAB PLLs and PLLLOSS for the others; TJ_THRESHOLD stores the temperature and, when it is the highest seen and above no threshold, PEAK. Converter time moves on to the instant of the event, and nothing else changes. The definitions it names carry choices of the model: log entries 36, 37. -/
def Obligations.ClockEvents : Prop :=
  (∀ (s : State) (u : UnitId) (t : Instant), ((s.unit u).tick t).bit CLK_STAT.HOLD = false →
      exec (.refLoss u t) s = .next (s.onUnit u (fun x => { (((((x.tick t).err CLK_ERR.REFLOSS).set CLK_REF.PRESENT 0).inc CLK_REF.LOSSCNT).set CLK_STAT.HOLD 1).set CLK_HOLD.ELAPSED 0 with clkAt := t }))) ∧
  (∀ (s : State) (u : UnitId) (t : Instant), ((s.unit u).tick t).bit CLK_REF.PRESENT = false →
      ((s.unit u).tick t).bit CLK_STAT.HOLD = true →
      exec (.refReturn u t) s = .next (s.onUnit u (fun x => (((x.tick t).set CLK_HOLD.ELAPSED (min 65535 ((t - (x.tick t).clkAt) / 65536000000))).set CLK_REF.PRESENT 1).set CLK_STAT.HOLD 0))) ∧
  (∀ (s : State) (u : UnitId) (n : Fin 7), bitAt ((s.unit u).fld CLK_PLL.LOCK) n.val = true →
      exec (.pllUnlock u n) s = .next (s.onUnit u (fun x => (x.set CLK_PLL.LOCK (x.fld CLK_PLL.LOCK ^^^ (1 <<< n.val))).err (if n.val < 3 then CLK_ERR.PLLCRIT else CLK_ERR.PLLLOSS)))) ∧
  (∀ (s : State) (u : UnitId) (tj : BitVec 10), toInt 10 (((s.unit u).set CLK_TJ.TJ tj.toNat).fld CLK_TJ.PEAK) < tj.toInt →
      tj.toInt ≤ toInt 10 ((((s.unit u).set CLK_TJ.TJ tj.toNat).set CLK_TJ.PEAK tj.toNat).fld CLK_TJTH.HI) →
      tj.toInt ≤ toInt 10 ((((s.unit u).set CLK_TJ.TJ tj.toNat).set CLK_TJ.PEAK tj.toNat).fld CLK_TJTH.CRIT) →
      exec (.tjThreshold u tj) s = .next (s.onUnit u (fun x => (x.set CLK_TJ.TJ tj.toNat).set CLK_TJ.PEAK tj.toNat)))

/-- A request of Run from Hold with every condition of PWR_COND met sets STATE Run and RES done, checks the latencies of the six arms, and starts arms and loops; a request of Hold from Run sets STATE Hold, one from Quiet brings the islands back; a request of Quiet from Hold with every configured strand port in LOW or OFF is taken and waits for the boundary, where QUIET_ENTER stops Reel, Headbox and Splice, keeps the trip levels in PWR_QTRIP and sets STATE Quiet. The requests hold for an access that is allowed. The definitions it names carry choices of the model: log entries 52, 54, 55, 115, 122. -/
def Obligations.PowerRequests : Prop :=
  (∀ (s : State) (u : UnitId) (q : Requester) , (s.unit u).allowed q true 0x2040 = true →
      ((s.unit u).showCond.inHold && (s.unit u).showCond.mayRun) = true →
      exec (.pwrReqRun u q) s = .next (s.onUnit u (fun x => (((({ x.showCond with quietDue := false }.set PWR_STAT.STATE 0).set PWR_REQ.RES 1).latCheck).armsStart).loopsStart))) ∧
  (∀ (s : State) (u : UnitId) (q : Requester) , (s.unit u).allowed q true 0x2040 = true →
      (s.unit u).inRun = true →
      exec (.pwrReqHold u q) s = .next (s.onUnit u (fun x => (x.set PWR_STAT.STATE 1).set PWR_REQ.RES 1))) ∧
  (∀ (s : State) (u : UnitId) (q : Requester) , (s.unit u).allowed q true 0x2040 = true →
      (s.unit u).inRun = false →
      (s.unit u).inQuiet = true →
      exec (.pwrReqHold u q) s = .next (s.onUnit u (fun x => x.leaveQuiet.set PWR_REQ.RES 1))) ∧
  (∀ (s : State) (u : UnitId) (q : Requester) , (s.unit u).allowed q true 0x2040 = true →
      ((s.unit u).inHold && (s.unit u).livePorts.all (fun sp => decide ((s.unit u).pstate sp.2 ≤ 1))) = true →
      exec (.pwrReqQuiet u q) s = .next (s.onUnit u (fun x => { x.set PWR_REQ.RES 2 with quietDue := true }))) ∧
  (∀ (s : State) (u : UnitId) , ((s.unit u).quietDue && (s.unit u).inHold) = true →
      exec (.quietEnter u) s = .next (s.onUnit u (fun x => { ((((x.reelQuiet.headboxOff.spliceOff).set PWR_QTRIP.LVL (x.reelQuiet.headboxOff.spliceOff.fld MIN_TRIPSTAT.LVL)).set PWR_REQ.RES 1).set PWR_STAT.STATE 2) with quietDue := false, quietTrip := false })))

/-- At a boundary a unit that has base is answered by reamForm, reelBoundary, nextPn, reelBegin, minBoundary, loopBoundary, clpBoundary and escBoundary in this order. At a compute start a unit that counts periods, is not in Quiet and has booted moves its time to c and is answered by portsCompute, evaluate and compute, and its partner shows the relayed strands where the unit is the holder and Splice is up. At PN_eff, in Hold, a decided period change of the unit, or one queued for its partner, is made by changeT. The definitions it names carry choices of the model: log entries 73, 87, 110, 113, 126, 207, 210, 227. -/
def Obligations.PeriodTimeline : Prop :=
  (∀ (s : State) (u : UnitId) , (s.unit u).tim.baseSet = true →
      exec (.periodBoundary u) s = .next (s.onUnit u (fun x => ((((((x.reamForm.reelBoundary.nextPn).reelBegin).minBoundary).loopBoundary).clpBoundary).escBoundary)))) ∧
  (∀ (s : State) (u : UnitId) (pact : Bool) (mis : List Nat), (s.unit u).tim.counting = true →
      (s.unit u).inQuiet = false →
      (s.unit u).boot = .up →
      exec (.computeStart u pact mis) s = .next ((fun x : UnitSt => (s.setUnit u x).setUnit u.other (if (x.isHolder && x.splUp) = true then (s.unit u.other).showRelay x.relayed else s.unit u.other)) (((((s.unit u).tick ((s.unit u).t0 (s.unit u).pn + (s.unit u).compOfs)).portsCompute.evaluate pact).compute (s.unit u.other) mis)))) ∧
  (∀ (s : State) (u : UnitId) (p t : Nat), (s.unit u).tim.peer = none →
      (s.unit u).tim.pchg = some (p, t) →
      (s.unit u).tim.pchgGo = true →
      (s.unit u).inHold = true →
      p = (s.unit u).pn →
      exec (.pchgEffect u) s = .next (s.onUnit u (fun x => (x.changeT p t).pchgEnd 1))) ∧
  (∀ (s : State) (u : UnitId) (p t : Nat), (s.unit u).tim.peer = some (p, t) →
      (s.unit u).tim.pchg = none →
      (s.unit u).inHold = true →
      p = (s.unit u).pn →
      exec (.pchgEffect u) s = .next (s.onUnit u (fun x => { x.changeT p t with tim := { (x.changeT p t).tim with peer := none } })))

/-- With Splice up, the partner in HOLDER and the unit not, the per-period transfer moves time on, stores the latency of Splice with the error LAT above 200 ns, names Splice as the source, sets PARTNER when the offset lies within 0.3 ns, stores the offset in 2^-8 ns and steers the rate; after 16 periods in a row beyond 0.3 ns ALIGN_ERROR sets TIM_ERR.ALIGN. The definitions it names carry choices of the model: log entries 31, 167, 200, 207. -/
def Obligations.TimeTransferAndAlignment : Prop :=
  (∀ (s : State) (u : UnitId) (ofs : Int) (lat : Nat) (t : Instant), (s.unit u).splUp = true →
      (((s.unit u).tick t).spliceLatency lat).lse.partLse = 2 →
      (((s.unit u).tick t).spliceLatency lat).isHolder = false →
      exec (.spliceTimeTransfer u ofs lat t) s = .next (s.onUnit u (fun x => (fun y : UnitSt => { y with tim := { y.tim with aligned := true } }.steer t) (((((fun z : UnitSt => if 200 < lat then (z.set SPL_LAT.LAT (min lat 0xFFFF)).err SPL_ERR.LAT else z.set SPL_LAT.LAT (min lat 0xFFFF)) (x.tick t)).set TIM_SRC.ALIGN 1).set TIM_SRC.PARTNER (if (!(decide (3 * 65536 < 10 * ofs) || decide (10 * ofs < -(3 * 65536)))) = true then 1 else 0)).set TIM_PARTOFS.PARTOFS (ofInt 32 (ofs / 256)))))) ∧
  (∀ (s : State) (u : UnitId) , 16 ≤ (s.unit u).tim.misalign →
      (s.unit u).isHolder = false →
      exec (.alignError u) s = .next (s.onUnit u (fun x => x.err TIM_ERR.ALIGN)))

/-- An allowed request of a period change in Hold, with T from 20 to 200 and PN_eff from 64 to 2^31 - 1 periods ahead, stores NEW_T, sets REQ and RES 5 and starts the change; the partner queues it and answers; the answer is remembered for the change in progress; at the decision it goes ahead when answered and when both transactions ended with OK, and otherwise the cells are disarmed, the partner is told and RES is 3; a dropped change is forgotten by the partner. The definitions it names carry choices of the model: log entries 169, 207. -/
def Obligations.PeriodChangeMessages : Prop :=
  (∀ (s : State) (u : UnitId) (q : Requester) (v : Word), (s.unit u).allowed q true 0x4068 = true →
      (s.unit u).bit TIM_PCHG.REQ = false →
      (decide (20 ≤ v.toNat % 256) && decide (v.toNat % 256 ≤ 200)) = true →
      bitAt v.toNat 31 = true →
      ((s.unit u).set TIM_PCHG.NEW_T (v.toNat % 256)).inHold = true →
      ¬ (((s.unit u).set TIM_PCHG.NEW_T (v.toNat % 256)).pchgPn < ((s.unit u).set TIM_PCHG.NEW_T (v.toNat % 256)).pn + 64 ∨ ((s.unit u).set TIM_PCHG.NEW_T (v.toNat % 256)).pn + 2 ^ 31 ≤ ((s.unit u).set TIM_PCHG.NEW_T (v.toNat % 256)).pchgPn) →
      exec (.timPchgReq u q v) s = .next (s.onUnit u (fun x => (fun y : UnitSt => ((y.set TIM_PCHG.REQ 1).set TIM_PCHG.RES 5).pchgStart y.pchgPn (v.toNat % 256)) (x.set TIM_PCHG.NEW_T (v.toNat % 256))))) ∧
  (∀ (s : State) (u : UnitId) (pn : BitVec 48) (t : BitVec 8), (s.unit u).inHold = true →
      exec (.pchgReqRx u pn t) s = .next (s.onUnit u (fun x => ({ x with tim := { x.tim with peer := some (pn.toNat, t.toNat) } } : UnitSt).emit (.splice (.pchgAnswer pn.toNat))))) ∧
  (∀ (s : State) (u : UnitId) (pn : BitVec 48) (t : Nat), (s.unit u).tim.pchg = some (pn.toNat, t) →
      exec (.pchgAnswerRx u pn) s = .next (s.onUnit u (fun x => { x with tim := { x.tim with pchgAns := true } }))) ∧
  (∀ (s : State) (u : UnitId) (p t : Nat), (s.unit u).tim.pchg = some (p, t) →
      (s.unit u).tim.pchgGo = false →
      p ≤ (s.unit u).pn + 2 →
      (s.unit u).tim.pchgAns = true →
      (s.unit u).inHold = true →
      (s.unit u).tim.pchgIds.all (fun i => (s.unit u).hbxEnded i == some 0) = true →
      exec (.pchgDecide u) s = .next (s.onUnit u (fun x => { x with tim := { x.tim with pchgGo := true } }))) ∧
  (∀ (s : State) (u : UnitId) (p t : Nat), (s.unit u).tim.pchg = some (p, t) →
      (s.unit u).tim.pchgGo = false →
      p ≤ (s.unit u).pn + 2 →
      (s.unit u).tim.pchgAns = false →
      exec (.pchgDecide u) s = .next (s.onUnit u (fun x => (fun y : UnitSt => (y.emit (.splice (.pchgDrop p))).pchgEnd (if (y.emit (.splice (.pchgDrop p))).inHold = true then 3 else 2)) (x.submit6 (writeDesc true 0 0x7F 0x707C 0 0)).2))) ∧
  (∀ (s : State) (u : UnitId) (pn : BitVec 48) (t : Nat), (s.unit u).tim.peer = some (pn.toNat, t) →
      exec (.pchgDropRx u pn) s = .next (s.onUnit u (fun x => { x with tim := { x.tim with peer := none } })))

/-- The next output of an enabled, clocked input of a working MIN block of a unit that counts periods, past settling and out of fault, moves time to the instant it becomes available, scales the raw result, stores it with te, index and CLIP as the latest result and in MIN_CHRES, clears SETTLE and the fault bits of the input, and goes to Reel; XING is set where Caliper, the loop engines or Reel are away. A change of the measured RTD of an input clocked by its MCKI is stored; the latencies of the inputs that Caliper names are compared again when a return delay changed by more than 2 ns. The end of a standing fault condition shows the last valid result and restarts the decimator at the first edge after it. The definitions it names carry choices of the model: log entries 113, 114, 115, 140, 156, 206, 209, 221. -/
def Obligations.CentralInputResults : Prop :=
  (∀ (s : State) (u : UnitId) (n : Fin 32) (sum : Nat), (!((s.unit u).inp n.val).on || !(s.unit u).mckRuns n.val || !(s.unit u).works 0x30000 || !(s.unit u).tim.counting) = false →
      ((s.unit u).inp n.val).order < ((s.unit u).inp n.val).idx + 1 →
      (((s.unit u).tick (((s.unit u).inp n.val).nextEdge + (s.unit u).rtd n.val * 16384 + 1310720)).bit MIN_CHSTAT.FLT n.val) = false →
      exec (.minResult u n sum) s = .next (s.onUnit u (fun x => 
      let c := x.inp n.val
      let edge := c.nextEdge
      let y := x.tick (edge + x.rtd n.val * 16384 + 1310720)
      let z := rawOf (2 ^ (c.k * c.order)) sum
      let clip := decide (((y.fld MIN_CHDLY.CLIPTH n.val : Nat) : Int) * 2 ^ 32 < (z.natAbs : Int))
      let r : MinRes := { v := y.scaled n.val z, x := z, te := c.effective edge, avail := edge + x.rtd n.val * 16384 + 1310720, oidx := c.idx + 1, run := c.run, clip := clip, settle := false, flt := false }
      let y := (y.setInp n.val { c with idx := c.idx + 1, hist := trimHist (edge + x.rtd n.val * 16384 + 1310720 - y.keepFor) r c.hist, last := some r }).set MIN_CHRES.V r.v.toNat n.val
      let y := (((((y.set MIN_CHSTAT.SETTLE 0 n.val).set MIN_CHSTAT.CLIP (b2n clip) n.val).set MIN_CHSTAT.FLT 0 n.val).set MIN_CHSTAT.NOCLK 0 n.val).set MIN_CHSTAT.STUCK 0 n.val)
      let w := y.fld MIN_FLT.FLT
      let y := (if bitAt w n.val then y.set MIN_FLT.FLT (w ^^^ (1 <<< n.val)) else y).showInputs
      (if y.away 0x22000 || y.away 0x23000 || y.away 0x31000 then y.err MIN_ERR.XING else y).reelResult n.val c.hist.head? r))) ∧
  (∀ (s : State) (u : UnitId) (n : Fin 32) (rtd : BitVec 12), (!(s.unit u).works 0x30000 || MIN_CHCFG.CKSRC.get ((s.unit u).inp n.val).cfg 0 == 1) = false →
      (((s.unit u).set MIN_CHSTAT.RTD rtd.toNat n.val).works 0x30000 && (List.range 32).any (fun m => decide ((s.unit u).rtd m + 8 < ((s.unit u).set MIN_CHSTAT.RTD rtd.toNat n.val).rtd m) || decide (((s.unit u).set MIN_CHSTAT.RTD rtd.toNat n.val).rtd m + 8 < (s.unit u).rtd m))) = false →
      exec (.rtdChange u n rtd) s = .next (s.onUnit u (fun x => x.set MIN_CHSTAT.RTD rtd.toNat n.val))) ∧
  (∀ (s : State) (u : UnitId) (n : Fin 32) (rtd : BitVec 12), (!(s.unit u).works 0x30000 || MIN_CHCFG.CKSRC.get ((s.unit u).inp n.val).cfg 0 == 1) = false →
      (((s.unit u).set MIN_CHSTAT.RTD rtd.toNat n.val).works 0x30000 && (List.range 32).any (fun m => decide ((s.unit u).rtd m + 8 < ((s.unit u).set MIN_CHSTAT.RTD rtd.toNat n.val).rtd m) || decide (((s.unit u).set MIN_CHSTAT.RTD rtd.toNat n.val).rtd m + 8 < (s.unit u).rtd m))) = true →
      exec (.rtdChange u n rtd) s = .next (s.onUnit u (fun x => (x.set MIN_CHSTAT.RTD rtd.toNat n.val).latCheck))) ∧
  (∀ (s : State) (u : UnitId) (n : Fin 32) (t : Instant), (!(((s.unit u).tick t).inp n.val).cond || !((s.unit u).tick t).works 0x30000) = false →
      exec (.minFaultEnd u n t) s = .next (s.onUnit u (fun x => (((x.tick t).set MIN_CHRES.V ((((x.tick t).inp n.val).last.getD ((x.tick t).inp n.val).none_).v).toNat n.val).onInp n.val (fun c => { c with cond := false })).minRestart n.val (t + 1))))

/-- An input that enters fault for want of a clock, or for a stream stuck while STUCKN is not 0, shows the reason and FLT, sets its bit of MIN_FLT and the error line and counts FLTEV once; without FVAL its result reads as a quiet NaN. At the boundary of a sync every decimator restarts, the sync is counted and its PN stored. The holder answers a request of a sync with RES 1, the sync of the next launch at least 1 µs ahead, and its PN over Splice; a standby queues the PN it is told. The definitions it names carry choices of the model: log entry 207. -/
def Obligations.CentralInputFaultsAndSync : Prop :=
  (∀ (s : State) (u : UnitId) (n : Fin 32), ¬ (MIN_CHCFG.CKSRC.get ((s.unit u).inp n.val).cfg 0 = 1) →
      (s.unit u).mckRuns n.val = true →
      (!((s.unit u).inp n.val).on || !(s.unit u).works 0x30000) = false →
      ((s.unit u).inp n.val).cond = false →
      exec (.minNoclk u n) s = .next (s.onUnit u (fun x => 
      let y := ((((x.set MIN_CHSTAT.NOCLK 1 n.val).set MIN_CHSTAT.FLT 1 n.val).set MIN_FLT.FLT (x.fld MIN_FLT.FLT ||| (1 <<< n.val))).err MIN_ERR.NOCLK).inc MIN_CNT.FLTEV
      let y := y.onInp n.val (fun c => { c with cond := true })
      (if y.bit MIN_CHCFG.FVAL n.val then y else y.set MIN_CHRES.V 0x7FC00000 n.val).showInputs))) ∧
  (∀ (s : State) (u : UnitId) (n : Fin 32), ¬ ((s.unit u).fld MIN_CHCFG.STUCKN n.val = 0) →
      (!((s.unit u).inp n.val).on || !(s.unit u).works 0x30000) = false →
      ((s.unit u).inp n.val).cond = false →
      exec (.minStuck u n) s = .next (s.onUnit u (fun x => 
      let y := ((((x.set MIN_CHSTAT.STUCK 1 n.val).set MIN_CHSTAT.FLT 1 n.val).set MIN_FLT.FLT (x.fld MIN_FLT.FLT ||| (1 <<< n.val))).err MIN_ERR.STUCK).inc MIN_CNT.FLTEV
      let y := y.onInp n.val (fun c => { c with cond := true })
      (if y.bit MIN_CHCFG.FVAL n.val then y else y.set MIN_CHRES.V 0x7FC00000 n.val).showInputs))) ∧
  (∀ (s : State) (u : UnitId) (q : Requester) (t : Instant), ((s.unit u).tick t).allowed q true 0x30344 = true →
      ((s.unit u).tick t).works 0x30000 = true →
      ((s.unit u).tick t).isHolder = true →
      exec (.minSyncReq u q t) s = .next (s.onUnit u (fun x =>
      let y := x.tick t
      let pn := y.syncLaunch t + 1
      let z := (y.set MIN_SYNC.RES 1).syncDue pn
      if z.splUp then z.emit (.splice (.syncPn pn)) else z))) ∧
  (∀ (s : State) (u : UnitId) (pn : BitVec 48), ((s.unit u).isHolder || (s.unit u).inQuiet) = false →
      exec (.syncPnRx u pn) s = .next (s.onUnit u (fun x => x.syncDue pn.toNat))) ∧
  (∀ (s : State) (u : UnitId) , (!(s.unit u).mins.syncs.contains (s.unit u).pn || !(s.unit u).works 0x30000) = false →
      exec (.converterSync u) s = .next (s.onUnit u (fun x => 
      let y : UnitSt := { x with mins := { x.mins with syncs := x.mins.syncs.filter (fun p => decide (x.pn < p)) } }
      let y := (List.range 32).foldl (fun y n => y.minRestart n (y.t0 y.pn)) y
      let y := (y.inc MIN_CNT.SYNCS).setPair MIN_SYNCPN_LO.PN_LO MIN_SYNCPN_HI.PN_HI y.pn
      if y.fld MIN_SYNC.RES = 1 then y.set MIN_SYNC.RES 3 else y)))

/-- A watched trip input of a working MIN block that changes, outside Quiet, shows its level, its time in 125 ps and its direction, keeps the stamp, latches with its event, tells Reel, and, of the converter trip class, sends STOP on every port. In Quiet the change of a watched input shows its level and its CHG bit, sets PWR_ERR.QTRIP, keeps the time of the first such change in steps of 40 ns, and of the converter trip class sends STOP. A stamp below 125 ps is cut. The definitions it names carry choices of the model: log entries 115, 116, 207. -/
def Obligations.TripInputs : Prop :=
  (∀ (s : State) (u : UnitId) (n : Fin 16) (level : Bool) (t : Instant), ¬ ((((s.unit u).tick t).set MIN_TRIPSTAT.LVL (putBit ((s.unit u).fld MIN_TRIPSTAT.LVL) n.val level)).tripClass n.val = 0) →
      (((s.unit u).tick t).set MIN_TRIPSTAT.LVL (putBit ((s.unit u).fld MIN_TRIPSTAT.LVL) n.val level)).inQuiet = false →
      (((s.unit u).tick t).set MIN_TRIPSTAT.LVL (putBit ((s.unit u).fld MIN_TRIPSTAT.LVL) n.val level)).works 0x30000 = true →
      exec (.tripInputChange u n level t) s = .next (s.onUnit u (fun x => 
      let y := (x.tick t).set MIN_TRIPSTAT.LVL (putBit (x.fld MIN_TRIPSTAT.LVL) n.val level)
      let y := ((y.setPair MIN_TTS_LO.NS_LO MIN_TTS_HI.NS_HI (t * 8 / ns / 8 % 2 ^ 64) n.val).set MIN_TTS_F.FRAC (t * 8 / ns % 8) n.val).set MIN_TTS_F.DIR (b2n level) n.val
      let y : UnitSt := { y with mins := { y.mins with stamps := sset (fun _ => []) y.mins.stamps n.val ((t * 8 / ns :: sget (fun _ => []) y.mins.stamps n.val).take 8) } }
      let y := (y.set MIN_TRIPSTAT.LATCH (putBit (y.fld MIN_TRIPSTAT.LATCH) n.val true)).evtBit 0x30000 n.val
      let y := y.reelTrip n.val level (t * 8 / ns * (ns / 8))
      if y.tripClass n.val = 2 then y.stopAll t else y))) ∧
  (∀ (s : State) (u : UnitId) (n : Fin 16) (level : Bool) (t : Instant), ¬ ((((s.unit u).tick t).set MIN_TRIPSTAT.LVL (putBit ((s.unit u).fld MIN_TRIPSTAT.LVL) n.val level)).tripClass n.val = 0) →
      (((s.unit u).tick t).set MIN_TRIPSTAT.LVL (putBit ((s.unit u).fld MIN_TRIPSTAT.LVL) n.val level)).inQuiet = true →
      exec (.quietTripChange u n level t) s = .next (s.onUnit u (fun x => 
      let y := (x.tick t).set MIN_TRIPSTAT.LVL (putBit (x.fld MIN_TRIPSTAT.LVL) n.val level)
      let w : UnitSt := { y with quietTrip := true }
      let z := (w.set PWR_QTRIP.CHG (putBit (w.fld PWR_QTRIP.CHG) n.val true)).err PWR_ERR.QTRIP
      let z := if !y.quietTrip then z.setPair PWR_QTRIPT_LO.NS_LO PWR_QTRIPT_HI.NS_HI (t / ns / 40 * 40 % 2 ^ 64) else z
      if z.tripClass n.val = 2 then z.stopAll t else z)))

/-- An allowed write of LPE_CHCFG with EN 1 of a channel that is off and may be enabled stores the other fields and sets EN; one with EN 0 of a channel that is on, with the other fields as they stand, clears EN. A swap that meets no refusal shows RES 1, is queued as the last one, and goes to the partner over Splice or sets SPLONE; one from the partner is queued the same way or answered with its refusal, which sets SPLONE here. A move to a spare engine is kept and shows RES 1, any other RES 2. A refusal of the partner sets SPLONE. A swap whose PN has come and whose channel runs becomes due in that channel. The definitions it names carry choices of the model: log entries 17, 26, 74, 207, 210, 211. -/
def Obligations.LoopRequests : Prop :=
  (∀ (s : State) (u : UnitId) (q : Requester) (c : Fin 96) (v : Word), (s.unit u).allowed q true (LPE_CHCFG.EN.addr c.val) = true →
      (s.unit u).bit LPE_CHCFG.EN c.val = false →
      bitAt v.toNat 31 = true →
      ((s.unit u).setWord (LPE_CHCFG.EN.addr c.val) (v &&& 0x3F9C0000)).mayEnable c.val = true →
      exec (.lpeChcfgWrite u q c v) s = .next (s.onUnit u (fun x => (x.setWord (LPE_CHCFG.EN.addr c.val) (v &&& 0x3F9C0000)).set LPE_CHCFG.EN 1 c.val))) ∧
  (∀ (s : State) (u : UnitId) (q : Requester) (c : Fin 96) (v : Word), (s.unit u).allowed q true (LPE_CHCFG.EN.addr c.val) = true →
      (s.unit u).bit LPE_CHCFG.EN c.val = true →
      bitAt v.toNat 31 = false →
      v &&& 0x3F9C0000 = ((s.unit u).word (LPE_CHCFG.EN.addr c.val) &&& 0x3F9C0000) →
      exec (.lpeChcfgWrite u q c v) s = .next (s.onUnit u (fun x => (x.set LPE_CHCFG.EN 0 c.val).onChan c.val (fun k => { k with cleared := true })))) ∧
  (∀ (s : State) (u : UnitId) (q : Requester) (v : Word) (pn : Nat), (s.unit u).allowed q true 0x23044 = true →
      pn = (if bitAt v.toNat 30 = true then (s.unit u).pn + 2 else (s.unit u).pair LPE_SWAPPN_LO.PN_LO LPE_SWAPPN_HI.PN_HI) →
      (s.unit u).swapCode { ch := v.toNat % 128, bank := v.toNat / 2 ^ 31, n := v.toNat / 65536 % 8192, pn := pn, last := true } = 1 →
      ((s.unit u).set LPE_SWAPRES.RES 1).splUp = true →
      exec (.lpeSwapReq u q v) s = .next (s.onUnit u (fun x => 
      let y := x.set LPE_SWAPRES.RES 1
      let clear (c : ChanSt) : ChanSt := { c with due := c.due.map (fun q => { q with last := false }) }
      let y : UnitSt := { y with lpe := { y.lpe with queue := y.lpe.queue.map (fun q => { q with last := false }) ++ [{ ch := v.toNat % 128, bank := v.toNat / 2 ^ 31, n := v.toNat / 65536 % 8192, pn := pn, last := true }], chs := y.lpe.chs.foldl (fun m e => sset (fun _ => {}) m e.1 (clear e.2)) [] } }
      y.emit (.splice (.swap (v.toNat % 128) (v.toNat / 2 ^ 31) (v.toNat / 65536 % 8192) pn))))) ∧
  (∀ (s : State) (u : UnitId) (ch : Fin 128) (bank : Fin 2) (n : Fin 8192) (pn : BitVec 48), (s.unit u).works 0x23000 = true →
      (s.unit u).swapCode { ch := ch.val, bank := bank.val, n := n.val, pn := pn.toNat, last := false } = 1 →
      exec (.swapReqRx u ch bank n pn) s = .next (s.onUnit u (fun x => { x with lpe := { x.lpe with queue := x.lpe.queue ++ [{ ch := ch.val, bank := bank.val, n := n.val, pn := pn.toNat, last := false }] } }))) ∧
  (∀ (s : State) (u : UnitId) (ch : Fin 128) (bank : Fin 2) (n : Fin 8192) (pn : BitVec 48), (s.unit u).works 0x23000 = true →
      ¬ ((s.unit u).swapCode { ch := ch.val, bank := bank.val, n := n.val, pn := pn.toNat, last := false } = 1) →
      exec (.swapReqRx u ch bank n pn) s = .next (s.onUnit u (fun x => x.emit (.splice (.swapRefusal ch.val (x.swapCode { ch := ch.val, bank := bank.val, n := n.val, pn := pn.toNat, last := false })))))) ∧
  (∀ (s : State) (u : UnitId) (ch : Fin 128) (res : Fin 8), (s.unit u).works 0x23000 = true →
      exec (.swapRefusalRx u ch res) s = .next (s.onUnit u (fun x => x.err LPE_ERR.SPLONE))) ∧
  (∀ (s : State) (u : UnitId) (r : SwapReq), (s.unit u).works 0x23000 = true →
      (s.unit u).lpe.queue = [r] →
      r.pn ≤ (s.unit u).pn →
      (({ (s.unit u) with lpe := { (s.unit u).lpe with queue := [] } } : UnitSt).chan r.ch).on = true →
      exec (.swapEffect u) s = .next (s.onUnit u (fun x => ({ x with lpe := { x.lpe with queue := [] } } : UnitSt).onChan r.ch (fun c => { c with due := c.due ++ [r] })))) ∧
  (∀ (s : State) (u : UnitId) (q : Requester) (v : Word), (s.unit u).allowed q true 0x23058 = true →
      v.toNat % 128 < 96 ∧ (s.unit u).spares.contains (v.toNat / 256 % 128) = true →
      exec (.lpeMoveReq u q v) s = .next (s.onUnit u (fun x => (fun y : UnitSt => { y with lpe := { y.lpe with moves := (v.toNat % 128, v.toNat / 256 % 128) :: y.lpe.moves.filter (fun m => m.1 != v.toNat % 128) } }) (x.set LPE_MOVE.RES 1))))

/-- A commit is kept for PN + 2 with the values of the 64 pending copies and told to the partner; the partner keeps what it is told; at the compute start of its PN the values become the setpoints. A channel whose saturation count reaches SWARN or SFAULT, which are not 0, sets SATW or SATF and its number once. In every period a working Reel evaluates its masks in order, capture or not: after DWELL outside periods in a row an armed mask is violated, and after DWELL inside ones it is armed again. The definitions it names carry choices of the model: log entries 122, 207, 213. -/
def Obligations.SetpointsSaturationMasks : Prop :=
  (∀ (s : State) (u : UnitId) (q : Requester) , (s.unit u).allowed q true 0x23054 = true →
      (s.unit u).splUp = true →
      exec (.setpCommitReq u q) s = .next (s.onUnit u (fun x => 
      let vals := (List.range 64).map (fun i => (i, BitVec.ofNat 32 (x.fld LPE_SETP.SETP i)))
      ({ x with lpe := { x.lpe with commits := x.lpe.commits ++ [(x.pn + 2, vals)] } } : UnitSt).emit (.splice (.setp (x.pn + 2) vals))))) ∧
  (∀ (s : State) (u : UnitId) (pn : BitVec 48) (vals : List Word), (s.unit u).works 0x23000 = true →
      exec (.setpCommitRx u pn vals) s = .next (s.onUnit u (fun x => { x with lpe := { x.lpe with commits := x.lpe.commits ++ [(pn.toNat, (List.range 64).filterMap (fun i => (vals[i]?).map (fun v => (i, v))))] } }))) ∧
  (∀ (s : State) (u : UnitId) , (s.unit u).works 0x23000 = true →
      exec (.setpCommitEffect u) s = .next (s.onUnit u (fun x => { x with lpe := { x.lpe with
        commits := x.lpe.commits.filter (fun c => decide (x.pn ≤ c.1))
        setp := (x.lpe.commits.filter (fun c => decide (c.1 ≤ x.pn))).foldl (fun m c => c.2.foldl (fun m e => sset (fun _ => 0) m e.1 e.2) m) x.lpe.setp } }))) ∧
  (∀ (s : State) (u : UnitId) (c : Fin 96), ((s.unit u).chan c.val).on = true →
      (s.unit u).fld LPE_CHSWARN.SWARN c.val ≠ 0 →
      (s.unit u).fld LPE_CHSWARN.SWARN c.val ≤ (s.unit u).fld LPE_CHSATCNT.CNT c.val →
      ((s.unit u).chan c.val).warned = false →
      exec (.satWarn u c) s = .next (s.onUnit u (fun x => ((x.err LPE_ERR.SATW).set LPE_SATCH.WCH c.val).onChan c.val (fun s => { s with warned := true })))) ∧
  (∀ (s : State) (u : UnitId) (c : Fin 96), ((s.unit u).chan c.val).on = true →
      (s.unit u).fld LPE_CHSFLT.SFAULT c.val ≠ 0 →
      (s.unit u).fld LPE_CHSFLT.SFAULT c.val ≤ (s.unit u).fld LPE_CHSATCNT.CNT c.val →
      ((s.unit u).chan c.val).failed = false →
      exec (.satFault u c) s = .next (s.onUnit u (fun x => ((x.err LPE_ERR.SATF).set LPE_SATCH.FCH c.val).onChan c.val (fun s => { s with failed := true })))) ∧
  (∀ (s : State) (u : UnitId) , ((s.unit u).works 0x31000 && (s.unit u).tim.counting) = true →
      exec (.maskEvaluate u) s = .next (s.onUnit u (fun x => (List.range 32).foldl (fun x k => x.maskStep k) x))) ∧
  (∀ (m : MaskSt) (dwell : Nat), m.armed = true → 0 < dwell → m.out + 1 < dwell → maskNext m dwell true = ({ m with out := m.out + 1, inn := 0 }, false)) ∧
  (∀ (m : MaskSt) (dwell : Nat), m.armed = true → dwell ≤ m.out + 1 → maskNext m dwell true = ({ armed := false, out := 0, inn := 0 }, true)) ∧
  (∀ (m : MaskSt) (dwell : Nat), m.armed = false → dwell ≤ m.inn + 1 → maskNext m dwell false = ({ armed := true, out := 0, inn := 0 }, false))

/-- An allowed operation 1 to 4 on a configured cell shows RES 4 and waits, with the C and ESR of CLP_CMDC and CLP_CMDESR, for the next computation; with Splice up the partner is told, and queues the operation for the same PN. At that computation it is carried out and CLP_CMD shows RES 1 for an own one: a seed replaces C and ESR of the record, RETIRE retires the cell with the error bit RETIRE, UNRETIRE and CLRCHK clear their flags. A read of CLP_REC0 returns word 0 of the selected record and latches words 1 to 15. A partner's operation that finds Caliper away is lost with SPL_ERR.XING. The definitions it names carry choices of the model: log entries 26, 74, 99, 207, 221. -/
def Obligations.CaliperCommands : Prop :=
  (∀ (s : State) (u : UnitId) (q : Requester) (st h : Nat), (s.unit u).allowed q true 0x220F8 = true →
      st = (s.unit u).fld CLP_SEL.STRAND →
      h = (s.unit u).fld CLP_SEL.HOP →
      (s.unit u).isCell st h = true →
      exec (.clpCmdSeed u q) s = .next (s.onUnit u (fun x => 
      let o : ClpOp := { op := 1, key := st * 64 + h, c := x.word 0x220F0, esr := x.word 0x220F4, pn := x.nextCompute, own := true }
      let y : UnitSt := { x.set CLP_CMD.RES 4 with clp := { x.clp with cmds := x.clp.cmds ++ [o] } }
      if y.splUp then y.emit (.splice (.clpCmd 1 st h o.c o.esr o.pn)) else y))) ∧
  (∀ (s : State) (u : UnitId) (q : Requester) (st h : Nat), (s.unit u).allowed q true 0x220F8 = true →
      st = (s.unit u).fld CLP_SEL.STRAND →
      h = (s.unit u).fld CLP_SEL.HOP →
      (s.unit u).isCell st h = true →
      exec (.clpCmdRetire u q) s = .next (s.onUnit u (fun x => 
      let o : ClpOp := { op := 2, key := st * 64 + h, c := x.word 0x220F0, esr := x.word 0x220F4, pn := x.nextCompute, own := true }
      let y : UnitSt := { x.set CLP_CMD.RES 4 with clp := { x.clp with cmds := x.clp.cmds ++ [o] } }
      if y.splUp then y.emit (.splice (.clpCmd 2 st h o.c o.esr o.pn)) else y))) ∧
  (∀ (s : State) (u : UnitId) (q : Requester) (st h : Nat), (s.unit u).allowed q true 0x220F8 = true →
      st = (s.unit u).fld CLP_SEL.STRAND →
      h = (s.unit u).fld CLP_SEL.HOP →
      (s.unit u).isCell st h = true →
      exec (.clpCmdUnretire u q) s = .next (s.onUnit u (fun x => 
      let o : ClpOp := { op := 3, key := st * 64 + h, c := x.word 0x220F0, esr := x.word 0x220F4, pn := x.nextCompute, own := true }
      let y : UnitSt := { x.set CLP_CMD.RES 4 with clp := { x.clp with cmds := x.clp.cmds ++ [o] } }
      if y.splUp then y.emit (.splice (.clpCmd 3 st h o.c o.esr o.pn)) else y))) ∧
  (∀ (s : State) (u : UnitId) (q : Requester) (st h : Nat), (s.unit u).allowed q true 0x220F8 = true →
      st = (s.unit u).fld CLP_SEL.STRAND →
      h = (s.unit u).fld CLP_SEL.HOP →
      (s.unit u).isCell st h = true →
      exec (.clpCmdClrchk u q) s = .next (s.onUnit u (fun x => 
      let o : ClpOp := { op := 4, key := st * 64 + h, c := x.word 0x220F0, esr := x.word 0x220F4, pn := x.nextCompute, own := true }
      let y : UnitSt := { x.set CLP_CMD.RES 4 with clp := { x.clp with cmds := x.clp.cmds ++ [o] } }
      if y.splUp then y.emit (.splice (.clpCmd 4 st h o.c o.esr o.pn)) else y))) ∧
  (∀ (s : State) (u : UnitId) (op : Fin 8) (c : CellId) (cp esr : Word) (pn : BitVec 48), (s.unit u).inQuiet = false →
      (s.unit u).works 0x22000 = true →
      exec (.clpCmdRx u op c cp esr pn) s = .next (s.onUnit u (fun x => { x with clp := { x.clp with cmds := x.clp.cmds ++ [{ op := op.val, key := c.key, c := cp, esr := esr, pn := pn.toNat, own := false }] } }))) ∧
  (∀ (s : State) (u : UnitId) (op : Fin 8) (c : CellId) (cp esr : Word) (pn : BitVec 48), (s.unit u).inQuiet = false →
      (s.unit u).works 0x22000 = false →
      exec (.clpCmdRx u op c cp esr pn) s = .next (s.onUnit u (fun x => if (s.unit u).away 0x22000 then x.err SPL_ERR.XING else x))) ∧
  (∀ (x : UnitSt) (o : ClpOp), x.clp.cmds = [o] → o.pn ≤ x.pn → x.clpCommands = (fun y : UnitSt => if o.own then y.set CLP_CMD.RES 1 else y) (({ x with clp := { x.clp with cmds := [] } } : UnitSt).clpApply o)) ∧
  (∀ (x : UnitSt) (k : Nat) (c esr : Word) (pn : Nat) (own : Bool), x.clpApply ⟨1, k, c, esr, pn, own⟩ = x.onRec k (fun r => { r with c := c, esr := esr, esrt := esr, given := some (c, esr) })) ∧
  (∀ (x : UnitSt) (k : Nat) (c esr : Word) (pn : Nat) (own : Bool), x.clpApply ⟨2, k, c, esr, pn, own⟩ = (x.onRec k (fun r => { r with retired := true, retpend := false })).err CLP_ERR.RETIRE) ∧
  (∀ (x : UnitSt) (k : Nat) (c esr : Word) (pn : Nat) (own : Bool), x.clpApply ⟨3, k, c, esr, pn, own⟩ = x.onRec k (fun r => { r with retired := false, retpend := false })) ∧
  (∀ (x : UnitSt) (k : Nat) (c esr : Word) (pn : Nat) (own : Bool), x.clpApply ⟨4, k, c, esr, pn, own⟩ = x.onRec k (fun r => { r with chkfail := false, chkcnt := 0 })) ∧
  (∀ (s : State) (u : UnitId) (q : Requester) , (s.unit u).allowed q false 0x220B0 = true →
      exec (.clpRecRead u q) s = .next (s.onUnit u (fun x => x.onReq q (fun r => { r with rdata := x.recWords.headD 0, latch := (List.range 15).map (fun i => (0x220B4 + 4 * i, x.recWords.getD (i + 1) 0)) }))))

/-- A sub-step whose mean is available is integrated into every record of its arm; a failed check marks the record CHKFAIL with the error bit CHK; a worn cell is retired, or marked RETPEND where fewer than NREQ cells would stay available. A Calender run takes the exclusions written since the last one and gives the slots of the six arms in order; a missed deadline sets LATE and marks the period late. A write of CAL_FX of a configured cell is kept for the next run. The definitions it names carry choices of the model: log entries 90, 95, 102, 105, 207, 221. -/
def Obligations.CaliperCalenderEvents : Prop :=
  (∀ (s : State) (u : UnitId) (arm : Fin 6) (t : Instant) (pn : Nat) (a b : Instant), ((s.unit u).tick t).works 0x22000 = true →
      ((s.unit u).tick t).subStep (((s.unit u).tick t).clpFront arm.val) = some (pn, a, b) →
      b + ((s.unit u).tick t).armLat arm.val ≤ t →
      exec (.substepIntegrate u arm t) s = .next (s.onUnit u (fun x => (x.tick t).armStep arm.val))) ∧
  (∀ (s : State) (u : UnitId) (c : CellId), (!(s.unit u).works 0x22000 || ((s.unit u).clpRec c.key).chkfail || decide (((s.unit u).clpRec c.key).chkcnt < max 1 ((s.unit u).fld CLP_CHK.CHKN))) = false →
      exec (.chkFail u c) s = .next (s.onUnit u (fun x => (x.onRec c.key (fun r => { r with chkfail := true })).err CLP_ERR.CHK))) ∧
  (∀ (s : State) (u : UnitId) (c : CellId) (arm : Nat), (s.unit u).armOf c.key = some arm →
      (s.unit u).works 0x22000 = true →
      ¬ ((s.unit u).fld CLP_WCFG.RETCONF = 0 ∨ ((s.unit u).clpRec c.key).rcnt < (s.unit u).fld CLP_WCFG.RETCONF ∨ ((s.unit u).clpRec c.key).retired = true ∨ ((s.unit u).clpRec c.key).retpend = true) →
      (s.unit u).availableBut arm c.key < (s.unit u).fld CAL_ARMCFG.NREQ arm →
      exec (.wearRetire u c) s = .next (s.onUnit u (fun x => ((x.onRec c.key (fun r => { r with retpend := true })).err CLP_ERR.RETPEND).showClp))) ∧
  (∀ (s : State) (u : UnitId) (c : CellId) (arm : Nat), (s.unit u).armOf c.key = some arm →
      (s.unit u).works 0x22000 = true →
      ¬ ((s.unit u).fld CLP_WCFG.RETCONF = 0 ∨ ((s.unit u).clpRec c.key).rcnt < (s.unit u).fld CLP_WCFG.RETCONF ∨ ((s.unit u).clpRec c.key).retired = true ∨ ((s.unit u).clpRec c.key).retpend = true) →
      ¬ ((s.unit u).availableBut arm c.key < (s.unit u).fld CAL_ARMCFG.NREQ arm) →
      exec (.wearRetire u c) s = .next (s.onUnit u (fun x => ((x.onRec c.key (fun r => { r with retired := true, retpend := false })).err CLP_ERR.RETIRE).showClp))) ∧
  (∀ (s : State) (u : UnitId) , (!(s.unit u).works 0x21000 || !(s.unit u).tim.counting) = false →
      exec (.calenderRun u) s = .next (s.onUnit u (fun x => 
      let y := x.cal.fx.reverse.foldl (fun (y : UnitSt) e => y.onRec e.1 (fun r => { r with fxcl := e.2 })) x
      let y : UnitSt := { y with cal := { y.cal with fx := [] } }
      let ys := (List.range 6).foldl (fun (xs : UnitSt × Sparse Nat) arm => xs.1.armRun arm xs.2) (y, [])
      let seen (m : Sparse Nat) (n : Nat) : Sparse Nat := sset (fun _ => 0) m n (sget (fun _ => 0) m n ||| (b2n (ys.1.bit CAL_ASTAT.LOW n) + 2 * b2n (ys.1.bit CAL_ASTAT.SATP n) + 4 * b2n (ys.1.bit CAL_ASTAT.SATN n)))
      let z := ys.1.crossTo 0x20000 CAL_ERR.XING
      { z with cal := { z.cal with slots := if z.works 0x20000 then ys.2 else z.cal.slots }, flt := { z.flt with health := { ys.1.flt.health with armbits := (List.range 6).foldl seen ys.1.flt.health.armbits } } }))) ∧
  (∀ (s : State) (u : UnitId) (cal : Bool), (s.unit u).works (if cal then 0x21000 else 0x22000) = true →
      exec (.stageDeadlineMiss u cal) s = .next (s.onUnit u (fun x => (fun y : UnitSt => { y with cal := { y.cal with late := true } }) (if cal then x.err CAL_ERR.LATE else x.err CLP_ERR.LATE)))) ∧
  (∀ (s : State) (u : UnitId) (q : Requester) (v : Word), (s.unit u).allowed q true 0x210D0 = true →
      (s.unit u).isCell (CAL_FX.STRAND.get v 0) (CAL_FX.HOP.get v 0) = true →
      exec (.calFxWrite u q v) s = .next (s.onUnit u (fun x => { x with cal := { x.cal with fx := (CAL_FX.STRAND.get v 0 * 64 + CAL_FX.HOP.get v 0, bitAt v.toNat 31) :: x.cal.fx } })))

/-- An allowed START with no capture, a ring of 16 to 2^20 pages aligned to 4096 and a budget that fits shows RES 1 and begins at the next boundary; HALT and MARK in a capture show RES 1, the one ends it with cause HALT unless another end was already named, the other adds a mark of the host at the instant of acceptance, in full ns; the partner's trigger becomes a mark of the partner. At the end of a period the set of its snapshot is closed and the triggers are taken. A record at the head of staging that fits before the end of the ring, with 8 bytes to spare, is written under the next sequence number with the write-back of its last, ends a stall and sets FILL at the threshold. The definitions it names carry choices of the model: log entries 117, 119, 120, 207, 208. -/
def Obligations.ReelCommands : Prop :=
  (∀ (s : State) (u : UnitId) (q : Requester) , (s.unit u).allowed q true 0x310C0 = true →
      ¬ ((s.unit u).fld REEL_STAT.CAP = 1 ∨ (s.unit u).fld REEL_STAT.CAP = 2) →
      ¬ ((s.unit u).fld REEL_RSIZE.SIZE = 0) →
      ¬ ((s.unit u).fld REEL_RSIZE.SIZE < 16 ∨ 2 ^ 20 < (s.unit u).fld REEL_RSIZE.SIZE ∨ (s.unit u).fld REEL_RBASE_LO.ADDR_LO % 4096 ≠ 0) →
      (s.unit u).reelOver ((s.unit u).fld TIM_PERIOD.T) = false →
      exec (.reelStart u q) s = .next (s.onUnit u (fun x => { x.set REEL_CMD.RES 1 with reel := { x.reel with start := true } }))) ∧
  (∀ (s : State) (u : UnitId) (q : Requester) , (s.unit u).allowed q true 0x310C0 = true →
      ((s.unit u).fld REEL_STAT.CAP = 1 ∨ (s.unit u).fld REEL_STAT.CAP = 2) →
      exec (.reelHalt u q) s = .next (s.onUnit u (fun x => { x.set REEL_CMD.RES 1 with reel := { x.reel with ending := some (x.reel.ending.getD 1) } }))) ∧
  (∀ (s : State) (u : UnitId) (q : Requester) (t : Instant), ((s.unit u).tick t).allowed q true 0x310C0 = true →
      (((s.unit u).tick t).fld REEL_STAT.CAP = 1 ∨ ((s.unit u).tick t).fld REEL_STAT.CAP = 2) →
      exec (.reelMark u q t) s = .next (s.onUnit u (fun x => ((x.tick t).set REEL_CMD.RES 1).addMark { time := t / 65536, qual := 5, frac := 0, kind := 2, num := 0, stop := false, fall := false, value := 0, post := 0, pn := (x.tick t).pnOf t }))) ∧
  (∀ (s : State) (u : UnitId) (num : Fin 16) (qual frac : Fin 8) (fall : Bool) (time : Nat), (s.unit u).inQuiet = false →
      exec (.xtrigRx u num qual frac fall time) s = .next (s.onUnit u (fun x => x.reelPartner num.val qual.val frac.val fall time))) ∧
  (∀ (s : State) (u : UnitId) (p : ReelSnap), (!(s.unit u).works 0x31000 || !(s.unit u).tim.counting || (s.unit u).pn == 0) = false →
      (s.unit u).reel.snap = some p →
      ((s.unit u).capturing && p.pn + 1 == (s.unit u).pn) = true →
      exec (.reelPeriodClose u) s = .next (s.onUnit u (fun x => (fun y : UnitSt => ({ y with reel := { y.reel with snap := none, closed := y.pn - 1 } } : UnitSt).takeTriggers) (x.closeSet p)))) ∧
  (∀ (s : State) (u : UnitId) (r : ReelRec) (rest : List ReelRec), ((s.unit u).works 0x31000 && (s.unit u).bit PCIE_LINK.UP && (s.unit u).bit PCIE_LINK.BME0 && (s.unit u).ringSize != 0) = true →
      (s.unit u).reel.staging = r :: rest →
      (s.unit u).ringSize - (s.unit u).fld REEL_WPTR.WPTR ≥ r.size →
      (s.unit u).ringFill + 0 + r.size + 8 ≤ (s.unit u).ringSize →
      exec (.reelRingWrite u) s = .next (s.onUnit u (fun x => 
      let y := x.ringPut (recBytes r.rtype r.flags (r.size / 8) (x.fld REEL_SEQ.SEQ) r.pn r.sub r.body)
      let y := if r.last then y.writeBack else y
      let y := ({ y.set REEL_STAT.STALL 0 with reel := { y.reel with staging := rest } } : UnitSt).showStage
      if y.fld REEL_FILL.HTH * x.ringSize ≤ y.ringFill * 256 then y.evt REEL_EVT.FILL else y)))

/-- A standby that has judged the holder lost claims the lease for the cause it found, and no longer asks for relays; in Quiet, at the first and thirty-third period of the low-rate cycle, the evaluation is made and may claim at once; FENCE is evidence outside Quiet. A LEASE message brings Splice up, its state, epoch, READY and digest are taken, a lane retired over there is due to move, and a unit without base takes base, T and PN of a partner that counts periods. At 0.2 µs the unit sends its own. The definitions it names carry choices of the model: log entries 29, 30, 73, 78, 80, 207, 216. -/
def Obligations.LeaseEvidence : Prop :=
  (∀ (s : State) (u : UnitId) (c : Nat), (s.unit u).lse.lostNow = some c →
      (s.unit u).lstate = 0 →
      exec (.holderLostClaim u) s = .next (s.onUnit u (fun x => (x.claim c).showRelay []))) ∧
  (∀ (s : State) (u : UnitId) (pact : Bool), (s.unit u).inQuiet = true ∧ (s.unit u).pn % 32 = 0 →
      exec (.quietLeaseEval u pact) s = .next (s.onUnit u (fun x => (x.leaseCompute pact).claimLost))) ∧
  (∀ (s : State) (u : UnitId) , (s.unit u).inQuiet = false →
      exec (.fenceRx u) s = .next (s.onUnit u (fun x => { x with lse := { x.lse with fenceRx := true } }))) ∧
  (∀ (s : State) (u : UnitId) , (s.unit u).inQuiet = false →
      (s.unit u).spl.announce = none →
      exec (.leaseMsgSend u) s = .next (s.onUnit u (fun x => x.emit (.splice (.lease { lstate := ⟨x.lstate % 4, Nat.mod_lt _ (by decide)⟩, epoch := BitVec.ofNat 32 (if x.lstate = 0 then x.seenEpoch else x.lse.epoch), pn := BitVec.ofNat 48 x.pn, cfgd := BitVec.ofNat 32 x.cfgd, ready := x.ready, active := x.lse.active, hov := if x.lse.hovMine && x.lse.hovAcked then x.lse.hovP.map (BitVec.ofNat 48) else none, retired := none }))))) ∧
  (∀ (s : State) (u : UnitId) (n : Fin 4), (s.unit u).inQuiet = false →
      (s.unit u).spl.announce = some n →
      exec (.leaseMsgSend u) s = .next (s.onUnit u (fun x => ({ x.moveDue n.val x.pn with spl := { (x.moveDue n.val x.pn).spl with announce := none } } : UnitSt).emit (.splice (.lease { lstate := ⟨x.lstate % 4, Nat.mod_lt _ (by decide)⟩, epoch := BitVec.ofNat 32 (if x.lstate = 0 then x.seenEpoch else x.lse.epoch), pn := BitVec.ofNat 48 x.pn, cfgd := BitVec.ofNat 32 x.cfgd, ready := x.ready, active := x.lse.active, hov := if x.lse.hovMine && x.lse.hovAcked then x.lse.hovP.map (BitVec.ofNat 48) else none, retired := some n }))))) ∧
  (∀ (s : State) (u : UnitId) (m : LeaseMsg), (s.unit u).inQuiet = false →
      exec (.leaseMsgRx u m) s = .next (s.onUnit u (fun x =>
      let y : UnitSt := { x with spl := { x.spl with silent := 0 }, lse := { x.lse with partLse := m.lstate.val, partHold := x.lse.partHold || m.lstate.val == 2, partReady := m.ready, fenceRx := x.lse.fenceRx && m.lstate.val == 3 } }
      let y := ((y.set SPL_STAT.UP 1).seeEpoch m.epoch.toNat).takeCfgd m.cfgd.toNat
      let y := match m.retired with | some n => y.moveDue n.val m.pn.toNat | none => y
      if y.tim.baseSet = false ∧ (s.unit u.other).tim.counting = true then y.takeBase (s.unit u.other) else y))) ∧
  (∀ (s : State) (u : UnitId) , (s.unit u).splUp = true ∧ 2 ≤ (s.unit u).spl.silent →
      exec (.spliceDown u) s = .next (s.onUnit u (fun x => 
      let y := ((x.err SPL_ERR.DOWN).inc SPL_CNT2.DOWN).set SPL_STAT.UP 0
      let y := ((y.showRelay []).set SPL_RELAY.RNUM 0).set PWR_COND.CFGD 1
      { y with spl := { y.spl with relayReq := [] }, lse := { y.lse with partStby := 0, cfgdDiff := false, partCfgd := none, rsWant := [], rsOwn := [], rsRx := [], rsAsk := [], rsTx := [] } })))

/-- A lane that lost lock, or counted more block errors than BERTH, is retired with the error LANE; a lane that carries nothing needs no more; a traffic lane with automatic sparing is announced, or both move at once when both have failed; a due move takes lane 2, or else lane 3, if it is in lock, not retired and not in use. A request of a hand-over by the holder with Splice up, a READY partner and a boundary at least 3 periods ahead shows RES 0 and asks the partner; the partner in STANDBY and READY answers; the answer commits it with RES 1 if the compute start of P - 3 has not come. The definitions it names carry choices of the model: log entries 207, 216. -/
def Obligations.SpliceLanesAndHandOver : Prop :=
  (∀ (s : State) (u : UnitId) (n : Fin 4) (lost : Bool) (errs : Fin 65536), (s.unit u).inQuiet = false →
      (lost || decide (((s.unit u).set SPL_CNT1.BLKERR (min 65535 ((s.unit u).fld SPL_CNT1.BLKERR + errs.val))).fld SPL_BERTH.BERTH < errs.val)) = true →
      ((if lost then (((s.unit u).set SPL_CNT1.BLKERR (min 65535 ((s.unit u).fld SPL_CNT1.BLKERR + errs.val))).set SPL_LSTAT.LOCK 0 n.val).showLanes else (s.unit u).set SPL_CNT1.BLKERR (min 65535 ((s.unit u).fld SPL_CNT1.BLKERR + errs.val))).bit SPL_LSTAT.RET n.val) = false →
      exec (.spliceLaneRetire u n lost errs) s = .next (s.onUnit u (fun x => 
      let y := x.set SPL_CNT1.BLKERR (min 65535 (x.fld SPL_CNT1.BLKERR + errs.val))
      let y := if lost then (y.set SPL_LSTAT.LOCK 0 n.val).showLanes else y
      let y := (y.set SPL_LSTAT.RET 1 n.val).err SPL_ERR.LANE
      match y.logOf n.val with
      | none => y
      | some l =>
        if !y.bit SPL_LANEMAP.AUTOSP then y
        else if y.bit SPL_LSTAT.RET (y.laneOf (1 - l)) then { (y.moveLane 0).moveLane 1 with spl := { y.spl with announce := none, moves := [] } }
        else { y with spl := { y.spl with announce := some n } }))) ∧
  (∀ (s : State) (u : UnitId) , ¬ ((s.unit u).inQuiet = true ∨ (!(s.unit u).bit SPL_LANEMAP.AUTOSP) = true) →
      exec (.spliceLaneMove u) s = .next (s.onUnit u (fun x => 
      let due := (x.spl.moves.filter (fun m => decide (m.2 ≤ x.pn))).map (·.1)
      due.foldl (fun y l => y.moveLane l) { x with spl := { x.spl with moves := x.spl.moves.filter (fun m => !decide (m.2 ≤ x.pn)) } }))) ∧
  (∀ (x : UnitSt) (l n : Nat), [2, 3].find? (fun n => x.bit SPL_LSTAT.LOCK n && !x.bit SPL_LSTAT.RET n && !x.bit SPL_LSTAT.USE n) = some n →
      x.moveLane l = ((if l = 0 then ((x.set SPL_LSTAT.USE 0 (x.laneOf l)).set SPL_LSTAT.USE 1 n).set SPL_LANEMAP.LOG0 n else ((x.set SPL_LSTAT.USE 0 (x.laneOf l)).set SPL_LSTAT.USE 1 n).set SPL_LANEMAP.LOG1 n).inc SPL_CNT1.LANESW).showLanes) ∧
  (∀ (s : State) (u : UnitId) (q : Requester) (v : Word) (p : Nat), (s.unit u).allowed q true 0x32048 = true →
      bitAt v.toNat 31 = true →
      p = (if bitAt v.toNat 30 = true then (s.unit u).pn + 3 else (s.unit u).pair LSE_HOVPN_LO.PN_LO LSE_HOVPN_HI.PN_HI) →
      (s.unit u).isHolder = true →
      ((s.unit u).splUp && (s.unit u).lse.partReady) = true →
      (s.unit u).pn + 3 ≤ p →
      exec (.handoverReq u q v) s = .next (s.onUnit u (fun x => (fun y : UnitSt => ({ y with lse := { y.lse with hovP := some p, hovAcked := false, hovMine := true } } : UnitSt).emit (.splice (.hovReq p))) (x.set LSE_HOV.RES 0)))) ∧
  (∀ (s : State) (u : UnitId) (p : BitVec 48), (s.unit u).ready = true →
      (s.unit u).inQuiet = false →
      exec (.hovreqRx u p) s = .next (s.onUnit u (fun x => ({ x with lse := { x.lse with hovP := some p.toNat, hovAcked := true, hovMine := false } } : UnitSt).emit (.splice (.hovAck p.toNat))))) ∧
  (∀ (s : State) (u : UnitId) (p : BitVec 48), (s.unit u).lse.hovMine = true →
      (s.unit u).lse.hovP = some p.toNat →
      (s.unit u).lse.hovAcked = false →
      (s.unit u).isHolder = true →
      (s.unit u).hovInTime p.toNat = true →
      exec (.hovackRx u p) s = .next (s.onUnit u (fun x => { x.set LSE_HOV.RES 1 with lse := { x.lse with hovAcked := true } })))

/-- An allowed write of HBX_SUBD7 stores the word, submits the descriptor of the eight words through its port and shows code and ID; what a submission does is stated for its three outcomes: accepted it takes an ID and enters its queue or the delay list (for a cell that has been reset it ends with GONE at once), an empty one completes at once, and a refused one is counted with REFUSE and the event of its port. The tick repeats FENCE in a fenced unit and releases due transactions; tags that NREP status frames have passed are freed, their cells missing and NOREPLY counted; in another mode than RUN overdue transactions finish with TIMEOUT; a completion read retires the oldest completion and shows its details, and returns 0 where there is none; a flush ends the unsent transactions of the named queue with FLUSHED. The definitions it names carry choices of the model: log entries 17, 76, 207, 218, 221, 226. -/
def Obligations.HeadboxSubmission : Prop :=
  (∀ (s : State) (u : UnitId) (q : Requester) (port : Fin 6) (v : Word), (s.unit u).allowed q true (0x2021C + 0x40 * port.val) = true →
      exec (.hbxSubmit u q port v) s = .next (s.onUnit u (fun x => 
      let y := x.set HBX_SUBD.D v.toNat (8 * port.val + 7)
      let r := y.submit port.val (descOf (fun i => BitVec.ofNat 32 (y.fld HBX_SUBD.D (8 * port.val + i))))
      (r.2.2.set HBX_SUBRES.CODE r.1 port.val).set HBX_SUBRES.ID r.2.1 port.val))) ∧
  (∀ (x : UnitSt) (port : Nat) (d : Desc), x.submitCode port d = 0x00 →
      x.submit port d = (0, (x.hbxId port).1,
        let y := (x.hbxId port).2
        let t : Txn := { id := (x.hbxId port).1, desc := d, subAt := y.now, strands := y.descStrands d, parts := (y.descCells d (y.descStrands d)).map (fun k => (k, PartSt.unsent)) }
        let z := if d.timed then { y with hbx := { y.hbx with delay := delayInsert (y.now / us) t y.hbx.delay } } else y.enqueue t
        if z.forGone t then z.hbxFinish t stGone 0 else z.hbxShow port d)) ∧
  (∀ (x : UnitSt) (port : Nat) (d : Desc), x.submitCode port d = 0x01 →
      x.submit port d = (1, (x.hbxId port).1, (x.hbxId port).2.hbxFinish { id := (x.hbxId port).1, desc := d } 1 0)) ∧
  (∀ (x : UnitSt) (port : Nat) (d : Desc), x.submitCode port d ≠ 0x00 → x.submitCode port d ≠ 0x01 →
      x.submit port d = (x.submitCode port d, 0, if port < 6 then ((x.inc HBX_CNT1.REFUSE).err HBX_ERR.REFUSE).evtBit 0x20000 (8 + port) else (x.inc HBX_CNT1.REFUSE).err HBX_ERR.REFUSE)) ∧
  (∀ (s : State) (u : UnitId) (t : Instant) (d : Txn), ((s.unit u).tick t).fenced = false →
      ((s.unit u).tick t).hbx.delay = [d] →
      dueIn (((s.unit u).tick t).now / 65536000) d.desc.at_ = 0 →
      ((s.unit u).tick t).queueDepth d.desc < 256 →
      ((s.unit u).tick t).works 0x20000 = true →
      exec (.hbxTimedRelease u t) s = .next (s.onUnit u (fun x => (fun y : UnitSt => (({ y with hbx := { y.hbx with delay := [] } } : UnitSt).enqueue d).hbxShow (d.id / 8192) d.desc) (x.tick t)))) ∧
  (∀ (s : State) (u : UnitId) (t : Instant), ((s.unit u).tick t).fenced = true →
      (((s.unit u).tick t).sayVia LSE_ERR.XING .fence).works 0x20000 = false →
      exec (.hbxTimedRelease u t) s = .next (s.onUnit u (fun x => (x.tick t).sayVia LSE_ERR.XING .fence))) ∧
  (∀ (s : State) (u : UnitId) , (s.unit u).works 0x20000 = true →
      exec (.hbxReplyMissing u) s = .next (s.onUnit u (fun x => 
      let late := x.views.flatMap (fun kv => (kv.2.tags.filter (fun e => decide (x.fld HBX_CFG.NREP ≤ e.2.2))).map (fun e => (kv.1, e.1, e.2.1)))
      late.foldl (fun y l =>
        let y := (y.onView l.1 (fun v => { v with tags := v.tags.filter (fun e => e.1 != l.2.1) })).inc HBX_CNT2.NOREPLY
        { y with hbx := { y.hbx with held := y.hbx.held.map (fun t => if t.id == l.2.2 then { t with parts := t.parts.map (fun p => if p.1 == l.1 then (p.1, .missing) else p) } else t) } }) x))) ∧
  (∀ (s : State) (u : UnitId) , ¬ ((s.unit u).fld HBX_STAT.MODE = 0) →
      (s.unit u).works 0x20000 = true →
      exec (.hbxTimeout u) s = .next (s.onUnit u (fun x => ((x.hbx.held ++ x.hbx.delay).filter (fun t => (t.desc.kind == kEntry || t.desc.kind == kBulk || t.desc.kind == kWait || t.desc.kind == kEnum) && decide ((if t.desc.tmo = 0 then x.fld HBX_CFG.TMODEF else t.desc.tmo) ≤ t.age))).foldl (fun y t => y.hbxFinish t stTimeout 0) x))) ∧
  (∀ (s : State) (u : UnitId) (q : Requester) (port : Fin 6), (s.unit u).allowed q false (0x20224 + 0x40 * port.val) = true →
      sget (fun _ => []) (s.unit u).hbx.fifo port.val = [] →
      exec (.hbxCplRead u q port) s = .next (s.onUnit u (fun x => (x.setWord (HBX_CPL0.ID.addr port.val) 0).answer q 0))) ∧
  (∀ (s : State) (u : UnitId) (q : Requester) (port : Fin 6) (c : Cpl) (l : List Cpl), (s.unit u).allowed q false (0x20224 + 0x40 * port.val) = true →
      sget (fun _ => []) (s.unit u).hbx.fifo port.val = c :: l →
      exec (.hbxCplRead u q port) s = .next (s.onUnit u (fun x =>
      let y : UnitSt := { x with hbx := { x.hbx with fifo := sset (fun _ => []) x.hbx.fifo port.val l } }
      let y := ((y.set HBX_CPL0.VALID 1 port.val).set HBX_CPL0.STATUS c.status port.val).set HBX_CPL0.ID c.id port.val
      let y := ((y.set HBX_CPL1.RDATA c.rdata.toNat port.val).set HBX_CPL2.NREP c.nrep port.val).set HBX_CPL2.NFAIL c.nfail port.val
      let y := (y.set HBX_CPL3.NMISS c.nmiss port.val).set HBX_CPL3.PN c.pn port.val
      let y := (y.set HBX_PSTAT.CPLCNT l.length port.val).set HBX_PSTAT.OUT (y.hbxOut port.val) port.val
      y.answer q (y.word (HBX_CPL0.ID.addr port.val))))) ∧
  (∀ (s : State) (u : UnitId) (q : Requester) (v : Word), (s.unit u).allowed q true 0x20044 = true →
      exec (.hbxFlush u q v) s = .next (s.onUnit u (fun x => 
      let ids := (x.hbx.held.filter (fun t => t.sentOn == [] && (if bitAt v.toNat 31 then t.desc.bcast else !t.desc.bcast && t.desc.strand == v.toNat % 128))).map (·.id)
      ((x.hbx.held ++ x.hbx.delay).filter (fun t => ids.contains t.id)).foldl (fun y t => y.hbxFinish t stFlushed 0) x)))

/-- The holder with Splice up outside Quiet sends its record with the next sequence number, then COMMIT, then one block of a resynchronisation under way, and its partner, neither holder nor fenced nor in Quiet, waits for the COMMIT. A unit that is neither holder nor fenced, outside Quiet, takes a record whose length and CRC-32 agree with COMMIT, with its sequence number and PN, and otherwise keeps it uncommitted. A request of an arm is kept by the holder once; block 0 starts the arm's copy with the unit's own values of PN m, a later block in order extends it; when all records have come each is taken and CLP status shown. The definitions it names carry choices of the model: log entries 74, 83, 85, 207. -/
def Obligations.MirrorAndResync : Prop :=
  (∀ (s : State) (u : UnitId), (s.unit u).mirrors = true →
      (s.unit u).lse.rsTx = [] →
      exec (.mirrorSend u) s = .next (
      let seq := ((s.unit u).lse.mirSeq + 1) % 2 ^ 32
      let r := (s.unit u).mirrorRecord seq
      (s.onUnit u (fun x => (({ x with lse := { x.lse with mirSeq := seq } } : UnitSt).say (.mirror r)).say (.commit seq x.pn (leAt r 8188 4)))).onUnit u.other (fun y =>
        if y.inQuiet || y.isHolder || y.fenced then y else { y with lse := { y.lse with mirRx := some r } }))) ∧
  (∀ (s : State) (u : UnitId) (arm m blk : Nat) (data : Bytes) (rest : List (Nat × Nat × Bytes × Nat)), (s.unit u).mirrors = true →
      (s.unit u).lse.rsTx = (arm, m, data, blk) :: rest →
      exec (.mirrorSend u) s = .next (
      let seq := ((s.unit u).lse.mirSeq + 1) % 2 ^ 32
      let r := (s.unit u).mirrorRecord seq
      (s.onUnit u (fun x =>
        let y := (({ x with lse := { x.lse with mirSeq := seq } } : UnitSt).say (.mirror r)).say (.commit seq x.pn (leAt r 8188 4))
        ({ y with lse := { y.lse with rsTx := if data.drop 4096 = [] then rest else (arm, m, data.drop 4096, blk + 1) :: rest } } : UnitSt).say (.resyncBlock arm m blk (data.take 4096)))).onUnit u.other (fun y =>
        if y.inQuiet || y.isHolder || y.fenced then y else { y with lse := { y.lse with mirRx := some r } }))) ∧
  (∀ (s : State) (u : UnitId) (record : Bytes) (seq : BitVec 32) (pn : BitVec 48) (crc : BitVec 32), ((s.unit u).inQuiet || (s.unit u).isHolder || (s.unit u).fenced) = false →
      exec (.mirrorCommitRx u record seq pn crc) s = .next (s.onUnit u (fun x => if record.length = 8192 ∧ crc32 (record.take 8188) = leAt record 8188 4 ∧ leAt record 8188 4 = crc.toNat then
        (fun y : UnitSt => { y with lse := { y.lse with mirror := record, mirRx := none } }) ((x.set LSE_MIRSEQ.SEQ seq.toNat).setPair LSE_MIRPN_LO.PN_LO LSE_MIRPN_HI.PN_HI pn.toNat)
      else { x with lse := { x.lse with mirRx := some record } }))) ∧
  (∀ (s : State) (u : UnitId) (arm : Fin 6), (!(s.unit u).isHolder || (s.unit u).inQuiet || (s.unit u).lse.rsAsk.contains arm.val || (s.unit u).lse.rsTx.any (fun t => t.1 == arm.val)) = false →
      exec (.resyncReqRx u arm) s = .next (s.onUnit u (fun x => { x with lse := { x.lse with rsAsk := x.lse.rsAsk ++ [arm.val] } }))) ∧
  (∀ (s : State) (u : UnitId) (arm : Fin 6) (m : BitVec 48) (data : Bytes), ((s.unit u).inQuiet || !(s.unit u).lse.rsWant.contains arm.val) = false →
      exec (.resyncBlockRx u arm m 0 data) s = .next (s.onUnit u (fun x => { x with lse := { x.lse with rsRx := { arm := arm.val, m := m.toNat, data := data, own := ((x.lse.rsOwn.find? (fun o => o.1 == m.toNat && o.2.1 == arm.val)).map (·.2.2)).getD [] } :: x.lse.rsRx.filter (fun r => r.arm != arm.val), rsOwn := x.lse.rsOwn.filter (fun o => o.2.1 != arm.val) } }))) ∧
  (∀ (s : State) (u : UnitId) (arm : Fin 6) (m : BitVec 48) (blk : Nat) (data : Bytes), ((s.unit u).inQuiet || !(s.unit u).lse.rsWant.contains arm.val) = false →
      blk ≠ 0 →
      exec (.resyncBlockRx u arm m blk data) s = .next (s.onUnit u (fun x => { x with lse := { x.lse with rsRx := x.lse.rsRx.map (fun r => if r.arm = arm.val ∧ r.m = m.toNat ∧ r.data.length = 4096 * blk then { r with data := r.data ++ data } else r) } }))) ∧
  (∀ (s : State) (u : UnitId) (arm : Fin 6) (rx : RsRx), (s.unit u).lse.rsRx.find? (fun r => r.arm == arm.val) = some rx →
      ¬ (rx.data.length < 64 * ((s.unit u).armCells arm.val).length ∨ (!(s.unit u).works 0x22000) = true) →
      exec (.resyncApply u arm) s = .next (s.onUnit u (fun x => 
      let y : UnitSt := { x with lse := { x.lse with rsRx := x.lse.rsRx.filter (fun r => r.arm != arm.val), rsWant := x.lse.rsWant.filter (· != arm.val) } }
      ((List.range (x.armCells arm.val).length).foldl (fun (y : UnitSt) i => y.onRec ((x.armCells arm.val).getD i 0) (fun r => r.resync (slice rx.data (64 * i) 64) (rx.own.getD i (r.vf, r.q)))) y).showClp)))

/-- At the compute start of P - 3 without HOVACK the request is refused with RES 5 and forgotten, and an escalation that waited for it blocks, which FLT_ESCLAST shows. At the compute start of P - 1 of a committed hand-over the holder gives the lease: it remembers epoch E + 1, enters STANDBY, shows RES 2 and counts; the standby takes it, entering HOLDER with epoch E + 1. The definitions it names carry choices of the model: log entries 73, 145, 207. -/
def Obligations.HandOverEnd : Prop :=
  (∀ (s : State) (u : UnitId) (p : Nat), (s.unit u).lse.hovP = some p →
      ((s.unit u).lse.hovMine = true ∧ (!(s.unit u).lse.hovAcked) = true ∧ p ≤ (s.unit u).pn + 3) →
      (((s.unit u).hovRefuse 5).hovForget).flt.escWait = none →
      exec (.handoverDeadline u) s = .next (s.onUnit u (fun x => (x.hovRefuse 5).hovForget))) ∧
  (∀ (s : State) (u : UnitId) (p n : Nat), (s.unit u).lse.hovP = some p →
      ((s.unit u).lse.hovMine = true ∧ (!(s.unit u).lse.hovAcked) = true ∧ p ≤ (s.unit u).pn + 3) →
      (((s.unit u).hovRefuse 5).hovForget).flt.escWait = some n →
      exec (.handoverDeadline u) s = .next (s.onUnit u (fun x => ((fun y : UnitSt => (y.block (y.t0 y.pn + y.compOfs)).set FLT_ESCLAST.SRC n) ({ (x.hovRefuse 5).hovForget with flt := { ((x.hovRefuse 5).hovForget).flt with escWait := none } } : UnitSt)).set FLT_ESCLAST.ACT 0))) ∧
  (∀ (s : State) (u : UnitId) (p : Nat), (s.unit u).lse.hovP = some p →
      (s.unit u).lse.hovAcked = true →
      (s.unit u).pn + 1 = p →
      (s.unit u).lse.hovMine = true →
      (s.unit u).isHolder = true →
      exec (.handoverSwitch u) s = .next (s.onUnit u (fun x => 
      let y : UnitSt := { x with lse := { x.lse with seen := some (max x.seenEpoch ((x.lse.epoch + 1) % 2 ^ 32)) }, flt := { x.flt with escWait := none } }
      ((y.standby).set LSE_HOV.RES 2).inc LSE_CNT2.HOV))) ∧
  (∀ (s : State) (u : UnitId) (p : Nat), (s.unit u).lse.hovP = some p →
      (s.unit u).lse.hovAcked = true →
      (s.unit u).pn + 1 = p →
      (s.unit u).lse.hovMine = false →
      (s.unit u).lstate = 0 →
      exec (.handoverSwitch u) s = .next (s.onUnit u (fun x => ((x.setLstate 2).setEpoch (x.seenEpoch + 1)).showRelay [])))

/-- While no OPEN is being verified PF1's CHAL in LOCKED or CHALLENGED draws a fresh challenge, enters CHALLENGED and shows RES 1; OPEN in CHALLENGED, the first with its challenge, uses the challenge up and with a key in its slot starts the verification with RES 2; CLOSE in OPEN ends the session with RES 1. The end of the verification opens the session with the event SESSOPEN where the response is valid, and otherwise counts the failure with the error SESSFAIL, and at the third enters LOCKOUT for LOCKSEC seconds, at least 1; 60 s without OPEN, IDLE seconds without access and the end of LOCKOUT lead back to LOCKED. The definitions it names carry choices of the model: log entries 58, 125, 207, 219. -/
def Obligations.SessionCommands : Prop :=
  (∀ (s : State) (u : UnitId) , (s.unit u).allowed .pf1 true 0x10054 = true →
      (s.unit u).host.opening.isNone = true →
      (s.unit u).fld PCIE_SESSSTAT.STATE ≤ 1 →
      exec (.sessChal u .pf1) s = .next (s.onUnit u (fun x => ((x.newChallenge).set PCIE_SESSSTAT.STATE 1).set PCIE_SESSCMD.RES 1))) ∧
  (∀ (s : State) (u : UnitId) (key : Fin 4), (s.unit u).allowed .pf1 true 0x10054 = true →
      (s.unit u).host.opening.isNone = true →
      ¬ ((s.unit u).fld PCIE_SESSSTAT.STATE ≠ 1 ∨ (s.unit u).host.spent = true) →
      ¬ (sget (fun _ => []) (s.unit u).conf.mkeys key.val = []) →
      exec (.sessOpen u .pf1 key) s = .next (s.onUnit u (fun x => (fun y : UnitSt => { y with host := { y.host with opening := some key.val } }) (({ x with host := { x.host with spent := true } } : UnitSt).set PCIE_SESSCMD.RES 2)))) ∧
  (∀ (s : State) (u : UnitId) , (s.unit u).allowed .pf1 true 0x10054 = true →
      (s.unit u).host.opening.isNone = true →
      (s.unit u).fld PCIE_SESSSTAT.STATE = 2 →
      exec (.sessClose u .pf1) s = .next (s.onUnit u (fun x => x.sessEnd.set PCIE_SESSCMD.RES 1))) ∧
  (∀ (s : State) (u : UnitId) (key : Nat), (s.unit u).host.opening = some key →
      exec (.sessOpenDone u) s = .next (s.onUnit u (fun x => 
      let y : UnitSt := { x with host := { x.host with opening := none } }
      let fails := min 3 (y.fld PCIE_SESSSTAT.FAILS + 1)
      if x.openValid key then (((((y.set PCIE_SESSSTAT.STATE 2).set PCIE_STAT.SESS 1).set PCIE_SESSSTAT.FAILS 0).set PCIE_SESSCMD.RES 1).evt PCIE_EVT.SESSOPEN)
      else
        let y := (((y.set PCIE_SESSSTAT.FAILS fails).set PCIE_SESSCMD.RES 3).err PCIE_ERR.SESSFAIL).inc PCIE_CNT2.SESSFAIL
        if 3 ≤ fails then (({ y with host := { y.host with lockAt := y.now } } : UnitSt).set PCIE_SESSSTAT.STATE 3).set PCIE_SESSSTAT.LOCKREM (max 1 (y.fld PCIE_SESSCFG.LOCKSEC)) else y.set PCIE_SESSSTAT.STATE 0))) ∧
  (∀ (s : State) (u : UnitId) , (s.unit u).fld PCIE_SESSSTAT.STATE = 1 ∧ (s.unit u).host.opening.isNone = true →
      exec (.sessChalTimeout u) s = .next (s.onUnit u (fun x => x.set PCIE_SESSSTAT.STATE 0))) ∧
  (∀ (s : State) (u : UnitId) , (s.unit u).fld PCIE_SESSSTAT.STATE = 2 ∧ (s.unit u).fld PCIE_SESSCFG.IDLE ≠ 0 →
      exec (.sessIdleTimeout u) s = .next (s.onUnit u (fun x => x.sessEnd))) ∧
  (∀ (s : State) (u : UnitId) , (s.unit u).fld PCIE_SESSSTAT.STATE = 3 →
      exec (.sessLockoutEnd u) s = .next (s.onUnit u (fun x => (x.set PCIE_SESSSTAT.STATE 0).set PCIE_SESSSTAT.LOCKREM 0))) ∧
  (∀ x : UnitSt, x.sessEnd = (((((x.set PCIE_SESSSTAT.STATE 0).set PCIE_STAT.SESS 0).advanceHost 1).pinWrite 1 false).evt PCIE_EVT.SESSEND))

/-- A function-level reset of PF0 resets its configuration space with its bus master enable, counts, advances its host epoch, releases its pin and tells Reel; one of PF1 resets its configuration space, counts and ends an open session, or else advances its epoch and releases its pin; clearing the bus master enable counts and tells Reel; a link that goes down shows no width and speed, counts, sets the error and event LINKDN where it was up, and does to both functions what their resets do; a link that comes up shows width, speed and bus master enable, the host enabling messages with it (the model's reading, log entry 28), with the event LINKUP where it was down. A publication that ends stores its contents in its buffer with the next generation and makes it current. The definitions it names carry choices of the model: log entries 28, 124, 126, 207, 208, 219, 228. -/
def Obligations.PcieLinkEvents : Prop :=
  (∀ (s : State) (u : UnitId) , exec (.pcieFlrPf0 u) s = .next (s.onUnit u (fun x => (((((({ x with pci := { x.pci with fn0 := ({} : PciSt).fn0 } } : UnitSt).set PCIE_LINK.BME0 0).inc PCIE_CNT2.LINKDN).advanceHost 0).pinWrite 0 false).reelLinkEnd)))) ∧
  (∀ (s : State) (u : UnitId) , (((s.unit u).fnReset 1).inc PCIE_CNT2.LINKDN).fld PCIE_SESSSTAT.STATE = 2 →
      exec (.pcieFlrPf1 u) s = .next (s.onUnit u (fun x => (({ x with pci := { x.pci with fn1 := ({} : PciSt).fn1, bme1 := false } } : UnitSt).inc PCIE_CNT2.LINKDN).sessEnd))) ∧
  (∀ (s : State) (u : UnitId) , ¬ ((((s.unit u).fnReset 1).inc PCIE_CNT2.LINKDN).fld PCIE_SESSSTAT.STATE = 2) →
      exec (.pcieFlrPf1 u) s = .next (s.onUnit u (fun x => ((({ x with pci := { x.pci with fn1 := ({} : PciSt).fn1, bme1 := false } } : UnitSt).inc PCIE_CNT2.LINKDN).advanceHost 1).pinWrite 1 false))) ∧
  (∀ (s : State) (u : UnitId) , exec (.pcieBmeClear u) s = .next (s.onUnit u (fun x => ((x.set PCIE_LINK.BME0 0).inc PCIE_CNT2.LINKDN).reelLinkEnd))) ∧
  (∀ (s : State) (u : UnitId) , exec (.pcieLinkDown u) s = .next (s.onUnit u (fun x => 
      let y := ((((((x.fnReset 0).fnReset 1).set PCIE_LINK.UP 0).set PCIE_LINK.WIDTH 0).set PCIE_LINK.SPEED 0).set PCIE_STAT.LINKUP 0).inc PCIE_CNT2.LINKDN
      let y := if x.bit PCIE_LINK.UP then (y.err PCIE_ERR.LINKDN).evt PCIE_EVT.LINKDN else y
      let y := (y.advanceHost 0).pinWrite 0 false
      (if y.fld PCIE_SESSSTAT.STATE = 2 then y.sessEnd else (y.advanceHost 1).pinWrite 1 false).reelLinkEnd))) ∧
  (∀ (s : State) (u : UnitId) (width : BitVec 4) (speed : Fin 8) (bme : Bool), exec (.pcieLinkUp u width speed bme) s = .next (s.onUnit u (fun x => 
      let y := ((((x.set PCIE_LINK.UP 1).set PCIE_LINK.WIDTH width.toNat).set PCIE_LINK.SPEED speed.val).set PCIE_LINK.BME0 (b2n bme)).set PCIE_STAT.LINKUP 1
      let y : UnitSt := { y with pci := { fn0 := { y.pci.fn0 with msix := bme }, fn1 := { y.pci.fn1 with msix := bme }, bme1 := bme } }
      let y := if x.bit PCIE_LINK.UP then y else y.evt PCIE_EVT.LINKUP
      if bme then y.reelLinkBack else y))) ∧
  (∀ (s : State) (u : UnitId) (b : Nat), (s.unit u).host.reamBusy = some b →
      exec (.reamPublishDone u) s = .next (s.onUnit u (fun x => 
      let gen := if x.host.reamGen + 1 < 2 ^ 31 then x.host.reamGen + 1 else 1
      let y := x.reamForm.onBuf b (fun _ => { gen := gen, bytes := x.reamForm.host.reamHeld.getD [] })
      let y : UnitSt := { y with host := { y.host with reamGen := gen, reamBusy := none, reamHeld := none } }
      let y := (y.set PCIE_REAMCUR.BUF b).set PCIE_REAMCUR.GEN gen
      if y.host.pinNext then
        ((({ y with host := { y.host with pinNext := false } } : UnitSt).set PCIE_REAMPIN.PINNED 1).set PCIE_REAMPIN.PBUF b).set PCIE_REAMPGEN.PGEN gen
      else if y.bit PCIE_REAMPIN.PINNED && y.fld PCIE_REAMPIN.PBUF == b then y.set PCIE_REAMPGEN.PGEN gen
      else y))) ∧
  (∀ (s : State) (u : UnitId) (q : Requester) (v : Word), (s.unit u).allowed q true 0x1004C = true →
      q = .pf1 →
      exec (.reamPinWrite u q v) s = .next (s.onUnit u (fun x => x.pinWrite 1 (bitAt v.toNat 1)))) ∧
  (∀ (s : State) (u : UnitId) (q : Requester) (v : Word), (s.unit u).allowed q true 0x1004C = true →
      q = .pf0 →
      exec (.reamPinWrite u q v) s = .next (s.onUnit u (fun x => x.pinWrite 0 (v.toNat % 2 == 1))))

/-- An allowed post of a function into a slot that is not FULL, of 1 to 56 bytes, stores TAG and LEN with the function's epoch, marks the slot FULL, sets the HPOST event and answers 1; a core's post does the same in the F2H slot with the firmware epoch. A read of EPOCH by the receiver of a FULL slot returns it, clears FULL and sets the READ event. A write of HEPINC advances the writing function's epoch; a message FULL for AGEMAX ms sets AGE and counts once; a doorbell bit newly set and not masked, or unmasked while set, sets the DB event; a re-arm sends one message, or sets the pending bit where it is masked, for each vector written 1 whose sources are raised. The definitions it names carry choices of the model: log entries 28, 207. -/
def Obligations.MailboxesAndDoorbells : Prop :=
  (∀ (s : State) (u : UnitId) (q : Requester) (ch : Fin 32) (v : Word), (s.unit u).allowed q true ((if (q.fn?).isSome then 0x12138 else 0x13138) + 0x40 * ch.val) = true →
      (q.fn?).isSome = true →
      v.toNat % 64 ≠ 0 →
      v.toNat % 64 ≤ 56 →
      bitAt ((s.unit u).fld MBX_H2FFULL.FULL) ch.val = false →
      exec (.mbxPost u q ch v) s = .next (s.onUnit u (fun x => 
      let y := ((x.set MBXH_CTRL.TAG (v.toNat / 65536) ch.val).set MBXH_CTRL.LEN (v.toNat % 64) ch.val)
      let y := y.set MBXH_EPOCH.EPOCH (x.fld MBX_HEPOCH.EPOCH (ch.val / 16)) ch.val
      let y := (y.set MBX_H2FFULL.FULL (orBit (y.fld MBX_H2FFULL.FULL) ch.val)).showStale
      (y.evt MBX_EVT.HPOST (ch.val / 16)).onReq q (fun r => { r with res := 1 })))) ∧
  (∀ (s : State) (u : UnitId) (q : Requester) (ch : Fin 32) (v : Word), (s.unit u).allowed q true ((if (q.fn?).isSome then 0x12138 else 0x13138) + 0x40 * ch.val) = true →
      (q.fn?).isSome = false →
      v.toNat % 64 ≠ 0 →
      v.toNat % 64 ≤ 56 →
      bitAt ((s.unit u).fld MBX_F2HFULL.FULL) ch.val = false →
      exec (.mbxPost u q ch v) s = .next (s.onUnit u (fun x => 
      let y := ((x.set MBXF_CTRL.TAG (v.toNat / 65536) ch.val).set MBXF_CTRL.LEN (v.toNat % 64) ch.val)
      let y := y.set MBXF_EPOCH.EPOCH (x.fld MBX_FEPOCH.EPOCH) ch.val
      let y := (y.set MBX_F2HFULL.FULL (orBit (y.fld MBX_F2HFULL.FULL) ch.val)).showStale
      (y.evt MBX_EVT.FPOST (ch.val / 16)).onReq q (fun r => { r with res := 1 })))) ∧
  (∀ (s : State) (u : UnitId) (k : Fin 4) (ch : Fin 32), (s.unit u).allowed (.core k) false (0x1213C + 0x40 * ch.val) = true →
      bitAt ((s.unit u).fld MBX_H2FFULL.FULL) ch.val = true →
      exec (.mbxEpochRead u (.core k) ch) s = .next (s.onUnit u (fun x =>
      let y := x.answer (.core k) (BitVec.ofNat 32 (x.fld MBXH_EPOCH.EPOCH ch.val))
      let y := (y.set MBX_H2FFULL.FULL (y.fld MBX_H2FFULL.FULL ^^^ (1 <<< ch.val))).showStale
      let y : UnitSt := { y with host := { y.host with aged := y.host.aged.filter (· != ch.val + 0) } }
      y.evt MBX_EVT.HREAD (ch.val / 16)))) ∧
  (∀ (s : State) (u : UnitId) (q : Requester) (v : Word) (f : Nat), (s.unit u).allowed q true 0x1104C = true →
      q.fn? = some f →
      v.toNat % 2 = 1 →
      exec (.mbxHepinc u q v) s = .next (s.onUnit u (fun x => x.advanceHost f))) ∧
  (∀ (s : State) (u : UnitId) (h2f : Bool) (ch : Fin 32), ((s.unit u).fld MBX_AGE.AGEMAX ≠ 0 ∧ bitAt ((s.unit u).fld (if h2f then MBX_H2FFULL.FULL else MBX_F2HFULL.FULL)) ch.val = true ∧ (!(s.unit u).host.aged.contains (ch.val + (if h2f then 0 else 32))) = true) →
      exec (.mbxAgeExpire u h2f ch) s = .next (s.onUnit u (fun x => (fun y : UnitSt => { y with host := { y.host with aged := (ch.val + (if h2f then 0 else 32)) :: y.host.aged } }) ((x.evt MBX_EVT.AGE).inc MBX_CNT.AGE)))) ∧
  (∀ (s : State) (u : UnitId) (q : Requester) (f : Fin 2) (v : Word), (s.unit u).allowed q true ((if (q.fn?).isSome then 0x11080 else 0x1108C) + 0x20 * f.val) = true →
      (q.fn?).isSome = true →
      exec (.mbxDbSet u q f v) s = .next (s.onUnit u (fun x => 
      let old := BitVec.ofNat 32 (x.fld MBX_H2FDB.DB f.val)
      let y := x.set MBX_H2FDB.DB (old ||| v).toNat f.val
      if v &&& ~~~old &&& ~~~(BitVec.ofNat 32 (x.fld MBX_H2FDBMSK.MSK f.val)) ≠ 0 then y.evt MBX_EVT.HDB f.val else y))) ∧
  (∀ (s : State) (u : UnitId) (q : Requester) (h2f : Bool) (f : Fin 2) (v : Word), (s.unit u).allowed q true ((if h2f then 0x11088 else 0x11094) + 0x20 * f.val) = true →
      dbSide q h2f = true →
      exec (.mbxDbMaskWrite u q h2f f v) s = .next (s.onUnit u (fun x => 
      let msk := if h2f then MBX_H2FDBMSK.MSK else MBX_F2HDBMSK.MSK
      let y := x.set msk v.toNat f.val
      if BitVec.ofNat 32 (x.fld msk f.val) &&& ~~~v &&& BitVec.ofNat 32 (x.fld (if h2f then MBX_H2FDB.DB else MBX_F2HDB.DB) f.val) ≠ 0 then y.evt (if h2f then MBX_EVT.HDB else MBX_EVT.FDB) f.val else y))) ∧
  (∀ (s : State) (u : UnitId) (q : Requester) (hi : Bool) (v : Word) (f : Nat), (s.unit u).allowed q true (if hi then 0x100E4 else 0x100E0) = true →
      q.fn? = some f →
      exec (.vectorRearm u q hi v) s = .next (s.onUnit u (fun x => ((bitsOf 32 v.toNat).map (· + (if hi then 32 else 0))).foldl (fun y k => if y.vectorOn f k then y.sendMsix f k else y) x)))

/-- On an enabled port a frame with a wrong FCS counts in FCS, one shorter than 64 or longer than 1522 bytes in DROP; a frame to the unit or to all stations goes without its tag to the firmware ring with its receive stamp, where a full ring drops it; a sampled-value or GOOSE frame without a subscription is dropped. A sampled-value frame is taken, and a GOOSE message, by every subscription it belongs to; a sample with a count at or above RATE counts in SVLATE. The definitions it names carry choices of the model: log entries 127, 128, 129, 130, 131, 132, 133, 135, 207. -/
def Obligations.StationFrames : Prop :=
  (∀ (s : State) (u : UnitId) (p : Fin 2) (bs : Bytes) (fcs : Bool) (t : Instant), (s.unit u).netEn p.val = true →
      fcs = false →
      exec (.netFrameRx u p bs fcs t) s = .next (s.onUnit u (fun x => (x.inc NET_CNT.FCS p.val).tick t))) ∧
  (∀ (s : State) (u : UnitId) (p : Fin 2) (bs : Bytes) (fcs : Bool) (t : Instant), (s.unit u).netEn p.val = true →
      fcs = true →
      bs.length < 64 ∨ 1522 < bs.length →
      exec (.netFrameRx u p bs fcs t) s = .next (s.onUnit u (fun x => (x.inc NET_CNT.DROP p.val).tick t))) ∧
  (∀ (s : State) (u : UnitId) (p : Fin 2) (bs : Bytes) (fcs : Bool) (t : Instant), (s.unit u).netEn p.val = true →
      fcs = true →
      ¬ (bs.length < 64 ∨ 1522 < bs.length) →
      (s.unit u).netSort (untag bs) = 3 →
      exec (.netFrameRx u p bs fcs t) s = .next (s.onUnit u (fun x => (x.netRingPut p.val (untag bs) (x.rxStamp p.val t)).tick t))) ∧
  (∀ (x : UnitSt) (p : Nat) (bs : Bytes) (t : Instant), x.net.rxFull = true → x.netRingPut p bs t = x.inc NET_CNT.DROP p) ∧
  (∀ (x : UnitSt) (p : Nat) (bs : Bytes) (t : Instant), x.net.rxFull = false →
      x.netRingPut p bs t =
        (fun y : UnitSt => ((y.onNet (fun n => { n with ring := sset (fun _ => none) n.ring (x.fld NET_RXWP.WP) (some ⟨bs, p, t⟩), rxFull := (x.fld NET_RXWP.WP + 1) % 256 == y.fld NET_RXRP.RP })).set NET_RXWP.WP ((x.fld NET_RXWP.WP + 1) % 256)).evt NET_EVT.RX)
          (x.draw.2.netSram (fun y => y.sramPut (y.fld NET_RXBASE.BASE / 64 * 64 + 1536 * x.fld NET_RXWP.WP) (beBytes 1536 x.draw.1)))) ∧
  (∀ (s : State) (u : UnitId) (p : Fin 2) (macl appid cnt : BitVec 16) (sy : BitVec 8) (vals : SvValues) (t : Instant) (n : Nat), (s.unit u).netEn p.val = true →
      (s.unit u).svOf p.val appid.toNat macl.toNat = [n] →
      exec (.svFrameRx u p macl appid cnt sy vals t) s = .next (s.onUnit u (fun x => x.svTake n cnt.toNat sy.toNat vals (x.rxStamp p.val t)))) ∧
  (∀ (x : UnitSt) (n cnt sy : Nat) (vals : List (Word × Word)) (t : Instant), x.fld NET_SVRATE.RATE n ≤ cnt → x.svTake n cnt sy vals t = x.inc NET_CNT2.SVLATE) ∧
  (∀ (s : State) (u : UnitId) (p : Fin 2) (macl appid : BitVec 16) (st sq tal : BitVec 32) (data : GooseData) (frame : Bytes) (t : Instant) (n : Nat), (s.unit u).netEn p.val = true →
      (s.unit u).gsOf p.val appid.toNat macl.toNat = [n] →
      exec (.gooseRx u p macl appid st sq tal data frame t) s = .next (s.onUnit u (fun x => x.gsTake n st.toNat sq.toNat tal.toNat data frame (x.rxStamp p.val t))))

/-- A stream without a valid sample for its limit sets FLT, the error and the event SVFLT; a subscription whose timeAllowedtoLive has run out sets TALX with the error GTAL and, with a trip position, the default of its fast bit; a message on a subscription that is not valid or names a new state is kept with its times, sets VALID, clears TALX, is copied to its buffer with STNUM and the event GNEW, and sets the fast bit from its element. A write of NET_GPSEND of an enabled publication that may be sent starts state stNum + 1 with its first copy; a due copy leaves with the next sqNum and the next interval. The definitions it names carry choices of the model: log entries 130, 132, 134, 135, 136, 137, 207. -/
def Obligations.GooseAndStreamTimes : Prop :=
  (∀ (s : State) (u : UnitId) (n : Fin 16) (t : Instant), ((s.unit u).works 0x14000 && (s.unit u).bit NET_SVCFG.EN n.val && !(s.unit u).bit NET_SVSTAT.FLT n.val && decide (((s.unit u).sv n.val).validAt + (s.unit u).svLimit n.val ≤ t)) = true →
      exec (.svStreamFault u n t) s = .next (s.onUnit u (fun x => ((x.set NET_SVSTAT.FLT 1 n.val).err NET_ERR.SVFLT).evt NET_EVT.SVFLT))) ∧
  (∀ (s : State) (u : UnitId) (n : Fin 32) (t : Instant), ((s.unit u).works 0x14000 && (s.unit u).bit NET_GSCFG.EN n.val && (s.unit u).bit NET_GSSTAT.VALID n.val && !(s.unit u).bit NET_GSSTAT.TALX n.val && decide (((s.unit u).gs n.val).talEnd ≤ t)) = true →
      exec (.gooseTalExpire u n t) s = .next (s.onUnit u (fun x => 
      let y := (x.set NET_GSSTAT.TALX 1 n.val).err NET_ERR.GTAL
      if y.fld NET_GSCFG.FPOS n.val < 255 then y.setFast n.val (y.bit NET_GSCFG.FDEF n.val) else y))) ∧
  (∀ (x : UnitSt) (n st sq tal : Nat) (data : List (Option Bool)) (frame : Bytes) (t : Instant), x.bit NET_GSSTAT.VALID n = false →
      x.gsTake n st sq tal data frame t =
        (fun y : UnitSt =>
          (fun z : UnitSt => if z.fld NET_GSCFG.FPOS n < 255 then z.setFast n ((data.getD (z.fld NET_GSCFG.FPOS n) none).getD (z.bit NET_GSCFG.FDEF n)) else z)
            (((y.netSram (fun z => z.sramPut (z.fld NET_GSBASE.BASE + 1536 * n) (frame.take 1536))).set NET_GSSTN.STNUM st n).evt NET_EVT.GNEW))
          (((x.setGs n ⟨st, sq, t + tal * 65536000000⟩).set NET_GSSTAT.VALID 1 n).set NET_GSSTAT.TALX 0 n)) ∧
  (∀ (s : State) (u : UnitId) (q : Requester) (v : Word) (t : Instant), (s.unit u).allowed q true 0x146B0 = true →
      (s.unit u).bit NET_GPCFG.EN (v.toNat % 8) = true →
      ((fun y : UnitSt => y.set NET_GPSTN.STNUM ((y.fld NET_GPSTN.STNUM (v.toNat % 8) + 1) % 2 ^ 32) (v.toNat % 8)) ((s.unit u).gpStop (v.toNat % 8))).gpMay (v.toNat % 8) = true →
      exec (.gooseNewState u q v t) s = .next (s.onUnit u (fun x =>
      let n := v.toNat % 8
      let y := x.gpStop n
      let y := y.set NET_GPSTN.STNUM ((y.fld NET_GPSTN.STNUM n + 1) % 2 ^ 32) n
      (y.setGp n (some ⟨1, t + y.fld NET_GPCFG.T1 n * 1000 * us, y.fld NET_GPCFG.T1 n, t, false⟩)).gpSend n 0 t))) ∧
  (∀ (s : State) (u : UnitId) (n : Fin 8) (t : Instant) (g : GpSt), (s.unit u).gp n.val = some g →
      ((s.unit u).works 0x14000 && (s.unit u).gpMay n.val && decide (g.due ≤ t) && (g.sent || !(s.unit u).gpWaits n.val)) = true →
      exec (.gooseRetransmit u n t) s = .next (s.onUnit u (fun x => 
      let d := min g.ival (x.fld NET_GPCFG.T0 n.val)
      (x.setGp n.val (some { g with sq := (g.sq + 1) % 2 ^ 32, due := g.due + d * 1000 * us, ival := g.ival + d })).gpSend n.val g.sq t)))

/-- An allowed write of NET_TXD3 stores the word and, with the SRAM running, submits the frame of NET_TXD0 to NET_TXD3. On a free port whose first scheduled frame is due that frame leaves with its egress stamp; otherwise, with none of the unit's own waiting that may leave, the head of the queue leaves when it is not scheduled and no scheduled frame forbids it. The end of a frame frees the port and completes a submitted frame with SENT or LATE and its stamp in ns. A read of NET_TXCPL0 returns it, retires the completion and shows its stamp and the next one; one that finds none returns it alone. The definitions it names carry choices of the model: log entries 131, 137, 139, 207. -/
def Obligations.LaunchQueues : Prop :=
  (∀ (s : State) (u : UnitId) (q : Requester) (v : Word), (s.unit u).allowed q true 0x146CC = true →
      ((s.unit u).set NET_TXD3.AT_HI v.toNat).islandOn .mem0 = true →
      ((s.unit u).set NET_TXD3.AT_HI v.toNat).islandOn .mem1 = true →
      exec (.netTxSubmit u q v) s = .next (s.onUnit u (fun x => (x.set NET_TXD3.AT_HI v.toNat).txSubmit))) ∧
  (∀ (s : State) (u : UnitId) (p : Fin 2) (t : Instant) (i : TxItem), (s.unit u).netFree p.val = true →
      (firstTimed ((s.unit u).txQueue p.val)).filter (fun j => decide (j.at_ * ns ≤ t)) = some i →
      exec (.netTxLaunch u p t) s = .next (s.onUnit u (fun x => ((fun y : UnitSt => y.emit (.net p.val (y.netTag p.val i.bytes))) ((x.setTx p.val ((x.txQueue p.val).filter (fun j => j.id != i.id))).setBusy p.val (some (i, x.txStamp p.val t)))).tick t))) ∧
  (∀ (s : State) (u : UnitId) (p : Fin 2) (t : Instant) (i : TxItem) (l : List TxItem), (s.unit u).netFree p.val = true →
      (firstTimed ((s.unit u).txQueue p.val)).filter (fun j => decide (j.at_ * ns ≤ t)) = none →
      ((s.unit u).netWait p.val).filter (s.unit u).jobMay = [] →
      (s.unit u).txQueue p.val = i :: l →
      i.at_ = 0 →
      (s.unit u).netMay p.val i.bytes.length t = true →
      exec (.netTxLaunch u p t) s = .next (s.onUnit u (fun x => ((fun y : UnitSt => y.emit (.net p.val (y.netTag p.val i.bytes))) ((x.setTx p.val ((i :: l).filter (fun j => j.id != i.id))).setBusy p.val (some (i, x.txStamp p.val t)))).tick t))) ∧
  (∀ (s : State) (u : UnitId) (p : Fin 2) (t : Instant) (i : TxItem) (stamp : Instant), (s.unit u).netBusy p.val = some (i, stamp) →
      i.at_ = 0 →
      i.id ≠ 0 →
      exec (.netTxComplete u p t) s = .next (s.onUnit u (fun x => ((x.setBusy p.val none).txDone i.id (b2n i.late) (stamp / 65536)).tick t))) ∧
  (∀ (s : State) (u : UnitId) (q : Requester) (id st stamp : Nat) (l : List (Nat × Nat × Nat)), (s.unit u).allowed q false 0x146D4 = true →
      ((s.unit u).answer q ((s.unit u).word 0x146D4)).net.cpl = (id, st, stamp) :: l →
      exec (.netTxcplRead u q) s = .next (s.onUnit u (fun x => ((((x.answer q (x.word 0x146D4)).setPair NET_TXCPL1.TS_LO NET_TXCPL2.TS_HI stamp).onNet (fun n => { n with cpl := l })).txShow))))

/-- On a live port of the right domain an Announce replaces the one of its sender, keeps the instant of the one before, drops every master silent for three intervals, and selects a master again; a time-out forgets the masters of its port that have been silent for three intervals. A Sync of the selected master on the port in SLAVE is counted and its time kept; a one-step one gives its offset at once, a two-step one waits with its stamp for the Follow_Up of its sequence number, whose correction is added. SYNCTMO seconds, at least 1, without Sync end the lock. The definitions it names carry choices of the model: log entries 129, 131, 141, 142, 143, 195, 200, 207. -/
def Obligations.PtpMessages : Prop :=
  (∀ (s : State) (u : UnitId) (p : Fin 2) (domain : BitVec 8) (src : BitVec 80) (gm : BitVec 64) (p1 cls acc : BitVec 8) (var : BitVec 16) (p2 : BitVec 8) (steps : BitVec 16) (t : Instant), ((s.unit u).ptpLive p.val && (s.unit u).fld PTP_CFG.DOMAIN == domain.toNat) = true →
      exec (.ptpAnnounceRx u p domain src gm p1 cls acc var p2 steps t) s = .next (s.onUnit u (fun x => 
      let m : PtpMaster := ⟨src.toNat, gm.toNat, p1.toNat, cls.toNat, acc.toNat, var.toNat, p2.toNat, steps.toNat, t, ((x.ptpPort p.val).masters.find? (fun m => m.src == src.toNat)).map (·.last)⟩
      (((x.onPtpPort p.val (fun q => { q with masters := m :: q.masters.filter (fun m => m.src != src.toNat) })).ptpExpire 0 t).ptpExpire 1 t).ptpSelect))) ∧
  (∀ (s : State) (u : UnitId) (p : Fin 2) (t : Instant), ((s.unit u).ptpLive p.val && ((s.unit u).ptpPort p.val).masters.any (fun m => decide (m.last + 3 * sec ≤ t))) = true →
      exec (.ptpAnnounceTimeout u p t) s = .next (s.onUnit u (fun x => (x.onPtpPort p.val (fun q => { q with masters := q.masters.filter (fun m => decide (t < m.last + 3 * sec)) })).ptpSelect))) ∧
  (∀ (s : State) (u : UnitId) (p : Fin 2) (domain : BitVec 8) (src : BitVec 80) (seq : BitVec 16) (t1 : Instant) (corr : Int) (two : Bool) (t : Instant), (s.unit u).ptpFrom p.val domain.toNat src.toNat = true →
      exec (.ptpSyncRx u p domain src seq t1 corr two t) s = .next (s.onUnit u (fun x => 
      let y := (x.inc PTP_CNT1.SYNCRX).onPtp (fun q => { q with syncAt := t })
      if two then y.onPtpPort p.val (fun q => { q with sync := some (seq.toNat, x.rxStamp p.val t, corr) })
      else (fun z : UnitSt => z.ptpUse (y.ptpOffset p.val (x.rxStamp p.val t) t1 corr) t) (y.onPtpPort p.val (fun q => { q with sync := none }))))) ∧
  (∀ (s : State) (u : UnitId) (p : Fin 2) (domain : BitVec 8) (src : BitVec 80) (seq : BitVec 16) (t1 : Instant) (corr : Int) (t t2 : Instant) (c : Int), ((s.unit u).ptpPort p.val).sync = some (seq.toNat, t2, c) →
      ((s.unit u).ptpFrom p.val domain.toNat src.toNat && seq.toNat == seq.toNat) = true →
      exec (.ptpFollowUpRx u p domain src seq t1 corr t) s = .next (s.onUnit u (fun x => (x.onPtpPort p.val (fun q => { q with sync := none })).ptpUse (x.ptpOffset p.val t2 t1 (c + corr)) t))) ∧
  (∀ (x : UnitSt) (p : Nat) (t2 t1 : Instant) (corr : Int), x.ptpOffset p t2 t1 corr = 2 * ((t2 : Int) - t1 - corr - toInt 32 (x.fld PTP_ASYM.ASYM p)) - ((x.ptpPort p).mpd2.getD 0)) ∧
  (∀ (s : State) (u : UnitId) (t : Instant), ((s.unit u).works 0x15000 && ((s.unit u).bit PTP_CFG.EN || (s.unit u).bit TIM_SRC.PTPLOCK) && decide ((s.unit u).ptp.syncAt + max 1 ((s.unit u).fld PTP_INTV.SYNCTMO) * sec ≤ t)) = true →
      exec (.ptpSyncTimeout u t) s = .next (s.onUnit u (fun x => 
      let y := ((x.set TIM_SRC.PTPLOCK 0).set PTP_STAT.LOCK 0).err PTP_ERR.NOSYNC
      (if y.isHolder then y.coastRate else y).onPtp (fun s => { s with offs := [], outl := 0 }))))

/-- A live port counts an exchange without response, sends the next Pdelay_Req and counts it; it answers a request with its stamp; the response to its own request stores half of what remains of the round trip, rounded freely, and selects again. At a full second 1PPS gives a pulse of WIDTH, at least 1; an edge on PPSIN stores its time and its distance to the second with the error PPS beyond TH. A link that changes shows its level with the event LINK; a link that goes down sets LINKDN, completes the queue and forgets the masters of the port. The definitions it names carry choices of the model: log entries 127, 131, 139, 140, 141, 142. -/
def Obligations.PathDelayPpsAndLinks : Prop :=
  (∀ (s : State) (u : UnitId) (p : Fin 2) (t : Instant), (s.unit u).ptpLive p.val = true →
      exec (.pdelayReqSend u p t) s = .next (s.onUnit u (fun x => 
      let y := if (x.ptpPort p.val).asked then x.inc PTP_CNT2.PDFAIL else x
      let seq := ((y.ptpPort p.val).seq + 1) % 65536
      ((y.onPtpPort p.val (fun q => { q with seq := seq, asked := true, req := none })).inc PTP_CNT2.PDTX).jobSend p.val t (.pdReq seq)))) ∧
  (∀ (s : State) (u : UnitId) (p : Fin 2) (seq : BitVec 16) (src : BitVec 80) (t : Instant), (s.unit u).ptpLive p.val = true →
      exec (.pdelayReqRx u p seq src t) s = .next (s.onUnit u (fun x => x.jobSend p.val t (.pdResp seq.toNat src.toNat (x.rxStamp p.val t))))) ∧
  (∀ (s : State) (u : UnitId) (p : Fin 2) (seq : BitVec 16) (turn : Int) (t t1 : Instant), ((s.unit u).ptpPort p.val).req = some (seq.toNat, t1) →
      ((s.unit u).ptpLive p.val && seq.toNat == seq.toNat) = true →
      exec (.pdelayRespRx u p seq turn t) s = .next (s.onUnit u (fun x => 
      let m : Int := (x.rxStamp p.val t : Int) - t1 - turn
      let r := m / 512 + (if m % 512 = 0 then 0 else ((x.draw.1 % 2 : Nat) : Int))
      ((x.draw.2.set PTP_MPD.MPD (ofInt 32 r) p.val).onPtpPort p.val (fun q => { q with mpd2 := some m, asked := false, req := none })).ptpSelect))) ∧
  (∀ (s : State) (u : UnitId) (t : Instant), ((s.unit u).works 0x15000 && (s.unit u).bit PTP_PPSOUT.EN && t % sec == 0) = true →
      exec (.ppsOut u t) s = .next (s.onUnit u (fun x => (x.tick t).emit (.pps t (max 1 (x.fld PTP_PPSOUT.WIDTH)))))) ∧
  (∀ (s : State) (u : UnitId) (t : Instant), ((s.unit u).works 0x15000 && (s.unit u).bit PTP_PPSIN.EN) = true →
      exec (.ppsinEdge u t) s = .next (s.onUnit u (fun x => 
      let r := t / ns % 1000000000
      let d : Int := if 1000000000 ≤ 2 * r then (r : Int) - 1000000000 else r
      let y := (x.setPair PTP_PPSIN_LO.NS_LO PTP_PPSIN_HI.NS_HI (t / ns)).set PTP_PPSDIF.DIF (ofInt 32 d)
      if y.fld PTP_PPSIN.TH < d.natAbs then y.err PTP_ERR.PPS else y))) ∧
  (∀ (s : State) (u : UnitId) (p : Fin 2) (up : Bool), (s.unit u).works 0x14000 = true →
      (up && !(s.unit u).netEn p.val) = false →
      ((s.unit u).netUp p.val == up) = false →
      exec (.netLinkChange u p up) s = .next (s.onUnit u (fun x => 
      let y := (x.set NET_STAT.LINK (x.fld NET_STAT.LINK ^^^ (2 ^ p.val))).evt NET_EVT.LINK
      (if up then y else ((y.err NET_ERR.LINKDN).txDown p.val).onPtpPort p.val (fun q => { q with masters := [], mpd2 := none, sync := none, req := none })).ptpSelect)))

/-- With Headbox on, the freeze runs prefetch on every assigned port and the build runs buildPort on those past training. The command launch of a unit that counts periods, is not FENCED and has a port that carries frames runs launchPort on every assigned port and sendError on the ports whose frame is found faulty; the status launch runs launchStatus and sendError. A status frame at a port with cells that is not off or training and whose block works counts its code errors and is taken by rxStatus; a slot that passes its check is taken, and forwarded where it is to be. A slot of the partner over Splice that passes its check is taken where the unit has none of the period, at low rate of the cycle. The holder ends relay of a strand with 16 clean frames whose port is in ACTIVE or LOW. A frame to relay that reaches a STANDBY outside Quiet is evidence of a relay, gives its SYNC, counts MSGCRC where its check is wrong, and what relayFrame makes of it is launched on a port that carries frames. A command frame of the partner on a port in use counts code errors, a cut and a wrong CRC-32; with a correct header it gives a unit without base and Splice its base, is read for its Watermark, insertions and SYNC, and where the holder sent it aligns a standby without Splice. A STOP request is answered by stopAll. The definitions it names carry choices of the model: log entries 26, 29, 30, 31, 65, 66, 73, 184, 201, 202, 203, 207, 218, 221. -/
def Obligations.StrandFrames : Prop :=
  (∀ (s : State) (u : UnitId) , (s.unit u).works 0x20000 = true →
      exec (.prefetchFreeze u) s = .next (s.onUnit u (fun x => x.livePorts.foldl (fun y sp => y.prefetch sp.2 sp.1) x))) ∧
  (∀ (s : State) (u : UnitId) , (s.unit u).works 0x20000 = true →
      exec (.frameBuild u) s = .next (s.onUnit u (fun x => (x.livePorts.filter (fun sp => decide (3 ≤ x.pstate sp.2))).foldl (fun y sp => y.buildPort sp.2 (y.fld TIM_OFS2.CMD * 40)) x))) ∧
  (∀ (x : UnitSt) (p lofs : Nat), x.portOn p = true →
      x.buildPort p lofs = x.onPort p (fun q => { q with pre := x.ownPre p, built := x.ownFrame p lofs, blk := x.slotsBlocked p false })) ∧
  (∀ (s : State) (u : UnitId) (l : Launch), ¬ (((s.unit u).tick l.at_).fenced = true ∨ (!((s.unit u).tick l.at_).anyLine) = true) →
      (!((s.unit u).tick l.at_).tim.baseSet) = false →
      (!((s.unit u).tick l.at_).tim.counting) = false →
      exec (.cmdFrameLaunch u l) s = .next (s.onUnit u (fun x => (fun y : UnitSt => l.faulty.foldl (fun y p => y.sendError l.at_ p) (y.livePorts.foldl (fun y sp => y.launchPort l.at_ sp) y)) ({ x.tick l.at_ with tim := { (x.tick l.at_).tim with launched := true } } : UnitSt)))) ∧
  (∀ (x : UnitSt) (p : Nat) (t : Instant) (bytes : Bytes), x.launch p t bytes [] = (x.emit (.frame p bytes)).onPort p (fun q => { q with launched := some (t, bytes.length, []), pre := {}, built := [] })) ∧
  (∀ (s : State) (u : UnitId) (l : Launch), ((s.unit u).tick l.at_).tim.counting = true →
      exec (.statusFrameLaunch u l) s = .next (s.onUnit u (fun x => (fun y : UnitSt => l.faulty.foldl (fun y p => y.sendError l.at_ p) (y.livePorts.foldl (fun y sp => y.launchStatus l.at_ sp) y)) ({ x.tick l.at_ with tim := { (x.tick l.at_).tim with launched := true } } : UnitSt)))) ∧
  (∀ (s : State) (u : UnitId) (p : Fin 100) (rx : RxFrame) (t : Instant) (cut : Bool), ¬ (((s.unit u).tick t).ncell p.val = 0 ∨ ((s.unit u).tick t).pstate p.val = 0 ∨ ((s.unit u).tick t).pstate p.val = 2 ∨ (!((s.unit u).tick t).portOn p.val) = true) →
      byteAt rx.bytes 1 = 3 →
      exec (.statusFrameRx u p rx t cut) s = .next (s.onUnit u (fun x => ((x.tick t).codeErrs p.val rx.errs.toNat).rxStatus p.val rx.bytes cut))) ∧
  (∀ (x : UnitSt) (p pn : Nat) (bytes : Bytes) (fwd : Bool) (h : Nat), slotPasses h pn (statSlot bytes h) = true →
      x.rxSlot p pn bytes fwd h = (fun y : UnitSt => if fwd then y.say (.status (x.port p).strand h (statSlot bytes h)) else y) (x.takeSlot ((x.port p).strand * 64 + h) pn false (statSlot bytes h))) ∧
  (∀ (s : State) (u : UnitId) (strand : Fin 96) (hop : Fin 64) (slot : Bytes) (p : Nat), (s.unit u).inQuiet = false →
      (s.unit u.other).portOf strand.val = some p →
      (s.unit u.other).pstate p ≠ 1 →
      slotPasses hop.val (s.unit u).pn slot = true →
      ((s.unit u).view (strand.val * 64 + hop.val)).slotPn ≠ some (s.unit u).pn →
      exec (.spliceStatusFwdRx u strand hop slot) s = .next (s.onUnit u (fun x => x.takeSlot (strand.val * 64 + hop.val) x.pn true slot))) ∧
  (∀ (s : State) (u : UnitId) (strand : Fin 96) (hop : Fin 64) (slot : Bytes) (p : Nat), (s.unit u).inQuiet = false →
      (s.unit u.other).portOf strand.val = some p →
      (s.unit u.other).pstate p = 1 →
      slotPasses hop.val ((s.unit u).pn / 64 * 64) slot = true →
      ((s.unit u).view (strand.val * 64 + hop.val)).slotPn ≠ some ((s.unit u).pn / 64 * 64) →
      exec (.spliceStatusFwdRx u strand hop slot) s = .next (s.onUnit u (fun x => x.takeSlot (strand.val * 64 + hop.val) (x.pn / 64 * 64) true slot))) ∧
  (∀ (s : State) (u : UnitId) (strand : Fin 96) (p : Nat), (s.unit u).portOf strand.val = some p →
      (s.unit u).isHolder = true ∧ (s.unit u).spl.relayReq.contains strand.val = true ∧ 16 ≤ ((s.unit u).port p).clean ∧ ((s.unit u).pstate p = 5 ∨ (s.unit u).pstate p = 1) →
      exec (.relayEnd u strand) s = .next (s.onUnit u (fun x => 
      let left := x.spl.relayReq.filter (· != strand.val)
      let y : UnitSt := { x with spl := { x.spl with relayReq := left } }
      (y.set SPL_RELAY.RNUM left.length).showRelay (left.take (4 * y.lanes))))) ∧
  (∀ (s : State) (u : UnitId) (bytes : Bytes) (t : Instant), ¬ (((s.unit u).tick t).inQuiet = true ∨ ((s.unit u).tick t).lstate ≠ 0) →
      exec (.relayFrameRx u bytes t) s = .next (s.onUnit u (fun x => (x.tick t).relayRx bytes t))) ∧
  (∀ (x : UnitSt) (bytes : Bytes) (t : Instant) (p : Nat), x.portOf (byteAt bytes 3 % 128) = some p →
      x.relayRx bytes t = (fun y : UnitSt => (if (relayFrame bytes (x.relayLofs p)).2 then y.inc SPL_CNT2.MSGCRC else y).relayLaunch p t (relayFrame bytes (x.relayLofs p)).1)
        { x.syncFrame bytes with lse := { (x.syncFrame bytes).lse with relNow := true } }) ∧
  (∀ (x : UnitSt) (p : Nat) (t : Instant) (f : Bytes), x.portOn p = true → x.relays p = true →
      x.relayLaunch p t f = ((x.onPort p (fun q => { q with relay := true, launched := some (t, f.length, []) })).set STRP_STAT.RELAY 1 p).emit (.frame p f)) ∧
  (∀ (s : State) (u : UnitId) (p : Fin 100) (rx : RxCut) (t : Instant), ¬ (((s.unit u).tick t).pstate p.val = 0 ∨ (!((s.unit u).tick t).portOn p.val) = true) →
      exec (.partnerCmdFrameRx u p rx t) s = .next (s.onUnit u (fun x => 
      let n := (x.tick t).ncell p.val
      let y := (x.tick t).codeErrs p.val rx.errs.toNat
      let y := if rx.cut then y.inc STRP_CNT2.ABORT p.val else y
      let y := if rx.bytes.length = cmdLen n ∧ !crc32Ok rx.bytes (cmdLen n) then y.inc STRP_CNT1.CRC32 p.val else y
      if !hcrcOk rx.bytes ∨ srcUnit rx.bytes = y.id ∨ (byteAt rx.bytes 1 ≠ 1 ∧ byteAt rx.bytes 1 ≠ 2) then y
      else
        let y := if !y.tim.baseSet ∧ !y.splUp then y.baseFromFrame p.val rx.bytes t else y
        let y := (((y.evidence p.val rx.bytes).takeInsertions p.val rx.bytes).crossTo 0x22000 STRP_ERR.XING p.val).syncFrame rx.bytes
        if y.splUp ∨ y.isHolder ∨ !fromHolder rx.bytes then y
        else y.align 2 ((t : Int) - (y.t0 (framePn rx.bytes) + leAt rx.bytes 10 3 * (ns / 4) + y.fld STRP_DLY.DLY p.val * 256)) t))) ∧
  (∀ (s : State) (u : UnitId) (t : Instant), (s.unit u).inQuiet = false →
      exec (.stopReqRx u t) s = .next (s.onUnit u (fun x => (x.tick t).stopAll t)))

/-- Allowed writes of STRP_CMD: OFF takes any port to OFF and drops what it holds; LOW only from OFF; TRAIN only from LOW; ENUM only from TRAIN with the receiver in lock for 100 µs, which forgets the own reach and what came of the partner's; ACTIVE only from LOW, to wait for its RATE entries; every other request is refused with the error REQ. A port that changes state shows it with the event of the port, and RATE 1 exactly in LOW. A write of STRP_ASSIGN stores the word and holds STRAND for the next boundary. A port in MEASURE with no cell left to measure and its path delays written enters ACTIVE, where the budgets are applied again. A DISCOVER frame of the unit that comes back stores its COUNT as the reach of the unit, and of the partner while Splice is up; one that fails its check is counted with CRC32, or with ABORT where it was cut. The definitions it names carry choices of the model: log entries 67, 71, 72, 178, 207. -/
def Obligations.PortStates : Prop :=
  (∀ (s : State) (u : UnitId) (q : Requester) (p : Fin 100), (s.unit u).allowed q true (0x100048 + 0x1000 * p.val) = true →
      exec (.portReqOff u q p) s = .next (s.onUnit u (fun x => (x.setPstate p.val 0).onPort p.val (fun r => { r with launched := none, echo := none, relay := false, wantActive := false, preach := none, parrived := none, arrived := none })))) ∧
  (∀ (s : State) (u : UnitId) (q : Requester) (p : Fin 100), (s.unit u).allowed q true (0x100048 + 0x1000 * p.val) = true →
      exec (.portReqLow u q p) s = .next (s.onUnit u (fun x => if x.pstate p.val = 0 then x.setPstate p.val 1 else x.err STRP_ERR.REQ p.val))) ∧
  (∀ (s : State) (u : UnitId) (q : Requester) (p : Fin 100), (s.unit u).allowed q true (0x100048 + 0x1000 * p.val) = true →
      exec (.portReqTrain u q p) s = .next (s.onUnit u (fun x => if x.pstate p.val = 1 then x.setPstate p.val 2 else x.err STRP_ERR.REQ p.val))) ∧
  (∀ (s : State) (u : UnitId) (q : Requester) (p : Fin 100) (t : Instant), ((s.unit u).tick t).allowed q true (0x100048 + 0x1000 * p.val) = true →
      exec (.portReqEnum u q p t) s = .next (s.onUnit u (fun x => 
      let y := x.tick t
      let locked := match (y.port p.val).lockAt with | some l => decide (l + 100 * us ≤ t) | none => false
      if y.pstate p.val = 2 && y.bit STRP_STAT.LOCK p.val && locked then
        (y.setPstate p.val 3).onPort p.val (fun r => { r with reach := none, arrived := none, ncellBad := false, echoHops := [] })
      else y.err STRP_ERR.REQ p.val))) ∧
  (∀ (s : State) (u : UnitId) (q : Requester) (p : Fin 100), (s.unit u).allowed q true (0x100048 + 0x1000 * p.val) = true →
      exec (.portReqActive u q p) s = .next (s.onUnit u (fun x => if x.pstate p.val = 1 then x.onPort p.val (fun r => { r with wantActive := true }) else x.err STRP_ERR.REQ p.val))) ∧
  (∀ (s : State) (u : UnitId) (q : Requester) (p : Fin 100) (v : Word), (s.unit u).allowed q true (0x100040 + 0x1000 * p.val) = true →
      exec (.portAssignWrite u q p v) s = .next (s.onUnit u (fun x => (x.writeWord (0x100040 + 0x1000 * p.val) v).onPort p.val (fun r => { r with newStrand := some (v.toNat % 128) })))) ∧
  (∀ (x : UnitSt) (p v : Nat), x.pstate p ≠ v → x.setPstate p v = (fun y : UnitSt => y.onPort p (fun q => { q with moved := q.moved && v != 5, clean := 0 })) (((x.set STRP_STAT.STATE v p).evtBit (0x100000 + 0x1000 * p) 1).set STRP_STAT.RATE (if v = 1 then 1 else 0) p)) ∧
  (∀ (s : State) (u : UnitId) (p : Fin 100), (s.unit u).pstate p.val = 4 ∧ (!((s.unit u).port p.val).ncellBad) = true ∧ ((s.unit u).port p.val).echoHops = [] ∧ (((s.unit u).port p.val).measIds.all (fun i => match (s.unit u).hbxEnded i with | some st => decide (st ≤ 1) | none => false)) = true →
      exec (.portMeasureDone u p) s = .next (s.onUnit u (fun x => (x.setPstate p.val 5).budgetCheck))) ∧
  (∀ (s : State) (u : UnitId) (p : Fin 100) (bytes : Bytes) (t : Instant), enumOk bytes = true →
      byteAt bytes 1 = 4 →
      byteAt bytes 4 = 1 →
      srcUnit bytes = u →
      bitAt (byteAt bytes 2) 6 = true →
      exec (.enumFrameRx u p bytes t) s = .next (
      let s1 := (s.onUnit u (fun x => x.tick t)).onUnit u (fun x => x.ownReach p.val (byteAt bytes 5) none)
      if ((s.onUnit u (fun x => x.tick t)).unit u).splUp then s1.onUnit u.other (fun y =>
        y.onStrand (((s.onUnit u (fun x => x.tick t)).unit u).port p.val).strand (fun y q => y.partReach q (byteAt bytes 5) none)) else s1)) ∧
  (∀ (s : State) (u : UnitId) (p : Fin 100) (bytes : Bytes) (t : Instant), enumOk bytes = false →
      byteAt bytes 1 = 4 →
      exec (.enumFrameRx u p bytes t) s = .next ((s.onUnit u (fun x => x.tick t)).onUnit u (fun x => if bytes.length < 110 then x.inc STRP_CNT2.ABORT p.val else x.inc STRP_CNT1.CRC32 p.val)))

/-- A collector cycle of a unit that is not off collects the lines at its instant. An allowed write of the latch clears the sources it names that carry no class, and shows FAULT. Grace timers that have run out of a unit that is not FENCED stop and carry out their actions, BLOCK first, then HANDOVER, then one RESET. An allowed write of a watchdog writes its word, refuses keys other than 0 and 0xA1E, and restarts the watchdog on the key or a changed time; the right key ends its expiry. TMO ms after the last start the watchdog expires once. A whole second of a running unit gives a health record under the next generation, shown with its event and sent while Splice is up, or lost with FLT_ERR.XING where the Splice block is away; a record of the partner is shown under the window's own generation. A masking window that has seen its second token ends, and the lines that still carry a class latch. The definitions it names carry choices of the model: log entries 9, 16, 24, 40, 42, 116, 144, 145, 147, 148, 149, 207, 220, 221. -/
def Obligations.FaultCollectorAndWatchdogs : Prop :=
  (∀ (s : State) (u : UnitId) (t : Instant) (cyc : BitVec 32), ¬ ((s.unit u).boot = .off) →
      exec (.faultLatch u t cyc) s = .next (s.onUnit u (fun x => x.collect t cyc.toNat))) ∧
  (∀ (s : State) (u : UnitId) (q : Requester) (v : Word), (s.unit u).allowed q true 0x3040 = true →
      exec (.fltLatchClear u q v) s = .next (s.onUnit u (fun x => (x.fltLatchClear v.toNat).showFault))) ∧
  (∀ (x : UnitSt), x.showFault = x.set FLT_STAT.FAULT (b2n ((List.range 29).any (fun n => bitAt (x.fld FLT_LATCH_LO.LATCH) n && decide (2 ≤ x.fld FLT_LCLS.CLS n))))) ∧
  (∀ (s : State) (u : UnitId) (t : Instant), ¬ (((s.unit u).flt.graceAt.filter (fun g => decide (g.2 + (s.unit u).fld FLT_SCFG.GRACE g.1 * us ≤ t))).map (·.1) = [] ∨ (s.unit u).fenced = true) →
      exec (.graceExpire u t) s = .next (s.onUnit u (fun x => 
      let gone := (x.flt.graceAt.filter (fun g => decide (g.2 + x.fld FLT_SCFG.GRACE g.1 * us ≤ t))).map (·.1)
      let y : UnitSt := { x with flt := { x.flt with graceAt := x.flt.graceAt.filter (fun g => !gone.contains g.1) } }
      let y := (y.tick t).showGrace
      let acts := gone.map (fun n => (n, y.escAction (y.fld FLT_SCFG.ESC n)))
      let run (y : UnitSt) (k : Nat) : UnitSt := (acts.filter (fun e => e.2 == k)).foldl (fun (y : UnitSt) e => y.escalate e.1 k t) y
      let y := run (run y 0) 1
      match (acts.filter (fun e => e.2 == 2)).map (·.1) with
      | [] => y
      | n :: l => (l.foldl (fun (y : UnitSt) m => y.escRecord m 2) y).escalate n 2 t))) ∧
  (∀ (s : State) (u : UnitId) (q : Requester) (n : Fin 4) (v : Word) (t : Instant), (s.unit u).allowed q true (0x3088 + 4 * n.val) = true →
      exec (.wdogKick u q n v t) s = .next (s.onUnit u (fun x => 
      let y := x.writeWord (0x3088 + 4 * n.val) v
      let kick := v.toNat % 65536
      let y := if kick ≠ 0xA1E ∧ kick ≠ 0 then y.err FLT_ERR.RANGE else y
      { y with flt := { y.flt with
        expired := if kick = 0xA1E then y.flt.expired.filter (· != n.val) else y.flt.expired
        kickAt := if kick == 0xA1E || y.fld FLT_WDOG.TMO n.val != x.fld FLT_WDOG.TMO n.val then sset (fun _ => 0) y.flt.kickAt n.val t else y.flt.kickAt } }))) ∧
  (∀ (s : State) (u : UnitId) (n : Fin 4) (t : Instant), (s.unit u).fld FLT_WDOG.TMO n.val ≠ 0 ∧ (!(s.unit u).flt.expired.contains n.val) = true ∧ sget (fun _ => 0) (s.unit u).flt.kickAt n.val + (s.unit u).fld FLT_WDOG.TMO n.val * 1000 * us ≤ t →
      exec (.wdogExpire u n t) s = .next (s.onUnit u (fun x => { x with flt := { x.flt with expired := n.val :: x.flt.expired } }))) ∧
  (∀ (s : State) (u : UnitId) (t : Instant) (tj : Int) (eyes : EyeMargins) (spleye : List Nat), ¬ ((s.unit u).boot ≠ .up ∨ t % sec ≠ 0) →
      exec (.healthRecord u t tj eyes spleye) s = .next (s.onUnit u (fun x => 
      let y := ((x.tick t).scrubStep t).takeEyes eyes
      let gen := nextGen y.flt.health.gen
      let bs := y.healthBytes gen t tj spleye
      let y := (y.putRecord FLT_HREC.WORD bs).evt FLT_EVT.HEALTH
      let y := if y.splUp || y.away 0x33000 then y.sayVia FLT_ERR.XING (.health bs) else y
      { y with flt := { y.flt with health := { gen := gen, pgen := y.flt.health.pgen } } }))) ∧
  (∀ (s : State) (u : UnitId) (record : Bytes), (s.unit u).islandOn .spl = true →
      exec (.healthRecordRx u record) s = .next (s.onUnit u (fun x => 
      let gen := nextGen x.flt.health.pgen
      let y := (x.putRecord FLT_PHREC.WORD (leBytes 4 gen ++ record.drop 4)).evt FLT_EVT.PHEALTH
      { y with flt := { y.flt with health := { y.flt.health with pgen := gen } } }))) ∧
  (∀ (s : State) (u : UnitId) (t : Instant) (cyc : BitVec 32), exec (.maskWindowEnd u t cyc) s = .next (s.onUnit u (fun x => 
      let gone := x.flt.masked.filter (fun e => decide (2 ≤ e.2))
      let y : UnitSt := { x with flt := { x.flt with masked := x.flt.masked.filter (fun e => decide (e.2 < 2)) } }
      let lines := gone.map (fun e => (e.1, y.srcLine e.1))
      let y : UnitSt := { y with flt := { y.flt with seen := lines.foldl (fun m e => sset (fun _ => 0) m e.1 e.2) y.flt.seen } }
      (y.latch (lines.filter (fun e => e.2 != 0)) t cyc.toNat).tick t))) ∧
  (∀ (s : State) (u : UnitId) , (s.unit u).islandOn .spl = true →
      ((s.unit u).bit GEN_CFG.PFEN && !(s.unit u).isHolder) = true →
      exec (.partnerResetRx u) s = .next (s.onUnit u (fun x => x.resetTo 4)))

/-- An allowed write of SRST at CTRL writes the word and resets the block; an allowed write of LOCK writes it; in a cell both go through its register write. A correctable SRAM error of a working MEM block is counted, shown with its address and entered in the table of rows; a double one is counted and shown as uncorrectable. A scrub pass that overruns sets SCRUB. A row with ROWTH errors begins to be copied to a spare; at the switch, outside the compute span, the row leaves the table, is mapped, a spare of its macro is used, RETIRED and LASTRET show it, and NOSPARE is set when it was the last. Entries leave the table after AGE hours. MEM_RETREQ asks for the copy of a row below 49152; another row is answered with RES 3. The definitions it names carry choices of the model: log entries 18, 20, 21, 35, 146, 147, 207. -/
def Obligations.BlockResetsLocksAndRows : Prop :=
  (∀ (s : State) (u : UnitId) (q : Requester) (a : BitVec 32) (en : Bool) (t : Instant), a.toNat % 0x1000 = 0x00C →
      (s.unit u).allowed q true a.toNat = true →
      exec (.blockReset (.unit u q) a en t) s = .next (s.onUnit u (fun x => (x.writeWord a.toNat (BitVec.ofNat 32 (2 + b2n en))).blockReset (a.toNat - 0x00C) t))) ∧
  (∀ (s : State) (c : CellId) (r : CellReq) (a : BitVec 32) (en : Bool) (t : Instant), a.toNat % 0x1000 = 0x00C →
      exec (.blockReset (.cell c r) a en t) s = .next (s.onCell c (fun x => (x.regWrite r a.toNat (BitVec.ofNat 32 (2 + b2n en)) 0xFFFFFFFF t).2))) ∧
  (∀ (s : State) (u : UnitId) (q : Requester) (a : BitVec 32) (v : Word) (t : Instant), a.toNat % 0x1000 = 0x024 →
      (s.unit u).allowed q true a.toNat = true →
      exec (.lockWrite (.unit u q) a v t) s = .next (s.onUnit u (fun x => x.writeWord a.toNat v))) ∧
  (∀ (s : State) (c : CellId) (r : CellReq) (a : BitVec 32) (v : Word) (t : Instant), a.toNat % 0x1000 = 0x024 →
      exec (.lockWrite (.cell c r) a v t) s = .next (s.onCell c (fun x => (x.regWrite r a.toNat v 0xFFFFFFFF t).2))) ∧
  (∀ (s : State) (u : UnitId) (addr : BitVec 26) (d : Bool) (t : Instant), (s.unit u).works 0x7000 = true →
      exec (.sramEccError (.unit u) addr d t) s = .next (s.onUnit u (fun x =>
      if d then ((x.err MEM_ERR.UE).inc MEM_CNT.UE).set MEM_UEADDR.ADDR addr.toNat
      else (fun y : UnitSt => ({ y with flt := { y.flt with health := { y.flt.health with ce := y.flt.health.ce + 1 } } } : UnitSt).rowError (addr.toNat / 1024) t)
        (((x.err MEM_ERR.CE).inc MEM_CNT.CE).set MEM_CEADDR.ADDR addr.toNat)))) ∧
  (∀ (s : State) (c : CellId) (addr : BitVec 26) (d : Bool) (t : Instant), ¬ ((s.cell c).pow = .off ∨ (s.cell c).pow = .dormant) →
      exec (.sramEccError (.cell c) addr d t) s = .next (s.onCell c (fun x => if d then x.err CFLT_ERR.ECCU else (x.err CFLT_ERR.ECCC).inc CFLT_CNT.ECCC))) ∧
  (∀ (s : State) (u : UnitId) , ((s.unit u).works 0x7000 && (s.unit u).bit MEM_SCRUB.EN) = true →
      exec (.scrubOverrun u) s = .next (s.onUnit u (fun x => x.err MEM_ERR.SCRUB))) ∧
  (∀ (s : State) (u : UnitId) (row : Fin 49152), ((s.unit u).works 0x7000 && (s.unit u).fld MEM_ROWTH.ROWTH != 0 && (s.unit u).mem.rows.any (fun r => r.1 == row.val && decide ((s.unit u).fld MEM_ROWTH.ROWTH ≤ r.2.1)) && !(s.unit u).mem.copy.any (fun c => c.1 == row.val)) = true →
      exec (.rowRetire u row) s = .next (s.onUnit u (fun x => x.rowCopy row.val false))) ∧
  (∀ (x : UnitSt) (row : Nat) (req : Bool), x.mem.copy.any (fun c => c.1 == row) = false →
      x.rowCopy row req = if x.sparesLeft (row / 1024) = 0 then (if req then x.set MEM_RETREQ.RES 2 else x).err MEM_ERR.NOSPARE
        else { x with mem := { x.mem with copy := (row, req) :: x.mem.copy } }) ∧
  (∀ (s : State) (u : UnitId) (row : Fin 49152) (t : Instant) (r : Nat) (req : Bool), (s.unit u).mem.copy.find? (fun c => c.1 == row.val) = some (r, req) →
      ((!(s.unit u).works 0x7000) || (!(s.unit u).maySwitch t)) = false →
      exec (.rowRetireSwitch u row t) s = .next (s.onUnit u (fun x => 
      let m := row.val / 1024
      let y : UnitSt := { x with mem := { x.mem with
        copy := x.mem.copy.filter (fun c => c.1 != row.val)
        rows := x.mem.rows.filter (fun r => r.1 != row.val)
        mapped := if x.mem.mapped.contains row.val then x.mem.mapped else row.val :: x.mem.mapped
        used := sset (fun _ => 0) x.mem.used m (sget (fun _ => 0) x.mem.used m + 1) } }
      let y := (y.set MEM_SPARE.RETIRED (y.fld MEM_SPARE.RETIRED + 1)).set MEM_SPARE.LEFT (y.fld MEM_SPARE.LEFT - 1)
      let y := (y.err MEM_ERR.RETIRE).set MEM_LASTRET.ROW row.val
      let y := if min 32 (Config.spareRows y.id m) ≤ sget (fun _ => 0) y.mem.used m then y.err MEM_ERR.NOSPARE else y
      if req then y.set MEM_RETREQ.RES 1 else y))) ∧
  (∀ (s : State) (u : UnitId) (row : Fin 49152) (t : Instant), (s.unit u).works 0x7000 = true →
      exec (.rowEntryAgeDrop u row t) s = .next (s.onUnit u (fun x => { x with mem := { x.mem with rows := x.mem.rows.filter (fun r => !(r.1 == row.val && decide (r.2.2 + x.fld MEM_ROWTH.AGE * 3600 * sec ≤ t))) } }))) ∧
  (∀ (s : State) (u : UnitId) (q : Requester) (v : Word), (s.unit u).allowed q true 0x7058 = true →
      exec (.memRetreq u q v) s = .next (s.onUnit u (fun x => if 49152 ≤ v.toNat % 65536 then x.set MEM_RETREQ.RES 3 else (x.set MEM_RETREQ.RES 0).rowCopy (v.toNat % 65536) true)))

/-- A power-on reset is taken in every state, a pin reset where the unit is powered, after what an external programmer wrote into the flash while the pins were released; a loss of supply leaves the unit off with what OTP and flash hold. A write of 0x0000B007 to GEN_RST is a firmware reset, another word is out of range. A write of the key 0xB008 to GEN_PRST by a HOLDER with Splice up asks the partner and shows RES 1, by another unit RES 2; another key does nothing. CONFIRM ends the trial and shows it; The end of BOOTTMO in a trial makes an escalation reset. A boot without a valid slot leaves NOIMG and FAULT. A configuration of a running unit is loaded; it stands or is refused as a whole. The definitions it names carry choices of the model: log entries 9, 24, 38, 40, 44, 45, 46, 47, 49, 51, 57, 116, 207, 214. -/
def Obligations.ResetsAndBoot : Prop :=
  (∀ (s : State) (u : UnitId) , exec (.unitPowerOnReset u) s = .next (s.onUnit u (fun x => x.resetTo 0))) ∧
  (∀ (s : State) (r : PinReset), ¬ (((s.unit r.unit).programmer false r.prog).boot = .off) →
      exec (.unitPinReset r) s = .next (s.onUnit r.unit (fun x => (x.programmer false r.prog).resetTo 1))) ∧
  (∀ (x : UnitSt) (a : Nat) (b : Byte), a < flashSize → x.programmer false [(a, b)] = x.setFlash a b) ∧
  (∀ (s : State) (u : UnitId) , exec (.unitSupplyLoss u) s = .next (s.onUnit u (fun x => { UnitSt.reset u with regs := x.regs.filter (fun e => resetKeeps 0 e.1), out := x.out, free := x.free, flash := x.flash, boot := .off }))) ∧
  (∀ (s : State) (u : UnitId) (q : Requester) (v : Word), (s.unit u).allowed q true 0x4C = true →
      exec (.genRstWrite u q v) s = .next (s.onUnit u (fun x => if v = 0xB007 then x.resetTo 3 else x.err GEN_ERR.RANGE))) ∧
  (∀ (s : State) (u : UnitId) (q : Requester) (v : Word), (s.unit u).allowed q true 0x50 = true →
      exec (.genPrstWrite u q v) s = .next (s.onUnit u (fun x => if v.toNat % 65536 ≠ 0xB008 then x
      else if x.isHolder && x.splUp then (x.set GEN_PRST.RES 1).say .partnerReset
      else x.set GEN_PRST.RES 2))) ∧
  (∀ (s : State) (u : UnitId) (q : Requester) , (s.unit u).allowed q true 0x58 = true →
      exec (.bootConfirm u q) s = .next (s.onUnit u (fun x => (x.set GEN_BOOT.TRIAL 0).set GEN_STAT.CONFIRMED 1))) ∧
  (∀ (s : State) (u : UnitId) , (s.unit u).boot = .up ∧ (s.unit u).bit GEN_BOOT.TRIAL = true ∧ (s.unit u).fld GEN_CFG.BOOTTMO ≠ 0 →
      exec (.bootTrialTimeout u) s = .next (s.onUnit u (fun x => x.resetTo 2))) ∧
  (∀ (x was : UnitSt) (kind : Nat), ((x.showSlot 0).showSlot 1).slotValid 0 = false → ((x.showSlot 0).showSlot 1).slotValid 1 = false →
      (kind = 0 ∨ was.bit GEN_BOOT.TRIAL = false) → (kind = 0 ∨ was.bit GEN_BOOT.FB = false) →
      x.bootRom was kind = (({ (x.showSlot 0).showSlot 1 with boot := .noImage } : UnitSt).err FLS_ERR.NOIMG).set FLT_STAT.FAULT 1) ∧
  (∀ (s : State) (u : UnitId) (bs : CfgBlocks) (sect : Bytes) (t : Instant), (s.unit u).boot = .up →
      exec (.configLoad u bs sect t) s = .next (s.onUnit u (fun x => 
      let y := (x.tick t).setDigest sect
      if !planOk (cfgTypes bs) (cfgStrands bs) then y.cfgRefuse
      else
        match bs.foldl (fun (o : UnitSt × Bool) b => if o.2 then o.1.applyBlock b t else o) (y, true) with
        | (z, false) => z.cfgRefuse
        | (z, true) =>
          if !z.planHeld then z.cfgRefuse else
          let z := bs.foldl (fun (z : UnitSt) b => z.applyLock b t) z
          { z.set PWR_COND.LOADED 1 with conf := { z.conf with refused := false } })))

/-- An allowed VERIFY of an idle engine on a message of at least one byte inside the SRAM, which runs, reads as busy until it completes, and then shows valid or invalid with VFAIL; RAISE outside a trial takes the version of the image into MINVER; RANDOM writes 32 free bytes. While a verification runs a command is out of range. An allowed flash command of an idle loader on a range inside flash and SRAM and outside the booted slot reads as busy; no bytes answer EMPTY. When it completes the operation is done and RES reads 1; an ECC error of a read or a check sets ECC. The definitions it names carry choices of the model: log entries 13, 16, 39, 57, 58, 207. -/
def Obligations.SecurityAndFlashCommands : Prop :=
  (∀ (s : State) (u : UnitId) (q : Requester) , (s.unit u).allowed q true 0x5078 = true →
      (s.unit u).verif.isSome = false →
      (s.unit u).fld SEC_VLEN.VLEN ≠ 0 →
      (sramRange ((s.unit u).fld SEC_VMSG.VMSG) ((s.unit u).fld SEC_VLEN.VLEN) && sramRange ((s.unit u).fld SEC_VSIG.VSIG) 96 && sramRange ((s.unit u).fld SEC_VKEY.VKEY) 97) = true →
      (s.unit u).sramOn = true →
      exec (.secVerify u q false) s = .next (s.onUnit u (fun x => { x.set SEC_VCMD.RES 2 with verif := some (Config.verify (x.sramBytes (x.fld SEC_VKEY.VKEY) 97) (x.sramBytes (x.fld SEC_VMSG.VMSG) (x.fld SEC_VLEN.VLEN)) (x.sramBytes (x.fld SEC_VSIG.VSIG) 96)) }))) ∧
  (∀ (s : State) (u : UnitId) (q : Requester) , (s.unit u).allowed q true 0x5078 = true →
      (s.unit u).verif.isSome = false →
      (s.unit u).fld SEC_VLEN.VLEN ≠ 0 →
      (sramRange ((s.unit u).fld SEC_VMSG.VMSG) ((s.unit u).fld SEC_VLEN.VLEN) && sramRange ((s.unit u).fld SEC_VSIG.VSIG) 96) = true →
      (s.unit u).sramOn = true →
      exec (.secVerify u q true) s = .next (s.onUnit u (fun x => { x.set SEC_VCMD.RES 2 with verif := some (Config.caVerify (x.sramBytes (x.fld SEC_VMSG.VMSG) (x.fld SEC_VLEN.VLEN)) (x.sramBytes (x.fld SEC_VSIG.VSIG) 96)) }))) ∧
  (∀ (s : State) (u : UnitId) (q : Requester) (ca : Bool), (s.unit u).allowed q true 0x5078 = true →
      (s.unit u).verif.isSome = true →
      exec (.secVerify u q ca) s = .next (s.onUnit u (fun x => x.err SEC_ERR.RANGE))) ∧
  (∀ (s : State) (u : UnitId) (ok : Bool), (s.unit u).verif = some ok →
      exec (.secVerifyDone u) s = .next (s.onUnit u (fun x => if ok then { x.set SEC_VCMD.RES 1 with verif := none } else ({ x.set SEC_VCMD.RES 3 with verif := none } : UnitSt).err SEC_ERR.VFAIL))) ∧
  (∀ (s : State) (u : UnitId) (q : Requester) , (s.unit u).allowed q true 0x5078 = true →
      (s.unit u).verif.isSome = false →
      (s.unit u).bit GEN_BOOT.TRIAL = false →
      exec (.secRaise u q) s = .next (s.onUnit u (fun x => (x.set SEC_MINVER.MINVER (x.fld GEN_IMGVER.VERSION)).set SEC_VCMD.RES 1))) ∧
  (∀ (s : State) (u : UnitId) (q : Requester) , (s.unit u).allowed q true 0x5078 = true →
      (s.unit u).verif.isSome = false →
      sramRange ((s.unit u).fld SEC_VMSG.VMSG) 32 = true →
      (s.unit u).sramOn = true →
      exec (.secRandom u q) s = .next (s.onUnit u (fun x => (x.draw.2.sramPut (x.fld SEC_VMSG.VMSG) (leBytes 32 x.draw.1)).set SEC_VCMD.RES 1))) ∧
  (∀ (s : State) (u : UnitId) (q : Requester) , (s.unit u).allowed q true 0x6050 = true →
      (s.unit u).fls.isSome = false →
      (s.unit u).fld FLS_LEN.LEN ≠ 0 →
      ¬ (flashSize < (flsSpan 1 ((s.unit u).fld FLS_ADDR.ADDR) ((s.unit u).fld FLS_LEN.LEN)).2 ∨ (2 ≤ 1 ∧ 1 ≤ 3 ∧ (!(s.unit u).inSram ((s.unit u).fld FLS_SRAM.SRAM) ((s.unit u).fld FLS_LEN.LEN)) = true) ∨ (1 = 4 ∧ 2 * slotSize ≤ (s.unit u).fld FLS_ADDR.ADDR)) →
      ¬ ((s.unit u).boot = .up ∧ (flsSpan 1 ((s.unit u).fld FLS_ADDR.ADDR) ((s.unit u).fld FLS_LEN.LEN)).1 < slotBase ((s.unit u).fld GEN_BOOT.SLOT) + slotSize ∧ slotBase ((s.unit u).fld GEN_BOOT.SLOT) < (flsSpan 1 ((s.unit u).fld FLS_ADDR.ADDR) ((s.unit u).fld FLS_LEN.LEN)).2) →
      exec (.flsErase u q) s = .next (s.onUnit u (fun x => { x.set FLS_CMD.RES 2 with fls := some ⟨1, x.fld FLS_ADDR.ADDR, x.fld FLS_SRAM.SRAM, x.fld FLS_LEN.LEN⟩ }))) ∧
  (∀ (s : State) (u : UnitId) (q : Requester) , (s.unit u).allowed q true 0x6050 = true →
      (s.unit u).fls.isSome = false →
      (s.unit u).fld FLS_LEN.LEN ≠ 0 →
      ¬ (flashSize < (flsSpan 2 ((s.unit u).fld FLS_ADDR.ADDR) ((s.unit u).fld FLS_LEN.LEN)).2 ∨ (2 ≤ 2 ∧ 2 ≤ 3 ∧ (!(s.unit u).inSram ((s.unit u).fld FLS_SRAM.SRAM) ((s.unit u).fld FLS_LEN.LEN)) = true) ∨ (2 = 4 ∧ 2 * slotSize ≤ (s.unit u).fld FLS_ADDR.ADDR)) →
      ¬ ((s.unit u).boot = .up ∧ (flsSpan 2 ((s.unit u).fld FLS_ADDR.ADDR) ((s.unit u).fld FLS_LEN.LEN)).1 < slotBase ((s.unit u).fld GEN_BOOT.SLOT) + slotSize ∧ slotBase ((s.unit u).fld GEN_BOOT.SLOT) < (flsSpan 2 ((s.unit u).fld FLS_ADDR.ADDR) ((s.unit u).fld FLS_LEN.LEN)).2) →
      exec (.flsProgram u q) s = .next (s.onUnit u (fun x => { x.set FLS_CMD.RES 2 with fls := some ⟨2, x.fld FLS_ADDR.ADDR, x.fld FLS_SRAM.SRAM, x.fld FLS_LEN.LEN⟩ }))) ∧
  (∀ (s : State) (u : UnitId) (q : Requester) , (s.unit u).allowed q true 0x6050 = true →
      (s.unit u).fls.isSome = false →
      (s.unit u).fld FLS_LEN.LEN ≠ 0 →
      ¬ (flashSize < (flsSpan 3 ((s.unit u).fld FLS_ADDR.ADDR) ((s.unit u).fld FLS_LEN.LEN)).2 ∨ (2 ≤ 3 ∧ 3 ≤ 3 ∧ (!(s.unit u).inSram ((s.unit u).fld FLS_SRAM.SRAM) ((s.unit u).fld FLS_LEN.LEN)) = true) ∨ (3 = 4 ∧ 2 * slotSize ≤ (s.unit u).fld FLS_ADDR.ADDR)) →
      exec (.flsRead u q) s = .next (s.onUnit u (fun x => { x.set FLS_CMD.RES 2 with fls := some ⟨3, x.fld FLS_ADDR.ADDR, x.fld FLS_SRAM.SRAM, x.fld FLS_LEN.LEN⟩ }))) ∧
  (∀ (s : State) (u : UnitId) (q : Requester) , (s.unit u).allowed q true 0x6050 = true →
      (s.unit u).fls.isSome = false →
      (s.unit u).fld FLS_LEN.LEN ≠ 0 →
      ¬ (flashSize < (flsSpan 4 ((s.unit u).fld FLS_ADDR.ADDR) ((s.unit u).fld FLS_LEN.LEN)).2 ∨ (2 ≤ 4 ∧ 4 ≤ 3 ∧ (!(s.unit u).inSram ((s.unit u).fld FLS_SRAM.SRAM) ((s.unit u).fld FLS_LEN.LEN)) = true) ∨ (4 = 4 ∧ 2 * slotSize ≤ (s.unit u).fld FLS_ADDR.ADDR)) →
      exec (.flsCheck u q) s = .next (s.onUnit u (fun x => { x.set FLS_CMD.RES 2 with fls := some ⟨4, x.fld FLS_ADDR.ADDR, x.fld FLS_SRAM.SRAM, x.fld FLS_LEN.LEN⟩ }))) ∧
  (∀ (s : State) (u : UnitId) (ecc : Bool) (o : FlsOp), (s.unit u).fls = some o →
      (s.unit u).islandOn .fls = true →
      exec (.flsOpDone u ecc) s = .next (s.onUnit u (fun x => (fun y : UnitSt => if ecc && decide (3 ≤ o.op) then y.err FLS_ERR.ECC else y) { (x.flsDo o).set FLS_CMD.RES 1 with fls := none })))

/-- An access of a function to its BAR 2 or BAR 4 (addressed as log entry 27 chooses) reads or writes there. Any other read by a requester that is allowed reads the bus; one that is not answers 0, with what the guard does to it. A read of a low word answers the live word and latches the others of its group; a read of a latched word answers the latch, which gives it up. A guarded write of a whole word reaches the bus at its instant: a low word is held, a high word commits with the low word held for it, any other word is written. A write that does not cover an aligned word reaches no register and sets RANGE where it came over PCIe. In a cell the accesses go through its register read and write. FLASHPROG acts while the instruction stands and there is no image. The definitions it names carry choices of the model: log entries 18, 19, 20, 21, 22, 27, 39, 63, 207. -/
def Obligations.RegisterAccesses : Prop :=
  (∀ (s : State) (u : UnitId) (q : Requester) (a : BitVec 32), exec (.lowWordRead (.unit u q) a) s = .next (s.onUnit u (fun x => x.readAt q a.toNat))) ∧
  (∀ (s : State) (c : CellId) (r : CellReq) (a : BitVec 32), exec (.lowWordRead (.cell c r) a) s = .next (s.onCell c (fun x => x.readAt r a.toNat))) ∧
  (∀ (s : State) (u : UnitId) (q : Requester) (a : BitVec 32), exec (.highWordRead (.unit u q) a) s = .next (s.onUnit u (fun x => x.readAt q a.toNat))) ∧
  (∀ (s : State) (c : CellId) (r : CellReq) (a : BitVec 32), exec (.highWordRead (.cell c r) a) s = .next (s.onCell c (fun x => x.readAt r a.toNat))) ∧
  (∀ (x : UnitSt) (q : Requester) (a : Nat), x.readAt q a = if inBar q a then x.barRead q a else if x.allowed q false a then x.busRead q a else (x.guard q false a (fun y => y)).answer q 0) ∧
  (∀ (x : UnitSt) (q : Requester) (a : Nat) (v : Word) (t : Instant), x.writeAt q a v t = if inBar q a then x.barWrite q a v else x.guard q true a (fun y => y.busWrite q a v t)) ∧
  (∀ (x : UnitSt) (q : Requester) (a : Nat) (rest : List Nat), groupOf unitPairs a = some rest →
      x.busRead q a = x.onReq q (fun r => { r with rdata := x.liveWord q a, latch := rest.map (fun o => (o, x.liveWord q o)) })) ∧
  (∀ (x : UnitSt) (q : Requester) (a : Nat) (e : Nat × Word), groupOf unitPairs a = none → (x.req q).latch.find? (fun e => e.1 == a) = some e →
      x.busRead q a = x.onReq q (fun r => { r with rdata := e.2, latch := r.latch.filter (fun e => e.1 != a) })) ∧
  (∀ (s : State) (u : UnitId) (q : Requester) (a : BitVec 32) (v : Word) (t : Instant), exec (.lowWordWrite (.unit u q) a v t) s = .next (s.onUnit u (fun x => (x.tick t).writeAt q a.toNat v t))) ∧
  (∀ (s : State) (c : CellId) (r : CellReq) (a : BitVec 32) (v : Word) (t : Instant), exec (.lowWordWrite (.cell c r) a v t) s = .next (s.onCell c (fun x => x.busWrite r a.toNat v t))) ∧
  (∀ (s : State) (u : UnitId) (q : Requester) (a : BitVec 32) (v : Word) (t : Instant), exec (.highWordWrite (.unit u q) a v t) s = .next (s.onUnit u (fun x => (x.tick t).writeAt q a.toNat v t))) ∧
  (∀ (s : State) (c : CellId) (r : CellReq) (a : BitVec 32) (v : Word) (t : Instant), exec (.highWordWrite (.cell c r) a v t) s = .next (s.onCell c (fun x => x.busWrite r a.toNat v t))) ∧
  (∀ (x : UnitSt) (q : Requester) (a : Nat) (v : Word) (t : Instant), x.busWrite q a v t =
      if lowWord unitPairs a then x.writeLow q a v
      else if highWord unitPairs a then
        match (x.takeHold q a).1 with
        | some w => ((x.takeHold q a).2.regWrite q (a - 4) w t).regWrite q a v t
        | none => (x.takeHold q a).2.regWrite q a v t
      else x.regWrite q a v t) ∧
  (∀ (s : State) (u : UnitId) (q : Requester) (a : BitVec 32) (v : Word) (be : BitVec 4) (t : Instant), be = 0xF ∧ a.toNat % 4 = 0 →
      exec (.regWrite (.unit u q) a v be t) s = .next (s.onUnit u (fun x => (x.tick t).writeAt q a.toNat v t))) ∧
  (∀ (s : State) (c : CellId) (r : CellReq) (a : BitVec 32) (v : Word) (be : BitVec 4) (t : Instant), be = 0xF ∧ a.toNat % 4 = 0 →
      exec (.regWrite (.cell c r) a v be t) s = .next (s.onCell c (fun x => x.busWrite r a.toNat v t))) ∧
  (∀ (s : State) (u : UnitId) (q : Requester) (a : BitVec 32) (v : Word) (be : BitVec 4) (t : Instant), ¬ (be = 0xF ∧ a.toNat % 4 = 0) →
      exec (.regWrite (.unit u q) a v be t) s = .next (s.onUnit u (fun x => if (q.fn?).isSome && x.islandOn .host then x.err PCIE_ERR.RANGE else x))) ∧
  (∀ (s : State) (u : UnitId) (wr sram : Bool) (addr data : Word) (t : Instant), (s.unit u).jtag.ir = 0x10 ∧ (s.unit u).bit FLS_ERR.NOIMG = true →
      exec (.jtagFlashprogAccess u wr sram addr data t) s = .next (s.onUnit u (fun x => x.flashprog wr sram addr.toNat data t)))

/-- A single scheduled change of a leg without refresh and EAT takes effect at its instant: the gates of the leg go off, the leg follows, its gate is called for after the dead time, CSTATE follows unless it shows a later change of the other leg. A gate call that falls due turns on the gate the leg still wants and counts LDROP otherwise. A leg without refresh is left by the end of a refresh. In carrier mode an edge commands the state of the carrier, and starts the windows of a transition where that is another state; a transfer puts PER and DUTY at Q. The stage adopts the command accepted for the next boundary, else it coasts on the last one. A boundary passes where the TIM island runs. An allowed write of CSW_CFG waits for the boundary, refused with RANGE where ZSEL is 0b11; PER below 4000 is refused, else it arms; a SIGN of a half bridge is refused, else DUTY arms; CMT commits at the next boundary; the key fires the bypass for the core only. The definitions it names carry choices of the model: log entries 17, 150, 151, 152, 153, 154, 166, 199, 236. -/
def Obligations.CellSwitchingStage : Prop :=
  (∀ (s : State) (c : CellId) (leg : Fin 2) (d : Chg), ((s.cell c).leg leg.val).sched = [d] →
      ((s.cell c).leg leg.val).refr = none →
      ((s.cell c).leg leg.val).calls = [] →
      (s.cell c).upcoming leg.val d.at_ = [] →
      (s.cell c).eat = false →
      exec (.swChange c leg) s = .next (s.onCell c (fun x =>
      let y := (x.legGatesOff leg.val).tick d.at_
      let y := y.setLeg leg.val { (y.leg leg.val) with cmd := d.leg, sched := [], calls := (y.leg leg.val).calls ++ (if d.leg = .off then [] else [(d.at_ + x.deadTime d.at_, d.leg)]) }
      (y.showLeg leg.val).showCode (some d)))) ∧
  (∀ (x : CellSt) (d : Chg), x.sw.codeAt ≤ d.at_ → x.showCode (some d) = ({ x with sw := { x.sw with codeAt := d.at_ } } : CellSt).set CSW_STATE.CSTATE d.code) ∧
  (∀ (s : State) (c : CellId) (leg : Fin 2) (due : Instant) (goal : Leg) (rest : List (Instant × Leg)), ((s.cell c).leg leg.val).calls = (due, goal) :: rest →
      exec (.gateCall c leg) s = .next (s.onCell c (fun x =>
      let y := x.setLeg leg.val { (x.leg leg.val) with calls := rest }
      (if (x.leg leg.val).wanted = goal then
        match gateOf leg.val goal with
        | none => y
        | some g => if (y.gateOn g).isSome then y else y.gateUp g due
      else y.inc CSW_CNT2.LDROP).tick due))) ∧
  (∀ (s : State) (c : CellId) (leg : Fin 2), (s.cell c).gateOn (2 * leg.val) = none →
      exec (.refreshStart c leg) s = .next (s.onCell c (fun x => x))) ∧
  (∀ (s : State) (c : CellId) (leg : Fin 2) (t : Instant), (s.cell c).gateOn (2 * leg.val) = some t →
      ((s.cell c).leg leg.val).refr = none →
      (s.cell c).eat = false →
      (s.cell c).bit CSW_CFG.REFR = true →
      CSW_REFR.RINT.get ((s.cell c).refrWord (t + CSW_REFR.RINT.get ((s.cell c).word 0x404C) 0 * us)) 0 ≠ 0 →
      (s.cell c).tim.t0 ≤ t + CSW_REFR.RINT.get ((s.cell c).word 0x404C) 0 * us →
      ((s.cell c).leg leg.val).sched = [] →
      (s.cell c).upcoming leg.val (t + CSW_REFR.RINT.get ((s.cell c).word 0x404C) 0 * us) = [] →
      exec (.refreshStart c leg) s = .next (s.onCell c (fun x =>
      let r := t + CSW_REFR.RINT.get (x.word 0x404C) 0 * us
      let y := ((x.gateOff (2 * leg.val)).inc CSW_CNT4.REFR).tick r
      (y.setLeg leg.val { (y.leg leg.val) with refr := some (r, r + x.deadTime r + CSW_REFR.REFW.get (x.refrWord r) 0 * qns, x.deadTime r), calls := (y.leg leg.val).calls ++ [(r + x.deadTime r, .lo)] }).showLeg leg.val))) ∧
  (∀ (s : State) (c : CellId) (leg : Fin 2), ((s.cell c).leg leg.val).refr = none →
      exec (.refreshEnd c leg) s = .next (s.onCell c (fun x => x))) ∧
  (∀ (s : State) (c : CellId) (leg : Fin 2) (r e : Instant) (dt : Nat), ((s.cell c).leg leg.val).refr = some (r, e, dt) →
      ((s.cell c).leg leg.val).calls = [] →
      ((s.cell c).leg leg.val).sched = [] →
      exec (.refreshEnd c leg) s = .next (s.onCell c (fun x =>
      let y := if (x.leg leg.val).cmd = .lo then x else x.legGatesOff leg.val
      let y := y.setLeg leg.val { (x.leg leg.val) with sched := [], refr := none, calls := if (x.leg leg.val).cmd = .up then [(e + dt, .up)] else [] }
      (y.showLeg leg.val).tick e))) ∧
  (∀ (s : State) (c : CellId) (t : Instant), (!(s.cell c).carrier || (s.cell c).sw.last == 3 || (s.cell c).held || !(s.cell c).works 0x4000) = false →
      exec (.carrierEdge c t) s = .next (s.onCell c (fun x =>
      let y := match x.sw.gridAt with
        | some q => if q ≤ t then { x with sw := { x.sw with gridAt := none } } else x
        | none => x
      let z := if y.carrierCode t = y.sw.last then y else y.eventStarts [(3, t)]
      (z.command z.pn 0 t (y.carrierCode t)).tick t))) ∧
  (∀ (s : State) (c : CellId) (p : Nat) (duty : Word) (q : Instant), (s.cell c).sw.xfer = some (p, duty, q) →
      exec (.carrierTransferQ c) s = .next (s.onCell c (fun x =>
      let y := (x.set CSW_CPER_ACT.PER p).set CSW_CDUTY_ACT.DUTY duty.toNat
      ({ y with sw := { y.sw with xfer := none, gridAt := if p = x.fld CSW_CPER_ACT.PER then none else some (nextPeak x.base p x.phase q).toNat } }.set CSW_STAT.TPEND 0).tick q))) ∧
  (∀ (s : State) (c : CellId), (s.cell c).pow = .on ∧ (s.cell c).works 0x4000 = true →
      (s.cell c).acceptedSlot ((s.cell c).pn + 1) = none →
      exec (.cmdAdopt c) s = .next (s.onCell c (fun x => ({ x with sw := { x.sw with adopted := some ⟨if x.sw.ran then some (x.pair CSW_LAST_LO.SLOT_LO CSW_LAST_HI.SLOT_HI) else none, true, x.adoptAt⟩ } } : CellSt).tick x.adoptAt))) ∧
  (∀ (s : State) (c : CellId) (w : Nat), (s.cell c).pow = .on ∧ (s.cell c).works 0x4000 = true →
      (s.cell c).acceptedSlot ((s.cell c).pn + 1) = some w →
      ((s.cell c).bridge || !(cslotBstate w == 2 || cslotAlt w == 2)) = true →
      exec (.cmdAdopt c) s = .next (s.onCell c (fun x => ({ x with sw := { x.sw with adopted := some ⟨some w, false, x.adoptAt⟩, ever := true } } : CellSt).tick x.adoptAt))) ∧
  (∀ (s : State) (c : CellId), (s.cell c).islandOn .tim = true →
      exec (.cellBoundary c) s = .next (s.onCell c (fun x => x.boundary))) ∧
  (∀ x : CellSt, x.newPeriod = (fun y : CellSt => if y.bit CTIM_PCHG.ARM ∧ y.fld CTIM_PCHGPN.PN = y.pn % 2 ^ 32 then (y.set CTIM_PERIOD.T (y.fld CTIM_PCHG.NEW_T)).set CTIM_PCHG.ARM 0 else y)
      ((fun z : CellSt => ({ z.setPn (x.pn + 1) with tim := { (z.setPn (x.pn + 1)).tim with t0 := x.tim.t0 + x.period } } : CellSt).tick (x.tim.t0 + x.period))
        { x with mem := { x.mem with opTime := x.mem.opTime + (if x.pow = .on then x.period else 0) } })) ∧
  (∀ (s : State) (c : CellId) (r : CellReq) (v : Word), ¬ ((s.cell c).pow = .off ∨ (s.cell c).pow = .dormant) →
      (s.cell c).islandOn (cellIsland 0x4040) = true →
      exec (.cswCfgWrite c r v) s = .next (s.onCell c (fun x => (fun z : Nat × CellSt => z.2.onReq r (fun q => { q with res := z.1 })) (if x.pageLocked 0x4040 then (rcLocked, if r.isCore then x.err CGEN_ERR.RANGE else x)
      else x.cfgWrite v)))) ∧
  (∀ (x : CellSt) (w : Word), CSW_CFG.ZSEL.get w 0 ≠ 3 → x.cfgWrite w = (rcOk, ({ x with sw := { x.sw with cfgPend := some (w &&& 0x000F3311) } } : CellSt).set CSW_STAT.CPEND 1)) ∧
  (∀ (s : State) (c : CellId) (r : CellReq) (v : Word), ¬ ((s.cell c).pow = .off ∨ (s.cell c).pow = .dormant) →
      (s.cell c).islandOn (cellIsland 0x4050) = true →
      exec (.cswCperWrite c r v) s = .next (s.onCell c (fun x => (fun z : Nat × CellSt => z.2.onReq r (fun q => { q with res := z.1 })) (if CSW_CPER.PER.get v 0 < 4000 then (rcRefused, x.err CSW_ERR.RANGE) else (rcOk, (x.set CSW_CPER.PER (CSW_CPER.PER.get v 0)).set CSW_CCMT.ARMED 1))))) ∧
  (∀ (s : State) (c : CellId) (r : CellReq) (v : Word), ¬ ((s.cell c).pow = .off ∨ (s.cell c).pow = .dormant) →
      (s.cell c).islandOn (cellIsland 0x4054) = true →
      exec (.cswCdutyWrite c r v) s = .next (s.onCell c (fun x => (fun z : Nat × CellSt => z.2.onReq r (fun q => { q with res := z.1 })) (if CSW_CDUTY.SIGN.get v 0 = 1 ∧ !x.bridge then (rcRefused, x.err CSW_ERR.RANGE) else (rcOk, (x.setWord 0x4054 v).set CSW_CCMT.ARMED 1))))) ∧
  (∀ (s : State) (c : CellId) (r : CellReq) , ¬ ((s.cell c).pow = .off ∨ (s.cell c).pow = .dormant) →
      (s.cell c).islandOn (cellIsland 0x405C) = true →
      exec (.cswCcmtCmt c r ) s = .next (s.onCell c (fun x => (fun z : Nat × CellSt => z.2.onReq r (fun q => { q with res := z.1 })) ((rcOk, { x with sw := { x.sw with cmtNext := true } }))))) ∧
  (∀ (s : State) (c : CellId) (r : CellReq) (v : Word), ¬ ((s.cell c).pow = .off ∨ (s.cell c).pow = .dormant) →
      (s.cell c).islandOn (cellIsland 0x40A4) = true →
      exec (.cswBypfireWrite c r v) s = .next (s.onCell c (fun x => (fun z : Nat × CellSt => z.2.onReq r (fun q => { q with res := z.1 })) (if !r.isCore then (rcRefused, x) else if v = 0x5A5A5A5A then (rcOk, x.fire 3) else (rcRefused, x.err CSW_ERR.RANGE)))))

/-- An output of a channel whose slice runs, at a ready instant, is corrected and clipped; beyond 1.2 of full scale it sets OVLD and settling starts anew; while outputs are passed over it only counts them down, ending SETTLE at the last, and afterwards it gives the median of the last L with its effective time. The spare that tracks the channel takes its own output. A slice that does not run, or an instant that is not ready, gives nothing. A window delay that ends restarts the decimator at the governing start. An allowed write of SYNC with REQ, and an edge of the selected pin, ask for a sync at the next boundary. An allowed write of INJ with channels starts the injection at the next modulator edge, and is INJBUSY while one of them is pending; its result is stored with NEW and its effective time, beyond 1.2 of full scale with OVLD and new settling, and a read of it clears NEW. The definitions it names carry choices of the model: log entries 92, 156, 194, 196, 197, 216, 230, 231. -/
def Obligations.CellMeasurementOutputs : Prop :=
  (∀ (s : State) (c : CellId) (n : Fin 4) (raw : RawPair) (t : Instant), exec (.decimOutput c n raw t) s = .next (s.onCell c (fun x => (x.output n.val raw.main raw.spare t).tick t))) ∧
  (∀ (x : CellSt) (n : Nat) (raw spare : Int) (t : Instant), (!x.running n || !x.isReady n t) = true → x.output n raw spare t = x) ∧
  (∀ (x : CellSt) (n : Nat) (raw spare : Int) (t : Instant), (!x.running n || !x.isReady n t) = false →
      x.output n raw spare t = (if (x.mainOutput n raw t).2.tracks n then (x.mainOutput n raw t).2.spareOutput n spare (x.mainOutput n raw t).1 t else (x.mainOutput n raw t).2)) ∧
  (∀ (x : CellSt) (n : Nat) (raw : Int) (t : Instant), overInput raw = true →
      x.mainOutput n raw t = (none, (x.err CMEAS_ERR.OVLD).settleAgain n true)) ∧
  (∀ (x : CellSt) (n : Nat) (raw : Int) (t : Instant), overInput raw = false → (x.ch n).wait = false →
      x.mainOutput n raw t =
        (fun (m : Int × List Int × CellSt) =>
          (fun h : ChSt =>
            if h.pass ≠ 0 then
              (none, (fun y : CellSt => if h.pass = 1 then y.setSettle n false else y) (m.2.2.setCh n { h with hist := m.2.1, pass := h.pass - 1 }))
            else
              (some m.1, (fun y : CellSt => if n = 3 then y.showReg (m.1 * 40960 / 8388608).toNat else y)
                ((m.2.2.setCh n { h with hist := m.2.1, valid := true, eff := t - (presetDelay (m.2.2.preset n) + (m.2.2.median n - 1) / 2 * presetInterval (m.2.2.preset n)) }).set
                  CMEAS_RES.VALUE (ofInt 24 m.1) n))) (m.2.2.ch n)) (x.sample (x.sliceOf n) n raw (x.ch n).hist)) ∧
  (∀ (s : State) (c : CellId) (n : Fin 4), ((s.cell c).ch n.val).starts = [] →
      exec (.windowRestart c n) s = .next (s.onCell c (fun x => x))) ∧
  (∀ (s : State) (c : CellId) (n : Fin 4) (t : Instant), ((s.cell c).ch n.val).starts = [t] →
      exec (.windowRestart c n) s = .next (s.onCell c (fun x =>
      ((x.onCh n.val (fun h => { h with starts := [] })).tick (t + x.fld CMEAS_WDLY.DELAY n.val * qns)).restart n.val (t + x.fld CMEAS_WDLY.DELAY n.val * qns) false))) ∧
  (∀ (s : State) (c : CellId) (r : CellReq) , ¬ ((s.cell c).pow = .off ∨ (s.cell c).pow = .dormant) →
      (s.cell c).islandOn (cellIsland 0x3118) = true →
      exec (.cmeasSyncReq c r ) s = .next (s.onCell c (fun x => (fun z : Nat × CellSt => z.2.onReq r (fun q => { q with res := z.1 })) ((rcOk, { x with sync := true }))))) ∧
  (∀ (s : State) (c : CellId), ((s.cell c).bit CMEAS_SYNC.SRC && (s.cell c).fld CTMX_DSEL.SEL 0 == 1 && (s.cell c).works 0xA000 && (s.cell c).works 0x3000) = true →
      exec (.syncPinEdge c) s = .next (s.onCell c (fun x => { x with sync := true }))) ∧
  (∀ (s : State) (c : CellId) (r : CellReq) (v : Word) (t : Instant), ¬ (((s.cell c).tick t).pow = .off ∨ ((s.cell c).tick t).pow = .dormant) →
      ((s.cell c).tick t).islandOn (cellIsland 0x30D8) = true →
      exec (.cmeasInjWrite c r v t) s = .next (s.onCell c (fun x => (((x.tick t).injWrite v t).2.onReq r (fun q => { q with res := ((x.tick t).injWrite v t).1 }))))) ∧
  (∀ (x : CellSt) (w : Word) (t : Instant), CMEAS_INJ.CH.get w 0 ≠ 0 → x.injWrite w t = match (x.modEdge t).2.inject (CMEAS_INJ.CH.get w 0) (CMEAS_INJ.PRESET.get w 0) (x.modEdge t).1 with
      | some y => (rcOk, y)
      | none => (rcRefused, x.err CMEAS_ERR.INJBUSY)) ∧
  (∀ (s : State) (c : CellId) (n : Fin 4) (raw : Int), ((s.cell c).ch n.val).inj = none →
      exec (.injResultReady c n raw) s = .next (s.onCell c (fun x => x))) ∧
  (∀ (s : State) (c : CellId) (n : Fin 4) (raw : Int) (p : Nat) (t : Instant), ((s.cell c).ch n.val).inj = some (p, t) →
      (s.cell c).running n.val = true →
      exec (.injResultReady c n raw) s = .next (s.onCell c (fun x =>
      let ready := t + presetSettle p * presetInterval p
      let eff := ready - presetDelay p
      let z := (x.correct (x.sliceOf n.val) n.val raw).2.clip (x.correct (x.sliceOf n.val) n.val raw).1
      let y := if overInput raw then (z.2.err CMEAS_ERR.OVLD).settleAgain n.val true else z.2
      let y := y.onCh n.val (fun h => { h with inj := none, injRes := some (z.1, eff) })
      let y := (y.set CMEAS_INJRES.VALUE (ofInt 24 z.1) n.val).set CMEAS_INJRES.NEW 1 n.val
      let y := (y.setPair CMEAS_INJT_LO.NS CMEAS_INJT_HI.NS (eff / ns % 2 ^ 64)).set CMEAS_INJT_FRAC.FRAC (eff % ns)
      let y : CellSt := if y.rotState = 4 ∧ y.tracks n.val then { y with rot := { y.rot with injAt := some ready } } else y
      (y.showInj).tick ready))) ∧
  (∀ (s : State) (c : CellId) (r : CellReq) (n : Fin 4), ¬ ((s.cell c).pow = .off ∨ (s.cell c).pow = .dormant) →
      (s.cell c).islandOn (cellIsland (0x30E0 + 4 * n.val)) = true →
      exec (.injresRead c r n) s = .next (s.onCell c (fun x => ((x.set CMEAS_INJRES.NEW 0 n.val).onReq r (fun q => { q with rdata := x.word (0x30E0 + 4 * n.val) })).onReq r (fun q => { q with res := rcOk }))))

/-- In CALIB or READY with a spare, on and working, the calibration writes the coefficients of the spare and makes it READY; after the rotation interval in READY a step connects the spare to the next target in SETTLE; once it has passed over its settling outputs it compares, or is due at once for a takeover. The 64 differences of an unagreed comparison decide it: they agree when the mean is within MTH and each within PTH. A first disagreement sets CMP, counts and returns to CALIB; a second puts the target in doubt; agreement makes the swap due. An agreed swap without an injection on the target exchanges slice and spare. A deferred swap is skipped where the injection still stands at the last ready instant within one period, a step with fewer than 64 differences when the interval ends, and no takeover, too: the step counts in SWSKIP and serves the same target again. A write of RETIRE waits for the next boundary, refused where the page is locked. The definitions it names carry choices of the model: log entries 155, 195. -/
def Obligations.CellSpareRotation : Prop :=
  (∀ (s : State) (c : CellId) (ofs gerr : BitVec 16), (s.cell c).rotState ≤ 1 ∧ (s.cell c).spare < 5 ∧ (s.cell c).idleMeas = false ∧ (s.cell c).pow = .on ∧ (s.cell c).works 0x3000 = true →
      exec (.spareCalibDone c ofs gerr) s = .next (s.onCell c (fun x => ((x.set CMEAS_SLCAL.OFS ofs.toNat x.spare).set CMEAS_SLCAL.GERR gerr.toNat x.spare).set CMEAS_ROT.STATE 1))) ∧
  (∀ (s : State) (c : CellId) (t : Instant), (s.cell c).rotState = 1 ∧ (s.cell c).rotInterval ≠ 0 ∧ (s.cell c).rot.stepAt + (s.cell c).rotInterval ≤ t ∧ (s.cell c).idleMeas = false ∧ (s.cell c).pow = .on ∧ (s.cell c).works 0x3000 = true →
      exec (.rotationStepStart c t) s = .next (s.onCell c (fun x => ((({ x with rot := { x.rot with stepAt := t, due := none, injAt := none, agreed := false, take := false } } : CellSt).spareTo x.rot.next).tick t)))) ∧
  (∀ (x : CellSt) (n : Nat), x.spareTo n = (fun y : CellSt => { y with rot := { y.rot with diffs := [], pass := y.settleCount n, hist := [] } }) ((x.set CMEAS_ROT.TARGET n).set CMEAS_ROT.STATE 2)) ∧
  (∀ (s : State) (c : CellId), (s.cell c).rotState = 2 ∧ (s.cell c).rot.pass = 0 ∧ (s.cell c).idleMeas = false ∧ (s.cell c).pow = .on →
      exec (.spareSettled c) s = .next (s.onCell c (fun x => ({ x with rot := { x.rot with agreed := x.rot.take, diffs := [], doneAt := x.now } } : CellSt).set CMEAS_ROT.STATE 3))) ∧
  (∀ (s : State) (c : CellId) (t : Instant), (s.cell c).rotState = 3 ∧ (s.cell c).rot.agreed = false ∧ (s.cell c).rot.diffs.length = 64 ∧ (s.cell c).idleMeas = false ∧ (s.cell c).pow = .on →
      exec (.spareCompareDone c t) s = .next (s.onCell c (fun x =>
      (match x.rot.doubt, x.disagree x.rot.diffs with
      | some _, true => ({ x with rot := { x.rot with doubt := none, fails := 0 } } : CellSt).retireSlice x.spare |>.spareNone
      | some n, false => ({ x with rot := { x.rot with doubt := none, fails := 0, take := true } } : CellSt).spareTo n
      | none, false => { x with rot := { x.rot with agreed := true, fails := 0 } }
      | none, true =>
        if x.rot.fails = 0 then ((({ x with rot := { x.rot with fails := 1, next := x.target } } : CellSt).err CMEAS_ERR.CMP).inc CMEAS_CNT.CMPFAIL).set CMEAS_ROT.STATE 0
        else ({ x with rot := { x.rot with doubt := some x.target } } : CellSt).spareTo ((x.target + 1) % 4)).tick t))) ∧
  (∀ (x : CellSt) (ds : List Int), x.disagree ds = (decide (x.fld CMEAS_CMPTH.MTH * 128 * ds.length < (ds.foldl (· + ·) 0).natAbs) || ds.any (fun d => decide (x.fld CMEAS_CMPTH.PTH * 128 < d.natAbs)))) ∧
  (∀ (s : State) (c : CellId) (t : Instant), ((s.cell c).rotState = 3 ∨ (s.cell c).rotState = 4) ∧ (s.cell c).rot.agreed = true ∧ (s.cell c).idleMeas = false ∧ (s.cell c).pow = .on ∧ (s.cell c).swapAt t = true →
      ((s.cell c).ch (s.cell c).target).inj = none →
      (s.cell c).rot.take = false →
      exec (.sliceSwap c t) s = .next (s.onCell c (fun x =>
      let y := if x.rot.due.isSome then x.inc CMEAS_CNT.SWDEF else x
      let y := ((y.setSlice x.target y.spare).set CMEAS_MAP.SPARE (x.sliceOf x.target)).onCh x.target (fun h => { h with hist := y.rot.hist })
      (({ y with rot := { y.rot with next := (x.target + 1) % 4, due := none, injAt := none, agreed := false, take := false, fails := 0, diffs := [] } } : CellSt).set CMEAS_ROT.STATE 0).tick t))) ∧
  (∀ (s : State) (c : CellId) (t : Instant) (d : Instant), (s.cell c).rot.due = some d →
      (s.cell c).rotState = 4 ∧ ((s.cell c).ch (s.cell c).target).inj.isSome = true ∧ (s.cell c).idleMeas = false ∧ t = (s.cell c).readyUpTo (s.cell c).target (d + (s.cell c).period) →
      exec (.swapSkip c t) s = .next (s.onCell c (fun x => x.stepSkip.tick t))) ∧
  (∀ x : CellSt, x.stepSkip = (({ x with rot := { x.rot with next := x.target, due := none, injAt := none, agreed := false, take := false, diffs := [] } } : CellSt).inc CMEAS_CNT.SWSKIP).set CMEAS_ROT.STATE 1) ∧
  (∀ (s : State) (c : CellId) (t : Instant), ((s.cell c).rotState = 2 ∨ (s.cell c).rotState = 3) ∧ (s.cell c).rot.agreed = false ∧ (s.cell c).rot.take = false ∧ (s.cell c).rot.diffs.length < 64 ∧ (s.cell c).chMode (s.cell c).target ≠ 0 ∧ (s.cell c).rot.stepAt + (s.cell c).rotInterval ≤ t ∧ (s.cell c).idleMeas = false →
      exec (.rotationStepSkip c t) s = .next (s.onCell c (fun x => x.stepSkip.tick t))) ∧
  (∀ (s : State) (c : CellId) (r : CellReq) (v : Word), ¬ ((s.cell c).pow = .off ∨ (s.cell c).pow = .dormant) →
      (s.cell c).islandOn (cellIsland 0x3064) = true →
      exec (.cmeasRetireWrite c r v) s = .next (s.onCell c (fun x => (fun z : Nat × CellSt => z.2.onReq r (fun q => { q with res := z.1 })) (if x.pageLocked 0x3064 then (rcLocked, if r.isCore then x.err CGEN_ERR.RANGE else x) else (rcOk, { x with bpend := (0x3064, v &&& 0x1F) :: x.bpend.filter (fun e => e.1 != 0x3064) })))))

/-- A power-on reset of the cell is taken in every state; loss of power leaves it off with what FRAM holds. The key 0xB007 in GEN_RST resets the cell for its core, and is refused for a unit; another word sets RANGE. The key 0xD0D0 in PWRREQ takes a cell in Idle below VDORM to Dormant, else it sets DORMREF; another word sets RANGE. Below VDORM in Idle, 100 ms with both ports out of lock lead to Dormant too. Light and charge wake a Dormant cell with a reset of kind 4. A reset commanded on the strand is made, in a cell whose links have power, once its reply has left both ways or the adoption instant has come. The definitions it names carry choices of the model: log entries 9, 24, 40, 116, 154, 186, 216. -/
def Obligations.CellPowerAndResets : Prop :=
  (∀ (s : State) (c : CellId) (t : Instant), exec (.cellPowerOnReset c t) s = .next (s.onCell c (fun x => x.resetTo 0 t))) ∧
  (∀ (s : State) (c : CellId) , exec (.cellPowerLoss c ) s = .next (s.onCell c (fun x => { CellSt.reset x.key with pow := .off, prot := { alive := .undriven }, out := x.out, free := x.free, mem := { event := x.mem.event, ring := x.mem.ring, opTime := x.mem.opTime, dailyAt := x.mem.dailyAt, tempMax := x.mem.tempMax } }))) ∧
  (∀ (s : State) (c : CellId) (r : CellReq) (v : Word) (t : Instant), ¬ ((s.cell c).pow = .off ∨ (s.cell c).pow = .dormant) →
      (s.cell c).islandOn (cellIsland 0x4C) = true →
      exec (.cgenRstWrite c r v t) s = .next (s.onCell c (fun x => (fun z : Nat × CellSt => z.2.onReq r (fun q => { q with res := z.1 }))
      (if v ≠ 0xB007 then (rcRefused, x.err CGEN_ERR.RANGE) else if r.isCore then (rcOk, x.resetTo 3 t) else (rcRefused, x))))) ∧
  (∀ (s : State) (c : CellId) (r : CellReq) (v : Word), ¬ ((s.cell c).pow = .off ∨ (s.cell c).pow = .dormant) →
      (s.cell c).islandOn (cellIsland 0x506C) = true →
      exec (.cprotPwrreqWrite c r v) s = .next (s.onCell c (fun x => (fun z : Nat × CellSt => z.2.onReq r (fun q => { q with res := z.1 })) (if v ≠ 0xD0D0 then (rcRefused, x.err CPROT_ERR.RANGE) else if x.pow = .idle ∧ x.belowDorm = true then (rcOk, ((({ x with pow := .dormant, prot := { x.prot with alive := .undriven }, sup := { x.sup with drv := false, ready := true } } : CellSt).set CSUP_STAT.RUN 0)).holdCheck) else (rcRefused, x.err CPROT_ERR.DORMREF))))) ∧
  (∀ (s : State) (c : CellId) (t a b : Instant), (s.cell c).lnkA.lostAt = some a →
      (s.cell c).lnkB.lostAt = some b →
      (s.cell c).pow = .idle ∧ (s.cell c).belowDorm = true ∧ max a b + 100000 * us ≤ t →
      exec (.dormantLinkTimeout c t) s = .next (s.onCell c (fun x => (x.tick t).enterDormant))) ∧
  (∀ (s : State) (c : CellId) (t : Instant), (s.cell c).pow = .dormant →
      exec (.cellWakeLight c t) s = .next (s.onCell c (fun x => x.resetTo 4 t))) ∧
  (∀ (s : State) (c : CellId) (t : Instant), (s.cell c).pow = .dormant →
      exec (.cellWakeCharge c t) s = .next (s.onCell c (fun x => x.resetTo 4 t))) ∧
  (∀ (s : State) (c : CellId) (t : Instant) (p : RstPend), (s.cell c).rstPend = some p →
      ((s.cell c).islandOn .lnk && (p.toA && p.toB || decide (p.due ≤ t))) = true →
      exec (.cellStrandReset c t) s = .next (s.onCell c (fun x => x.resetTo 1 t)))

/-- While the protection acts, an active comparator shows RAW, and takes effect where the source is enabled and not blanked; at the end of a blanking an input still active takes effect; an inactive one clears RAW. A source active for BYPDLY with ACT fires the bypass. A write of TRIPCLR clears the latched sources it names that are inactive, another sets CLRREF. The watchdog of the core and a failed clock stop ALIVE. The supply turns on below VSET after the off-time and off after TON, or before it at the current limit once LEB is over; the soft start ends after SST with SSFAIL below VUV; above VOV it stops. A hold-up request with a window is taken or refused. The measurement ends after WIN or a fall of DROP. A lease whose EXPPN has come expires and makes an orphan; an orphan blocks after COAST boundaries and fires the bypass after OTIME. The key clears a record that has expired. The definitions it names carry choices of the model: log entries 16, 154, 157, 162, 163, 191, 192, 193, 194, 216. -/
def Obligations.CellTripsSupplyAndLease : Prop :=
  (∀ (s : State) (c : CellId) (n : Fin 6) (t : Instant), (s.cell c).protOn = true →
      exec (.cellTripInput c n t) s = .next (s.onCell c (fun x => if (x.setRaw n.val true).tripEn n.val && !(x.setRaw n.val true).blanked n.val t then (x.setRaw n.val true).tripEffect n.val t else x.setRaw n.val true))) ∧
  (∀ (x : CellSt) (n : Nat) (t : Instant), bitAt (x.fld CPROT_LATCH.LATCH) n = false →
      x.tripEffect n t =
        (fun y : CellSt => if y.tripAct n && y.fld CPROT_BYPDLY.BYPDLY == 0 then (if y.bit CSW_BYPSTAT.FIRED then y else (y.err CPROT_ERR.BYPTRIP).fire 4) else y)
          ((fun z : CellSt => ({ z with prot := { z.prot with tripNew := true } } : CellSt).holdCheck)
            ((((((x.tick t).setSince n (some t)).set CPROT_LATCH.LATCH (orBit (x.fld CPROT_LATCH.LATCH) n)).set CPROT_STAT.TRIP 1).inc CPROT_CNT.TRIPS).ledger false (ledgerEntry 3 0 [BitVec.ofNat 8 (orBit (x.fld CPROT_LATCH.LATCH) n)])))) ∧
  (∀ (s : State) (c : CellId) (n : Fin 4) (t : Instant), ((s.cell c).protOn && (s.cell c).tripEn n.val && (s.cell c).rawOn n.val && ((s.cell c).activeSince n.val).isNone && !(s.cell c).blanked n.val t) = true →
      exec (.blankEnd c n t) s = .next (s.onCell c (fun x => x.tripEffect n.val t))) ∧
  (∀ (s : State) (c : CellId) (n : Fin 6), exec (.tripSourceInactive c n) s = .next (s.onCell c (fun x => (x.setRaw n.val false).setSince n.val none))) ∧
  (∀ (s : State) (c : CellId) (n : Fin 5) (t t0 : Instant), (s.cell c).activeSince n.val = some t0 →
      ((s.cell c).protOn && (s.cell c).tripEn n.val && (s.cell c).tripAct n.val && decide (t0 + (s.cell c).fld CPROT_BYPDLY.BYPDLY * us ≤ t)) = true →
      (((s.cell c).tick t).bit CSW_BYPSTAT.FIRED) = false →
      exec (.tripBypassDelay c n t) s = .next (s.onCell c (fun x => ((x.tick t).err CPROT_ERR.BYPTRIP).fire 4))) ∧
  (∀ (s : State) (c : CellId) (r : CellReq) (v : Word), ¬ ((s.cell c).pow = .off ∨ (s.cell c).pow = .dormant) →
      (s.cell c).islandOn (cellIsland 0x505C) = true →
      exec (.cprotTripclrWrite c r v) s = .next (s.onCell c (fun x => (fun z : Nat × CellSt => z.2.onReq r (fun q => { q with res := z.1 })) (x.tripclrWrite v)))) ∧
  (∀ (x : CellSt) (w : Word), x.tripclrWrite w = (rcOk, (fun y : CellSt => (y.set CPROT_STAT.TRIP (b2n (y.bit CPROT_LATCH.LATCH))).holdCheck) ((bitsOf 6 w.toNat).foldl (fun y n => if bitAt (y.fld CPROT_LATCH.LATCH) n = false then y else if y.rawOn n = true ∧ (n ≠ 5 ∨ y.tripEn 5 = true) then y.err CPROT_ERR.CLRREF else y.set CPROT_LATCH.LATCH (y.fld CPROT_LATCH.LATCH ^^^ (1 <<< n))) x))) ∧
  (∀ (s : State) (w : CellAt), ((s.cell w.cell).coreRuns w.at_ && decide ((s.cell w.cell).prot.coreAt + 10000 * us ≤ w.at_)) = true →
      exec (.cellCoreWdogExpire w) s = .next (s.onCell w.cell (fun x => (x.err CPROT_ERR.WDOG).stopAlive))) ∧
  (∀ (s : State) (c : CellId) , (s.cell c).protOn = true →
      exec (.protClockFail c ) s = .next (s.onCell c (fun x => x.stopAlive))) ∧
  (∀ (s : State) (c : CellId) (vaux : Nat) (t : Instant), ((s.cell c).protOn && (s.cell c).bit CSUP_CFG.EN && (s.cell c).works 0x6000 && !(s.cell c).sup.drv && (s.cell c).sup.hu.isNone && decide ((s.cell c).offEnd t ≤ t) && decide (vaux < (s.cell c).fld CSUP_VSET.VSET * 40)) = true →
      exec (.supTurnOn c vaux t) s = .next (s.onCell c (fun x => ((({ x with sup := { x.sup with drv := true, since := if x.bit CSUP_CFG.MODE && !x.bit CSUP_STAT.REG then x.offEnd t else t, ovStop := false } } : CellSt).set CSUP_STAT.RUN 1).showReg vaux).tick t))) ∧
  (∀ (s : State) (c : CellId) (v : SupSense) (t : Instant), (s.cell c).sup.drv = true →
      (s.cell c).sup.since + supSpan ((s.cell c).fld CSUP_TIME.TON) ≤ t →
      exec (.supTurnOff c v t) s = .next (s.onCell c (fun x => (({ x with sup := { x.sup with drv := false, ready := false, since := x.sup.since + supSpan (x.fld CSUP_TIME.TON) } } : CellSt).showReg v.vaux).tick t))) ∧
  (∀ (s : State) (c : CellId) (v : SupSense) (t : Instant), (s.cell c).sup.drv = true →
      (s.cell c).ipk16 t ≤ 16 * v.sscs →
      (s.cell c).sup.since + supSpan ((s.cell c).fld CSUP_LIM.LEB) ≤ t →
      t < (s.cell c).sup.since + supSpan ((s.cell c).fld CSUP_TIME.TON) →
      exec (.supTurnOff c v t) s = .next (s.onCell c (fun x => ((({ x with sup := { x.sup with drv := false, ready := false, since := t } } : CellSt).showReg v.vaux).tick t).inc CSUP_CNT.ILIM))) ∧
  (∀ (s : State) (c : CellId) (vaux : Nat) (t : Instant), ((s.cell c).protOn && !(s.cell c).bit CSUP_STAT.SSDONE && decide ((s.cell c).sup.ssAt + max 1 ((s.cell c).fld CSUP_CFG.SST) * 1000 * us ≤ t)) = true →
      exec (.softStartEnd c vaux t) s = .next (s.onCell c (fun x => (fun low : Bool =>
        (fun y : CellSt => if low then (fun z : CellSt => if z.tripEn 5 then z.tripEffect 5 t else z) (y.err CSUP_ERR.SSFAIL) else y)
          ((((x.set CSUP_STAT.SSDONE 1).showReg vaux).setRaw 5 low).tick t)) (decide (vaux < x.fld CSUP_VSET.VUV * 40))))) ∧
  (∀ (s : State) (c : CellId) (t : Instant), ((s.cell c).protOn && !(s.cell c).sup.ovStop && (s.cell c).works 0x6000) = true →
      exec (.supOvStop c t) s = .next (s.onCell c (fun x => (fun y : CellSt => ((((y.set CSUP_STAT.RUN 0).showReg (max y.sup.vaux (y.fld CSUP_VOV.VOV * 40 + 1))).inc CSUP_CNT.OVSTOP).err CSUP_ERR.OV).tick t) { x with sup := if x.sup.drv then { x.sup with drv := false, ready := false, since := t, ovStop := true } else { x.sup with ovStop := true } }))) ∧
  (∀ (s : State) (c : CellId) (r : CellReq) (v : Word), ¬ ((s.cell c).pow = .off ∨ (s.cell c).pow = .dormant) →
      (s.cell c).islandOn (cellIsland 0x6054) = true →
      exec (.holdupReq c r v) s = .next (s.onCell c (fun x => (fun z : Nat × CellSt => z.2.onReq r (fun q => { q with res := z.1 })) ((rcOk, x.huWrite v))))) ∧
  (∀ (x : CellSt) (w : Word), CSUP_HU.REQ.get w 0 ≠ 0 →
      x.huWrite w = (fun y : CellSt => if y.fld CSUP_HU.WIN = 0 then y.set CSUP_HU.RES 3
        else if y.pow != .on || !y.bit CSUP_STAT.SSDONE || !y.bit CSUP_STAT.REG || y.sup.huReq || y.sup.hu.isSome || decide (y.fld CSUP_VSET.VSET ≤ y.fld CSUP_VSET.VUV + y.fld CSUP_HU.DROP) then (y.set CSUP_HU.RES 2).err CSUP_ERR.HUREF
        else { y with sup := { y.sup with huReq := true } }) ((x.set CSUP_HU.DROP (CSUP_HU.DROP.get w 0)).set CSUP_HU.WIN (CSUP_HU.WIN.get w 0))) ∧
  (∀ (s : State) (c : CellId) (t : Instant), (s.cell c).sup.hu = none →
      exec (.holdupEnd c t) s = .next (s.onCell c (fun x => x))) ∧
  (∀ (s : State) (c : CellId) (t : Instant) (v0 : Int) (t0 : Instant), (s.cell c).sup.hu = some (v0, t0) →
      t0 + (s.cell c).fld CSUP_HU.WIN * us ≤ t ∨ (((s.cell c).fld CSUP_HU.DROP * 40 * 8388608 : Nat) : Int) ≤ (v0 - toInt 24 ((s.cell c).fld CMEAS_RES.VALUE 3)) * 40960 →
      exec (.holdupEnd c t) s = .next (s.onCell c (fun x => (
      let dv : Int := v0 - toInt 24 (x.fld CMEAS_RES.VALUE 3)
      let m := x.divFree (dv * 40960) 8388608
      let d := m.2.divFree ((t : Int) - t0) (us : Nat)
      let h := d.2.holdUp dv ((t : Int) - t0)
      let hold := (clampInt 0 65535 h.1).toNat
      let y := (h.2.set CSUP_HURES.DV (ofInt 16 m.1)).set CSUP_HURES.DT (ofInt 16 d.1)
      let y := ((y.set CSUP_HOLD.HOLD hold).set CSUP_HOLD.VALID 1).set CSUP_HU.RES 1
      (({ y with sup := { y.sup with hu := none, ready := true } } : CellSt).tick t).ledger false (ledgerEntry 5 0 (leBytes 2 hold)))))) ∧
  (∀ (s : State) (c : CellId) , ((s.cell c).protOn && (s.cell c).fld CPROT_LEASE.HOLDER != 0 && !(s.cell c).bit CPROT_LEASE.EXP && decide ((s.cell c).exppn ≤ (s.cell c).pn)) = true →
      exec (.leaseExpire c ) s = .next (s.onCell c (fun x => (
      let y := ((x.set CPROT_LEASE.EXP 1).set CPROT_OSTAT.ORPHAN 1).inc CPROT_CNT.ORPH
      let y : CellSt := { y with prot := { y.prot with orphAt := y.adoptAt, orphN := 0 } }
      y.tick y.adoptAt)))) ∧
  (∀ (s : State) (c : CellId) , ((s.cell c).pow == .on && (s.cell c).bit CPROT_OSTAT.ORPHAN && decide ((s.cell c).fld CPROT_ORPH.COAST < (s.cell c).prot.orphN)) = true →
      exec (.orphanBlock c ) s = .next (s.onCell c (fun x => (x.set CPROT_OSTAT.OBLK 1).holdCheck))) ∧
  (∀ (s : State) (c : CellId) (t : Instant), ((s.cell c).pow == .on && (s.cell c).bit CPROT_OSTAT.ORPHAN && (s.cell c).fld CPROT_ORPH.OTIME != 0 && decide ((s.cell c).prot.orphAt + (s.cell c).fld CPROT_ORPH.OTIME * 1000 * us ≤ t)) = true →
      exec (.orphanBypass c t) s = .next (s.onCell c (fun x => (x.tick t).fire 2))) ∧
  (∀ (s : State) (c : CellId) (r : CellReq) (v : Word), ¬ ((s.cell c).pow = .off ∨ (s.cell c).pow = .dormant) →
      (s.cell c).islandOn (cellIsland 0x5098) = true →
      exec (.leaseClear c r v) s = .next (s.onCell c (fun x => (fun z : Nat × CellSt => z.2.onReq r (fun q => { q with res := z.1 })) (if v ≠ 0x1EA5 then (rcRefused, x.err CPROT_ERR.RANGE)
      else if x.bit CPROT_LEASE.EXP || x.fld CPROT_LEASE.HOLDER == 0 then
        (rcOk, (((((x.set CPROT_LEASE.HOLDER 0).set CPROT_LEPOCH.EPOCH 0).set CPROT_LEASE.LLEN 0).setPair CPROT_LEXP_LO.PN_LO CPROT_LEXP_HI.PN_HI 0).setAbdpn 0).inc CPROT_LCNT3.CLR)
      else (rcRefused, x.err CPROT_ERR.LCLRREF)))))

/-- A port that hears takes a command or bulk frame and counts another code, forwarding it; at the latch the status of a running link is taken, in Idle once per low-rate cycle, from the boundary of a change of rate on only where a frame is launched. The servo goes from Acquire to Locked after 64 good periods, from Locked to Holdover after a period without a frame, to Search with both ports out of lock. A status frame passes. A cell whose far receiver is out of lock or quiet for 2 periods becomes the tail of that direction, originates its status frames, and stops after 2 good periods. A first STOP of a period sets the STOP block, which outlasts a DEBLOCK accepted before it; ABORT cuts, and a set with a code byte of neither is counted and forwarded. A lock at the rate the port listens at is shown, and at full rate takes a waking cell from Idle to Blocked; a loss is counted with LOCKLOSS and leads Holdover to Search. Searching ports toggle; both receivers out of lock for 10 ms start a search. A RATE entry switches both ports at its boundary. The definitions it names carry choices of the model: log entries 70, 154, 158, 173, 182, 183, 184, 185, 186, 188, 198. -/
def Obligations.CellFrames : Prop :=
  (∀ (s : State) (c : CellId) (side : Side) (rx : RxFrame) (stamp done t : Instant), (s.cell c).hears side = true →
      byteAt rx.bytes 1 = 1 ∨ byteAt rx.bytes 1 = 2 →
      exec (.cmdFrameRx c side rx stamp done t) s = .next (s.onCell c (fun x => ((x.codeErrs side rx.errs.toNat).cmdFrame side rx.bytes stamp done t).tick t))) ∧
  (∀ (s : State) (c : CellId) (side : Side) (rx : RxFrame) (stamp done t : Instant), (s.cell c).hears side = true →
      ¬ (byteAt rx.bytes 1 = 1 ∨ byteAt rx.bytes 1 = 2) →
      ¬ (1 ≤ byteAt rx.bytes 1 ∧ byteAt rx.bytes 1 ≤ 4) →
      exec (.cmdFrameRx c side rx stamp done t) s = .next (s.onCell c (fun x => (((x.codeErrs side rx.errs.toNat).emit side.other rx.bytes).codeErrs side 1)))) ∧
  (∀ (s : State) (c : CellId) , ((s.cell c).islandOn .lnk && ((s.cell c).pow != .idle || (s.cell c).pn % 64 == 0 && decide ((s.cell c).rateFrom ≤ (s.cell c).tim.t0))) = true →
      exec (.statusLatch c ) s = .next (s.onCell c (fun x => x.statusLatch))) ∧
  (∀ (s : State) (c : CellId) , (s.cell c).servo = 1 ∧ 64 ≤ (s.cell c).fld CTIM_SERVO.LOCKCNT →
      exec (.servoLocked c ) s = .next (s.onCell c (fun x => (x.set CTIM_SERVO.STATE 2).holdCheck))) ∧
  (∀ (s : State) (c : CellId) , (s.cell c).servo = 2 ∧ (s.cell c).tim.none_ = true →
      exec (.servoHoldover c ) s = .next (s.onCell c (fun x => if !x.locked .a && !x.locked .b then (x.set CTIM_SERVO.STATE 0).holdCheck else x.set CTIM_SERVO.STATE 3))) ∧
  (∀ (s : State) (c : CellId) (side : Side) (bytes : Bytes), (s.cell c).hears side = true →
      byteAt bytes 1 = 3 →
      exec (.statusFramePass c side bytes) s = .next (s.onCell c (fun x => x.statusFrame side bytes))) ∧
  (∀ (s : State) (c : CellId) (d : Side), ((s.cell c).islandOn .lnk && (s.cell c).hopValid && (!(s.cell c).locked d.other || decide (2 ≤ ((s.cell c).lnk d.other).quiet))) = true →
      exec (.tailBecome c d) s = .next (s.onCell c (fun x => (x.set CLNK_STAT.TAIL 1 (sideIx d)).onLnk d.other (fun l => { l with good := 0 })))) ∧
  (∀ (s : State) (c : CellId) (d : Side), ((s.cell c).islandOn .lnk && (s.cell c).hopValid && (s.cell c).bit CLNK_STAT.TAIL (sideIx d) && (s.cell c).launches && (s.cell c).works (0x1000 + 0x1000 * sideIx d)) = true →
      exec (.tailOriginate c d) s = .next (s.onCell c (fun x => (
      let z := x.tailSlots d 0 x.hdr.2.1
      let y := z.1.emit d (statFrame (statHeader d true x.hdr.1 z.1.pn x.hdr.2.1 z.1.hop x.hdr.2.2) z.2)
      (if y.hop < x.hdr.2.1 then y.markReset d y.pn else y).tick (y.tim.t0 + y.fld CLNK_TAILOFS.STAT 0 * 10 * ns))))) ∧
  (∀ (s : State) (c : CellId) (d : Side), ((s.cell c).bit CLNK_STAT.TAIL (sideIx d) && (s.cell c).locked d.other && decide (2 ≤ ((s.cell c).lnk d.other).good)) = true →
      exec (.tailEnd c d) s = .next (s.onCell c (fun x => x.set CLNK_STAT.TAIL 0 (sideIx d)))) ∧
  (∀ (s : State) (c : CellId) (side : Side) (o : UnitId) (cut : Bool) (t : Instant), (s.cell c).hears side = true →
      ((s.cell c).lnk side).acted.contains (0x1E, unitBit o) = false →
      exec (.stopRx c side o cut t) s = .next (s.onCell c (fun x => (fun y : CellSt =>
        (({ y.tick t with acc := { y.acc with stopped := true } } : CellSt).setBoth CLNK_STAT.STOPB 1).holdCheck) (x.faultSet side 0x1E o cut).2))) ∧
  (∀ (s : State) (c : CellId) (side : Side) (o : FaultCode) (cut : Bool), (s.cell c).hears side = true →
      o.code = 0x2D →
      exec (.abortRx c side o cut) s = .next (s.onCell c (fun x => (x.faultSet side 0x2D o.origin cut).2))) ∧
  (∀ (s : State) (c : CellId) (side : Side) (o : FaultCode) (cut : Bool), (s.cell c).hears side = true →
      ¬ (o.code = 0x2D) →
      exec (.abortRx c side o cut) s = .next (s.onCell c (fun x => (x.emit side.other (faultSet o.code o.origin)).codeErrs side 1))) ∧
  (∀ (x : CellSt) (side : Side) (code : Nat) (o : UnitId) (cut : Bool), (x.lnk side).acted.contains (code, unitBit o) = false →
      x.faultSet side code o cut = (true, (fun y : CellSt => (((y.onLnk side (fun l => { l with acted := (code, unitBit o) :: l.acted })).set CLNK_FSYM.CODE code (sideIx side)).set CLNK_FSYM.ORIG (unitBit o) (sideIx side)).inc CLNK_FSYM.CNT (sideIx side))
        (if cut then (x.emit side.other (Sys2Proof.Machine.faultSet (BitVec.ofNat 8 code) o)).inc CLNK_CNT2.ABORT (sideIx side) else x.emit side.other (Sys2Proof.Machine.faultSet (BitVec.ofNat 8 code) o)))) ∧
  (∀ (s : State) (c : CellId) (side : Side) (low : Bool) (t : Instant), (s.cell c).works (0x1000 + 0x1000 * sideIx side) = true →
      low = (s.cell c).listensLow side →
      exec (.linkLock (.cell c side) low t) s = .next (s.onCell c (fun x =>
      let y := ((((x.set CLNK_STAT.LOCK 1 (sideIx side)).set CLNK_STAT.RATE (b2n low) (sideIx side)).onLnk side (fun l => { l with lostAt := none, search := false })).tick t)
      if y.pow = .idle ∧ !low ∧ y.waking then y.enterBlocked t else y))) ∧
  (∀ (s : State) (u : UnitId) (p : Fin 100) (low : Bool) (t : Instant), exec (.linkLock (.unit u p) low t) s = .next (s.onUnit u (fun x => ((x.set STRP_STAT.LOCK 1 p.val).onPort p.val (fun q => { q with lockAt := some t })).tick t))) ∧
  (∀ (s : State) (c : CellId) (side : Side) (loss : LockLoss), (s.cell c).locked side = true →
      exec (.linkLockLoss (.cell c side) loss) s = .next (s.onCell c (fun x =>
      let y := ((((x.codeErrs side loss.errs.toNat).set CLNK_STAT.LOCK 0 (sideIx side)).err CLNK_ERR.LOCKLOSS (sideIx side)).onLnk side (fun l => { l with lostAt := some loss.at_ })).tick loss.at_
      if y.servo = 3 ∧ !y.locked side.other then (y.set CTIM_SERVO.STATE 0).holdCheck else y))) ∧
  (∀ (s : State) (u : UnitId) (p : Fin 100) (loss : LockLoss), (s.unit u).bit STRP_STAT.LOCK p.val = true →
      exec (.linkLockLoss (.unit u p) loss) s = .next (s.onUnit u (fun x =>
      let y := ((((x.codeErrs p.val loss.errs.toNat).set STRP_STAT.LOCK 0 p.val).err STRP_ERR.LOCKLOSS p.val).onPort p.val (fun q => { q with lockAt := none })).tick loss.at_
      if 3 ≤ y.pstate p.val ∧ y.pstate p.val ≤ 4 then (y.setPstate p.val 2).onPort p.val (fun q => { q with echo := none }) else y))) ∧
  (∀ (s : State) (c : CellId) (p : SideAt), ((s.cell c).islandOn .lnk && !(s.cell c).locked p.side && ((s.cell c).lnk p.side).search && decide (((s.cell c).lnk p.side).srchAt + 1000 * us ≤ p.at_)) = true →
      exec (.portSearchToggle c p) s = .next (s.onCell c (fun x => x.onLnk p.side (fun l => { l with srchLow := !l.srchLow, srchAt := p.at_ })))) ∧
  (∀ (s : State) (c : CellId) (t a b : Instant), (s.cell c).lnkA.lostAt = some a →
      (s.cell c).lnkB.lostAt = some b →
      ((s.cell c).islandOn .lnk && decide (max a b + 10000 * us ≤ t)) = true →
      exec (.cellLineSearch c t) s = .next (s.onCell c (fun x => { x with lnkA := { x.lnkA with search := true, srchLow := false, srchAt := t }, lnkB := { x.lnkB with search := true, srchLow := false, srchAt := t } }))) ∧
  (∀ (s : State) (c : CellId) (a r : Nat), (s.cell c).rate = some (a, r) →
      (s.cell c).pn % 2 ^ 32 = a →
      exec (.rateSwitch (.cell c)) s = .next (s.onCell c (fun x =>
      let y := ({ x with rate := none, rateFrom := x.tim.t0 + 64 * us } : CellSt).setBoth CLNK_STAT.RATE r
      if r = 1 ∧ y.pow = .on then y.enterIdle y.tim.t0 else if r = 0 ∧ y.pow = .idle then (y.enterBlocked y.tim.t0).measResume y.tim.t0 else y))) ∧
  (∀ (s : State) (u : UnitId), exec (.rateSwitch (.unit u)) s = .next (s.onUnit u (fun x => (List.range 100).foldl (fun y p => y.rateSwitch p) x)))

/-- A cell with running links and a hop index executes the entries and queues their replies: READ replies the word or the code of an error; WRITE with a mask replies the code of its write, without one EMPTY; BYPASS fires with the key from the holder to a single hop, else it is refused; CALREQ rotates, calibrates the spare or reloads; INJECT starts an injection or is refused; RESET with its key queues a reply marked as that of a reset; RATE needs an address 2 periods ahead at a multiple of 64; a bulk block of at most 112 bytes inside the SRAM goes to the download buffer. A hearing port takes ASSIGN; ECHO and IDREQ are returned, or their challenge taken, one for each unit, by the target, and forwarded by others; the signature over the oldest challenge is sent to the unit that asked. The definitions it names carry choices of the model: log entries 13, 18, 20, 21, 68, 69, 159, 175, 179, 180, 181, 187, 195, 231. -/
def Obligations.CellEntriesAndEnumeration : Prop :=
  (∀ (s : State) (c : CellId) (u : UnitId) (tag : Fin 8) (addr : Word), (s.cell c).takesEntries = true →
      exec (.entryRead c u tag addr) s = .next (s.onCell c (fun x => (fun z : Word × Bool × CellSt => z.2.2.reply u tag.val z.1 z.2.1) (x.regRead (.unit u) addr.toNat)))) ∧
  (∀ (s : State) (c : CellId) (u : UnitId) (tag : Fin 8) (addr data mask : Word) (t : Instant), (s.cell c).takesEntries = true →
      exec (.entryWrite c u tag addr data mask t) s = .next (s.onCell c (fun x => (fun z : Nat × CellSt => z.2.reply u tag.val (BitVec.ofNat 32 z.1) false) (if mask = 0 then (rcEmpty, x) else x.regWrite (.unit u) addr.toNat data mask t)))) ∧
  (∀ (s : State) (c : CellId) (u : UnitId) (tag : Fin 8) (data : Word) (single holder : Bool), (s.cell c).takesEntries = true →
      exec (.entryBypass c u tag data single holder) s = .next (s.onCell c (fun x => (fun z : Nat × CellSt => z.2.reply u tag.val (BitVec.ofNat 32 z.1) false) (if single && holder && data == 0x5A5A5A5A then (rcOk, x.fire 1) else (rcRefused, x))))) ∧
  (∀ (s : State) (c : CellId) (u : UnitId) (tag : Fin 8) (t : Instant), (s.cell c).takesEntries = true →
      exec (.calreqRotate c u tag t) s = .next (s.onCell c (fun x => (fun z : Nat × CellSt => z.2.reply u tag.val (BitVec.ofNat 32 z.1) false) (if x.rotState = 1 ∧ x.idleMeas = false then (rcOk, x.stepStart t) else (rcRefused, x))))) ∧
  (∀ (s : State) (c : CellId) (u : UnitId) (tag : Fin 8), (s.cell c).takesEntries = true →
      exec (.calreqSparecal c u tag) s = .next (s.onCell c (fun x => (fun z : Nat × CellSt => z.2.reply u tag.val (BitVec.ofNat 32 z.1) false) (if 1 < x.rotState ∨ x.idleMeas = true then (rcRefused, x) else (rcOk, x.set CMEAS_ROT.STATE 0))))) ∧
  (∀ (s : State) (c : CellId) (u : UnitId) (tag : Fin 8), (s.cell c).takesEntries = true →
      exec (.calreqReload c u tag) s = .next (s.onCell c (fun x => ({ x with mem := { x.mem with reload := true } } : CellSt).reply u tag.val 0 false))) ∧
  (∀ (s : State) (c : CellId) (u : UnitId) (tag : Fin 8) (data : Word) (t : Instant), (s.cell c).takesEntries = true →
      exec (.entryInject c u tag data t) s = .next (s.onCell c (fun x => (fun z : Nat × CellSt => z.2.reply u tag.val (BitVec.ofNat 32 z.1) false) (x.entryInject data t)))) ∧
  (∀ (s : State) (c : CellId) (u : UnitId) (tag : Fin 8) (data : Word), (s.cell c).takesEntries = true →
      exec (.entryReset c u tag data) s = .next (s.onCell c (fun x => if data = 0xC3 then
        (let y := x.reply u tag.val (BitVec.ofNat 32 rcOk) false
         { y with replies := y.replies.dropLast ++ y.replies.getLast?.toList.map (fun r => { r with reset := true }) })
      else x.reply u tag.val (BitVec.ofNat 32 rcRefused) false))) ∧
  (∀ (s : State) (c : CellId) (u : UnitId) (tag : Fin 8) (addr data : Word), (s.cell c).takesEntries = true →
      exec (.entryRate c u tag addr data) s = .next (s.onCell c (fun x => (fun z : Nat × CellSt => z.2.reply u tag.val (BitVec.ofNat 32 z.1) false) (x.entryRate addr data)))) ∧
  (∀ (s : State) (c : CellId) (u : UnitId) (tag : Fin 8) (len : Fin 256) (off : Word) (data : Bytes), (s.cell c).takesEntries = true →
      exec (.entryBulk c u tag len off data) s = .next (s.onCell c (fun x => (fun z : Nat × CellSt => z.2.reply u tag.val (BitVec.ofNat 32 z.1) false) (x.entryBulk len.val off.toNat data)))) ∧
  (∀ (x : CellSt) (data : Word) (t : Instant), x.entryInject data t = if data.toNat % 16 = 0 then (rcEmpty, x) else match (x.modEdge t).2.inject (data.toNat % 16) (data.toNat / 16 % 4) (x.modEdge t).1 with | some y => (rcOk, y) | none => (rcRefused, x)) ∧
  (∀ (x : CellSt) (addr data : Word), ¬ (addr.toNat % 64 ≠ 0 ∨ (addr - BitVec.ofNat 32 (x.pn % 2 ^ 32)).toNat < 2 ∨ 2 ^ 31 ≤ (addr - BitVec.ofNat 32 (x.pn % 2 ^ 32)).toNat) → x.entryRate addr data = (rcOk, { x with rate := some (addr.toNat, data.toNat % 2) })) ∧
  (∀ (x : CellSt) (len off : Nat) (data : Bytes), len ≠ 0 → ¬ (112 < len ∨ cellSram < off + len) → x.islandOn .core = true → x.entryBulk len off data =
      (rcOk, { x with mem := { x.mem with sram := (List.range len).foldl (fun m i => sset (fun _ => 0) m (off + i) (BitVec.ofNat 8 (byteAt data i))) x.mem.sram } })) ∧
  (∀ (s : State) (c : CellId) (side : Side) (bytes : Bytes), (s.cell c).hears side = true →
      byteAt bytes 1 = 4 →
      byteAt bytes 4 = 1 →
      ¬ (bytes.length = 110 ∧ (!enumOk bytes) = true) →
      exec (.enumAssign c side bytes) s = .next (s.onCell c (fun x => x.enumAssign side bytes))) ∧
  (∀ (s : State) (c : CellId) (side : Side) (bytes : Bytes), (s.cell c).hears side = true →
      byteAt bytes 1 = 4 →
      byteAt bytes 4 = 2 →
      ¬ (bytes.length = 110 ∧ (!enumOk bytes) = true) →
      exec (.enumEcho c side bytes) s = .next (s.onCell c (fun x => if x.isTarget bytes then x.emit side (enumReturn bytes) else x.forward side bytes))) ∧
  (∀ (s : State) (c : CellId) (side : Side) (bytes : Bytes), (s.cell c).hears side = true →
      byteAt bytes 1 = 4 →
      byteAt bytes 4 = 3 →
      ¬ (bytes.length = 110 ∧ (!enumOk bytes) = true) →
      exec (.enumIdreq c side bytes) s = .next (s.onCell c (fun x => if x.isTarget bytes then (if enumOk bytes then { x with chal := x.chal.filter (fun e => e.1 != enumSrc bytes) ++ [(enumSrc bytes, slice bytes 8 32)] } else x) else x.forward side bytes))) ∧
  (∀ (s : State) (c : CellId) (u : UnitId) (ch : Bytes) (more : List (UnitId × Bytes)), (s.cell c).chal = (u, ch) :: more →
      (s.cell c).islandOn .core = true →
      exec (.cellIdrspSend c ) s = .next (s.onCell c (fun x => ({ x with chal := more } : CellSt).emit u
        (enumFrame u true (x.fld CLNK_HOP.STRAND 0) 4 0 x.hop (x.fld CLNK_HOP.NCELL 0) (Config.sign x.key (ch ++ [BitVec.ofNat 8 (x.fld CLNK_HOP.STRAND 0), BitVec.ofNat 8 x.hop, BitVec.ofNat 8 (unitBit u)]))))))

/-- A collector cycle of a powered cell collects the lines at its instant. An allowed write of the latch clears the named sources that carry no class. A grace timer that has run out resets the cell where ESC is CRESET, where the cell is not off or Dormant, else it is FATAL. A window that has seen its second token ends and the lines that still carry a class latch. A request of the ledger without KIND answers EMPTY, of another KIND than 0x10 is refused with RANGE, while one is busy it is refused, else its entry is appended. The entry in progress goes to its area of FRAM when it is confirmed, else WRFAIL is set, and the next one follows. 24 h of Run or Blocked since the last one give an entry of KIND 0x01 with operating hours, switch counts and highest temperature (laid out freely, log entry 163). A patch of a length other than 0 is taken where the cell runs and holds and its signature over the download buffer verifies, else it is refused with PATCH. The definitions it names carry choices of the model: log entries 9, 13, 16, 24, 40, 116, 144, 161, 163, 222. -/
def Obligations.CellFaultsAndLedger : Prop :=
  (∀ (s : State) (c : CellId) (t : Instant) (cyc : BitVec 32), ¬ ((s.cell c).pow = .off) →
      exec (.cellFaultLatch c t cyc) s = .next (s.onCell c (fun x => x.collect t cyc.toNat))) ∧
  (∀ (s : State) (c : CellId) (r : CellReq) (v : Word), ¬ ((s.cell c).pow = .off ∨ (s.cell c).pow = .dormant) →
      (s.cell c).islandOn (cellIsland 0x8040) = true →
      exec (.cellFltLatchClear c r v) s = .next (s.onCell c (fun x => (fun z : Nat × CellSt => z.2.onReq r (fun q => { q with res := z.1 })) ((rcOk, x.latchClear v.toNat))))) ∧
  (∀ (s : State) (c : CellId) (n : Fin 11) (t : Instant) (m : Nat) (t0 : Instant), (s.cell c).flt.graceAt.find? (fun g => g.1 == n.val) = some (m, t0) →
      t0 + (s.cell c).fld CFLT_SCFG.GRACE n.val * us ≤ t →
      exec (.cellGraceExpire c n t) s = .next (s.onCell c (fun x => if x.fld CFLT_SCFG.ESC n.val = 0 then (if x.protOn then x.resetTo 2 t else x) else (({ x with flt := { x.flt with graceAt := x.flt.graceAt.filter (fun g => g.1 != n.val) } } : CellSt).fatal).tick t))) ∧
  (∀ (s : State) (c : CellId) (t : Instant) (cyc : BitVec 32), exec (.cellMaskWindowEnd c t cyc) s = .next (s.onCell c (fun x => (
      let gone := x.flt.masked.filter (fun e => e.2 == 2 || e.2 == 12)
      let y : CellSt := { x with flt := { x.flt with masked := x.flt.masked.filter (fun e => !(e.2 == 2 || e.2 == 12)) } }
      let lines := gone.map (fun e => (e.1, y.srcLine e.1))
      let y : CellSt := { y with flt := { y.flt with seen := lines.foldl (fun m e => sset (fun _ => 0) m e.1 e.2) y.flt.seen } }
      (y.latch (lines.filter (fun e => e.2 != 0)) t cyc.toNat).tick t)))) ∧
  (∀ (s : State) (c : CellId) (r : CellReq) (v : Word), ¬ ((s.cell c).pow = .off ∨ (s.cell c).pow = .dormant) →
      (s.cell c).islandOn (cellIsland 0x810C) = true →
      exec (.ledgerReq c r v) s = .next (s.onCell c (fun x => (fun z : Nat × CellSt => z.2.onReq r (fun q => { q with res := z.1 })) (x.lreqWrite v)))) ∧
  (∀ (x : CellSt) (w : Word), CFLT_LREQ3.KIND.get w 0 ≠ 0 → CFLT_LREQ3.KIND.get w 0 ≠ 0x10 → x.lreqWrite w = (rcRefused, x.err CFLT_ERR.RANGE)) ∧
  (∀ (x : CellSt) (bits : Nat), x.latchClear bits = ((bitsOf 32 bits).foldl (fun y n => if bitAt (y.fld CFLT_LATCH.LATCH) n = false then y else if y.srcLine n = 0 then (y.set CFLT_LATCH.LATCH (y.fld CFLT_LATCH.LATCH ^^^ (1 <<< n))).set CFLT_LCLS.CLS 0 n else y.err CFLT_ERR.CLRREF) x).showMajor) ∧
  (∀ (x : CellSt) (w : Word), CFLT_LREQ3.KIND.get w 0 = 0 → x.lreqWrite w = (rcEmpty, x)) ∧
  (∀ (x : CellSt) (w : Word), CFLT_LREQ3.KIND.get w 0 = 0x10 → x.ledgerBusy = true → x.lreqWrite w = (rcRefused, x.set CFLT_LREQ3.RES 2)) ∧
  (∀ (x : CellSt) (w : Word), CFLT_LREQ3.KIND.get w 0 = 0x10 → x.ledgerBusy = false → x.lreqWrite w =
      (rcOk, (x.set CFLT_LREQ3.RES 0).ledger true (ledgerEntry 0x10 (CFLT_LREQ3.SUB.get w 0) ((List.range 3).flatMap (fun i => leBytes 4 (x.fld CFLT_LREQ0.DATA i)))))) ∧
  (∀ (s : State) (c : CellId) (ok : Bool) (req : Bool) (e : Bytes), (s.cell c).mem.append = some (req, e) →
      (s.cell c).pow = .on →
      exec (.framAppendComplete c ok) s = .next (s.onCell c (fun x => (
      let y := if ok then x.framAppend e else x.err CFRM_ERR.WRFAIL
      let y := if ok && req then y.set CFLT_LREQ3.RES 1 else y
      match y.mem.queue with
      | [] => { y with mem := { y.mem with append := none } }
      | q :: qs => { y with mem := { y.mem with append := some q, queue := qs } })))) ∧
  (∀ (s : State) (c : CellId) , (s.cell c).pow = .on ∧ (s.cell c).mem.dailyAt + 24 * 3600 * sec ≤ (s.cell c).mem.opTime →
      exec (.cellLedgerDaily c ) s = .next (s.onCell c (fun x => ({ x with mem := { x.mem with dailyAt := x.mem.opTime, tempMax := none } } : CellSt).ledger false x.dailyEntry))) ∧
  (∀ (s : State) (c : CellId) (r : CellReq) , ¬ ((s.cell c).pow = .off ∨ (s.cell c).pow = .dormant) →
      (s.cell c).islandOn (cellIsland 0x50) = true →
      exec (.patchActivate c r ) s = .next (s.onCell c (fun x => (fun z : Nat × CellSt => z.2.onReq r (fun q => { q with res := z.1 })) (x.patchWrite 0x80000000)))) ∧
  (∀ (x : CellSt), x.patchWrite 0x80000000 =
      if x.fld CGEN_PLEN.PLEN = 0 then (rcEmpty, x.set CGEN_PATCH.RES 4)
      else if x.pow ≠ .on ∨ x.held = false then (rcRefused, (x.set CGEN_PATCH.RES 2).err CGEN_ERR.PATCH)
      else if Config.romVerify ((List.range (x.fld CGEN_PLEN.PLEN)).map (fun i => sget (fun _ => 0) x.mem.sram (0 + i))) ((List.range 96).map (fun i => sget (fun _ => 0) x.mem.sram (x.fld CGEN_PLEN.PLEN + i))) = false then (rcRefused, (x.set CGEN_PATCH.RES 3).err CGEN_ERR.PATCH)
      else (rcOk, ({ x with mem := { x.mem with patch := true } } : CellSt).set CGEN_PATCH.RES 1))

/-- For every command and every state whose queue begins with it, step answers what exec answers for that command on the state with the rest of the queue: first in, first out. -/
def Obligations.StepTakesTheFront : Prop :=
  ∀ (i : Instr) (rest : List Instr) (s : State), s.pending = i :: rest → step s = exec i { s with pending := rest }

/-- Where the queue of waiting commands is empty, step answers the same state. The spec has no such queue: this is the choice of the model that log entry 1 names. -/
def Obligations.EmptyQueueIdles : Prop :=
  ∀ s : State, s.pending = [] → step s = .next s

/-- In every state and with every operand each of the commands answers a next state: none faults and none is refused. What a refused request does to the block is part of the next state. -/
def Obligations.EveryCommandCompletes : Prop :=
  ∀ (i : Instr) (s : State), ∃ t, exec i s = .next t

/-- Whatever command is run on whatever state, where it answers a next state the queue of the commands that wait is as it was: only step takes a command off it. -/
def Obligations.CommandsLeaveTheQueue : Prop :=
  ∀ (i : Instr) (s t : State), exec i s = .next t → t.pending = s.pending

/-- A command changes only the part it happens at: every other unit and every other cell is as before, with all its registers, memories, queues and outputs. Four commands also reach the partner unit over Splice: the compute start, the mirror record, an enumeration frame and the partner-forced reset; they leave every cell as it was. So a cell hears of a command only through a frame, and a register access at one part is seen at no other. -/
def Obligations.CommandsStayInTheirParts : Prop :=
  (∀ (i : Instr) (s t : State) (u : UnitId), exec i s = .next t → Part.unit u ∉ i.parts → t.unit u = s.unit u) ∧
  (∀ (i : Instr) (s t : State) (c : CellId), exec i s = .next t → Part.cell c ∉ i.parts → t.cell c = s.cell c)

/-- The cells stand in a table by strand and hop. From every state in which the table is in its one canonical form (keys rising, every key that of one of 64 cells on one of 96 strands, no entry equal to what reset leaves), a step leads to such a state, whichever command is taken: equal cells are equal data in every state a run reaches. -/
def Obligations.StepKeepsTheCellTable : Prop :=
  ∀ s t : State, s.cellsWf = true → step s = .next t → t.cellsWf = true

/-- After reset every part is the part it says it is, its registers and memories are in their one canonical form, and the table of cells is canonical. -/
def Obligations.ResetIsWellFormed : Prop :=
  State.reset.wf = true ∧ State.reset.cellsWf = true

/-- A read that is not denied, of a page whose island is off, answers 0, and a write to such a page reaches no register; the unit records either in GEN_ERR.XING, bit 0. In a powered cell that is not dormant the same holds, with CGEN_ERR.XING. -/
def Obligations.OffIslandAccess : Prop :=
  (∀ (s : State) (u : UnitId) (q : Requester) (a : BitVec 32), (s.unit u).denied q false a.toNat = false → (pageOf unitPages a.toNat).isSome = true → (s.unit u).islandOn (unitIsland a.toNat) = false →
      exec (.highWordRead (.unit u q) a) s = .next (s.onUnit u (fun x => (x.err GEN_ERR.XING).answer q 0))) ∧
  (∀ (s : State) (u : UnitId) (q : Requester) (a : BitVec 32) (v : Word) (t : Instant), ((s.unit u).tick t).denied q true a.toNat = false → (pageOf unitPages a.toNat).isSome = true → ((s.unit u).tick t).islandOn (unitIsland a.toNat) = false → a.toNat % 4 = 0 →
      exec (.regWrite (.unit u q) a v 0xF t) s = .next (s.onUnit u (fun x => (x.tick t).err GEN_ERR.XING))) ∧
  (∀ (s : State) (c : CellId) (r : CellReq) (a : BitVec 32), ¬ ((s.cell c).pow = .off ∨ (s.cell c).pow = .dormant) → cellHasReg a.toNat = true → (s.cell c).islandOn (cellIsland a.toNat) = false →
      exec (.highWordRead (.cell c r) a) s = .next (s.onCell c (fun x => (x.err CGEN_ERR.XING).onReq r (fun q => { q with rdata := 0 })))) ∧
  (∀ (s : State) (c : CellId) (r : CellReq) (a : BitVec 32) (v mask : Word) (t : Instant), ¬ ((s.cell c).pow = .off ∨ (s.cell c).pow = .dormant) → cellHasReg a.toNat = true → (s.cell c).islandOn (cellIsland a.toNat) = false →
      (s.cell c).regWrite r a.toNat v mask t = (rcOff, (s.cell c).err CGEN_ERR.XING)) ∧
  (GEN_ERR.XING.addr 0 = 0x14 ∧ GEN_ERR.XING.lo 0 = 0 ∧ CGEN_ERR.XING.lo 0 = 0)

/-- A denied read answers 0 and a denied write reaches no register; either sets PCIE_ERR.DENY and counts in PCIE_CNT1.DENY. An access that is not denied, at an address in no page, does the same with GEN_ERR.RANGE in place of them. A function's write to its BAR 2 (at the address log entry 27 chooses) is denied in the same way. The core is never denied. The definitions it names carry choices of the model: log entries 18, 19, 20, 21, 27, 207. -/
def Obligations.DeniedAndUnmappedAccess : Prop :=
  (∀ (s : State) (u : UnitId) (q : Requester) (a : BitVec 32), (s.unit u).denied q false a.toNat = true → inBar q a.toNat = false →
      exec (.highWordRead (.unit u q) a) s = .next (s.onUnit u (fun x => ((x.err PCIE_ERR.DENY).inc PCIE_CNT1.DENY).answer q 0))) ∧
  (∀ (s : State) (u : UnitId) (q : Requester) (a : BitVec 32) (v : Word) (t : Instant), ((s.unit u).tick t).denied q true a.toNat = true → inBar q a.toNat = false → a.toNat % 4 = 0 →
      exec (.regWrite (.unit u q) a v 0xF t) s = .next (s.onUnit u (fun x => ((x.tick t).err PCIE_ERR.DENY).inc PCIE_CNT1.DENY))) ∧
  (∀ (s : State) (u : UnitId) (q : Requester) (a : BitVec 32) (v : Word) (t : Instant), inBar q a.toNat = true → a.toNat / 2 ^ 24 = 2 → a.toNat % 4 = 0 →
      exec (.regWrite (.unit u q) a v 0xF t) s = .next (s.onUnit u (fun x => ((x.tick t).err PCIE_ERR.DENY).inc PCIE_CNT1.DENY))) ∧
  (∀ (x : UnitSt) (q : Requester) (w : Bool) (a : Nat) (k : UnitSt → UnitSt), x.denied q w a = false → (pageOf unitPages a).isNone = true → x.guard q w a k = x.err GEN_ERR.RANGE) ∧
  (∀ (x : UnitSt) (n : Fin 4) (w : Bool) (a : Nat), x.denied (.core n) w a = false)

/-- With PCIE_ACC.PF0RO at 1 a write by PF0 is denied at every register but MBXH channels 0 to 15 and the doorbell registers of PF0, MBX_HEPINC, PCIE_REAMPIN, the pair PCIE_VACK, REEL_RPTR and REEL_CMD, and the port 4 registers of HBX; at those it is not denied. -/
def Obligations.Pf0ReadOnly : Prop :=
  (∀ (x : UnitSt) (a : Nat), x.bit PCIE_ACC.PF0RO = true →
      ¬ ((0x12100 ≤ a ∧ a < 0x12500) ∨ (0x11080 ≤ a ∧ a < 0x11098) ∨ a = MBX_HEPINC.INC.addr 0 ∨ a = PCIE_REAMPIN.PIN0.addr 0 ∨ a = PCIE_VACK_LO.VLO.addr 0 ∨ a = PCIE_VACK_HI.VHI.addr 0 ∨ a = REEL_RPTR.RPTR.addr 0 ∨ a = REEL_CMD.OP.addr 0 ∨ (0x20300 ≤ a ∧ a < 0x20340)) →
      x.denied .pf0 true a = true) ∧
  (∀ (x : UnitSt) (a : Nat), ((0x12100 ≤ a ∧ a < 0x12500) ∨ (0x11080 ≤ a ∧ a < 0x11098) ∨ a = MBX_HEPINC.INC.addr 0 ∨ a = PCIE_REAMPIN.PIN0.addr 0 ∨ a = PCIE_VACK_LO.VLO.addr 0 ∨ a = PCIE_VACK_HI.VHI.addr 0 ∨ a = REEL_RPTR.RPTR.addr 0 ∨ a = REEL_CMD.OP.addr 0 ∨ (0x20300 ≤ a ∧ a < 0x20340)) →
      x.denied .pf0 true a = false)

/-- Where a bit of FLT_LATCH is set, an allowed write of 1 to it clears the bit and its entry of FLT_LCLS while the line of the source carries none; otherwise the bit stays set and the write sets FLT_ERR.CLRREF. FAULT follows what is then latched. -/
def Obligations.FaultLatchClear : Prop :=
  ∀ (s : State) (u : UnitId) (q : Requester) (n : Fin 29), (s.unit u).allowed q true 0x3040 = true → bitAt ((s.unit u).fld FLT_LATCH_LO.LATCH) n.val = true →
      exec (.fltLatchClear u q (BitVec.ofNat 32 (2 ^ n.val))) s = .next (s.onUnit u (fun x =>
        (if x.srcLine n.val = 0 then (x.set FLT_LATCH_LO.LATCH (x.fld FLT_LATCH_LO.LATCH ^^^ (1 <<< n.val))).set FLT_LCLS.CLS 0 n.val
         else x.err FLT_ERR.CLRREF).showFault))

/-- An allowed RAISE of an idle engine outside a trial sets MINVER to the version of the booted image; in a trial it is refused and MINVER stays. A slot whose version is below MINVER is not valid. The definitions it names carry choices of the model: log entry 207. -/
def Obligations.MinimumVersion : Prop :=
  (∀ (s : State) (u : UnitId) (q : Requester), (s.unit u).allowed q true 0x5078 = true → (s.unit u).verif = none → (s.unit u).bit GEN_BOOT.TRIAL = false →
      exec (.secRaise u q) s = .next (s.onUnit u (fun x => (x.set SEC_MINVER.MINVER (x.fld GEN_IMGVER.VERSION)).set SEC_VCMD.RES 1))) ∧
  (∀ (s : State) (u : UnitId) (q : Requester), (s.unit u).allowed q true 0x5078 = true → (s.unit u).verif = none → (s.unit u).bit GEN_BOOT.TRIAL = true →
      exec (.secRaise u q) s = .next (s.onUnit u (fun x => (x.set SEC_VCMD.RES 4).err SEC_ERR.RANGE))) ∧
  (∀ (x : UnitSt) (k : Nat), x.slotVersion k < x.fld SEC_MINVER.MINVER → x.slotValid k = false)

/-- After a requester has read the low word of a pair, whatever changes in the unit but for the latch of this requester, its read of the high word answers the word as it stood at the read of the low word, and empties the latch of it. The definitions it names carry choices of the model: log entries 22, 207. -/
def Obligations.PairsAreReadAsOne : Prop :=
  ∀ (x y : UnitSt) (q : Requester) (a b : Nat), groupOf unitPairs a = some [b] → groupOf unitPairs b = none →
      y.req q = { x.req q with rdata := x.liveWord q a, latch := [(b, x.liveWord q b)] } →
      x.busRead q a = x.setReq q { x.req q with rdata := x.liveWord q a, latch := [(b, x.liveWord q b)] } ∧
      y.busRead q b = y.setReq q { x.req q with rdata := x.liveWord q b, latch := [] }

/-- Of a word under a write of data, a bit of the set mask (RW, and RWL while not locked) takes the data, a bit of the clear mask alone (W1C) clears where the data is 1 and otherwise keeps its value, and a bit of neither keeps its value. The definitions it names carry choices of the model: log entry 18. -/
def Obligations.WritesFollowTheAccessCodes : Prop :=
  ∀ (old data : Word) (set clear : Nat) (j : Nat), j < 32 → (set &&& clear) % 2 ^ 32 = 0 →
      (mergeWrite old data set clear).getLsbD j =
        if set.testBit j then data.getLsbD j else if clear.testBit j then (old.getLsbD j && !data.getLsbD j) else old.getLsbD j

/-- For every header, Watermark, slot and window a command or bulk frame can carry: the frame has the length of its number of cells, its HCRC, WCRC, CRC-32 and every slot check pass, and unit, type, strand, PN, launch offset, NCELL, BFLAGS, T, CFGD, the Watermark, every slot and the window read back as they were given. The definitions it names carry choices of the model: log entries 182, 183. -/
def Obligations.FramesReadBack : Prop :=
  ∀ (type strand pn lofs n bflags t cfgd : Nat) (src : UnitId) (relay : Bool) (w : Watermark) (slot : Nat → Nat) (window : Bytes),
      type < 256 → strand < 128 → pn < 2 ^ 48 → lofs < 2 ^ 24 → n ≤ 64 → bflags < 256 → t < 256 → cfgd < 2 ^ 32 →
      w.llen < 16 → w.epoch < 2 ^ 32 → w.abdpn < 2 ^ 48 → (∀ h, slot h < 2 ^ 40) → window.length = 128 →
      let f := cmdFrame (cmdHeader type src relay strand pn lofs n bflags t cfgd) w ((List.range n).flatMap (fun h => cmdSlotBytes h pn (slot h))) (padWindow window)
      f.length = cmdLen n ∧ hcrcOk f = true ∧ wcrcOk f = true ∧ crc32Ok f (cmdLen n) = true ∧ wmOf f = w ∧ srcUnit f = src ∧
      byteAt f 1 = type ∧ bitAt (byteAt f 2) 6 = relay ∧ byteAt f 3 = strand ∧ framePn f = pn ∧ leAt f 10 3 = lofs ∧ byteAt f 13 = n ∧
      byteAt f 14 = bflags ∧ byteAt f 15 = t ∧ leAt f 16 4 = cfgd ∧
      (∀ h, h < n → cmdSlotOk f h = true ∧ leAt f (42 + 6 * h) 5 = slot h) ∧ slice f (42 + 6 * n) 128 = window

/-- For every header and every slot a status frame can carry: the frame has the length of its number of cells, its HCRC, CRC-32 and every slot check pass, and TAIL, strand, PN, NCELL, ORIG, CFGD and every slot read back as they were given. A slot marked absent reads as absent and fails its check, in every frame and at every hop. The definitions it names carry choices of the model: log entry 173. -/
def Obligations.StatusFramesReadBack : Prop :=
  (∀ (toward : UnitId) (tail : Bool) (strand pn n orig cfgd : Nat) (slot : Nat → Nat),
      strand < 128 → pn < 2 ^ 48 → n ≤ 64 → orig < 256 → cfgd < 2 ^ 32 → (∀ h, slot h < 2 ^ 120) →
      let f := statFrame (statHeader toward tail strand pn n orig cfgd) ((List.range n).flatMap (fun h => statSlotBytes h pn (slot h)))
      f.length = statLen n ∧ statHcrcOk f = true ∧ crc32Ok f (statLen n) = true ∧ byteAt f 1 = 3 ∧ srcUnit f = toward ∧ bitAt (byteAt f 2) 6 = tail ∧
      byteAt f 3 = strand ∧ framePn f = pn ∧ byteAt f 10 = n ∧ byteAt f 11 = orig ∧ leAt f 12 4 = cfgd ∧
      (∀ h, h < n → statSlotOk f h = true ∧ leAt (statSlot f h) 0 15 = slot h)) ∧
  (∀ (f g : Bytes) (h pn : Nat), g = absentSlot h pn → statSlot f h = g → byteAt f 4 = pn % 256 → statSlotAbsent f h = true ∧ statSlotOk f h = false)

/-- Each clause names a command, conditions on the state and the operands alone under which it completes, and what the next state holds. PCHG_EFFECT: T is the new length, TIM_PCHG shows RES 1 and no request. SUBSTEP_INTEGRATE moves the front of its arm on by one. CHK_FAIL and WEAR_RETIRE mark the record and set their error bit. STAGE_DEADLINE_MISS sets LATE. CAL_FX_WRITE keeps the exclusion. HOLDER_LOST_CLAIM enters CLAIM with the largest epoch seen plus 1 and its cause. FENCE_RX keeps the evidence. LEASE_MSG_SEND sends PN, READY and ACTIVE. SPLICE_STATUS_FWD_RX keeps the slot with its period. RELAY_END drops the request. RELAY_FRAME_RX is evidence of a relay. The key of a watchdog ends its expiry and restarts its time; WDOG_EXPIRE marks it. HEALTH_RECORD and HEALTH_RECORD_RX count a generation. SRAM_ECC_ERROR sets its error bit, for a unit with the address. SCRUB_OVERRUN sets SCRUB. ROW_ENTRY_AGE_DROP drops old entries. UNIT_SUPPLY_LOSS leaves the unit off with flash and the kept registers. GEN_PRST_WRITE asks the partner, RES 1. BOOT_CONFIRM ends the trial. Of every other command named, what the unit or cell becomes is the term of the clause, and every other part and the queue stay as they were; COMPUTE_START shows relay, and MIRROR_SEND the record on its way, at the partner too. The definitions it names carry choices of the model: log entries 9, 17, 18, 20, 21, 24, 26, 29, 30, 31, 35, 40, 42, 44, 45, 46, 47, 49, 51, 65, 66, 73, 74, 78, 80, 83, 85, 87, 90, 95, 99, 102, 105, 110, 113, 116, 117, 119, 120, 126, 144, 145, 146, 147, 148, 149, 184, 201, 203, 207, 208, 210, 211, 214, 216, 218, 220, 221, 226, 227. -/
def Obligations.UnitCommandsComplete : Prop :=
  (∀ (s : State) (u : UnitId) , (s.unit u).tim.baseSet = true →
      ∃ z, exec (.periodBoundary u) s = .next z ∧ z.unit u = (fun x => ((((((x.reamForm.reelBoundary.nextPn).reelBegin).minBoundary).loopBoundary).clpBoundary).escBoundary)) (s.unit u) ∧ z.pending = s.pending ∧ z.unit u.other = s.unit u.other ∧ z.cells = s.cells) ∧
  (∀ (s : State) (u : UnitId) (pact : Bool) (mis : List Nat), (s.unit u).tim.counting = true →
      (s.unit u).inQuiet = false →
      (s.unit u).boot = .up →
      exec (.computeStart u pact mis) s = .next ((fun x : UnitSt => (s.setUnit u x).setUnit u.other (if (x.isHolder && x.splUp) = true then (s.unit u.other).showRelay x.relayed else s.unit u.other)) (((((s.unit u).tick ((s.unit u).t0 (s.unit u).pn + (s.unit u).compOfs)).portsCompute.evaluate pact).compute (s.unit u.other) mis)))) ∧
  (∀ (s : State) (u : UnitId) (p t : Nat), (s.unit u).tim.peer = none →
      (s.unit u).tim.pchg = some (p, t) →
      (s.unit u).tim.pchgGo = true →
      (s.unit u).inHold = true →
      p = (s.unit u).pn →
      ∃ z, exec (.pchgEffect u) s = .next z ∧ (z.unit u).fld TIM_PERIOD.T = t % 256 ∧ (z.unit u).fld TIM_PCHG.RES = 1 ∧ (z.unit u).fld TIM_PCHG.REQ = 0 ∧ (z.unit u).tim.pchg = none) ∧
  (∀ (s : State) (u : UnitId) (arm : Fin 6) (t : Instant) (pn : Nat) (a b : Instant), ((s.unit u).tick t).works 0x22000 = true →
      ((s.unit u).tick t).subStep (((s.unit u).tick t).clpFront arm.val) = some (pn, a, b) →
      b + ((s.unit u).tick t).armLat arm.val ≤ t →
      ∃ z, exec (.substepIntegrate u arm t) s = .next z ∧ (z.unit u).clpFront arm.val = ((s.unit u).tick t).clpFront arm.val + 1) ∧
  (∀ (s : State) (u : UnitId) (c : CellId), (!(s.unit u).works 0x22000 || ((s.unit u).clpRec c.key).chkfail || decide (((s.unit u).clpRec c.key).chkcnt < max 1 ((s.unit u).fld CLP_CHK.CHKN))) = false →
      ∃ z, exec (.chkFail u c) s = .next z ∧ ((z.unit u).clpRec c.key).chkfail = true ∧ (z.unit u).fld CLP_ERR.CHK = 1) ∧
  (∀ (s : State) (u : UnitId) (c : CellId) (arm : Nat), (s.unit u).armOf c.key = some arm →
      (s.unit u).works 0x22000 = true →
      ¬ ((s.unit u).fld CLP_WCFG.RETCONF = 0 ∨ ((s.unit u).clpRec c.key).rcnt < (s.unit u).fld CLP_WCFG.RETCONF ∨ ((s.unit u).clpRec c.key).retired = true ∨ ((s.unit u).clpRec c.key).retpend = true) →
      (s.unit u).availableBut arm c.key < (s.unit u).fld CAL_ARMCFG.NREQ arm →
      ∃ z, exec (.wearRetire u c) s = .next z ∧ ((z.unit u).clpRec c.key).retpend = true ∧ (z.unit u).fld CLP_ERR.RETPEND = 1) ∧
  (∀ (s : State) (u : UnitId) (c : CellId) (arm : Nat), (s.unit u).armOf c.key = some arm →
      (s.unit u).works 0x22000 = true →
      ¬ ((s.unit u).fld CLP_WCFG.RETCONF = 0 ∨ ((s.unit u).clpRec c.key).rcnt < (s.unit u).fld CLP_WCFG.RETCONF ∨ ((s.unit u).clpRec c.key).retired = true ∨ ((s.unit u).clpRec c.key).retpend = true) →
      ¬ ((s.unit u).availableBut arm c.key < (s.unit u).fld CAL_ARMCFG.NREQ arm) →
      ∃ z, exec (.wearRetire u c) s = .next z ∧ ((z.unit u).clpRec c.key).retired = true ∧ ((z.unit u).clpRec c.key).retpend = false ∧ (z.unit u).fld CLP_ERR.RETIRE = 1) ∧
  (∀ (s : State) (u : UnitId) , (!(s.unit u).works 0x21000 || !(s.unit u).tim.counting) = false →
      ∃ z, exec (.calenderRun u) s = .next z ∧ z.unit u = (fun x => 
      let y := x.cal.fx.reverse.foldl (fun (y : UnitSt) e => y.onRec e.1 (fun r => { r with fxcl := e.2 })) x
      let y : UnitSt := { y with cal := { y.cal with fx := [] } }
      let ys := (List.range 6).foldl (fun (xs : UnitSt × Sparse Nat) arm => xs.1.armRun arm xs.2) (y, [])
      let seen (m : Sparse Nat) (n : Nat) : Sparse Nat := sset (fun _ => 0) m n (sget (fun _ => 0) m n ||| (b2n (ys.1.bit CAL_ASTAT.LOW n) + 2 * b2n (ys.1.bit CAL_ASTAT.SATP n) + 4 * b2n (ys.1.bit CAL_ASTAT.SATN n)))
      let z := ys.1.crossTo 0x20000 CAL_ERR.XING
      { z with cal := { z.cal with slots := if z.works 0x20000 then ys.2 else z.cal.slots }, flt := { z.flt with health := { ys.1.flt.health with armbits := (List.range 6).foldl seen ys.1.flt.health.armbits } } }) (s.unit u) ∧ z.pending = s.pending ∧ z.unit u.other = s.unit u.other ∧ z.cells = s.cells) ∧
  (∀ (s : State) (u : UnitId) (cal : Bool), (s.unit u).works (if cal then 0x21000 else 0x22000) = true →
      ∃ z, exec (.stageDeadlineMiss u cal) s = .next z ∧ (z.unit u).cal.late = true ∧ (z.unit u).fld (if cal then CAL_ERR.LATE else CLP_ERR.LATE) = 1) ∧
  (∀ (s : State) (u : UnitId) (q : Requester) (v : Word), (s.unit u).allowed q true 0x210D0 = true →
      (s.unit u).isCell (CAL_FX.STRAND.get v 0) (CAL_FX.HOP.get v 0) = true →
      ∃ z, exec (.calFxWrite u q v) s = .next z ∧ (z.unit u).cal.fx = (CAL_FX.STRAND.get v 0 * 64 + CAL_FX.HOP.get v 0, bitAt v.toNat 31) :: (s.unit u).cal.fx) ∧
  (∀ (s : State) (u : UnitId) (c : Nat), (s.unit u).lse.lostNow = some c →
      (s.unit u).lstate = 0 →
      ∃ z, exec (.holderLostClaim u) s = .next z ∧ (z.unit u).fld LSE_STAT.STATE = 1 ∧ (z.unit u).lse.epoch = ((s.unit u).seenEpoch + 1) % 2 ^ 32 ∧ (z.unit u).fld LSE_EPOCH.EPOCH = (z.unit u).lse.epoch ∧ (z.unit u).fld LSE_LOST.CAUSE = c % 4) ∧
  (∀ (s : State) (u : UnitId) (pact : Bool), (s.unit u).inQuiet = true ∧ (s.unit u).pn % 32 = 0 →
      ∃ z, exec (.quietLeaseEval u pact) s = .next z ∧ z.unit u = (fun x => (x.leaseCompute pact).claimLost) (s.unit u) ∧ z.pending = s.pending ∧ z.unit u.other = s.unit u.other ∧ z.cells = s.cells) ∧
  (∀ (s : State) (u : UnitId) , (s.unit u).inQuiet = false →
      ∃ z, exec (.fenceRx u) s = .next z ∧ (z.unit u).lse.fenceRx = true) ∧
  (∀ (s : State) (u : UnitId) , (s.unit u).inQuiet = false →
      (s.unit u).spl.announce = none →
      ∃ z, exec (.leaseMsgSend u) s = .next z ∧ (∃ m : LeaseMsg, (z.unit u).out = .splice (.lease m) :: (s.unit u).out ∧ m.pn = BitVec.ofNat 48 (s.unit u).pn ∧ m.ready = (s.unit u).ready ∧ m.active = (s.unit u).lse.active)) ∧
  (∀ (s : State) (u : UnitId) (m : LeaseMsg), (s.unit u).inQuiet = false →
      ∃ z, exec (.leaseMsgRx u m) s = .next z ∧ z.unit u = (fun x =>
      let y : UnitSt := { x with spl := { x.spl with silent := 0 }, lse := { x.lse with partLse := m.lstate.val, partHold := x.lse.partHold || m.lstate.val == 2, partReady := m.ready, fenceRx := x.lse.fenceRx && m.lstate.val == 3 } }
      let y := ((y.set SPL_STAT.UP 1).seeEpoch m.epoch.toNat).takeCfgd m.cfgd.toNat
      let y := match m.retired with | some n => y.moveDue n.val m.pn.toNat | none => y
      if y.tim.baseSet = false ∧ (s.unit u.other).tim.counting = true then y.takeBase (s.unit u.other) else y) (s.unit u) ∧ z.pending = s.pending ∧ z.unit u.other = s.unit u.other ∧ z.cells = s.cells) ∧
  (∀ (s : State) (u : UnitId) , (s.unit u).splUp = true ∧ 2 ≤ (s.unit u).spl.silent →
      ∃ z, exec (.spliceDown u) s = .next z ∧ z.unit u = (fun x => 
      let y := ((x.err SPL_ERR.DOWN).inc SPL_CNT2.DOWN).set SPL_STAT.UP 0
      let y := ((y.showRelay []).set SPL_RELAY.RNUM 0).set PWR_COND.CFGD 1
      { y with spl := { y.spl with relayReq := [] }, lse := { y.lse with partStby := 0, cfgdDiff := false, partCfgd := none, rsWant := [], rsOwn := [], rsRx := [], rsAsk := [], rsTx := [] } }) (s.unit u) ∧ z.pending = s.pending ∧ z.unit u.other = s.unit u.other ∧ z.cells = s.cells) ∧
  (∀ (s : State) (u : UnitId) , (s.unit u).works 0x20000 = true →
      ∃ z, exec (.prefetchFreeze u) s = .next z ∧ z.unit u = (fun x => x.livePorts.foldl (fun y sp => y.prefetch sp.2 sp.1) x) (s.unit u) ∧ z.pending = s.pending ∧ z.unit u.other = s.unit u.other ∧ z.cells = s.cells) ∧
  (∀ (s : State) (u : UnitId) , (s.unit u).works 0x20000 = true →
      ∃ z, exec (.frameBuild u) s = .next z ∧ z.unit u = (fun x => (x.livePorts.filter (fun sp => decide (3 ≤ x.pstate sp.2))).foldl (fun y sp => y.buildPort sp.2 (y.fld TIM_OFS2.CMD * 40)) x) (s.unit u) ∧ z.pending = s.pending ∧ z.unit u.other = s.unit u.other ∧ z.cells = s.cells) ∧
  (∀ (s : State) (u : UnitId) (l : Launch), ¬ (((s.unit u).tick l.at_).fenced = true ∨ (!((s.unit u).tick l.at_).anyLine) = true) →
      (!((s.unit u).tick l.at_).tim.baseSet) = false →
      (!((s.unit u).tick l.at_).tim.counting) = false →
      ∃ z, exec (.cmdFrameLaunch u l) s = .next z ∧ z.unit u = (fun x => (fun y : UnitSt => l.faulty.foldl (fun y p => y.sendError l.at_ p) (y.livePorts.foldl (fun y sp => y.launchPort l.at_ sp) y)) ({ x.tick l.at_ with tim := { (x.tick l.at_).tim with launched := true } } : UnitSt)) (s.unit u) ∧ z.pending = s.pending ∧ z.unit u.other = s.unit u.other ∧ z.cells = s.cells) ∧
  (∀ (s : State) (u : UnitId) (l : Launch), ((s.unit u).tick l.at_).tim.counting = true →
      ∃ z, exec (.statusFrameLaunch u l) s = .next z ∧ z.unit u = (fun x => (fun y : UnitSt => l.faulty.foldl (fun y p => y.sendError l.at_ p) (y.livePorts.foldl (fun y sp => y.launchStatus l.at_ sp) y)) ({ x.tick l.at_ with tim := { (x.tick l.at_).tim with launched := true } } : UnitSt)) (s.unit u) ∧ z.pending = s.pending ∧ z.unit u.other = s.unit u.other ∧ z.cells = s.cells) ∧
  (∀ (s : State) (u : UnitId) (p : Fin 100) (rx : RxFrame) (t : Instant) (cut : Bool), ¬ (((s.unit u).tick t).ncell p.val = 0 ∨ ((s.unit u).tick t).pstate p.val = 0 ∨ ((s.unit u).tick t).pstate p.val = 2 ∨ (!((s.unit u).tick t).portOn p.val) = true) →
      byteAt rx.bytes 1 = 3 →
      ∃ z, exec (.statusFrameRx u p rx t cut) s = .next z ∧ z.unit u = (fun x => ((x.tick t).codeErrs p.val rx.errs.toNat).rxStatus p.val rx.bytes cut) (s.unit u) ∧ z.pending = s.pending ∧ z.unit u.other = s.unit u.other ∧ z.cells = s.cells) ∧
  (∀ (s : State) (u : UnitId) (strand : Fin 96) (hop : Fin 64) (slot : Bytes) (p : Nat), (s.unit u).inQuiet = false →
      (s.unit u.other).portOf strand.val = some p →
      (s.unit u.other).pstate p ≠ 1 →
      slotPasses hop.val (s.unit u).pn slot = true →
      ((s.unit u).view (strand.val * 64 + hop.val)).slotPn ≠ some (s.unit u).pn →
      ∃ z, exec (.spliceStatusFwdRx u strand hop slot) s = .next z ∧ ((z.unit u).view (strand.val * 64 + hop.val)).slot = slot ∧ ((z.unit u).view (strand.val * 64 + hop.val)).slotPn = some (s.unit u).pn) ∧
  (∀ (s : State) (u : UnitId) (strand : Fin 96) (p : Nat), (s.unit u).portOf strand.val = some p →
      (s.unit u).isHolder = true ∧ (s.unit u).spl.relayReq.contains strand.val = true ∧ 16 ≤ ((s.unit u).port p).clean ∧ ((s.unit u).pstate p = 5 ∨ (s.unit u).pstate p = 1) →
      ∃ z, exec (.relayEnd u strand) s = .next z ∧ (z.unit u).spl.relayReq = (s.unit u).spl.relayReq.filter (· != strand.val)) ∧
  (∀ (s : State) (u : UnitId) (bytes : Bytes) (t : Instant), ¬ (((s.unit u).tick t).inQuiet = true ∨ ((s.unit u).tick t).lstate ≠ 0) →
      ∃ z, exec (.relayFrameRx u bytes t) s = .next z ∧ (z.unit u).lse.relNow = true) ∧
  (∀ (s : State) (u : UnitId) (p : Fin 100) (rx : RxCut) (t : Instant), ¬ (((s.unit u).tick t).pstate p.val = 0 ∨ (!((s.unit u).tick t).portOn p.val) = true) →
      ∃ z, exec (.partnerCmdFrameRx u p rx t) s = .next z ∧ z.unit u = (fun x => 
      let n := (x.tick t).ncell p.val
      let y := (x.tick t).codeErrs p.val rx.errs.toNat
      let y := if rx.cut then y.inc STRP_CNT2.ABORT p.val else y
      let y := if rx.bytes.length = cmdLen n ∧ !crc32Ok rx.bytes (cmdLen n) then y.inc STRP_CNT1.CRC32 p.val else y
      if !hcrcOk rx.bytes ∨ srcUnit rx.bytes = y.id ∨ (byteAt rx.bytes 1 ≠ 1 ∧ byteAt rx.bytes 1 ≠ 2) then y
      else
        let y := if !y.tim.baseSet ∧ !y.splUp then y.baseFromFrame p.val rx.bytes t else y
        let y := (((y.evidence p.val rx.bytes).takeInsertions p.val rx.bytes).crossTo 0x22000 STRP_ERR.XING p.val).syncFrame rx.bytes
        if y.splUp ∨ y.isHolder ∨ !fromHolder rx.bytes then y
        else y.align 2 ((t : Int) - (y.t0 (framePn rx.bytes) + leAt rx.bytes 10 3 * (ns / 4) + y.fld STRP_DLY.DLY p.val * 256)) t) (s.unit u) ∧ z.pending = s.pending ∧ z.unit u.other = s.unit u.other ∧ z.cells = s.cells) ∧
  (∀ (s : State) (u : UnitId) (t : Instant), (s.unit u).inQuiet = false →
      ∃ z, exec (.stopReqRx u t) s = .next z ∧ z.unit u = (fun x => (x.tick t).stopAll t) (s.unit u) ∧ z.pending = s.pending ∧ z.unit u.other = s.unit u.other ∧ z.cells = s.cells) ∧
  (∀ (s : State) (u : UnitId) (t : Instant) (cyc : BitVec 32), ¬ ((s.unit u).boot = .off) →
      ∃ z, exec (.faultLatch u t cyc) s = .next z ∧ z.unit u = (fun x => x.collect t cyc.toNat) (s.unit u) ∧ z.pending = s.pending ∧ z.unit u.other = s.unit u.other ∧ z.cells = s.cells) ∧
  (∀ (s : State) (u : UnitId) (q : Requester) (v : Word), (s.unit u).allowed q true 0x3040 = true →
      ∃ z, exec (.fltLatchClear u q v) s = .next z ∧ z.unit u = (fun x => (x.fltLatchClear v.toNat).showFault) (s.unit u) ∧ z.pending = s.pending ∧ z.unit u.other = s.unit u.other ∧ z.cells = s.cells) ∧
  (∀ (s : State) (u : UnitId) (t : Instant), ¬ (((s.unit u).flt.graceAt.filter (fun g => decide (g.2 + (s.unit u).fld FLT_SCFG.GRACE g.1 * us ≤ t))).map (·.1) = [] ∨ (s.unit u).fenced = true) →
      ∃ z, exec (.graceExpire u t) s = .next z ∧ z.unit u = (fun x => 
      let gone := (x.flt.graceAt.filter (fun g => decide (g.2 + x.fld FLT_SCFG.GRACE g.1 * us ≤ t))).map (·.1)
      let y : UnitSt := { x with flt := { x.flt with graceAt := x.flt.graceAt.filter (fun g => !gone.contains g.1) } }
      let y := (y.tick t).showGrace
      let acts := gone.map (fun n => (n, y.escAction (y.fld FLT_SCFG.ESC n)))
      let run (y : UnitSt) (k : Nat) : UnitSt := (acts.filter (fun e => e.2 == k)).foldl (fun (y : UnitSt) e => y.escalate e.1 k t) y
      let y := run (run y 0) 1
      match (acts.filter (fun e => e.2 == 2)).map (·.1) with
      | [] => y
      | n :: l => (l.foldl (fun (y : UnitSt) m => y.escRecord m 2) y).escalate n 2 t) (s.unit u) ∧ z.pending = s.pending ∧ z.unit u.other = s.unit u.other ∧ z.cells = s.cells) ∧
  (∀ (s : State) (u : UnitId) (q : Requester) (n : Fin 4) (v : Word) (t : Instant), (s.unit u).allowed q true (0x3088 + 4 * n.val) = true →
      v.toNat % 65536 = 0xA1E →
      ∃ z, exec (.wdogKick u q n v t) s = .next z ∧ n.val ∉ (z.unit u).flt.expired ∧ sget (fun _ => 0) (z.unit u).flt.kickAt n.val = t) ∧
  (∀ (s : State) (u : UnitId) (n : Fin 4) (t : Instant), (s.unit u).fld FLT_WDOG.TMO n.val ≠ 0 ∧ (!(s.unit u).flt.expired.contains n.val) = true ∧ sget (fun _ => 0) (s.unit u).flt.kickAt n.val + (s.unit u).fld FLT_WDOG.TMO n.val * 1000 * us ≤ t →
      ∃ z, exec (.wdogExpire u n t) s = .next z ∧ (z.unit u).flt.expired = n.val :: (s.unit u).flt.expired) ∧
  (∀ (s : State) (u : UnitId) (t : Instant) (tj : Int) (eyes : EyeMargins) (spleye : List Nat), ¬ ((s.unit u).boot ≠ .up ∨ t % sec ≠ 0) →
      ∃ z, exec (.healthRecord u t tj eyes spleye) s = .next z ∧ (z.unit u).flt.health.gen = nextGen ((((s.unit u).tick t).scrubStep t).takeEyes eyes).flt.health.gen) ∧
  (∀ (s : State) (u : UnitId) (record : Bytes), (s.unit u).islandOn .spl = true →
      ∃ z, exec (.healthRecordRx u record) s = .next z ∧ (z.unit u).flt.health.pgen = nextGen (s.unit u).flt.health.pgen) ∧
  (∀ (s : State) (u : UnitId) (t : Instant) (cyc : BitVec 32), ∃ z, exec (.maskWindowEnd u t cyc) s = .next z ∧ z.unit u = (fun x => 
      let gone := x.flt.masked.filter (fun e => decide (2 ≤ e.2))
      let y : UnitSt := { x with flt := { x.flt with masked := x.flt.masked.filter (fun e => decide (e.2 < 2)) } }
      let lines := gone.map (fun e => (e.1, y.srcLine e.1))
      let y : UnitSt := { y with flt := { y.flt with seen := lines.foldl (fun m e => sset (fun _ => 0) m e.1 e.2) y.flt.seen } }
      (y.latch (lines.filter (fun e => e.2 != 0)) t cyc.toNat).tick t) (s.unit u) ∧ z.pending = s.pending ∧ z.unit u.other = s.unit u.other ∧ z.cells = s.cells) ∧
  (∀ (s : State) (u : UnitId) , (s.unit u).islandOn .spl = true →
      ((s.unit u).bit GEN_CFG.PFEN && !(s.unit u).isHolder) = true →
      ∃ z, exec (.partnerResetRx u) s = .next z ∧ z.unit u = (fun x => x.resetTo 4) (s.unit u) ∧ z.pending = s.pending ∧ z.unit u.other = s.unit u.other ∧ z.cells = s.cells) ∧
  (∀ (s : State) (u : UnitId) (q : Requester) (a : BitVec 32) (en : Bool) (t : Instant), a.toNat % 0x1000 = 0x00C →
      (s.unit u).allowed q true a.toNat = true →
      ∃ z, exec (.blockReset (.unit u q) a en t) s = .next z ∧ z.unit u = (fun x => (x.writeWord a.toNat (BitVec.ofNat 32 (2 + b2n en))).blockReset (a.toNat - 0x00C) t) (s.unit u) ∧ z.pending = s.pending ∧ z.unit u.other = s.unit u.other ∧ z.cells = s.cells) ∧
  (∀ (s : State) (c : CellId) (r : CellReq) (a : BitVec 32) (en : Bool) (t : Instant), a.toNat % 0x1000 = 0x00C →
      ∃ z, exec (.blockReset (.cell c r) a en t) s = .next z ∧ z.cell c = (fun x => (x.regWrite r a.toNat (BitVec.ofNat 32 (2 + b2n en)) 0xFFFFFFFF t).2) (s.cell c) ∧ z.pending = s.pending ∧ z.a = s.a ∧ z.b = s.b) ∧
  (∀ (s : State) (u : UnitId) (q : Requester) (a : BitVec 32) (v : Word) (t : Instant), a.toNat % 0x1000 = 0x024 →
      (s.unit u).allowed q true a.toNat = true →
      ∃ z, exec (.lockWrite (.unit u q) a v t) s = .next z ∧ z.unit u = (fun x => x.writeWord a.toNat v) (s.unit u) ∧ z.pending = s.pending ∧ z.unit u.other = s.unit u.other ∧ z.cells = s.cells) ∧
  (∀ (s : State) (c : CellId) (r : CellReq) (a : BitVec 32) (v : Word) (t : Instant), a.toNat % 0x1000 = 0x024 →
      ∃ z, exec (.lockWrite (.cell c r) a v t) s = .next z ∧ z.cell c = (fun x => (x.regWrite r a.toNat v 0xFFFFFFFF t).2) (s.cell c) ∧ z.pending = s.pending ∧ z.a = s.a ∧ z.b = s.b) ∧
  (∀ (s : State) (u : UnitId) (addr : BitVec 26) (d : Bool) (t : Instant), (s.unit u).works 0x7000 = true →
      ∃ z, exec (.sramEccError (.unit u) addr d t) s = .next z ∧ (z.unit u).fld (if d then MEM_ERR.UE else MEM_ERR.CE) = 1 ∧ (z.unit u).fld (if d then MEM_UEADDR.ADDR else MEM_CEADDR.ADDR) = addr.toNat) ∧
  (∀ (s : State) (c : CellId) (addr : BitVec 26) (d : Bool) (t : Instant), ¬ ((s.cell c).pow = .off ∨ (s.cell c).pow = .dormant) →
      ∃ z, exec (.sramEccError (.cell c) addr d t) s = .next z ∧ (z.cell c).fld (if d then CFLT_ERR.ECCU else CFLT_ERR.ECCC) = 1) ∧
  (∀ (s : State) (u : UnitId) , ((s.unit u).works 0x7000 && (s.unit u).bit MEM_SCRUB.EN) = true →
      ∃ z, exec (.scrubOverrun u) s = .next z ∧ (z.unit u).fld MEM_ERR.SCRUB = 1) ∧
  (∀ (s : State) (u : UnitId) (row : Fin 49152), ((s.unit u).works 0x7000 && (s.unit u).fld MEM_ROWTH.ROWTH != 0 && (s.unit u).mem.rows.any (fun r => r.1 == row.val && decide ((s.unit u).fld MEM_ROWTH.ROWTH ≤ r.2.1)) && !(s.unit u).mem.copy.any (fun c => c.1 == row.val)) = true →
      ∃ z, exec (.rowRetire u row) s = .next z ∧ z.unit u = (fun x => x.rowCopy row.val false) (s.unit u) ∧ z.pending = s.pending ∧ z.unit u.other = s.unit u.other ∧ z.cells = s.cells) ∧
  (∀ (s : State) (u : UnitId) (row : Fin 49152) (t : Instant) (r : Nat) (req : Bool), (s.unit u).mem.copy.find? (fun c => c.1 == row.val) = some (r, req) →
      ((!(s.unit u).works 0x7000) || (!(s.unit u).maySwitch t)) = false →
      ∃ z, exec (.rowRetireSwitch u row t) s = .next z ∧ z.unit u = (fun x => 
      let m := row.val / 1024
      let y : UnitSt := { x with mem := { x.mem with
        copy := x.mem.copy.filter (fun c => c.1 != row.val)
        rows := x.mem.rows.filter (fun r => r.1 != row.val)
        mapped := if x.mem.mapped.contains row.val then x.mem.mapped else row.val :: x.mem.mapped
        used := sset (fun _ => 0) x.mem.used m (sget (fun _ => 0) x.mem.used m + 1) } }
      let y := (y.set MEM_SPARE.RETIRED (y.fld MEM_SPARE.RETIRED + 1)).set MEM_SPARE.LEFT (y.fld MEM_SPARE.LEFT - 1)
      let y := (y.err MEM_ERR.RETIRE).set MEM_LASTRET.ROW row.val
      let y := if min 32 (Config.spareRows y.id m) ≤ sget (fun _ => 0) y.mem.used m then y.err MEM_ERR.NOSPARE else y
      if req then y.set MEM_RETREQ.RES 1 else y) (s.unit u) ∧ z.pending = s.pending ∧ z.unit u.other = s.unit u.other ∧ z.cells = s.cells) ∧
  (∀ (s : State) (u : UnitId) (row : Fin 49152) (t : Instant), (s.unit u).works 0x7000 = true →
      ∃ z, exec (.rowEntryAgeDrop u row t) s = .next z ∧ (z.unit u).mem.rows = (s.unit u).mem.rows.filter (fun r => !(r.1 == row.val && decide (r.2.2 + (s.unit u).fld MEM_ROWTH.AGE * 3600 * sec ≤ t)))) ∧
  (∀ (s : State) (u : UnitId) (q : Requester) (v : Word), (s.unit u).allowed q true 0x7058 = true →
      ∃ z, exec (.memRetreq u q v) s = .next z ∧ z.unit u = (fun x => if 49152 ≤ v.toNat % 65536 then x.set MEM_RETREQ.RES 3 else (x.set MEM_RETREQ.RES 0).rowCopy (v.toNat % 65536) true) (s.unit u) ∧ z.pending = s.pending ∧ z.unit u.other = s.unit u.other ∧ z.cells = s.cells) ∧
  (∀ (s : State) (u : UnitId) , ∃ z, exec (.unitPowerOnReset u) s = .next z ∧ z.unit u = (fun x => x.resetTo 0) (s.unit u) ∧ z.pending = s.pending ∧ z.unit u.other = s.unit u.other ∧ z.cells = s.cells) ∧
  (∀ (s : State) (r : PinReset), ¬ (((s.unit r.unit).programmer false r.prog).boot = .off) →
      ∃ z, exec (.unitPinReset r) s = .next z ∧ z.unit r.unit = (fun x => (x.programmer false r.prog).resetTo 1) (s.unit r.unit) ∧ z.pending = s.pending ∧ z.unit r.unit.other = s.unit r.unit.other ∧ z.cells = s.cells) ∧
  (∀ (s : State) (u : UnitId) , ∃ z, exec (.unitSupplyLoss u) s = .next z ∧ (z.unit u).boot = .off ∧ (z.unit u).flash = (s.unit u).flash ∧ (z.unit u).regs = (s.unit u).regs.filter (fun e => resetKeeps 0 e.1)) ∧
  (∀ (s : State) (u : UnitId) (q : Requester) (v : Word), (s.unit u).allowed q true 0x4C = true →
      ∃ z, exec (.genRstWrite u q v) s = .next z ∧ z.unit u = (fun x => if v = 0xB007 then x.resetTo 3 else x.err GEN_ERR.RANGE) (s.unit u) ∧ z.pending = s.pending ∧ z.unit u.other = s.unit u.other ∧ z.cells = s.cells) ∧
  (∀ (s : State) (u : UnitId) (q : Requester) (v : Word), (s.unit u).allowed q true 0x50 = true →
      v.toNat % 65536 = 0xB008 →
      (s.unit u).isHolder = true →
      (s.unit u).splUp = true →
      ∃ z, exec (.genPrstWrite u q v) s = .next z ∧ (z.unit u).fld GEN_PRST.RES = 1 ∧ (z.unit u).out = .splice .partnerReset :: (s.unit u).out) ∧
  (∀ (s : State) (u : UnitId) (q : Requester) , (s.unit u).allowed q true 0x58 = true →
      ∃ z, exec (.bootConfirm u q) s = .next z ∧ (z.unit u).fld GEN_BOOT.TRIAL = 0 ∧ (z.unit u).fld GEN_STAT.CONFIRMED = 1) ∧
  (∀ (s : State) (u : UnitId) , (s.unit u).boot = .up ∧ (s.unit u).bit GEN_BOOT.TRIAL = true ∧ (s.unit u).fld GEN_CFG.BOOTTMO ≠ 0 →
      ∃ z, exec (.bootTrialTimeout u) s = .next z ∧ z.unit u = (fun x => x.resetTo 2) (s.unit u) ∧ z.pending = s.pending ∧ z.unit u.other = s.unit u.other ∧ z.cells = s.cells) ∧
  (∀ (s : State) (u : UnitId) (bs : CfgBlocks) (sect : Bytes) (t : Instant), (s.unit u).boot = .up →
      ∃ z, exec (.configLoad u bs sect t) s = .next z ∧ z.unit u = (fun x => 
      let y := (x.tick t).setDigest sect
      if !planOk (cfgTypes bs) (cfgStrands bs) then y.cfgRefuse
      else
        match bs.foldl (fun (o : UnitSt × Bool) b => if o.2 then o.1.applyBlock b t else o) (y, true) with
        | (z, false) => z.cfgRefuse
        | (z, true) =>
          if !z.planHeld then z.cfgRefuse else
          let z := bs.foldl (fun (z : UnitSt) b => z.applyLock b t) z
          { z.set PWR_COND.LOADED 1 with conf := { z.conf with refused := false } }) (s.unit u) ∧ z.pending = s.pending ∧ z.unit u.other = s.unit u.other ∧ z.cells = s.cells) ∧
  (∀ (s : State) (u : UnitId) (q : Requester) (c : Fin 96) (v : Word), (s.unit u).allowed q true (LPE_CHCFG.EN.addr c.val) = true →
      (s.unit u).bit LPE_CHCFG.EN c.val = false →
      bitAt v.toNat 31 = true →
      ((s.unit u).setWord (LPE_CHCFG.EN.addr c.val) (v &&& 0x3F9C0000)).mayEnable c.val = true →
      ∃ z, exec (.lpeChcfgWrite u q c v) s = .next z ∧ z.unit u = (fun x => (x.setWord (LPE_CHCFG.EN.addr c.val) (v &&& 0x3F9C0000)).set LPE_CHCFG.EN 1 c.val) (s.unit u) ∧ z.pending = s.pending ∧ z.unit u.other = s.unit u.other ∧ z.cells = s.cells) ∧
  (∀ (s : State) (u : UnitId) (q : Requester) (c : Fin 96) (v : Word), (s.unit u).allowed q true (LPE_CHCFG.EN.addr c.val) = true →
      (s.unit u).bit LPE_CHCFG.EN c.val = true →
      bitAt v.toNat 31 = false →
      v &&& 0x3F9C0000 = ((s.unit u).word (LPE_CHCFG.EN.addr c.val) &&& 0x3F9C0000) →
      ∃ z, exec (.lpeChcfgWrite u q c v) s = .next z ∧ z.unit u = (fun x => (x.set LPE_CHCFG.EN 0 c.val).onChan c.val (fun k => { k with cleared := true })) (s.unit u) ∧ z.pending = s.pending ∧ z.unit u.other = s.unit u.other ∧ z.cells = s.cells) ∧
  (∀ (s : State) (u : UnitId) (q : Requester) (v : Word) (pn : Nat), (s.unit u).allowed q true 0x23044 = true →
      pn = (if bitAt v.toNat 30 = true then (s.unit u).pn + 2 else (s.unit u).pair LPE_SWAPPN_LO.PN_LO LPE_SWAPPN_HI.PN_HI) →
      (s.unit u).swapCode { ch := v.toNat % 128, bank := v.toNat / 2 ^ 31, n := v.toNat / 65536 % 8192, pn := pn, last := true } = 1 →
      ((s.unit u).set LPE_SWAPRES.RES 1).splUp = true →
      ∃ z, exec (.lpeSwapReq u q v) s = .next z ∧ z.unit u = (fun x => 
      let y := x.set LPE_SWAPRES.RES 1
      let clear (c : ChanSt) : ChanSt := { c with due := c.due.map (fun q => { q with last := false }) }
      let y : UnitSt := { y with lpe := { y.lpe with queue := y.lpe.queue.map (fun q => { q with last := false }) ++ [{ ch := v.toNat % 128, bank := v.toNat / 2 ^ 31, n := v.toNat / 65536 % 8192, pn := pn, last := true }], chs := y.lpe.chs.foldl (fun m e => sset (fun _ => {}) m e.1 (clear e.2)) [] } }
      y.emit (.splice (.swap (v.toNat % 128) (v.toNat / 2 ^ 31) (v.toNat / 65536 % 8192) pn))) (s.unit u) ∧ z.pending = s.pending ∧ z.unit u.other = s.unit u.other ∧ z.cells = s.cells) ∧
  (∀ (s : State) (u : UnitId) (ch : Fin 128) (bank : Fin 2) (n : Fin 8192) (pn : BitVec 48), (s.unit u).works 0x23000 = true →
      (s.unit u).swapCode { ch := ch.val, bank := bank.val, n := n.val, pn := pn.toNat, last := false } = 1 →
      ∃ z, exec (.swapReqRx u ch bank n pn) s = .next z ∧ z.unit u = (fun x => { x with lpe := { x.lpe with queue := x.lpe.queue ++ [{ ch := ch.val, bank := bank.val, n := n.val, pn := pn.toNat, last := false }] } }) (s.unit u) ∧ z.pending = s.pending ∧ z.unit u.other = s.unit u.other ∧ z.cells = s.cells) ∧
  (∀ (s : State) (u : UnitId) (ch : Fin 128) (bank : Fin 2) (n : Fin 8192) (pn : BitVec 48), (s.unit u).works 0x23000 = true →
      ¬ ((s.unit u).swapCode { ch := ch.val, bank := bank.val, n := n.val, pn := pn.toNat, last := false } = 1) →
      ∃ z, exec (.swapReqRx u ch bank n pn) s = .next z ∧ z.unit u = (fun x => x.emit (.splice (.swapRefusal ch.val (x.swapCode { ch := ch.val, bank := bank.val, n := n.val, pn := pn.toNat, last := false })))) (s.unit u) ∧ z.pending = s.pending ∧ z.unit u.other = s.unit u.other ∧ z.cells = s.cells) ∧
  (∀ (s : State) (u : UnitId) (ch : Fin 128) (res : Fin 8), (s.unit u).works 0x23000 = true →
      ∃ z, exec (.swapRefusalRx u ch res) s = .next z ∧ z.unit u = (fun x => x.err LPE_ERR.SPLONE) (s.unit u) ∧ z.pending = s.pending ∧ z.unit u.other = s.unit u.other ∧ z.cells = s.cells) ∧
  (∀ (s : State) (u : UnitId) (r : SwapReq), (s.unit u).works 0x23000 = true →
      (s.unit u).lpe.queue = [r] →
      r.pn ≤ (s.unit u).pn →
      (({ (s.unit u) with lpe := { (s.unit u).lpe with queue := [] } } : UnitSt).chan r.ch).on = true →
      ∃ z, exec (.swapEffect u) s = .next z ∧ z.unit u = (fun x => ({ x with lpe := { x.lpe with queue := [] } } : UnitSt).onChan r.ch (fun c => { c with due := c.due ++ [r] })) (s.unit u) ∧ z.pending = s.pending ∧ z.unit u.other = s.unit u.other ∧ z.cells = s.cells) ∧
  (∀ (s : State) (u : UnitId) (q : Requester) (v : Word), (s.unit u).allowed q true 0x23058 = true →
      v.toNat % 128 < 96 ∧ (s.unit u).spares.contains (v.toNat / 256 % 128) = true →
      ∃ z, exec (.lpeMoveReq u q v) s = .next z ∧ z.unit u = (fun x => (fun y : UnitSt => { y with lpe := { y.lpe with moves := (v.toNat % 128, v.toNat / 256 % 128) :: y.lpe.moves.filter (fun m => m.1 != v.toNat % 128) } }) (x.set LPE_MOVE.RES 1)) (s.unit u) ∧ z.pending = s.pending ∧ z.unit u.other = s.unit u.other ∧ z.cells = s.cells) ∧
  (∀ (s : State) (u : UnitId) (q : Requester) (st h : Nat), (s.unit u).allowed q true 0x220F8 = true →
      st = (s.unit u).fld CLP_SEL.STRAND →
      h = (s.unit u).fld CLP_SEL.HOP →
      (s.unit u).isCell st h = true →
      ∃ z, exec (.clpCmdSeed u q) s = .next z ∧ z.unit u = (fun x => 
      let o : ClpOp := { op := 1, key := st * 64 + h, c := x.word 0x220F0, esr := x.word 0x220F4, pn := x.nextCompute, own := true }
      let y : UnitSt := { x.set CLP_CMD.RES 4 with clp := { x.clp with cmds := x.clp.cmds ++ [o] } }
      if y.splUp then y.emit (.splice (.clpCmd 1 st h o.c o.esr o.pn)) else y) (s.unit u) ∧ z.pending = s.pending ∧ z.unit u.other = s.unit u.other ∧ z.cells = s.cells) ∧
  (∀ (s : State) (u : UnitId) (q : Requester) (st h : Nat), (s.unit u).allowed q true 0x220F8 = true →
      st = (s.unit u).fld CLP_SEL.STRAND →
      h = (s.unit u).fld CLP_SEL.HOP →
      (s.unit u).isCell st h = true →
      ∃ z, exec (.clpCmdRetire u q) s = .next z ∧ z.unit u = (fun x => 
      let o : ClpOp := { op := 2, key := st * 64 + h, c := x.word 0x220F0, esr := x.word 0x220F4, pn := x.nextCompute, own := true }
      let y : UnitSt := { x.set CLP_CMD.RES 4 with clp := { x.clp with cmds := x.clp.cmds ++ [o] } }
      if y.splUp then y.emit (.splice (.clpCmd 2 st h o.c o.esr o.pn)) else y) (s.unit u) ∧ z.pending = s.pending ∧ z.unit u.other = s.unit u.other ∧ z.cells = s.cells) ∧
  (∀ (s : State) (u : UnitId) (q : Requester) (st h : Nat), (s.unit u).allowed q true 0x220F8 = true →
      st = (s.unit u).fld CLP_SEL.STRAND →
      h = (s.unit u).fld CLP_SEL.HOP →
      (s.unit u).isCell st h = true →
      ∃ z, exec (.clpCmdUnretire u q) s = .next z ∧ z.unit u = (fun x => 
      let o : ClpOp := { op := 3, key := st * 64 + h, c := x.word 0x220F0, esr := x.word 0x220F4, pn := x.nextCompute, own := true }
      let y : UnitSt := { x.set CLP_CMD.RES 4 with clp := { x.clp with cmds := x.clp.cmds ++ [o] } }
      if y.splUp then y.emit (.splice (.clpCmd 3 st h o.c o.esr o.pn)) else y) (s.unit u) ∧ z.pending = s.pending ∧ z.unit u.other = s.unit u.other ∧ z.cells = s.cells) ∧
  (∀ (s : State) (u : UnitId) (q : Requester) (st h : Nat), (s.unit u).allowed q true 0x220F8 = true →
      st = (s.unit u).fld CLP_SEL.STRAND →
      h = (s.unit u).fld CLP_SEL.HOP →
      (s.unit u).isCell st h = true →
      ∃ z, exec (.clpCmdClrchk u q) s = .next z ∧ z.unit u = (fun x => 
      let o : ClpOp := { op := 4, key := st * 64 + h, c := x.word 0x220F0, esr := x.word 0x220F4, pn := x.nextCompute, own := true }
      let y : UnitSt := { x.set CLP_CMD.RES 4 with clp := { x.clp with cmds := x.clp.cmds ++ [o] } }
      if y.splUp then y.emit (.splice (.clpCmd 4 st h o.c o.esr o.pn)) else y) (s.unit u) ∧ z.pending = s.pending ∧ z.unit u.other = s.unit u.other ∧ z.cells = s.cells) ∧
  (∀ (s : State) (u : UnitId) (op : Fin 8) (c : CellId) (cp esr : Word) (pn : BitVec 48), (s.unit u).inQuiet = false →
      (s.unit u).works 0x22000 = true →
      ∃ z, exec (.clpCmdRx u op c cp esr pn) s = .next z ∧ z.unit u = (fun x => { x with clp := { x.clp with cmds := x.clp.cmds ++ [{ op := op.val, key := c.key, c := cp, esr := esr, pn := pn.toNat, own := false }] } }) (s.unit u) ∧ z.pending = s.pending ∧ z.unit u.other = s.unit u.other ∧ z.cells = s.cells) ∧
  (∀ (s : State) (u : UnitId) (q : Requester) , (s.unit u).allowed q false 0x220B0 = true →
      ∃ z, exec (.clpRecRead u q) s = .next z ∧ z.unit u = (fun x => x.onReq q (fun r => { r with rdata := x.recWords.headD 0, latch := (List.range 15).map (fun i => (0x220B4 + 4 * i, x.recWords.getD (i + 1) 0)) })) (s.unit u) ∧ z.pending = s.pending ∧ z.unit u.other = s.unit u.other ∧ z.cells = s.cells) ∧
  (∀ (s : State) (u : UnitId) (q : Requester) , (s.unit u).allowed q true 0x310C0 = true →
      ¬ ((s.unit u).fld REEL_STAT.CAP = 1 ∨ (s.unit u).fld REEL_STAT.CAP = 2) →
      ¬ ((s.unit u).fld REEL_RSIZE.SIZE = 0) →
      ¬ ((s.unit u).fld REEL_RSIZE.SIZE < 16 ∨ 2 ^ 20 < (s.unit u).fld REEL_RSIZE.SIZE ∨ (s.unit u).fld REEL_RBASE_LO.ADDR_LO % 4096 ≠ 0) →
      (s.unit u).reelOver ((s.unit u).fld TIM_PERIOD.T) = false →
      ∃ z, exec (.reelStart u q) s = .next z ∧ z.unit u = (fun x => { x.set REEL_CMD.RES 1 with reel := { x.reel with start := true } }) (s.unit u) ∧ z.pending = s.pending ∧ z.unit u.other = s.unit u.other ∧ z.cells = s.cells) ∧
  (∀ (s : State) (u : UnitId) (q : Requester) , (s.unit u).allowed q true 0x310C0 = true →
      ((s.unit u).fld REEL_STAT.CAP = 1 ∨ (s.unit u).fld REEL_STAT.CAP = 2) →
      ∃ z, exec (.reelHalt u q) s = .next z ∧ z.unit u = (fun x => { x.set REEL_CMD.RES 1 with reel := { x.reel with ending := some (x.reel.ending.getD 1) } }) (s.unit u) ∧ z.pending = s.pending ∧ z.unit u.other = s.unit u.other ∧ z.cells = s.cells) ∧
  (∀ (s : State) (u : UnitId) (q : Requester) (t : Instant), ((s.unit u).tick t).allowed q true 0x310C0 = true →
      (((s.unit u).tick t).fld REEL_STAT.CAP = 1 ∨ ((s.unit u).tick t).fld REEL_STAT.CAP = 2) →
      ∃ z, exec (.reelMark u q t) s = .next z ∧ z.unit u = (fun x => ((x.tick t).set REEL_CMD.RES 1).addMark { time := t / 65536, qual := 5, frac := 0, kind := 2, num := 0, stop := false, fall := false, value := 0, post := 0, pn := (x.tick t).pnOf t }) (s.unit u) ∧ z.pending = s.pending ∧ z.unit u.other = s.unit u.other ∧ z.cells = s.cells) ∧
  (∀ (s : State) (u : UnitId) (num : Fin 16) (qual frac : Fin 8) (fall : Bool) (time : Nat), (s.unit u).inQuiet = false →
      ∃ z, exec (.xtrigRx u num qual frac fall time) s = .next z ∧ z.unit u = (fun x => x.reelPartner num.val qual.val frac.val fall time) (s.unit u) ∧ z.pending = s.pending ∧ z.unit u.other = s.unit u.other ∧ z.cells = s.cells) ∧
  (∀ (s : State) (u : UnitId) (p : ReelSnap), (!(s.unit u).works 0x31000 || !(s.unit u).tim.counting || (s.unit u).pn == 0) = false →
      (s.unit u).reel.snap = some p →
      ((s.unit u).capturing && p.pn + 1 == (s.unit u).pn) = true →
      ∃ z, exec (.reelPeriodClose u) s = .next z ∧ z.unit u = (fun x => (fun y : UnitSt => ({ y with reel := { y.reel with snap := none, closed := y.pn - 1 } } : UnitSt).takeTriggers) (x.closeSet p)) (s.unit u) ∧ z.pending = s.pending ∧ z.unit u.other = s.unit u.other ∧ z.cells = s.cells) ∧
  (∀ (s : State) (u : UnitId) (r : ReelRec) (rest : List ReelRec), ((s.unit u).works 0x31000 && (s.unit u).bit PCIE_LINK.UP && (s.unit u).bit PCIE_LINK.BME0 && (s.unit u).ringSize != 0) = true →
      (s.unit u).reel.staging = r :: rest →
      (s.unit u).ringSize - (s.unit u).fld REEL_WPTR.WPTR ≥ r.size →
      (s.unit u).ringFill + 0 + r.size + 8 ≤ (s.unit u).ringSize →
      ∃ z, exec (.reelRingWrite u) s = .next z ∧ z.unit u = (fun x => 
      let y := x.ringPut (recBytes r.rtype r.flags (r.size / 8) (x.fld REEL_SEQ.SEQ) r.pn r.sub r.body)
      let y := if r.last then y.writeBack else y
      let y := ({ y.set REEL_STAT.STALL 0 with reel := { y.reel with staging := rest } } : UnitSt).showStage
      if y.fld REEL_FILL.HTH * x.ringSize ≤ y.ringFill * 256 then y.evt REEL_EVT.FILL else y) (s.unit u) ∧ z.pending = s.pending ∧ z.unit u.other = s.unit u.other ∧ z.cells = s.cells) ∧
  (∀ (s : State) (u : UnitId) (n : Fin 4) (lost : Bool) (errs : Fin 65536), (s.unit u).inQuiet = false →
      (lost || decide (((s.unit u).set SPL_CNT1.BLKERR (min 65535 ((s.unit u).fld SPL_CNT1.BLKERR + errs.val))).fld SPL_BERTH.BERTH < errs.val)) = true →
      ((if lost then (((s.unit u).set SPL_CNT1.BLKERR (min 65535 ((s.unit u).fld SPL_CNT1.BLKERR + errs.val))).set SPL_LSTAT.LOCK 0 n.val).showLanes else (s.unit u).set SPL_CNT1.BLKERR (min 65535 ((s.unit u).fld SPL_CNT1.BLKERR + errs.val))).bit SPL_LSTAT.RET n.val) = false →
      ∃ z, exec (.spliceLaneRetire u n lost errs) s = .next z ∧ z.unit u = (fun x => 
      let y := x.set SPL_CNT1.BLKERR (min 65535 (x.fld SPL_CNT1.BLKERR + errs.val))
      let y := if lost then (y.set SPL_LSTAT.LOCK 0 n.val).showLanes else y
      let y := (y.set SPL_LSTAT.RET 1 n.val).err SPL_ERR.LANE
      match y.logOf n.val with
      | none => y
      | some l =>
        if !y.bit SPL_LANEMAP.AUTOSP then y
        else if y.bit SPL_LSTAT.RET (y.laneOf (1 - l)) then { (y.moveLane 0).moveLane 1 with spl := { y.spl with announce := none, moves := [] } }
        else { y with spl := { y.spl with announce := some n } }) (s.unit u) ∧ z.pending = s.pending ∧ z.unit u.other = s.unit u.other ∧ z.cells = s.cells) ∧
  (∀ (s : State) (u : UnitId) , ¬ ((s.unit u).inQuiet = true ∨ (!(s.unit u).bit SPL_LANEMAP.AUTOSP) = true) →
      ∃ z, exec (.spliceLaneMove u) s = .next z ∧ z.unit u = (fun x => 
      let due := (x.spl.moves.filter (fun m => decide (m.2 ≤ x.pn))).map (·.1)
      due.foldl (fun y l => y.moveLane l) { x with spl := { x.spl with moves := x.spl.moves.filter (fun m => !decide (m.2 ≤ x.pn)) } }) (s.unit u) ∧ z.pending = s.pending ∧ z.unit u.other = s.unit u.other ∧ z.cells = s.cells) ∧
  (∀ (s : State) (u : UnitId) (q : Requester) (v : Word) (p : Nat), (s.unit u).allowed q true 0x32048 = true →
      bitAt v.toNat 31 = true →
      p = (if bitAt v.toNat 30 = true then (s.unit u).pn + 3 else (s.unit u).pair LSE_HOVPN_LO.PN_LO LSE_HOVPN_HI.PN_HI) →
      (s.unit u).isHolder = true →
      ((s.unit u).splUp && (s.unit u).lse.partReady) = true →
      (s.unit u).pn + 3 ≤ p →
      ∃ z, exec (.handoverReq u q v) s = .next z ∧ z.unit u = (fun x => (fun y : UnitSt => ({ y with lse := { y.lse with hovP := some p, hovAcked := false, hovMine := true } } : UnitSt).emit (.splice (.hovReq p))) (x.set LSE_HOV.RES 0)) (s.unit u) ∧ z.pending = s.pending ∧ z.unit u.other = s.unit u.other ∧ z.cells = s.cells) ∧
  (∀ (s : State) (u : UnitId) (p : BitVec 48), (s.unit u).ready = true →
      (s.unit u).inQuiet = false →
      ∃ z, exec (.hovreqRx u p) s = .next z ∧ z.unit u = (fun x => ({ x with lse := { x.lse with hovP := some p.toNat, hovAcked := true, hovMine := false } } : UnitSt).emit (.splice (.hovAck p.toNat))) (s.unit u) ∧ z.pending = s.pending ∧ z.unit u.other = s.unit u.other ∧ z.cells = s.cells) ∧
  (∀ (s : State) (u : UnitId) (p : BitVec 48), (s.unit u).lse.hovMine = true →
      (s.unit u).lse.hovP = some p.toNat →
      (s.unit u).lse.hovAcked = false →
      (s.unit u).isHolder = true →
      (s.unit u).hovInTime p.toNat = true →
      ∃ z, exec (.hovackRx u p) s = .next z ∧ z.unit u = (fun x => { x.set LSE_HOV.RES 1 with lse := { x.lse with hovAcked := true } }) (s.unit u) ∧ z.pending = s.pending ∧ z.unit u.other = s.unit u.other ∧ z.cells = s.cells) ∧
  (∀ (s : State) (u : UnitId) (p : Nat), (s.unit u).lse.hovP = some p →
      ((s.unit u).lse.hovMine = true ∧ (!(s.unit u).lse.hovAcked) = true ∧ p ≤ (s.unit u).pn + 3) →
      (((s.unit u).hovRefuse 5).hovForget).flt.escWait = none →
      ∃ z, exec (.handoverDeadline u) s = .next z ∧ z.unit u = (fun x => (x.hovRefuse 5).hovForget) (s.unit u) ∧ z.pending = s.pending ∧ z.unit u.other = s.unit u.other ∧ z.cells = s.cells) ∧
  (∀ (s : State) (u : UnitId) (p : Nat), (s.unit u).lse.hovP = some p →
      (s.unit u).lse.hovAcked = true →
      (s.unit u).pn + 1 = p →
      (s.unit u).lse.hovMine = true →
      (s.unit u).isHolder = true →
      ∃ z, exec (.handoverSwitch u) s = .next z ∧ z.unit u = (fun x => 
      let y : UnitSt := { x with lse := { x.lse with seen := some (max x.seenEpoch ((x.lse.epoch + 1) % 2 ^ 32)) }, flt := { x.flt with escWait := none } }
      ((y.standby).set LSE_HOV.RES 2).inc LSE_CNT2.HOV) (s.unit u) ∧ z.pending = s.pending ∧ z.unit u.other = s.unit u.other ∧ z.cells = s.cells) ∧
  (∀ (s : State) (u : UnitId) (p : Nat), (s.unit u).lse.hovP = some p →
      (s.unit u).lse.hovAcked = true →
      (s.unit u).pn + 1 = p →
      (s.unit u).lse.hovMine = false →
      (s.unit u).lstate = 0 →
      ∃ z, exec (.handoverSwitch u) s = .next z ∧ z.unit u = (fun x => ((x.setLstate 2).setEpoch (x.seenEpoch + 1)).showRelay []) (s.unit u) ∧ z.pending = s.pending ∧ z.unit u.other = s.unit u.other ∧ z.cells = s.cells) ∧
  (∀ (s : State) (u : UnitId) (q : Requester) (port : Fin 6) (v : Word), (s.unit u).allowed q true (0x2021C + 0x40 * port.val) = true →
      ∃ z, exec (.hbxSubmit u q port v) s = .next z ∧ z.unit u = (fun x => 
      let y := x.set HBX_SUBD.D v.toNat (8 * port.val + 7)
      let r := y.submit port.val (descOf (fun i => BitVec.ofNat 32 (y.fld HBX_SUBD.D (8 * port.val + i))))
      (r.2.2.set HBX_SUBRES.CODE r.1 port.val).set HBX_SUBRES.ID r.2.1 port.val) (s.unit u) ∧ z.pending = s.pending ∧ z.unit u.other = s.unit u.other ∧ z.cells = s.cells) ∧
  (∀ (s : State) (u : UnitId) (t : Instant) (d : Txn), ((s.unit u).tick t).fenced = false →
      ((s.unit u).tick t).hbx.delay = [d] →
      dueIn (((s.unit u).tick t).now / 65536000) d.desc.at_ = 0 →
      ((s.unit u).tick t).queueDepth d.desc < 256 →
      ((s.unit u).tick t).works 0x20000 = true →
      ∃ z, exec (.hbxTimedRelease u t) s = .next z ∧ z.unit u = (fun x => (fun y : UnitSt => (({ y with hbx := { y.hbx with delay := [] } } : UnitSt).enqueue d).hbxShow (d.id / 8192) d.desc) (x.tick t)) (s.unit u) ∧ z.pending = s.pending ∧ z.unit u.other = s.unit u.other ∧ z.cells = s.cells) ∧
  (∀ (s : State) (u : UnitId) , (s.unit u).works 0x20000 = true →
      ∃ z, exec (.hbxReplyMissing u) s = .next z ∧ z.unit u = (fun x => 
      let late := x.views.flatMap (fun kv => (kv.2.tags.filter (fun e => decide (x.fld HBX_CFG.NREP ≤ e.2.2))).map (fun e => (kv.1, e.1, e.2.1)))
      late.foldl (fun y l =>
        let y := (y.onView l.1 (fun v => { v with tags := v.tags.filter (fun e => e.1 != l.2.1) })).inc HBX_CNT2.NOREPLY
        { y with hbx := { y.hbx with held := y.hbx.held.map (fun t => if t.id == l.2.2 then { t with parts := t.parts.map (fun p => if p.1 == l.1 then (p.1, .missing) else p) } else t) } }) x) (s.unit u) ∧ z.pending = s.pending ∧ z.unit u.other = s.unit u.other ∧ z.cells = s.cells) ∧
  (∀ (s : State) (u : UnitId) , ¬ ((s.unit u).fld HBX_STAT.MODE = 0) →
      (s.unit u).works 0x20000 = true →
      ∃ z, exec (.hbxTimeout u) s = .next z ∧ z.unit u = (fun x => ((x.hbx.held ++ x.hbx.delay).filter (fun t => (t.desc.kind == kEntry || t.desc.kind == kBulk || t.desc.kind == kWait || t.desc.kind == kEnum) && decide ((if t.desc.tmo = 0 then x.fld HBX_CFG.TMODEF else t.desc.tmo) ≤ t.age))).foldl (fun y t => y.hbxFinish t stTimeout 0) x) (s.unit u) ∧ z.pending = s.pending ∧ z.unit u.other = s.unit u.other ∧ z.cells = s.cells) ∧
  (∀ (s : State) (u : UnitId) (q : Requester) (port : Fin 6), (s.unit u).allowed q false (0x20224 + 0x40 * port.val) = true →
      sget (fun _ => []) (s.unit u).hbx.fifo port.val = [] →
      ∃ z, exec (.hbxCplRead u q port) s = .next z ∧ z.unit u = (fun x => (x.setWord (HBX_CPL0.ID.addr port.val) 0).answer q 0) (s.unit u) ∧ z.pending = s.pending ∧ z.unit u.other = s.unit u.other ∧ z.cells = s.cells) ∧
  (∀ (s : State) (u : UnitId) (q : Requester) (port : Fin 6) (c : Cpl) (l : List Cpl), (s.unit u).allowed q false (0x20224 + 0x40 * port.val) = true →
      sget (fun _ => []) (s.unit u).hbx.fifo port.val = c :: l →
      ∃ z, exec (.hbxCplRead u q port) s = .next z ∧ z.unit u = (fun x =>
      let y : UnitSt := { x with hbx := { x.hbx with fifo := sset (fun _ => []) x.hbx.fifo port.val l } }
      let y := ((y.set HBX_CPL0.VALID 1 port.val).set HBX_CPL0.STATUS c.status port.val).set HBX_CPL0.ID c.id port.val
      let y := ((y.set HBX_CPL1.RDATA c.rdata.toNat port.val).set HBX_CPL2.NREP c.nrep port.val).set HBX_CPL2.NFAIL c.nfail port.val
      let y := (y.set HBX_CPL3.NMISS c.nmiss port.val).set HBX_CPL3.PN c.pn port.val
      let y := (y.set HBX_PSTAT.CPLCNT l.length port.val).set HBX_PSTAT.OUT (y.hbxOut port.val) port.val
      y.answer q (y.word (HBX_CPL0.ID.addr port.val))) (s.unit u) ∧ z.pending = s.pending ∧ z.unit u.other = s.unit u.other ∧ z.cells = s.cells) ∧
  (∀ (s : State) (u : UnitId) (q : Requester) (v : Word), (s.unit u).allowed q true 0x20044 = true →
      ∃ z, exec (.hbxFlush u q v) s = .next z ∧ z.unit u = (fun x => 
      let ids := (x.hbx.held.filter (fun t => t.sentOn == [] && (if bitAt v.toNat 31 then t.desc.bcast else !t.desc.bcast && t.desc.strand == v.toNat % 128))).map (·.id)
      ((x.hbx.held ++ x.hbx.delay).filter (fun t => ids.contains t.id)).foldl (fun y t => y.hbxFinish t stFlushed 0) x) (s.unit u) ∧ z.pending = s.pending ∧ z.unit u.other = s.unit u.other ∧ z.cells = s.cells) ∧
  (∀ (s : State) (u : UnitId), (s.unit u).mirrors = true →
      (s.unit u).lse.rsTx = [] →
      exec (.mirrorSend u) s = .next (
      let seq := ((s.unit u).lse.mirSeq + 1) % 2 ^ 32
      let r := (s.unit u).mirrorRecord seq
      (s.onUnit u (fun x => (({ x with lse := { x.lse with mirSeq := seq } } : UnitSt).say (.mirror r)).say (.commit seq x.pn (leAt r 8188 4)))).onUnit u.other (fun y =>
        if y.inQuiet || y.isHolder || y.fenced then y else { y with lse := { y.lse with mirRx := some r } }))) ∧
  (∀ (s : State) (u : UnitId) (record : Bytes) (seq : BitVec 32) (pn : BitVec 48) (crc : BitVec 32), ((s.unit u).inQuiet || (s.unit u).isHolder || (s.unit u).fenced) = false →
      ∃ z, exec (.mirrorCommitRx u record seq pn crc) s = .next z ∧ z.unit u = (fun x => if record.length = 8192 ∧ crc32 (record.take 8188) = leAt record 8188 4 ∧ leAt record 8188 4 = crc.toNat then
        (fun y : UnitSt => { y with lse := { y.lse with mirror := record, mirRx := none } }) ((x.set LSE_MIRSEQ.SEQ seq.toNat).setPair LSE_MIRPN_LO.PN_LO LSE_MIRPN_HI.PN_HI pn.toNat)
      else { x with lse := { x.lse with mirRx := some record } }) (s.unit u) ∧ z.pending = s.pending ∧ z.unit u.other = s.unit u.other ∧ z.cells = s.cells) ∧
  (∀ (s : State) (u : UnitId) (arm : Fin 6), (!(s.unit u).isHolder || (s.unit u).inQuiet || (s.unit u).lse.rsAsk.contains arm.val || (s.unit u).lse.rsTx.any (fun t => t.1 == arm.val)) = false →
      ∃ z, exec (.resyncReqRx u arm) s = .next z ∧ z.unit u = (fun x => { x with lse := { x.lse with rsAsk := x.lse.rsAsk ++ [arm.val] } }) (s.unit u) ∧ z.pending = s.pending ∧ z.unit u.other = s.unit u.other ∧ z.cells = s.cells) ∧
  (∀ (s : State) (u : UnitId) (arm : Fin 6) (m : BitVec 48) (data : Bytes), ((s.unit u).inQuiet || !(s.unit u).lse.rsWant.contains arm.val) = false →
      ∃ z, exec (.resyncBlockRx u arm m 0 data) s = .next z ∧ z.unit u = (fun x => { x with lse := { x.lse with rsRx := { arm := arm.val, m := m.toNat, data := data, own := ((x.lse.rsOwn.find? (fun o => o.1 == m.toNat && o.2.1 == arm.val)).map (·.2.2)).getD [] } :: x.lse.rsRx.filter (fun r => r.arm != arm.val), rsOwn := x.lse.rsOwn.filter (fun o => o.2.1 != arm.val) } }) (s.unit u) ∧ z.pending = s.pending ∧ z.unit u.other = s.unit u.other ∧ z.cells = s.cells) ∧
  (∀ (s : State) (u : UnitId) (arm : Fin 6) (m : BitVec 48) (blk : Nat) (data : Bytes), ((s.unit u).inQuiet || !(s.unit u).lse.rsWant.contains arm.val) = false →
      blk ≠ 0 →
      ∃ z, exec (.resyncBlockRx u arm m blk data) s = .next z ∧ z.unit u = (fun x => { x with lse := { x.lse with rsRx := x.lse.rsRx.map (fun r => if r.arm = arm.val ∧ r.m = m.toNat ∧ r.data.length = 4096 * blk then { r with data := r.data ++ data } else r) } }) (s.unit u) ∧ z.pending = s.pending ∧ z.unit u.other = s.unit u.other ∧ z.cells = s.cells) ∧
  (∀ (s : State) (u : UnitId) (arm : Fin 6) (rx : RsRx), (s.unit u).lse.rsRx.find? (fun r => r.arm == arm.val) = some rx →
      ¬ (rx.data.length < 64 * ((s.unit u).armCells arm.val).length ∨ (!(s.unit u).works 0x22000) = true) →
      ∃ z, exec (.resyncApply u arm) s = .next z ∧ z.unit u = (fun x => 
      let y : UnitSt := { x with lse := { x.lse with rsRx := x.lse.rsRx.filter (fun r => r.arm != arm.val), rsWant := x.lse.rsWant.filter (· != arm.val) } }
      ((List.range (x.armCells arm.val).length).foldl (fun (y : UnitSt) i => y.onRec ((x.armCells arm.val).getD i 0) (fun r => r.resync (slice rx.data (64 * i) 64) (rx.own.getD i (r.vf, r.q)))) y).showClp) (s.unit u) ∧ z.pending = s.pending ∧ z.unit u.other = s.unit u.other ∧ z.cells = s.cells)

/-- Each clause names a command of a cell, conditions on the state and the operands alone under which it completes, and what the next state holds: of a register command the result its requester reads; of an entry the reply queued last, with its requester, tag, data and error mark. Adoption keeps the accepted slot or coasts. CSW_CCMT and CMEAS_SYNC wait for the boundary, as an edge of the sync pin. A read of INJRES clears NEW. Loss of power leaves the cell off with what FRAM holds; the dormant time-out leaves it Dormant with supply and ALIVE undriven. An inactive source clears its RAW bit. The watchdog and a failed clock stop ALIVE low. The supply turns on, and off after TON, at the limit or above VOV. Orphan blocking shows OBLK. The servo enters Locked, or from Locked Holdover, Search with both ports out of lock. TAIL shows the tail and its end. LOCK shows a port of a unit in lock. A search toggles the rate listened at, and a line search starts both ports at full rate. ECHO answers or forwards; the challenge is answered by its signature. Of every other command named, what the cell becomes is the term of the clause, and both units and the queue stay as they were. The definitions it names carry choices of the model: log entries 9, 13, 16, 18, 20, 21, 24, 40, 68, 69, 70, 92, 116, 144, 150, 151, 152, 153, 154, 156, 157, 158, 159, 161, 162, 163, 166, 173, 175, 179, 180, 181, 182, 183, 184, 185, 186, 187, 188, 191, 192, 193, 194, 195, 196, 198, 199, 216, 222, 230, 236. -/
def Obligations.CellCommandsComplete : Prop :=
  (∀ (s : State) (c : CellId) (leg : Fin 2) (d : Chg), ((s.cell c).leg leg.val).sched = [d] →
      ((s.cell c).leg leg.val).refr = none →
      ((s.cell c).leg leg.val).calls = [] →
      (s.cell c).upcoming leg.val d.at_ = [] →
      (s.cell c).eat = false →
      ∃ z, exec (.swChange c leg) s = .next z ∧ z.cell c = (fun x =>
      let y := (x.legGatesOff leg.val).tick d.at_
      let y := y.setLeg leg.val { (y.leg leg.val) with cmd := d.leg, sched := [], calls := (y.leg leg.val).calls ++ (if d.leg = .off then [] else [(d.at_ + x.deadTime d.at_, d.leg)]) }
      (y.showLeg leg.val).showCode (some d)) (s.cell c) ∧ z.pending = s.pending ∧ z.a = s.a ∧ z.b = s.b) ∧
  (∀ (s : State) (c : CellId) (leg : Fin 2) (due : Instant) (goal : Leg) (rest : List (Instant × Leg)), ((s.cell c).leg leg.val).calls = (due, goal) :: rest →
      ∃ z, exec (.gateCall c leg) s = .next z ∧ z.cell c = (fun x =>
      let y := x.setLeg leg.val { (x.leg leg.val) with calls := rest }
      (if (x.leg leg.val).wanted = goal then
        match gateOf leg.val goal with
        | none => y
        | some g => if (y.gateOn g).isSome then y else y.gateUp g due
      else y.inc CSW_CNT2.LDROP).tick due) (s.cell c) ∧ z.pending = s.pending ∧ z.a = s.a ∧ z.b = s.b) ∧
  (∀ (s : State) (c : CellId) (leg : Fin 2) (t : Instant), (s.cell c).gateOn (2 * leg.val) = some t →
      ((s.cell c).leg leg.val).refr = none →
      (s.cell c).eat = false →
      (s.cell c).bit CSW_CFG.REFR = true →
      CSW_REFR.RINT.get ((s.cell c).refrWord (t + CSW_REFR.RINT.get ((s.cell c).word 0x404C) 0 * us)) 0 ≠ 0 →
      (s.cell c).tim.t0 ≤ t + CSW_REFR.RINT.get ((s.cell c).word 0x404C) 0 * us →
      ((s.cell c).leg leg.val).sched = [] →
      (s.cell c).upcoming leg.val (t + CSW_REFR.RINT.get ((s.cell c).word 0x404C) 0 * us) = [] →
      ∃ z, exec (.refreshStart c leg) s = .next z ∧ z.cell c = (fun x =>
      let r := t + CSW_REFR.RINT.get (x.word 0x404C) 0 * us
      let y := ((x.gateOff (2 * leg.val)).inc CSW_CNT4.REFR).tick r
      (y.setLeg leg.val { (y.leg leg.val) with refr := some (r, r + x.deadTime r + CSW_REFR.REFW.get (x.refrWord r) 0 * qns, x.deadTime r), calls := (y.leg leg.val).calls ++ [(r + x.deadTime r, .lo)] }).showLeg leg.val) (s.cell c) ∧ z.pending = s.pending ∧ z.a = s.a ∧ z.b = s.b) ∧
  (∀ (s : State) (c : CellId) (leg : Fin 2) (r e : Instant) (dt : Nat), ((s.cell c).leg leg.val).refr = some (r, e, dt) →
      ((s.cell c).leg leg.val).calls = [] →
      ((s.cell c).leg leg.val).sched = [] →
      ∃ z, exec (.refreshEnd c leg) s = .next z ∧ z.cell c = (fun x =>
      let y := if (x.leg leg.val).cmd = .lo then x else x.legGatesOff leg.val
      let y := y.setLeg leg.val { (x.leg leg.val) with sched := [], refr := none, calls := if (x.leg leg.val).cmd = .up then [(e + dt, .up)] else [] }
      (y.showLeg leg.val).tick e) (s.cell c) ∧ z.pending = s.pending ∧ z.a = s.a ∧ z.b = s.b) ∧
  (∀ (s : State) (c : CellId) (t : Instant), (!(s.cell c).carrier || (s.cell c).sw.last == 3 || (s.cell c).held || !(s.cell c).works 0x4000) = false →
      ∃ z, exec (.carrierEdge c t) s = .next z ∧ z.cell c = (fun x =>
      let y := match x.sw.gridAt with
        | some q => if q ≤ t then { x with sw := { x.sw with gridAt := none } } else x
        | none => x
      let z := if y.carrierCode t = y.sw.last then y else y.eventStarts [(3, t)]
      (z.command z.pn 0 t (y.carrierCode t)).tick t) (s.cell c) ∧ z.pending = s.pending ∧ z.a = s.a ∧ z.b = s.b) ∧
  (∀ (s : State) (c : CellId) (p : Nat) (duty : Word) (q : Instant), (s.cell c).sw.xfer = some (p, duty, q) →
      ∃ z, exec (.carrierTransferQ c) s = .next z ∧ z.cell c = (fun x =>
      let y := (x.set CSW_CPER_ACT.PER p).set CSW_CDUTY_ACT.DUTY duty.toNat
      ({ y with sw := { y.sw with xfer := none, gridAt := if p = x.fld CSW_CPER_ACT.PER then none else some (nextPeak x.base p x.phase q).toNat } }.set CSW_STAT.TPEND 0).tick q) (s.cell c) ∧ z.pending = s.pending ∧ z.a = s.a ∧ z.b = s.b) ∧
  (∀ (s : State) (c : CellId), (s.cell c).pow = .on ∧ (s.cell c).works 0x4000 = true →
      (s.cell c).acceptedSlot ((s.cell c).pn + 1) = none →
      ∃ z, exec (.cmdAdopt c) s = .next z ∧ (z.cell c).sw.adopted.map (fun a => a.coast) = some true) ∧
  (∀ (s : State) (c : CellId) (w : Nat), (s.cell c).pow = .on ∧ (s.cell c).works 0x4000 = true →
      (s.cell c).acceptedSlot ((s.cell c).pn + 1) = some w →
      ((s.cell c).bridge || !(cslotBstate w == 2 || cslotAlt w == 2)) = true →
      ∃ z, exec (.cmdAdopt c) s = .next z ∧ (z.cell c).sw.adopted = some ⟨some w, false, (s.cell c).adoptAt⟩ ∧ (z.cell c).sw.ever = true) ∧
  (∀ (s : State) (c : CellId), (s.cell c).islandOn .tim = true →
      ∃ z, exec (.cellBoundary c) s = .next z ∧ z.cell c = (fun x => x.boundary) (s.cell c) ∧ z.pending = s.pending ∧ z.a = s.a ∧ z.b = s.b) ∧
  (∀ (s : State) (c : CellId) (r : CellReq) (v : Word), ¬ ((s.cell c).pow = .off ∨ (s.cell c).pow = .dormant) →
      (s.cell c).islandOn (cellIsland 0x4040) = true →
      ∃ z, exec (.cswCfgWrite c r v) s = .next z ∧ z.cell c = (fun x => (fun z : Nat × CellSt => z.2.onReq r (fun q => { q with res := z.1 })) (if x.pageLocked 0x4040 then (rcLocked, if r.isCore then x.err CGEN_ERR.RANGE else x)
      else x.cfgWrite v)) (s.cell c) ∧ z.pending = s.pending ∧ z.a = s.a ∧ z.b = s.b) ∧
  (∀ (s : State) (c : CellId) (r : CellReq) (v : Word), ¬ ((s.cell c).pow = .off ∨ (s.cell c).pow = .dormant) →
      (s.cell c).islandOn (cellIsland 0x4050) = true →
      ∃ z, exec (.cswCperWrite c r v) s = .next z ∧ ((z.cell c).req r).res = if CSW_CPER.PER.get v 0 < 4000 then rcRefused else rcOk) ∧
  (∀ (s : State) (c : CellId) (r : CellReq) (v : Word), ¬ ((s.cell c).pow = .off ∨ (s.cell c).pow = .dormant) →
      (s.cell c).islandOn (cellIsland 0x4054) = true →
      ∃ z, exec (.cswCdutyWrite c r v) s = .next z ∧ ((z.cell c).req r).res = if CSW_CDUTY.SIGN.get v 0 = 1 ∧ (!(s.cell c).bridge) = true then rcRefused else rcOk) ∧
  (∀ (s : State) (c : CellId) (r : CellReq) , ¬ ((s.cell c).pow = .off ∨ (s.cell c).pow = .dormant) →
      (s.cell c).islandOn (cellIsland 0x405C) = true →
      ∃ z, exec (.cswCcmtCmt c r ) s = .next z ∧ ((z.cell c).req r).res = rcOk ∧ (z.cell c).sw.cmtNext = true) ∧
  (∀ (s : State) (c : CellId) (r : CellReq) (v : Word), ¬ ((s.cell c).pow = .off ∨ (s.cell c).pow = .dormant) →
      (s.cell c).islandOn (cellIsland 0x40A4) = true →
      ∃ z, exec (.cswBypfireWrite c r v) s = .next z ∧ ((z.cell c).req r).res = if (!r.isCore) = true then rcRefused else if v = 0x5A5A5A5A then rcOk else rcRefused) ∧
  (∀ (s : State) (c : CellId) (n : Fin 4) (raw : RawPair) (t : Instant), ∃ z, exec (.decimOutput c n raw t) s = .next z ∧ z.cell c = (fun x => (x.output n.val raw.main raw.spare t).tick t) (s.cell c) ∧ z.pending = s.pending ∧ z.a = s.a ∧ z.b = s.b) ∧
  (∀ (s : State) (c : CellId) (n : Fin 4) (t : Instant), ((s.cell c).ch n.val).starts = [t] →
      ∃ z, exec (.windowRestart c n) s = .next z ∧ z.cell c = (fun x =>
      ((x.onCh n.val (fun h => { h with starts := [] })).tick (t + x.fld CMEAS_WDLY.DELAY n.val * qns)).restart n.val (t + x.fld CMEAS_WDLY.DELAY n.val * qns) false) (s.cell c) ∧ z.pending = s.pending ∧ z.a = s.a ∧ z.b = s.b) ∧
  (∀ (s : State) (c : CellId) (r : CellReq) , ¬ ((s.cell c).pow = .off ∨ (s.cell c).pow = .dormant) →
      (s.cell c).islandOn (cellIsland 0x3118) = true →
      ∃ z, exec (.cmeasSyncReq c r ) s = .next z ∧ ((z.cell c).req r).res = rcOk ∧ (z.cell c).sync = true) ∧
  (∀ (s : State) (c : CellId), ((s.cell c).bit CMEAS_SYNC.SRC && (s.cell c).fld CTMX_DSEL.SEL 0 == 1 && (s.cell c).works 0xA000 && (s.cell c).works 0x3000) = true →
      ∃ z, exec (.syncPinEdge c) s = .next z ∧ (z.cell c).sync = true) ∧
  (∀ (s : State) (c : CellId) (r : CellReq) (v : Word) (t : Instant), ¬ (((s.cell c).tick t).pow = .off ∨ ((s.cell c).tick t).pow = .dormant) →
      ((s.cell c).tick t).islandOn (cellIsland 0x30D8) = true →
      ∃ z, exec (.cmeasInjWrite c r v t) s = .next z ∧ z.cell c = (fun x => (((x.tick t).injWrite v t).2.onReq r (fun q => { q with res := ((x.tick t).injWrite v t).1 }))) (s.cell c) ∧ z.pending = s.pending ∧ z.a = s.a ∧ z.b = s.b) ∧
  (∀ (s : State) (c : CellId) (n : Fin 4) (raw : Int) (p : Nat) (t : Instant), ((s.cell c).ch n.val).inj = some (p, t) →
      (s.cell c).running n.val = true →
      exec (.injResultReady c n raw) s = .next (s.onCell c (fun x =>
      let ready := t + presetSettle p * presetInterval p
      let eff := ready - presetDelay p
      let z := (x.correct (x.sliceOf n.val) n.val raw).2.clip (x.correct (x.sliceOf n.val) n.val raw).1
      let y := if overInput raw then (z.2.err CMEAS_ERR.OVLD).settleAgain n.val true else z.2
      let y := y.onCh n.val (fun h => { h with inj := none, injRes := some (z.1, eff) })
      let y := (y.set CMEAS_INJRES.VALUE (ofInt 24 z.1) n.val).set CMEAS_INJRES.NEW 1 n.val
      let y := (y.setPair CMEAS_INJT_LO.NS CMEAS_INJT_HI.NS (eff / ns % 2 ^ 64)).set CMEAS_INJT_FRAC.FRAC (eff % ns)
      let y : CellSt := if y.rotState = 4 ∧ y.tracks n.val then { y with rot := { y.rot with injAt := some ready } } else y
      (y.showInj).tick ready))) ∧
  (∀ (s : State) (c : CellId) (r : CellReq) (n : Fin 4), ¬ ((s.cell c).pow = .off ∨ (s.cell c).pow = .dormant) →
      (s.cell c).islandOn (cellIsland (0x30E0 + 4 * n.val)) = true →
      ∃ z, exec (.injresRead c r n) s = .next z ∧ (z.cell c).fld CMEAS_INJRES.NEW n.val = 0 ∧ ((z.cell c).req r).rdata = (s.cell c).word (0x30E0 + 4 * n.val) ∧ ((z.cell c).req r).res = rcOk) ∧
  (∀ (s : State) (c : CellId) (t : Instant), ∃ z, exec (.cellPowerOnReset c t) s = .next z ∧ z.cell c = (fun x => x.resetTo 0 t) (s.cell c) ∧ z.pending = s.pending ∧ z.a = s.a ∧ z.b = s.b) ∧
  (∀ (s : State) (c : CellId) , ∃ z, exec (.cellPowerLoss c ) s = .next z ∧ (z.cell c).pow = .off ∧ (z.cell c).mem.event = (s.cell c).mem.event ∧ (z.cell c).mem.ring = (s.cell c).mem.ring) ∧
  (∀ (s : State) (c : CellId) (r : CellReq) (v : Word) (t : Instant), ¬ ((s.cell c).pow = .off ∨ (s.cell c).pow = .dormant) →
      (s.cell c).islandOn (cellIsland 0x4C) = true →
      ∃ z, exec (.cgenRstWrite c r v t) s = .next z ∧ z.cell c = (fun x => (fun z : Nat × CellSt => z.2.onReq r (fun q => { q with res := z.1 }))
      (if v ≠ 0xB007 then (rcRefused, x.err CGEN_ERR.RANGE) else if r.isCore then (rcOk, x.resetTo 3 t) else (rcRefused, x))) (s.cell c) ∧ z.pending = s.pending ∧ z.a = s.a ∧ z.b = s.b) ∧
  (∀ (s : State) (c : CellId) (r : CellReq) (v : Word), ¬ ((s.cell c).pow = .off ∨ (s.cell c).pow = .dormant) →
      (s.cell c).islandOn (cellIsland 0x506C) = true →
      ∃ z, exec (.cprotPwrreqWrite c r v) s = .next z ∧ ((z.cell c).req r).res = if v = 0xD0D0 ∧ (s.cell c).pow = .idle ∧ (s.cell c).belowDorm = true then rcOk else rcRefused) ∧
  (∀ (s : State) (c : CellId) (t a b : Instant), (s.cell c).lnkA.lostAt = some a →
      (s.cell c).lnkB.lostAt = some b →
      (s.cell c).pow = .idle ∧ (s.cell c).belowDorm = true ∧ max a b + 100000 * us ≤ t →
      ∃ z, exec (.dormantLinkTimeout c t) s = .next z ∧ (z.cell c).pow = .dormant ∧ (z.cell c).sup.drv = false ∧ (z.cell c).prot.alive = .undriven) ∧
  (∀ (s : State) (c : CellId) (t : Instant), (s.cell c).pow = .dormant →
      ∃ z, exec (.cellWakeLight c t) s = .next z ∧ z.cell c = (fun x => x.resetTo 4 t) (s.cell c) ∧ z.pending = s.pending ∧ z.a = s.a ∧ z.b = s.b) ∧
  (∀ (s : State) (c : CellId) (t : Instant), (s.cell c).pow = .dormant →
      ∃ z, exec (.cellWakeCharge c t) s = .next z ∧ z.cell c = (fun x => x.resetTo 4 t) (s.cell c) ∧ z.pending = s.pending ∧ z.a = s.a ∧ z.b = s.b) ∧
  (∀ (s : State) (c : CellId) (t : Instant) (p : RstPend), (s.cell c).rstPend = some p →
      ((s.cell c).islandOn .lnk && (p.toA && p.toB || decide (p.due ≤ t))) = true →
      ∃ z, exec (.cellStrandReset c t) s = .next z ∧ z.cell c = (fun x => x.resetTo 1 t) (s.cell c) ∧ z.pending = s.pending ∧ z.a = s.a ∧ z.b = s.b) ∧
  (∀ (s : State) (c : CellId) (n : Fin 6) (t : Instant), (s.cell c).protOn = true →
      ∃ z, exec (.cellTripInput c n t) s = .next z ∧ z.cell c = (fun x => if (x.setRaw n.val true).tripEn n.val && !(x.setRaw n.val true).blanked n.val t then (x.setRaw n.val true).tripEffect n.val t else x.setRaw n.val true) (s.cell c) ∧ z.pending = s.pending ∧ z.a = s.a ∧ z.b = s.b) ∧
  (∀ (s : State) (c : CellId) (n : Fin 4) (t : Instant), ((s.cell c).protOn && (s.cell c).tripEn n.val && (s.cell c).rawOn n.val && ((s.cell c).activeSince n.val).isNone && !(s.cell c).blanked n.val t) = true →
      ∃ z, exec (.blankEnd c n t) s = .next z ∧ z.cell c = (fun x => x.tripEffect n.val t) (s.cell c) ∧ z.pending = s.pending ∧ z.a = s.a ∧ z.b = s.b) ∧
  (∀ (s : State) (c : CellId) (n : Fin 6), ∃ z, exec (.tripSourceInactive c n) s = .next z ∧ (z.cell c).activeSince n.val = none ∧ (z.cell c).fld CPROT_STAT.RAW = ((s.cell c).fld CPROT_STAT.RAW &&& (63 ^^^ (1 <<< n.val))) % 64) ∧
  (∀ (s : State) (c : CellId) (n : Fin 5) (t t0 : Instant), (s.cell c).activeSince n.val = some t0 →
      ((s.cell c).protOn && (s.cell c).tripEn n.val && (s.cell c).tripAct n.val && decide (t0 + (s.cell c).fld CPROT_BYPDLY.BYPDLY * us ≤ t)) = true →
      (((s.cell c).tick t).bit CSW_BYPSTAT.FIRED) = false →
      ∃ z, exec (.tripBypassDelay c n t) s = .next z ∧ z.cell c = (fun x => ((x.tick t).err CPROT_ERR.BYPTRIP).fire 4) (s.cell c) ∧ z.pending = s.pending ∧ z.a = s.a ∧ z.b = s.b) ∧
  (∀ (s : State) (c : CellId) (r : CellReq) (v : Word), ¬ ((s.cell c).pow = .off ∨ (s.cell c).pow = .dormant) →
      (s.cell c).islandOn (cellIsland 0x505C) = true →
      ∃ z, exec (.cprotTripclrWrite c r v) s = .next z ∧ z.cell c = (fun x => (fun z : Nat × CellSt => z.2.onReq r (fun q => { q with res := z.1 })) (x.tripclrWrite v)) (s.cell c) ∧ z.pending = s.pending ∧ z.a = s.a ∧ z.b = s.b) ∧
  (∀ (s : State) (w : CellAt), ((s.cell w.cell).coreRuns w.at_ && decide ((s.cell w.cell).prot.coreAt + 10000 * us ≤ w.at_)) = true →
      ∃ z, exec (.cellCoreWdogExpire w) s = .next z ∧ (z.cell w.cell).fld CPROT_STAT.ALIVESTOP = 1 ∧ (z.cell w.cell).fld CPROT_ERR.WDOG = 1 ∧ (z.cell w.cell).prot.alive = .low) ∧
  (∀ (s : State) (c : CellId) , (s.cell c).protOn = true →
      ∃ z, exec (.protClockFail c ) s = .next z ∧ (z.cell c).fld CPROT_STAT.ALIVESTOP = 1 ∧ (z.cell c).prot.alive = .low) ∧
  (∀ (s : State) (c : CellId) (vaux : Nat) (t : Instant), ((s.cell c).protOn && (s.cell c).bit CSUP_CFG.EN && (s.cell c).works 0x6000 && !(s.cell c).sup.drv && (s.cell c).sup.hu.isNone && decide ((s.cell c).offEnd t ≤ t) && decide (vaux < (s.cell c).fld CSUP_VSET.VSET * 40)) = true →
      ∃ z, exec (.supTurnOn c vaux t) s = .next z ∧ (z.cell c).sup.drv = true) ∧
  (∀ (s : State) (c : CellId) (v : SupSense) (t : Instant), (s.cell c).sup.drv = true →
      (s.cell c).sup.since + supSpan ((s.cell c).fld CSUP_TIME.TON) ≤ t →
      ∃ z, exec (.supTurnOff c v t) s = .next z ∧ (z.cell c).sup.drv = false ∧ (z.cell c).sup.since = (s.cell c).sup.since + supSpan ((s.cell c).fld CSUP_TIME.TON)) ∧
  (∀ (s : State) (c : CellId) (v : SupSense) (t : Instant), (s.cell c).sup.drv = true →
      (s.cell c).ipk16 t ≤ 16 * v.sscs →
      (s.cell c).sup.since + supSpan ((s.cell c).fld CSUP_LIM.LEB) ≤ t →
      t < (s.cell c).sup.since + supSpan ((s.cell c).fld CSUP_TIME.TON) →
      ∃ z, exec (.supTurnOff c v t) s = .next z ∧ (z.cell c).sup.drv = false ∧ (z.cell c).sup.since = t) ∧
  (∀ (s : State) (c : CellId) (vaux : Nat) (t : Instant), ((s.cell c).protOn && !(s.cell c).bit CSUP_STAT.SSDONE && decide ((s.cell c).sup.ssAt + max 1 ((s.cell c).fld CSUP_CFG.SST) * 1000 * us ≤ t)) = true →
      ∃ z, exec (.softStartEnd c vaux t) s = .next z ∧ z.cell c = (fun x => (fun low : Bool =>
        (fun y : CellSt => if low then (fun z : CellSt => if z.tripEn 5 then z.tripEffect 5 t else z) (y.err CSUP_ERR.SSFAIL) else y)
          ((((x.set CSUP_STAT.SSDONE 1).showReg vaux).setRaw 5 low).tick t)) (decide (vaux < x.fld CSUP_VSET.VUV * 40))) (s.cell c) ∧ z.pending = s.pending ∧ z.a = s.a ∧ z.b = s.b) ∧
  (∀ (s : State) (c : CellId) (t : Instant), ((s.cell c).protOn && !(s.cell c).sup.ovStop && (s.cell c).works 0x6000) = true →
      ∃ z, exec (.supOvStop c t) s = .next z ∧ (z.cell c).sup.drv = false ∧ (z.cell c).fld CSUP_ERR.OV = 1) ∧
  (∀ (s : State) (c : CellId) (r : CellReq) (v : Word), ¬ ((s.cell c).pow = .off ∨ (s.cell c).pow = .dormant) →
      (s.cell c).islandOn (cellIsland 0x6054) = true →
      ∃ z, exec (.holdupReq c r v) s = .next z ∧ ((z.cell c).req r).res = rcOk) ∧
  (∀ (s : State) (c : CellId) (t : Instant) (v0 : Int) (t0 : Instant), (s.cell c).sup.hu = some (v0, t0) →
      t0 + (s.cell c).fld CSUP_HU.WIN * us ≤ t ∨ (((s.cell c).fld CSUP_HU.DROP * 40 * 8388608 : Nat) : Int) ≤ (v0 - toInt 24 ((s.cell c).fld CMEAS_RES.VALUE 3)) * 40960 →
      ∃ z, exec (.holdupEnd c t) s = .next z ∧ z.cell c = (fun x => (
      let dv : Int := v0 - toInt 24 (x.fld CMEAS_RES.VALUE 3)
      let m := x.divFree (dv * 40960) 8388608
      let d := m.2.divFree ((t : Int) - t0) (us : Nat)
      let h := d.2.holdUp dv ((t : Int) - t0)
      let hold := (clampInt 0 65535 h.1).toNat
      let y := (h.2.set CSUP_HURES.DV (ofInt 16 m.1)).set CSUP_HURES.DT (ofInt 16 d.1)
      let y := ((y.set CSUP_HOLD.HOLD hold).set CSUP_HOLD.VALID 1).set CSUP_HU.RES 1
      (({ y with sup := { y.sup with hu := none, ready := true } } : CellSt).tick t).ledger false (ledgerEntry 5 0 (leBytes 2 hold)))) (s.cell c) ∧ z.pending = s.pending ∧ z.a = s.a ∧ z.b = s.b) ∧
  (∀ (s : State) (c : CellId) , ((s.cell c).protOn && (s.cell c).fld CPROT_LEASE.HOLDER != 0 && !(s.cell c).bit CPROT_LEASE.EXP && decide ((s.cell c).exppn ≤ (s.cell c).pn)) = true →
      ∃ z, exec (.leaseExpire c ) s = .next z ∧ z.cell c = (fun x => (
      let y := ((x.set CPROT_LEASE.EXP 1).set CPROT_OSTAT.ORPHAN 1).inc CPROT_CNT.ORPH
      let y : CellSt := { y with prot := { y.prot with orphAt := y.adoptAt, orphN := 0 } }
      y.tick y.adoptAt)) (s.cell c) ∧ z.pending = s.pending ∧ z.a = s.a ∧ z.b = s.b) ∧
  (∀ (s : State) (c : CellId) , ((s.cell c).pow == .on && (s.cell c).bit CPROT_OSTAT.ORPHAN && decide ((s.cell c).fld CPROT_ORPH.COAST < (s.cell c).prot.orphN)) = true →
      ∃ z, exec (.orphanBlock c ) s = .next z ∧ (z.cell c).fld CPROT_OSTAT.OBLK = 1) ∧
  (∀ (s : State) (c : CellId) (t : Instant), ((s.cell c).pow == .on && (s.cell c).bit CPROT_OSTAT.ORPHAN && (s.cell c).fld CPROT_ORPH.OTIME != 0 && decide ((s.cell c).prot.orphAt + (s.cell c).fld CPROT_ORPH.OTIME * 1000 * us ≤ t)) = true →
      ∃ z, exec (.orphanBypass c t) s = .next z ∧ z.cell c = (fun x => (x.tick t).fire 2) (s.cell c) ∧ z.pending = s.pending ∧ z.a = s.a ∧ z.b = s.b) ∧
  (∀ (s : State) (c : CellId) (r : CellReq) (v : Word), ¬ ((s.cell c).pow = .off ∨ (s.cell c).pow = .dormant) →
      (s.cell c).islandOn (cellIsland 0x5098) = true →
      ∃ z, exec (.leaseClear c r v) s = .next z ∧ ((z.cell c).req r).res = if v = 0x1EA5 ∧ ((s.cell c).bit CPROT_LEASE.EXP || (s.cell c).fld CPROT_LEASE.HOLDER == 0) = true then rcOk else rcRefused) ∧
  (∀ (s : State) (c : CellId) (side : Side) (rx : RxFrame) (stamp done t : Instant), (s.cell c).hears side = true →
      byteAt rx.bytes 1 = 1 ∨ byteAt rx.bytes 1 = 2 →
      ∃ z, exec (.cmdFrameRx c side rx stamp done t) s = .next z ∧ z.cell c = (fun x => ((x.codeErrs side rx.errs.toNat).cmdFrame side rx.bytes stamp done t).tick t) (s.cell c) ∧ z.pending = s.pending ∧ z.a = s.a ∧ z.b = s.b) ∧
  (∀ (s : State) (c : CellId) , ((s.cell c).islandOn .lnk && ((s.cell c).pow != .idle || (s.cell c).pn % 64 == 0 && decide ((s.cell c).rateFrom ≤ (s.cell c).tim.t0))) = true →
      ∃ z, exec (.statusLatch c ) s = .next z ∧ z.cell c = (fun x => x.statusLatch) (s.cell c) ∧ z.pending = s.pending ∧ z.a = s.a ∧ z.b = s.b) ∧
  (∀ (s : State) (c : CellId) , (s.cell c).servo = 1 ∧ 64 ≤ (s.cell c).fld CTIM_SERVO.LOCKCNT →
      ∃ z, exec (.servoLocked c ) s = .next z ∧ (z.cell c).fld CTIM_SERVO.STATE = 2) ∧
  (∀ (s : State) (c : CellId) , (s.cell c).servo = 2 ∧ (s.cell c).tim.none_ = true →
      ∃ z, exec (.servoHoldover c ) s = .next z ∧ (z.cell c).fld CTIM_SERVO.STATE = (if !(s.cell c).locked .a && !(s.cell c).locked .b then 0 else 3)) ∧
  (∀ (s : State) (c : CellId) (side : Side) (bytes : Bytes), (s.cell c).hears side = true →
      byteAt bytes 1 = 3 →
      ∃ z, exec (.statusFramePass c side bytes) s = .next z ∧ z.cell c = (fun x => x.statusFrame side bytes) (s.cell c) ∧ z.pending = s.pending ∧ z.a = s.a ∧ z.b = s.b) ∧
  (∀ (s : State) (c : CellId) (d : Side), ((s.cell c).islandOn .lnk && (s.cell c).hopValid && (!(s.cell c).locked d.other || decide (2 ≤ ((s.cell c).lnk d.other).quiet))) = true →
      ∃ z, exec (.tailBecome c d) s = .next z ∧ (z.cell c).fld CLNK_STAT.TAIL (sideIx d) = 1) ∧
  (∀ (s : State) (c : CellId) (d : Side), ((s.cell c).islandOn .lnk && (s.cell c).hopValid && (s.cell c).bit CLNK_STAT.TAIL (sideIx d) && (s.cell c).launches && (s.cell c).works (0x1000 + 0x1000 * sideIx d)) = true →
      ∃ z, exec (.tailOriginate c d) s = .next z ∧ z.cell c = (fun x => (
      let z := x.tailSlots d 0 x.hdr.2.1
      let y := z.1.emit d (statFrame (statHeader d true x.hdr.1 z.1.pn x.hdr.2.1 z.1.hop x.hdr.2.2) z.2)
      (if y.hop < x.hdr.2.1 then y.markReset d y.pn else y).tick (y.tim.t0 + y.fld CLNK_TAILOFS.STAT 0 * 10 * ns))) (s.cell c) ∧ z.pending = s.pending ∧ z.a = s.a ∧ z.b = s.b) ∧
  (∀ (s : State) (c : CellId) (d : Side), ((s.cell c).bit CLNK_STAT.TAIL (sideIx d) && (s.cell c).locked d.other && decide (2 ≤ ((s.cell c).lnk d.other).good)) = true →
      ∃ z, exec (.tailEnd c d) s = .next z ∧ (z.cell c).fld CLNK_STAT.TAIL (sideIx d) = 0) ∧
  (∀ (s : State) (c : CellId) (side : Side) (o : UnitId) (cut : Bool) (t : Instant), (s.cell c).hears side = true →
      ((s.cell c).lnk side).acted.contains (0x1E, unitBit o) = false →
      ∃ z, exec (.stopRx c side o cut t) s = .next z ∧ z.cell c = (fun x => (fun y : CellSt =>
        (({ y.tick t with acc := { y.acc with stopped := true } } : CellSt).setBoth CLNK_STAT.STOPB 1).holdCheck) (x.faultSet side 0x1E o cut).2) (s.cell c) ∧ z.pending = s.pending ∧ z.a = s.a ∧ z.b = s.b) ∧
  (∀ (s : State) (c : CellId) (side : Side) (o : FaultCode) (cut : Bool), (s.cell c).hears side = true →
      o.code = 0x2D →
      ∃ z, exec (.abortRx c side o cut) s = .next z ∧ z.cell c = (fun x => (x.faultSet side 0x2D o.origin cut).2) (s.cell c) ∧ z.pending = s.pending ∧ z.a = s.a ∧ z.b = s.b) ∧
  (∀ (s : State) (c : CellId) (side : Side) (low : Bool) (t : Instant), (s.cell c).works (0x1000 + 0x1000 * sideIx side) = true →
      low = (s.cell c).listensLow side →
      ∃ z, exec (.linkLock (.cell c side) low t) s = .next z ∧ z.cell c = (fun x =>
      let y := ((((x.set CLNK_STAT.LOCK 1 (sideIx side)).set CLNK_STAT.RATE (b2n low) (sideIx side)).onLnk side (fun l => { l with lostAt := none, search := false })).tick t)
      if y.pow = .idle ∧ !low ∧ y.waking then y.enterBlocked t else y) (s.cell c) ∧ z.pending = s.pending ∧ z.a = s.a ∧ z.b = s.b) ∧
  (∀ (s : State) (u : UnitId) (p : Fin 100) (low : Bool) (t : Instant), ∃ z, exec (.linkLock (.unit u p) low t) s = .next z ∧ (z.unit u).fld STRP_STAT.LOCK p.val = 1) ∧
  (∀ (s : State) (c : CellId) (side : Side) (loss : LockLoss), (s.cell c).locked side = true →
      ∃ z, exec (.linkLockLoss (.cell c side) loss) s = .next z ∧ z.cell c = (fun x =>
      let y := ((((x.codeErrs side loss.errs.toNat).set CLNK_STAT.LOCK 0 (sideIx side)).err CLNK_ERR.LOCKLOSS (sideIx side)).onLnk side (fun l => { l with lostAt := some loss.at_ })).tick loss.at_
      if y.servo = 3 ∧ !y.locked side.other then (y.set CTIM_SERVO.STATE 0).holdCheck else y) (s.cell c) ∧ z.pending = s.pending ∧ z.a = s.a ∧ z.b = s.b) ∧
  (∀ (s : State) (c : CellId) (p : SideAt), ((s.cell c).islandOn .lnk && !(s.cell c).locked p.side && ((s.cell c).lnk p.side).search && decide (((s.cell c).lnk p.side).srchAt + 1000 * us ≤ p.at_)) = true →
      ∃ z, exec (.portSearchToggle c p) s = .next z ∧ ((z.cell c).lnk p.side).srchLow = !((s.cell c).lnk p.side).srchLow ∧ ((z.cell c).lnk p.side).srchAt = p.at_) ∧
  (∀ (s : State) (c : CellId) (t a b : Instant), (s.cell c).lnkA.lostAt = some a →
      (s.cell c).lnkB.lostAt = some b →
      ((s.cell c).islandOn .lnk && decide (max a b + 10000 * us ≤ t)) = true →
      ∃ z, exec (.cellLineSearch c t) s = .next z ∧ (z.cell c).lnkA.search = true ∧ (z.cell c).lnkB.search = true ∧ (z.cell c).lnkA.srchLow = false ∧ (z.cell c).lnkB.srchLow = false) ∧
  (∀ (s : State) (c : CellId) (a r : Nat), (s.cell c).rate = some (a, r) →
      (s.cell c).pn % 2 ^ 32 = a →
      ∃ z, exec (.rateSwitch (.cell c)) s = .next z ∧ z.cell c = (fun x =>
      let y := ({ x with rate := none, rateFrom := x.tim.t0 + 64 * us } : CellSt).setBoth CLNK_STAT.RATE r
      if r = 1 ∧ y.pow = .on then y.enterIdle y.tim.t0 else if r = 0 ∧ y.pow = .idle then (y.enterBlocked y.tim.t0).measResume y.tim.t0 else y) (s.cell c) ∧ z.pending = s.pending ∧ z.a = s.a ∧ z.b = s.b) ∧
  (∀ (s : State) (c : CellId) (u : UnitId) (tag : Fin 8) (addr : Word), (s.cell c).takesEntries = true →
      ∃ z, exec (.entryRead c u tag addr) s = .next z ∧ ∃ a, (z.cell c).replies.getLast? = some a ∧ a.req = u ∧ a.tag = tag.val ∧ a.rdata = ((s.cell c).regRead (.unit u) addr.toNat).1 ∧ a.rerr = ((s.cell c).regRead (.unit u) addr.toNat).2.1) ∧
  (∀ (s : State) (c : CellId) (u : UnitId) (tag : Fin 8) (addr data mask : Word) (t : Instant), (s.cell c).takesEntries = true →
      ∃ z, exec (.entryWrite c u tag addr data mask t) s = .next z ∧ ∃ a, (z.cell c).replies.getLast? = some a ∧ a.req = u ∧ a.tag = tag.val ∧ a.rdata = BitVec.ofNat 32 (if mask = 0 then rcEmpty else ((s.cell c).regWrite (.unit u) addr.toNat data mask t).1) ∧ a.rerr = false) ∧
  (∀ (s : State) (c : CellId) (u : UnitId) (tag : Fin 8) (data : Word) (single holder : Bool), (s.cell c).takesEntries = true →
      ∃ z, exec (.entryBypass c u tag data single holder) s = .next z ∧ ∃ a, (z.cell c).replies.getLast? = some a ∧ a.req = u ∧ a.tag = tag.val ∧ a.rdata = BitVec.ofNat 32 (if (single && holder && data == 0x5A5A5A5A) = true then rcOk else rcRefused) ∧ a.rerr = false) ∧
  (∀ (s : State) (c : CellId) (u : UnitId) (tag : Fin 8) (t : Instant), (s.cell c).takesEntries = true →
      ∃ z, exec (.calreqRotate c u tag t) s = .next z ∧ ∃ a, (z.cell c).replies.getLast? = some a ∧ a.req = u ∧ a.tag = tag.val ∧ a.rdata = BitVec.ofNat 32 (if (s.cell c).rotState = 1 ∧ (s.cell c).idleMeas = false then rcOk else rcRefused) ∧ a.rerr = false) ∧
  (∀ (s : State) (c : CellId) (u : UnitId) (tag : Fin 8), (s.cell c).takesEntries = true →
      ∃ z, exec (.calreqSparecal c u tag) s = .next z ∧ ∃ a, (z.cell c).replies.getLast? = some a ∧ a.req = u ∧ a.tag = tag.val ∧ a.rdata = BitVec.ofNat 32 (if 1 < (s.cell c).rotState ∨ (s.cell c).idleMeas = true then rcRefused else rcOk) ∧ a.rerr = false) ∧
  (∀ (s : State) (c : CellId) (u : UnitId) (tag : Fin 8), (s.cell c).takesEntries = true →
      ∃ z, exec (.calreqReload c u tag) s = .next z ∧ (z.cell c).mem.reload = true ∧ ∃ a, (z.cell c).replies.getLast? = some a ∧ a.req = u ∧ a.tag = tag.val ∧ a.rdata = 0 ∧ a.rerr = false) ∧
  (∀ (s : State) (c : CellId) (u : UnitId) (tag : Fin 8) (data : Word) (t : Instant), (s.cell c).takesEntries = true →
      ∃ z, exec (.entryInject c u tag data t) s = .next z ∧ ∃ a, (z.cell c).replies.getLast? = some a ∧ a.req = u ∧ a.tag = tag.val ∧ a.rdata = BitVec.ofNat 32 (((s.cell c).entryInject data t).1) ∧ a.rerr = false) ∧
  (∀ (s : State) (c : CellId) (u : UnitId) (tag : Fin 8) (data : Word), (s.cell c).takesEntries = true →
      data = 0xC3 →
      ∃ z, exec (.entryReset c u tag data) s = .next z ∧ ∃ a, (z.cell c).replies.getLast? = some a ∧ a.reset = true ∧ a.req = u ∧ a.tag = tag.val) ∧
  (∀ (s : State) (c : CellId) (u : UnitId) (tag : Fin 8) (addr data : Word), (s.cell c).takesEntries = true →
      ∃ z, exec (.entryRate c u tag addr data) s = .next z ∧ ∃ a, (z.cell c).replies.getLast? = some a ∧ a.req = u ∧ a.tag = tag.val ∧ a.rdata = BitVec.ofNat 32 (((s.cell c).entryRate addr data).1) ∧ a.rerr = false) ∧
  (∀ (s : State) (c : CellId) (u : UnitId) (tag : Fin 8) (len : Fin 256) (off : Word) (data : Bytes), (s.cell c).takesEntries = true →
      ∃ z, exec (.entryBulk c u tag len off data) s = .next z ∧ ∃ a, (z.cell c).replies.getLast? = some a ∧ a.req = u ∧ a.tag = tag.val ∧ a.rdata = BitVec.ofNat 32 (((s.cell c).entryBulk len.val off.toNat data).1) ∧ a.rerr = false) ∧
  (∀ (s : State) (c : CellId) (side : Side) (bytes : Bytes), (s.cell c).hears side = true →
      byteAt bytes 1 = 4 →
      byteAt bytes 4 = 1 →
      ¬ (bytes.length = 110 ∧ (!enumOk bytes) = true) →
      ∃ z, exec (.enumAssign c side bytes) s = .next z ∧ z.cell c = (fun x => x.enumAssign side bytes) (s.cell c) ∧ z.pending = s.pending ∧ z.a = s.a ∧ z.b = s.b) ∧
  (∀ (s : State) (c : CellId) (side : Side) (bytes : Bytes), (s.cell c).hears side = true →
      byteAt bytes 1 = 4 →
      byteAt bytes 4 = 2 →
      ¬ (bytes.length = 110 ∧ (!enumOk bytes) = true) →
      ∃ z, exec (.enumEcho c side bytes) s = .next z ∧ (z.cell c).out = (if (s.cell c).isTarget bytes then (s.cell c).emit side (enumReturn bytes) else (s.cell c).forward side bytes).out) ∧
  (∀ (s : State) (c : CellId) (side : Side) (bytes : Bytes), (s.cell c).hears side = true →
      byteAt bytes 1 = 4 →
      byteAt bytes 4 = 3 →
      ¬ (bytes.length = 110 ∧ (!enumOk bytes) = true) →
      ∃ z, exec (.enumIdreq c side bytes) s = .next z ∧ z.cell c = (fun x => if x.isTarget bytes then (if enumOk bytes then { x with chal := x.chal.filter (fun e => e.1 != enumSrc bytes) ++ [(enumSrc bytes, slice bytes 8 32)] } else x) else x.forward side bytes) (s.cell c) ∧ z.pending = s.pending ∧ z.a = s.a ∧ z.b = s.b) ∧
  (∀ (s : State) (c : CellId) (u : UnitId) (ch : Bytes) (more : List (UnitId × Bytes)), (s.cell c).chal = (u, ch) :: more →
      (s.cell c).islandOn .core = true →
      ∃ z, exec (.cellIdrspSend c ) s = .next z ∧ (z.cell c).chal = more ∧ (z.cell c).out = ⟨u, enumFrame u true ((s.cell c).fld CLNK_HOP.STRAND 0) 4 0 (s.cell c).hop ((s.cell c).fld CLNK_HOP.NCELL 0) (Config.sign (s.cell c).key (ch ++ [BitVec.ofNat 8 ((s.cell c).fld CLNK_HOP.STRAND 0), BitVec.ofNat 8 (s.cell c).hop, BitVec.ofNat 8 (unitBit u)]))⟩ :: (s.cell c).out) ∧
  (∀ (s : State) (c : CellId) (t : Instant) (cyc : BitVec 32), ¬ ((s.cell c).pow = .off) →
      ∃ z, exec (.cellFaultLatch c t cyc) s = .next z ∧ z.cell c = (fun x => x.collect t cyc.toNat) (s.cell c) ∧ z.pending = s.pending ∧ z.a = s.a ∧ z.b = s.b) ∧
  (∀ (s : State) (c : CellId) (r : CellReq) (v : Word), ¬ ((s.cell c).pow = .off ∨ (s.cell c).pow = .dormant) →
      (s.cell c).islandOn (cellIsland 0x8040) = true →
      ∃ z, exec (.cellFltLatchClear c r v) s = .next z ∧ ((z.cell c).req r).res = rcOk) ∧
  (∀ (s : State) (c : CellId) (n : Fin 11) (t : Instant) (m : Nat) (t0 : Instant), (s.cell c).flt.graceAt.find? (fun g => g.1 == n.val) = some (m, t0) →
      t0 + (s.cell c).fld CFLT_SCFG.GRACE n.val * us ≤ t →
      ∃ z, exec (.cellGraceExpire c n t) s = .next z ∧ z.cell c = (fun x => if x.fld CFLT_SCFG.ESC n.val = 0 then (if x.protOn then x.resetTo 2 t else x) else (({ x with flt := { x.flt with graceAt := x.flt.graceAt.filter (fun g => g.1 != n.val) } } : CellSt).fatal).tick t) (s.cell c) ∧ z.pending = s.pending ∧ z.a = s.a ∧ z.b = s.b) ∧
  (∀ (s : State) (c : CellId) (t : Instant) (cyc : BitVec 32), ∃ z, exec (.cellMaskWindowEnd c t cyc) s = .next z ∧ z.cell c = (fun x => (
      let gone := x.flt.masked.filter (fun e => e.2 == 2 || e.2 == 12)
      let y : CellSt := { x with flt := { x.flt with masked := x.flt.masked.filter (fun e => !(e.2 == 2 || e.2 == 12)) } }
      let lines := gone.map (fun e => (e.1, y.srcLine e.1))
      let y : CellSt := { y with flt := { y.flt with seen := lines.foldl (fun m e => sset (fun _ => 0) m e.1 e.2) y.flt.seen } }
      (y.latch (lines.filter (fun e => e.2 != 0)) t cyc.toNat).tick t)) (s.cell c) ∧ z.pending = s.pending ∧ z.a = s.a ∧ z.b = s.b) ∧
  (∀ (s : State) (c : CellId) (r : CellReq) (v : Word), ¬ ((s.cell c).pow = .off ∨ (s.cell c).pow = .dormant) →
      (s.cell c).islandOn (cellIsland 0x810C) = true →
      ∃ z, exec (.ledgerReq c r v) s = .next z ∧ ((z.cell c).req r).res = ((s.cell c).lreqWrite v).1) ∧
  (∀ (s : State) (c : CellId) (ok : Bool) (req : Bool) (e : Bytes), (s.cell c).mem.append = some (req, e) →
      (s.cell c).pow = .on →
      ∃ z, exec (.framAppendComplete c ok) s = .next z ∧ z.cell c = (fun x => (
      let y := if ok then x.framAppend e else x.err CFRM_ERR.WRFAIL
      let y := if ok && req then y.set CFLT_LREQ3.RES 1 else y
      match y.mem.queue with
      | [] => { y with mem := { y.mem with append := none } }
      | q :: qs => { y with mem := { y.mem with append := some q, queue := qs } })) (s.cell c) ∧ z.pending = s.pending ∧ z.a = s.a ∧ z.b = s.b) ∧
  (∀ (s : State) (c : CellId) , (s.cell c).pow = .on ∧ (s.cell c).mem.dailyAt + 24 * 3600 * sec ≤ (s.cell c).mem.opTime →
      ∃ z, exec (.cellLedgerDaily c ) s = .next z ∧ z.cell c = (fun x => ({ x with mem := { x.mem with dailyAt := x.mem.opTime, tempMax := none } } : CellSt).ledger false x.dailyEntry) (s.cell c) ∧ z.pending = s.pending ∧ z.a = s.a ∧ z.b = s.b) ∧
  (∀ (s : State) (c : CellId) (r : CellReq) , ¬ ((s.cell c).pow = .off ∨ (s.cell c).pow = .dormant) →
      (s.cell c).islandOn (cellIsland 0x50) = true →
      ∃ z, exec (.patchActivate c r ) s = .next z ∧ ((z.cell c).req r).res = ((s.cell c).patchWrite 0x80000000).1)
end

