-- ==== Sys2Proof/Laws/Sparse.lean ====
section
/-! SUPPORT. The laws of sparse tables: a read after a write, and that every write keeps the canonical form. -/
namespace Sys2Proof.Machine

@[simp] theorem sget_nil {α : Type} {d : Nat → α} (k : Nat) : sget d [] k = d k := rfl

variable {α : Type} [DecidableEq α] {d : Nat → α}

@[simp] theorem swf_nil : swf d ([] : Sparse α) = true := rfl

theorem sortedFrom_cons {lo j : Nat} {v : α} {m : Sparse α} :
    sortedFrom d lo ((j, v) :: m) = true ↔ lo ≤ j ∧ v ≠ d j ∧ sortedFrom d (j + 1) m = true := by
  simp [sortedFrom, and_assoc]

theorem sortedFrom_mono {lo lo' : Nat} {m : Sparse α} (h : sortedFrom d lo m = true) (hl : lo' ≤ lo) :
    sortedFrom d lo' m = true := by
  cases m with
  | nil => rfl
  | cons e m => rw [sortedFrom_cons] at h ⊢; exact ⟨by omega, h.2⟩

/-- A key below every listed key reads as its default. -/
theorem sget_below {lo k : Nat} {m : Sparse α} (h : sortedFrom d lo m = true) (hk : k < lo) : sget d m k = d k := by
  induction m generalizing lo with
  | nil => rfl
  | cons e m ih =>
    rw [sortedFrom_cons] at h
    have hne : e.1 ≠ k := by omega
    simp only [sget, hne, if_false]
    exact ih h.2.2 (by omega)

/-- Leaving out entries keeps the canonical form. -/
theorem sortedFrom_filter {lo : Nat} {m : Sparse α} (p : Nat × α → Bool) (h : sortedFrom d lo m = true) :
    sortedFrom d lo (m.filter p) = true := by
  induction m generalizing lo with
  | nil => rfl
  | cons e m ih =>
    rw [sortedFrom_cons] at h
    cases hp : p e with
    | true =>
      rw [List.filter_cons_of_pos hp]
      exact sortedFrom_cons.mpr ⟨h.1, h.2.1, ih h.2.2⟩
    | false =>
      rw [List.filter_cons_of_neg (by simp [hp])]
      exact sortedFrom_mono (ih h.2.2) (by omega)

omit [DecidableEq α] in
theorem sput_true {k : Nat} {v : α} {m : Sparse α} : sput true m k v = m.filter (fun e => e.1 != k) := by
  induction m with
  | nil => rfl
  | cons e m ih =>
    by_cases he : k = e.1
    · subst he; simp [sput, ih]
    · have : e.1 ≠ k := fun h => he h.symm
      simp [sput, he, this, ih]

theorem sortedFrom_sput {lo k : Nat} {v : α} {m : Sparse α} (h : sortedFrom d lo m = true) (hk : lo ≤ k) (hv : v ≠ d k) :
    sortedFrom d lo (sput false m k v) = true := by
  induction m generalizing lo with
  | nil => simp [sput, sortedFrom, hk, hv]
  | cons e m ih =>
    rw [sortedFrom_cons] at h
    simp only [sput, Bool.false_eq_true, if_false, Bool.false_or, decide_eq_true_eq]
    split_ifs with h1 h2
    · subst h1; exact sortedFrom_cons.mpr ⟨hk, hv, h.2.2⟩
    · exact sortedFrom_cons.mpr ⟨h.1, h.2.1, ih h.2.2 (by omega)⟩
    · exact sortedFrom_cons.mpr ⟨hk, hv, sortedFrom_cons.mpr ⟨by omega, h.2⟩⟩

/-- A write keeps the canonical form above any bound the key respects. -/
theorem sortedFrom_sset {lo k : Nat} {v : α} {m : Sparse α} (h : sortedFrom d lo m = true) (hk : lo ≤ k) :
    sortedFrom d lo (sset d m k v) = true := by
  unfold sset
  by_cases hv : v = d k
  · simp only [hv, decide_true, sput_true]; exact sortedFrom_filter _ h
  · simp only [hv, decide_false]; exact sortedFrom_sput h hk hv

/-- A write keeps the canonical form. -/
theorem swf_sset {k : Nat} {v : α} {m : Sparse α} (h : swf d m = true) : swf d (sset d m k v) = true :=
  sortedFrom_sset h (Nat.zero_le k)

omit [DecidableEq α] in
theorem sget_filter_self {k : Nat} {m : Sparse α} : sget d (m.filter (fun e => e.1 != k)) k = d k := by
  induction m with
  | nil => rfl
  | cons e m ih => by_cases he : e.1 = k <;> simp [sget, he, ih]

/-- A read of the key just written gives the value. -/
theorem sget_sset {k : Nat} {v : α} {m : Sparse α} : sget d (sset d m k v) k = v := by
  unfold sset
  by_cases hv : v = d k
  · simp only [hv, decide_true, sput_true, sget_filter_self]
  · simp only [hv, decide_false]
    induction m with
    | nil => simp [sput, sget]
    | cons e m ih =>
      simp only [sput, Bool.false_eq_true, if_false, Bool.false_or, decide_eq_true_eq]
      split_ifs with h1 h2
      · simp [sget]
      · have : e.1 ≠ k := fun h => h1 h.symm
        simp [sget, this, ih]
      · simp [sget]

/-- A read of the key just written gives the value. -/
theorem sget_sset_same {k : Nat} {v : α} {m : Sparse α} (_ : swf d m = true) : sget d (sset d m k v) k = v := sget_sset

/-- A write leaves every other key alone. -/
theorem sget_sset_ne {j k : Nat} {v : α} {m : Sparse α} (hne : j ≠ k) : sget d (sset d m k v) j = sget d m j := by
  unfold sset
  induction m with
  | nil => by_cases hv : v = d k <;> simp [sput, sget, hv, hne.symm]
  | cons e m ih =>
    simp only [sput]
    split_ifs with h1 h2 h3
    · have : e.1 ≠ j := by omega
      simp [sget, this, ih]
    · have : e.1 ≠ j := by omega
      simp [sget, this, hne.symm]
    · by_cases hj : e.1 = j <;> simp [sget, hj, ih]
    · simp [sget, hne.symm]

theorem swf_filter {m : Sparse α} (p : Nat × α → Bool) (h : swf d m = true) : swf d (m.filter p) = true :=
  sortedFrom_filter p h

/-- Writes in a row keep the canonical form. -/
theorem swf_foldl {β : Type} {f : Sparse α → β → Sparse α} (hf : ∀ m b, swf d m = true → swf d (f m b) = true)
    (l : List β) {m : Sparse α} (h : swf d m = true) : swf d (l.foldl f m) = true := by
  induction l generalizing m with
  | nil => exact h
  | cons b l ih => exact ih (hf m b h)

end Sys2Proof.Machine
end

