-- ==== Sys2Proof/Laws/State.lean ====
section
/-! SUPPORT. What the updates of the state leave alone: one lemma per field and update, so that no proof unfolds a record
update. -/
namespace Sys2Proof.Machine

section

variable (x : UnitSt) (a : Nat) (v : Word) (f : Fld) (n i : Nat) (lo hi : Fld)

@[simp] theorem UnitSt.setWord_id : (x.setWord a v).id = x.id := rfl
@[simp] theorem UnitSt.set_id : (x.set f n i).id = x.id := rfl
@[simp] theorem UnitSt.inc_id : (x.inc f i).id = x.id := rfl
@[simp] theorem UnitSt.setPair_id : (x.setPair lo hi n i).id = x.id := rfl
@[simp] theorem UnitSt.setWord_reqs : (x.setWord a v).reqs = x.reqs := rfl
@[simp] theorem UnitSt.set_reqs : (x.set f n i).reqs = x.reqs := rfl
@[simp] theorem UnitSt.inc_reqs : (x.inc f i).reqs = x.reqs := rfl
@[simp] theorem UnitSt.setPair_reqs : (x.setPair lo hi n i).reqs = x.reqs := rfl
@[simp] theorem UnitSt.setWord_out : (x.setWord a v).out = x.out := rfl
@[simp] theorem UnitSt.set_out : (x.set f n i).out = x.out := rfl
@[simp] theorem UnitSt.inc_out : (x.inc f i).out = x.out := rfl
@[simp] theorem UnitSt.setPair_out : (x.setPair lo hi n i).out = x.out := rfl
@[simp] theorem UnitSt.setWord_free : (x.setWord a v).free = x.free := rfl
@[simp] theorem UnitSt.set_free : (x.set f n i).free = x.free := rfl
@[simp] theorem UnitSt.inc_free : (x.inc f i).free = x.free := rfl
@[simp] theorem UnitSt.setPair_free : (x.setPair lo hi n i).free = x.free := rfl
@[simp] theorem UnitSt.setWord_conf : (x.setWord a v).conf = x.conf := rfl
@[simp] theorem UnitSt.set_conf : (x.set f n i).conf = x.conf := rfl
@[simp] theorem UnitSt.inc_conf : (x.inc f i).conf = x.conf := rfl
@[simp] theorem UnitSt.setPair_conf : (x.setPair lo hi n i).conf = x.conf := rfl
@[simp] theorem UnitSt.setWord_tim : (x.setWord a v).tim = x.tim := rfl
@[simp] theorem UnitSt.set_tim : (x.set f n i).tim = x.tim := rfl
@[simp] theorem UnitSt.inc_tim : (x.inc f i).tim = x.tim := rfl
@[simp] theorem UnitSt.setPair_tim : (x.setPair lo hi n i).tim = x.tim := rfl
@[simp] theorem UnitSt.setWord_ports : (x.setWord a v).ports = x.ports := rfl
@[simp] theorem UnitSt.set_ports : (x.set f n i).ports = x.ports := rfl
@[simp] theorem UnitSt.inc_ports : (x.inc f i).ports = x.ports := rfl
@[simp] theorem UnitSt.setPair_ports : (x.setPair lo hi n i).ports = x.ports := rfl
@[simp] theorem UnitSt.setWord_views : (x.setWord a v).views = x.views := rfl
@[simp] theorem UnitSt.set_views : (x.set f n i).views = x.views := rfl
@[simp] theorem UnitSt.inc_views : (x.inc f i).views = x.views := rfl
@[simp] theorem UnitSt.setPair_views : (x.setPair lo hi n i).views = x.views := rfl
@[simp] theorem UnitSt.setWord_hbx : (x.setWord a v).hbx = x.hbx := rfl
@[simp] theorem UnitSt.set_hbx : (x.set f n i).hbx = x.hbx := rfl
@[simp] theorem UnitSt.inc_hbx : (x.inc f i).hbx = x.hbx := rfl
@[simp] theorem UnitSt.setPair_hbx : (x.setPair lo hi n i).hbx = x.hbx := rfl
@[simp] theorem UnitSt.setWord_lse : (x.setWord a v).lse = x.lse := rfl
@[simp] theorem UnitSt.set_lse : (x.set f n i).lse = x.lse := rfl
@[simp] theorem UnitSt.inc_lse : (x.inc f i).lse = x.lse := rfl
@[simp] theorem UnitSt.setPair_lse : (x.setPair lo hi n i).lse = x.lse := rfl
@[simp] theorem UnitSt.setWord_spl : (x.setWord a v).spl = x.spl := rfl
@[simp] theorem UnitSt.set_spl : (x.set f n i).spl = x.spl := rfl
@[simp] theorem UnitSt.inc_spl : (x.inc f i).spl = x.spl := rfl
@[simp] theorem UnitSt.setPair_spl : (x.setPair lo hi n i).spl = x.spl := rfl
@[simp] theorem UnitSt.setWord_flt : (x.setWord a v).flt = x.flt := rfl
@[simp] theorem UnitSt.set_flt : (x.set f n i).flt = x.flt := rfl
@[simp] theorem UnitSt.inc_flt : (x.inc f i).flt = x.flt := rfl
@[simp] theorem UnitSt.setPair_flt : (x.setPair lo hi n i).flt = x.flt := rfl
@[simp] theorem UnitSt.setWord_mem : (x.setWord a v).mem = x.mem := rfl
@[simp] theorem UnitSt.set_mem : (x.set f n i).mem = x.mem := rfl
@[simp] theorem UnitSt.inc_mem : (x.inc f i).mem = x.mem := rfl
@[simp] theorem UnitSt.setPair_mem : (x.setPair lo hi n i).mem = x.mem := rfl
@[simp] theorem UnitSt.setWord_host : (x.setWord a v).host = x.host := rfl
@[simp] theorem UnitSt.set_host : (x.set f n i).host = x.host := rfl
@[simp] theorem UnitSt.inc_host : (x.inc f i).host = x.host := rfl
@[simp] theorem UnitSt.setPair_host : (x.setPair lo hi n i).host = x.host := rfl
@[simp] theorem UnitSt.setWord_clp : (x.setWord a v).clp = x.clp := rfl
@[simp] theorem UnitSt.set_clp : (x.set f n i).clp = x.clp := rfl
@[simp] theorem UnitSt.inc_clp : (x.inc f i).clp = x.clp := rfl
@[simp] theorem UnitSt.setPair_clp : (x.setPair lo hi n i).clp = x.clp := rfl
@[simp] theorem UnitSt.setWord_cal : (x.setWord a v).cal = x.cal := rfl
@[simp] theorem UnitSt.set_cal : (x.set f n i).cal = x.cal := rfl
@[simp] theorem UnitSt.inc_cal : (x.inc f i).cal = x.cal := rfl
@[simp] theorem UnitSt.setPair_cal : (x.setPair lo hi n i).cal = x.cal := rfl
@[simp] theorem UnitSt.setWord_mins : (x.setWord a v).mins = x.mins := rfl
@[simp] theorem UnitSt.set_mins : (x.set f n i).mins = x.mins := rfl
@[simp] theorem UnitSt.inc_mins : (x.inc f i).mins = x.mins := rfl
@[simp] theorem UnitSt.setPair_mins : (x.setPair lo hi n i).mins = x.mins := rfl
@[simp] theorem UnitSt.setWord_reel : (x.setWord a v).reel = x.reel := rfl
@[simp] theorem UnitSt.set_reel : (x.set f n i).reel = x.reel := rfl
@[simp] theorem UnitSt.inc_reel : (x.inc f i).reel = x.reel := rfl
@[simp] theorem UnitSt.setPair_reel : (x.setPair lo hi n i).reel = x.reel := rfl
@[simp] theorem UnitSt.setWord_lpe : (x.setWord a v).lpe = x.lpe := rfl
@[simp] theorem UnitSt.set_lpe : (x.set f n i).lpe = x.lpe := rfl
@[simp] theorem UnitSt.inc_lpe : (x.inc f i).lpe = x.lpe := rfl
@[simp] theorem UnitSt.setPair_lpe : (x.setPair lo hi n i).lpe = x.lpe := rfl
@[simp] theorem UnitSt.setWord_net : (x.setWord a v).net = x.net := rfl
@[simp] theorem UnitSt.set_net : (x.set f n i).net = x.net := rfl
@[simp] theorem UnitSt.inc_net : (x.inc f i).net = x.net := rfl
@[simp] theorem UnitSt.setPair_net : (x.setPair lo hi n i).net = x.net := rfl
@[simp] theorem UnitSt.setWord_pci : (x.setWord a v).pci = x.pci := rfl
@[simp] theorem UnitSt.set_pci : (x.set f n i).pci = x.pci := rfl
@[simp] theorem UnitSt.inc_pci : (x.inc f i).pci = x.pci := rfl
@[simp] theorem UnitSt.setPair_pci : (x.setPair lo hi n i).pci = x.pci := rfl
@[simp] theorem UnitSt.setWord_ptp : (x.setWord a v).ptp = x.ptp := rfl
@[simp] theorem UnitSt.set_ptp : (x.set f n i).ptp = x.ptp := rfl
@[simp] theorem UnitSt.inc_ptp : (x.inc f i).ptp = x.ptp := rfl
@[simp] theorem UnitSt.setPair_ptp : (x.setPair lo hi n i).ptp = x.ptp := rfl
@[simp] theorem UnitSt.setWord_disabled : (x.setWord a v).disabled = x.disabled := rfl
@[simp] theorem UnitSt.set_disabled : (x.set f n i).disabled = x.disabled := rfl
@[simp] theorem UnitSt.inc_disabled : (x.inc f i).disabled = x.disabled := rfl
@[simp] theorem UnitSt.setPair_disabled : (x.setPair lo hi n i).disabled = x.disabled := rfl
@[simp] theorem UnitSt.setWord_boot : (x.setWord a v).boot = x.boot := rfl
@[simp] theorem UnitSt.set_boot : (x.set f n i).boot = x.boot := rfl
@[simp] theorem UnitSt.inc_boot : (x.inc f i).boot = x.boot := rfl
@[simp] theorem UnitSt.setPair_boot : (x.setPair lo hi n i).boot = x.boot := rfl
@[simp] theorem UnitSt.setWord_flash : (x.setWord a v).flash = x.flash := rfl
@[simp] theorem UnitSt.set_flash : (x.set f n i).flash = x.flash := rfl
@[simp] theorem UnitSt.inc_flash : (x.inc f i).flash = x.flash := rfl
@[simp] theorem UnitSt.setPair_flash : (x.setPair lo hi n i).flash = x.flash := rfl
@[simp] theorem UnitSt.setWord_verif : (x.setWord a v).verif = x.verif := rfl
@[simp] theorem UnitSt.set_verif : (x.set f n i).verif = x.verif := rfl
@[simp] theorem UnitSt.inc_verif : (x.inc f i).verif = x.verif := rfl
@[simp] theorem UnitSt.setPair_verif : (x.setPair lo hi n i).verif = x.verif := rfl
@[simp] theorem UnitSt.setWord_fls : (x.setWord a v).fls = x.fls := rfl
@[simp] theorem UnitSt.set_fls : (x.set f n i).fls = x.fls := rfl
@[simp] theorem UnitSt.inc_fls : (x.inc f i).fls = x.fls := rfl
@[simp] theorem UnitSt.setPair_fls : (x.setPair lo hi n i).fls = x.fls := rfl
@[simp] theorem UnitSt.setWord_clkAt : (x.setWord a v).clkAt = x.clkAt := rfl
@[simp] theorem UnitSt.set_clkAt : (x.set f n i).clkAt = x.clkAt := rfl
@[simp] theorem UnitSt.inc_clkAt : (x.inc f i).clkAt = x.clkAt := rfl
@[simp] theorem UnitSt.setPair_clkAt : (x.setPair lo hi n i).clkAt = x.clkAt := rfl
@[simp] theorem UnitSt.setWord_quietDue : (x.setWord a v).quietDue = x.quietDue := rfl
@[simp] theorem UnitSt.set_quietDue : (x.set f n i).quietDue = x.quietDue := rfl
@[simp] theorem UnitSt.inc_quietDue : (x.inc f i).quietDue = x.quietDue := rfl
@[simp] theorem UnitSt.setPair_quietDue : (x.setPair lo hi n i).quietDue = x.quietDue := rfl
@[simp] theorem UnitSt.setWord_jtag : (x.setWord a v).jtag = x.jtag := rfl
@[simp] theorem UnitSt.set_jtag : (x.set f n i).jtag = x.jtag := rfl
@[simp] theorem UnitSt.inc_jtag : (x.inc f i).jtag = x.jtag := rfl
@[simp] theorem UnitSt.setPair_jtag : (x.setPair lo hi n i).jtag = x.jtag := rfl
@[simp] theorem UnitSt.setWord_quietTrip : (x.setWord a v).quietTrip = x.quietTrip := rfl
@[simp] theorem UnitSt.set_quietTrip : (x.set f n i).quietTrip = x.quietTrip := rfl
@[simp] theorem UnitSt.inc_quietTrip : (x.inc f i).quietTrip = x.quietTrip := rfl
@[simp] theorem UnitSt.setPair_quietTrip : (x.setPair lo hi n i).quietTrip = x.quietTrip := rfl

end

section

variable (x : CellSt) (a : Nat) (v : Word) (f : Fld) (n i : Nat) (lo hi : Fld)

@[simp] theorem CellSt.setWord_key : (x.setWord a v).key = x.key := rfl
@[simp] theorem CellSt.set_key : (x.set f n i).key = x.key := rfl
@[simp] theorem CellSt.inc_key : (x.inc f i).key = x.key := rfl
@[simp] theorem CellSt.setPair_key : (x.setPair lo hi n i).key = x.key := rfl
@[simp] theorem CellSt.setWord_reqs : (x.setWord a v).reqs = x.reqs := rfl
@[simp] theorem CellSt.set_reqs : (x.set f n i).reqs = x.reqs := rfl
@[simp] theorem CellSt.inc_reqs : (x.inc f i).reqs = x.reqs := rfl
@[simp] theorem CellSt.setPair_reqs : (x.setPair lo hi n i).reqs = x.reqs := rfl
@[simp] theorem CellSt.setWord_out : (x.setWord a v).out = x.out := rfl
@[simp] theorem CellSt.set_out : (x.set f n i).out = x.out := rfl
@[simp] theorem CellSt.inc_out : (x.inc f i).out = x.out := rfl
@[simp] theorem CellSt.setPair_out : (x.setPair lo hi n i).out = x.out := rfl
@[simp] theorem CellSt.setWord_free : (x.setWord a v).free = x.free := rfl
@[simp] theorem CellSt.set_free : (x.set f n i).free = x.free := rfl
@[simp] theorem CellSt.inc_free : (x.inc f i).free = x.free := rfl
@[simp] theorem CellSt.setPair_free : (x.setPair lo hi n i).free = x.free := rfl
@[simp] theorem CellSt.setWord_pow : (x.setWord a v).pow = x.pow := rfl
@[simp] theorem CellSt.set_pow : (x.set f n i).pow = x.pow := rfl
@[simp] theorem CellSt.inc_pow : (x.inc f i).pow = x.pow := rfl
@[simp] theorem CellSt.setPair_pow : (x.setPair lo hi n i).pow = x.pow := rfl
@[simp] theorem CellSt.setWord_tim : (x.setWord a v).tim = x.tim := rfl
@[simp] theorem CellSt.set_tim : (x.set f n i).tim = x.tim := rfl
@[simp] theorem CellSt.inc_tim : (x.inc f i).tim = x.tim := rfl
@[simp] theorem CellSt.setPair_tim : (x.setPair lo hi n i).tim = x.tim := rfl
@[simp] theorem CellSt.setWord_lnkA : (x.setWord a v).lnkA = x.lnkA := rfl
@[simp] theorem CellSt.set_lnkA : (x.set f n i).lnkA = x.lnkA := rfl
@[simp] theorem CellSt.inc_lnkA : (x.inc f i).lnkA = x.lnkA := rfl
@[simp] theorem CellSt.setPair_lnkA : (x.setPair lo hi n i).lnkA = x.lnkA := rfl
@[simp] theorem CellSt.setWord_lnkB : (x.setWord a v).lnkB = x.lnkB := rfl
@[simp] theorem CellSt.set_lnkB : (x.set f n i).lnkB = x.lnkB := rfl
@[simp] theorem CellSt.inc_lnkB : (x.inc f i).lnkB = x.lnkB := rfl
@[simp] theorem CellSt.setPair_lnkB : (x.setPair lo hi n i).lnkB = x.lnkB := rfl
@[simp] theorem CellSt.setWord_hdr : (x.setWord a v).hdr = x.hdr := rfl
@[simp] theorem CellSt.set_hdr : (x.set f n i).hdr = x.hdr := rfl
@[simp] theorem CellSt.inc_hdr : (x.inc f i).hdr = x.hdr := rfl
@[simp] theorem CellSt.setPair_hdr : (x.setPair lo hi n i).hdr = x.hdr := rfl
@[simp] theorem CellSt.setWord_acc : (x.setWord a v).acc = x.acc := rfl
@[simp] theorem CellSt.set_acc : (x.set f n i).acc = x.acc := rfl
@[simp] theorem CellSt.inc_acc : (x.inc f i).acc = x.acc := rfl
@[simp] theorem CellSt.setPair_acc : (x.setPair lo hi n i).acc = x.acc := rfl
@[simp] theorem CellSt.setWord_sw : (x.setWord a v).sw = x.sw := rfl
@[simp] theorem CellSt.set_sw : (x.set f n i).sw = x.sw := rfl
@[simp] theorem CellSt.inc_sw : (x.inc f i).sw = x.sw := rfl
@[simp] theorem CellSt.setPair_sw : (x.setPair lo hi n i).sw = x.sw := rfl
@[simp] theorem CellSt.setWord_chs : (x.setWord a v).chs = x.chs := rfl
@[simp] theorem CellSt.set_chs : (x.set f n i).chs = x.chs := rfl
@[simp] theorem CellSt.inc_chs : (x.inc f i).chs = x.chs := rfl
@[simp] theorem CellSt.setPair_chs : (x.setPair lo hi n i).chs = x.chs := rfl
@[simp] theorem CellSt.setWord_rot : (x.setWord a v).rot = x.rot := rfl
@[simp] theorem CellSt.set_rot : (x.set f n i).rot = x.rot := rfl
@[simp] theorem CellSt.inc_rot : (x.inc f i).rot = x.rot := rfl
@[simp] theorem CellSt.setPair_rot : (x.setPair lo hi n i).rot = x.rot := rfl
@[simp] theorem CellSt.setWord_prot : (x.setWord a v).prot = x.prot := rfl
@[simp] theorem CellSt.set_prot : (x.set f n i).prot = x.prot := rfl
@[simp] theorem CellSt.inc_prot : (x.inc f i).prot = x.prot := rfl
@[simp] theorem CellSt.setPair_prot : (x.setPair lo hi n i).prot = x.prot := rfl
@[simp] theorem CellSt.setWord_sup : (x.setWord a v).sup = x.sup := rfl
@[simp] theorem CellSt.set_sup : (x.set f n i).sup = x.sup := rfl
@[simp] theorem CellSt.inc_sup : (x.inc f i).sup = x.sup := rfl
@[simp] theorem CellSt.setPair_sup : (x.setPair lo hi n i).sup = x.sup := rfl
@[simp] theorem CellSt.setWord_flt : (x.setWord a v).flt = x.flt := rfl
@[simp] theorem CellSt.set_flt : (x.set f n i).flt = x.flt := rfl
@[simp] theorem CellSt.inc_flt : (x.inc f i).flt = x.flt := rfl
@[simp] theorem CellSt.setPair_flt : (x.setPair lo hi n i).flt = x.flt := rfl
@[simp] theorem CellSt.setWord_mem : (x.setWord a v).mem = x.mem := rfl
@[simp] theorem CellSt.set_mem : (x.set f n i).mem = x.mem := rfl
@[simp] theorem CellSt.inc_mem : (x.inc f i).mem = x.mem := rfl
@[simp] theorem CellSt.setPair_mem : (x.setPair lo hi n i).mem = x.mem := rfl
@[simp] theorem CellSt.setWord_replies : (x.setWord a v).replies = x.replies := rfl
@[simp] theorem CellSt.set_replies : (x.set f n i).replies = x.replies := rfl
@[simp] theorem CellSt.inc_replies : (x.inc f i).replies = x.replies := rfl
@[simp] theorem CellSt.setPair_replies : (x.setPair lo hi n i).replies = x.replies := rfl
@[simp] theorem CellSt.setWord_status : (x.setWord a v).status = x.status := rfl
@[simp] theorem CellSt.set_status : (x.set f n i).status = x.status := rfl
@[simp] theorem CellSt.inc_status : (x.inc f i).status = x.status := rfl
@[simp] theorem CellSt.setPair_status : (x.setPair lo hi n i).status = x.status := rfl
@[simp] theorem CellSt.setWord_nocmd : (x.setWord a v).nocmd = x.nocmd := rfl
@[simp] theorem CellSt.set_nocmd : (x.set f n i).nocmd = x.nocmd := rfl
@[simp] theorem CellSt.inc_nocmd : (x.inc f i).nocmd = x.nocmd := rfl
@[simp] theorem CellSt.setPair_nocmd : (x.setPair lo hi n i).nocmd = x.nocmd := rfl
@[simp] theorem CellSt.setWord_rstPend : (x.setWord a v).rstPend = x.rstPend := rfl
@[simp] theorem CellSt.set_rstPend : (x.set f n i).rstPend = x.rstPend := rfl
@[simp] theorem CellSt.inc_rstPend : (x.inc f i).rstPend = x.rstPend := rfl
@[simp] theorem CellSt.setPair_rstPend : (x.setPair lo hi n i).rstPend = x.rstPend := rfl
@[simp] theorem CellSt.setWord_rate : (x.setWord a v).rate = x.rate := rfl
@[simp] theorem CellSt.set_rate : (x.set f n i).rate = x.rate := rfl
@[simp] theorem CellSt.inc_rate : (x.inc f i).rate = x.rate := rfl
@[simp] theorem CellSt.setPair_rate : (x.setPair lo hi n i).rate = x.rate := rfl
@[simp] theorem CellSt.setWord_bpend : (x.setWord a v).bpend = x.bpend := rfl
@[simp] theorem CellSt.set_bpend : (x.set f n i).bpend = x.bpend := rfl
@[simp] theorem CellSt.inc_bpend : (x.inc f i).bpend = x.bpend := rfl
@[simp] theorem CellSt.setPair_bpend : (x.setPair lo hi n i).bpend = x.bpend := rfl
@[simp] theorem CellSt.setWord_sync : (x.setWord a v).sync = x.sync := rfl
@[simp] theorem CellSt.set_sync : (x.set f n i).sync = x.sync := rfl
@[simp] theorem CellSt.inc_sync : (x.inc f i).sync = x.sync := rfl
@[simp] theorem CellSt.setPair_sync : (x.setPair lo hi n i).sync = x.sync := rfl
@[simp] theorem CellSt.setWord_chal : (x.setWord a v).chal = x.chal := rfl
@[simp] theorem CellSt.set_chal : (x.set f n i).chal = x.chal := rfl
@[simp] theorem CellSt.inc_chal : (x.inc f i).chal = x.chal := rfl
@[simp] theorem CellSt.setPair_chal : (x.setPair lo hi n i).chal = x.chal := rfl
@[simp] theorem CellSt.setWord_disabled : (x.setWord a v).disabled = x.disabled := rfl
@[simp] theorem CellSt.set_disabled : (x.set f n i).disabled = x.disabled := rfl
@[simp] theorem CellSt.inc_disabled : (x.inc f i).disabled = x.disabled := rfl
@[simp] theorem CellSt.setPair_disabled : (x.setPair lo hi n i).disabled = x.disabled := rfl
@[simp] theorem CellSt.setWord_jtag : (x.setWord a v).jtag = x.jtag := rfl
@[simp] theorem CellSt.set_jtag : (x.set f n i).jtag = x.jtag := rfl
@[simp] theorem CellSt.inc_jtag : (x.inc f i).jtag = x.jtag := rfl
@[simp] theorem CellSt.setPair_jtag : (x.setPair lo hi n i).jtag = x.jtag := rfl
@[simp] theorem CellSt.setWord_rateFrom : (x.setWord a v).rateFrom = x.rateFrom := rfl
@[simp] theorem CellSt.set_rateFrom : (x.set f n i).rateFrom = x.rateFrom := rfl
@[simp] theorem CellSt.inc_rateFrom : (x.inc f i).rateFrom = x.rateFrom := rfl
@[simp] theorem CellSt.setPair_rateFrom : (x.setPair lo hi n i).rateFrom = x.rateFrom := rfl
@[simp] theorem CellSt.setWord_waking : (x.setWord a v).waking = x.waking := rfl
@[simp] theorem CellSt.set_waking : (x.set f n i).waking = x.waking := rfl
@[simp] theorem CellSt.inc_waking : (x.inc f i).waking = x.waking := rfl
@[simp] theorem CellSt.setPair_waking : (x.setPair lo hi n i).waking = x.waking := rfl
@[simp] theorem CellSt.setWord_resume : (x.setWord a v).resume = x.resume := rfl
@[simp] theorem CellSt.set_resume : (x.set f n i).resume = x.resume := rfl
@[simp] theorem CellSt.inc_resume : (x.inc f i).resume = x.resume := rfl
@[simp] theorem CellSt.setPair_resume : (x.setPair lo hi n i).resume = x.resume := rfl
@[simp] theorem CellSt.setWord_hopSide : (x.setWord a v).hopSide = x.hopSide := rfl
@[simp] theorem CellSt.set_hopSide : (x.set f n i).hopSide = x.hopSide := rfl
@[simp] theorem CellSt.inc_hopSide : (x.inc f i).hopSide = x.hopSide := rfl
@[simp] theorem CellSt.setPair_hopSide : (x.setPair lo hi n i).hopSide = x.hopSide := rfl

end

section

variable (s : State) (u : UnitId) (x : UnitSt) (c : CellId) (y : CellSt) (f : UnitSt → UnitSt) (g : CellSt → CellSt)

@[simp] theorem State.setUnit_cells : (s.setUnit u x).cells = s.cells := by cases u <;> rfl
@[simp] theorem State.setUnit_pending : (s.setUnit u x).pending = s.pending := by cases u <;> rfl
@[simp] theorem State.setUnit_unit : (s.setUnit u x).unit u = x := by cases u <;> rfl
@[simp] theorem State.setUnit_other : (s.setUnit u x).unit u.other = s.unit u.other := by cases u <;> rfl
@[simp] theorem State.setUnit_cell : (s.setUnit u x).cell c = s.cell c := by cases u <;> rfl
@[simp] theorem State.onUnit_cells : (s.onUnit u f).cells = s.cells := by cases u <;> rfl
@[simp] theorem State.onUnit_pending : (s.onUnit u f).pending = s.pending := by cases u <;> rfl
@[simp] theorem State.onUnit_unit : (s.onUnit u f).unit u = f (s.unit u) := by cases u <;> rfl
@[simp] theorem State.onUnit_other : (s.onUnit u f).unit u.other = s.unit u.other := by cases u <;> rfl
@[simp] theorem State.onUnit_cell : (s.onUnit u f).cell c = s.cell c := by cases u <;> rfl
@[simp] theorem State.setCell_cell : (s.setCell c y).cell c = y := sget_sset
@[simp] theorem State.onCell_cell : (s.onCell c g).cell c = g (s.cell c) := sget_sset
@[simp] theorem State.setCell_a : (s.setCell c y).a = s.a := rfl
@[simp] theorem State.setCell_b : (s.setCell c y).b = s.b := rfl
@[simp] theorem State.setCell_unit : (s.setCell c y).unit u = s.unit u := by cases u <;> rfl
@[simp] theorem State.setCell_pending : (s.setCell c y).pending = s.pending := rfl
@[simp] theorem State.onCell_a : (s.onCell c g).a = s.a := rfl
@[simp] theorem State.onCell_b : (s.onCell c g).b = s.b := rfl
@[simp] theorem State.onCell_unit : (s.onCell c g).unit u = s.unit u := by cases u <;> rfl
@[simp] theorem State.onCell_pending : (s.onCell c g).pending = s.pending := rfl
@[simp] theorem State.setUnit_keep : (s.setUnit u x).setUnit u.other (s.unit u.other) = s.setUnit u x := by cases u <;> rfl
@[simp] theorem UnitId.other_other : u.other.other = u := by cases u <;> rfl

end

end Sys2Proof.Machine
end

