-- ==== Sys2Proof/Laws/Regs.lean ====
section
/-! SUPPORT. The laws of registers: a field reads back as written, other fields of the word and other words stay. -/
namespace Sys2Proof.Machine

theorem Fld.testBit_get (f : Fld) (w : Word) (i j : Nat) :
    (f.get w i).testBit j = (decide (j < f.width) && w.getLsbD (f.lo i + j)) := by
  simp [Fld.get, Nat.testBit_mod_two_pow, Nat.testBit_shiftRight, BitVec.getLsbD]

/-- The bits of a word after a field of it is set. -/
theorem Fld.getLsbD_put (f : Fld) (w : Word) (i v j : Nat) (hj : j < 32) :
    (f.put w i v).getLsbD j =
      if f.lo i ≤ j ∧ j < f.lo i + f.width then v.testBit (j - f.lo i) else w.getLsbD j := by
  simp only [Fld.put, BitVec.getLsbD_or, BitVec.getLsbD_and, BitVec.getLsbD_not, BitVec.getLsbD_ofNat, hj,
    decide_true, Bool.true_and, Nat.testBit_shiftLeft, Nat.testBit_mod_two_pow, Nat.testBit_two_pow_sub_one, ge_iff_le]
  by_cases h1 : f.lo i ≤ j
  · by_cases h2 : j < f.lo i + f.width
    · have : j - f.lo i < f.width := by omega
      simp [h1, h2, this]
    · have : ¬ j - f.lo i < f.width := by omega
      simp [h1, h2, this]
  · simp [h1]

/-- A field reads back as written, cut to its width. -/
theorem Fld.get_put (f : Fld) (w : Word) (i v : Nat) (h : f.lo i + f.width ≤ 32) :
    f.get (f.put w i v) i = v % 2 ^ f.width := by
  apply Nat.eq_of_testBit_eq
  intro j
  rw [Fld.testBit_get, Nat.testBit_mod_two_pow]
  by_cases hj : j < f.width
  · rw [Fld.getLsbD_put _ _ _ _ _ (by omega)]
    have : f.lo i ≤ f.lo i + j ∧ f.lo i + j < f.lo i + f.width := by omega
    simp [hj, this]
  · simp [hj]

/-- A field that shares no bit with the one written stays. -/
theorem Fld.get_put_disjoint (f g : Fld) (w : Word) (i j v : Nat) (hg : g.lo j + g.width ≤ 32)
    (h : f.lo i + f.width ≤ g.lo j ∨ g.lo j + g.width ≤ f.lo i) : g.get (f.put w i v) j = g.get w j := by
  apply Nat.eq_of_testBit_eq
  intro k
  rw [Fld.testBit_get, Fld.testBit_get]
  by_cases hk : k < g.width
  · rw [Fld.getLsbD_put _ _ _ _ _ (by omega)]
    have : ¬ (f.lo i ≤ g.lo j + k ∧ g.lo j + k < f.lo i + f.width) := by omega
    simp [this]
  · simp [hk]

/-- The register file of a unit is canonical. -/
abbrev UnitSt.regsOk (x : UnitSt) : Prop := swf (unitReset x.id) x.regs = true

/-- The register file of a cell is canonical. -/
abbrev CellSt.regsOk (x : CellSt) : Prop := swf (cellReset x.key) x.regs = true

theorem UnitSt.setWord_regsOk {x : UnitSt} (h : x.regsOk) (a : Nat) (v : Word) : (x.setWord a v).regsOk := swf_sset h
theorem UnitSt.set_regsOk {x : UnitSt} (h : x.regsOk) (f : Fld) (v i : Nat) : (x.set f v i).regsOk := swf_sset h
theorem CellSt.setWord_regsOk {x : CellSt} (h : x.regsOk) (a : Nat) (v : Word) : (x.setWord a v).regsOk := swf_sset h
theorem CellSt.set_regsOk {x : CellSt} (h : x.regsOk) (f : Fld) (v i : Nat) : (x.set f v i).regsOk := swf_sset h

theorem UnitSt.word_setWord {x : UnitSt} (a : Nat) (v : Word) : (x.setWord a v).word a = v :=
  sget_sset
theorem UnitSt.word_setWord_ne {x : UnitSt} {a b : Nat} (hb : b ≠ a) (v : Word) : (x.setWord a v).word b = x.word b :=
  sget_sset_ne hb
theorem CellSt.word_setWord {x : CellSt} (a : Nat) (v : Word) : (x.setWord a v).word a = v :=
  sget_sset
theorem CellSt.word_setWord_ne {x : CellSt} {a b : Nat} (hb : b ≠ a) (v : Word) : (x.setWord a v).word b = x.word b :=
  sget_sset_ne hb

/-- Setting a field of a unit leaves every other register. -/
theorem UnitSt.word_set_ne {x : UnitSt} {f : Fld} {v i a : Nat} (h : a ≠ f.addr i) : (x.set f v i).word a = x.word a :=
  UnitSt.word_setWord_ne h _
/-- Setting a field of a cell leaves every other register. -/
theorem CellSt.word_set_ne {x : CellSt} {f : Fld} {v i a : Nat} (h : a ≠ f.addr i) : (x.set f v i).word a = x.word a :=
  CellSt.word_setWord_ne h _

/-- A field of a unit reads back as set. -/
theorem UnitSt.fld_set {x : UnitSt} (f : Fld) (v i : Nat) (hf : f.lo i + f.width ≤ 32) :
    (x.set f v i).fld f i = v % 2 ^ f.width := by
  simp only [UnitSt.fld, UnitSt.set, UnitSt.word_setWord, Fld.get_put _ _ _ _ hf]

/-- A field of a cell reads back as set. -/
theorem CellSt.fld_set {x : CellSt} (f : Fld) (v i : Nat) (hf : f.lo i + f.width ≤ 32) :
    (x.set f v i).fld f i = v % 2 ^ f.width := by
  simp only [CellSt.fld, CellSt.set, CellSt.word_setWord, Fld.get_put _ _ _ _ hf]

/-- A field of another register stays when a field of a unit is set. -/
theorem UnitSt.fld_set_ne {x : UnitSt} (f g : Fld) (v i j : Nat) (h : g.addr j ≠ f.addr i) :
    (x.set f v i).fld g j = x.fld g j := by
  simp only [UnitSt.fld, UnitSt.set, UnitSt.word_setWord_ne h]

/-- A field of another register stays when a field of a cell is set. -/
theorem CellSt.fld_set_ne {x : CellSt} (f g : Fld) (v i j : Nat) (h : g.addr j ≠ f.addr i) :
    (x.set f v i).fld g j = x.fld g j := by
  simp only [CellSt.fld, CellSt.set, CellSt.word_setWord_ne h]

/-- Other bits of the register stay when a field of a unit is set. -/
theorem UnitSt.fld_set_disjoint {x : UnitSt} (f g : Fld) (v i j : Nat) (ha : g.addr j = f.addr i)
    (hg : g.lo j + g.width ≤ 32) (h : f.lo i + f.width ≤ g.lo j ∨ g.lo j + g.width ≤ f.lo i) :
    (x.set f v i).fld g j = x.fld g j := by
  simp only [UnitSt.fld, UnitSt.set, ha, UnitSt.word_setWord, Fld.get_put_disjoint f g _ i j v hg h]

/-- Other bits of the register stay when a field of a cell is set. -/
theorem CellSt.fld_set_disjoint {x : CellSt} (f g : Fld) (v i j : Nat) (ha : g.addr j = f.addr i)
    (hg : g.lo j + g.width ≤ 32) (h : f.lo i + f.width ≤ g.lo j ∨ g.lo j + g.width ≤ f.lo i) :
    (x.set f v i).fld g j = x.fld g j := by
  simp only [CellSt.fld, CellSt.set, ha, CellSt.word_setWord, Fld.get_put_disjoint f g _ i j v hg h]

end Sys2Proof.Machine
end

