-- ==== Sys2Proof/Laws/Events.lean ====
section
/-! SUPPORT. What events, errors and the passing of time change, and what they leave alone. -/
namespace Sys2Proof.Machine

/-! Time. -/

/-- Time passing changes no register but `TIM_NOW`. -/
theorem UnitSt.word_tick {x : UnitSt} {t : Instant} {a : Nat} (h1 : a ≠ TIM_NOW_LO.NS_LO.addr 0)
    (h2 : a ≠ TIM_NOW_HI.NS_HI.addr 0) (h3 : a ≠ TIM_NOW_FRAC.FRAC.addr 0) : (x.tick t).word a = x.word a := by
  unfold UnitSt.tick
  split
  · simp only [UnitSt.setNow, UnitSt.setInstant, UnitSt.setPair, UnitSt.set]
    rw [UnitSt.word_setWord_ne h3, UnitSt.word_setWord_ne h2, UnitSt.word_setWord_ne h1]
  · rfl

/-- Time passing changes no field but those of `TIM_NOW`. -/
theorem UnitSt.fld_tick {x : UnitSt} {t : Instant} {f : Fld} {i : Nat} (h1 : f.addr i ≠ TIM_NOW_LO.NS_LO.addr 0)
    (h2 : f.addr i ≠ TIM_NOW_HI.NS_HI.addr 0) (h3 : f.addr i ≠ TIM_NOW_FRAC.FRAC.addr 0) :
    (x.tick t).fld f i = x.fld f i := by
  simp only [UnitSt.fld, UnitSt.word_tick h1 h2 h3]

/-- Cell time passing changes no register but `CTIM_NOW`. -/
theorem CellSt.word_tick {x : CellSt} {t : Instant} {a : Nat} (h1 : a ≠ CTIM_NOW_LO.NS.addr 0)
    (h2 : a ≠ CTIM_NOW_HI.NS.addr 0) (h3 : a ≠ CTIM_NOW_FRAC.FRAC.addr 0) : (x.tick t).word a = x.word a := by
  simp only [CellSt.tick, CellSt.setPair, CellSt.set]
  rw [CellSt.word_setWord_ne h3, CellSt.word_setWord_ne h2, CellSt.word_setWord_ne h1]

/-- Cell time passing changes no field but those of `CTIM_NOW`. -/
theorem CellSt.fld_tick {x : CellSt} {t : Instant} {f : Fld} {i : Nat} (h1 : f.addr i ≠ CTIM_NOW_LO.NS.addr 0)
    (h2 : f.addr i ≠ CTIM_NOW_HI.NS.addr 0) (h3 : f.addr i ≠ CTIM_NOW_FRAC.FRAC.addr 0) :
    (x.tick t).fld f i = x.fld f i := by
  simp only [CellSt.fld, CellSt.word_tick h1 h2 h3]

/-! Events and errors change registers, and may put an interrupt on a line. -/

/-- Time passing changes registers alone. -/
theorem UnitSt.tick_regs (x : UnitSt) (t : Instant) : ∃ r o, x.tick t = { x with regs := r, out := o } := by
  unfold UnitSt.tick
  split
  · exact ⟨_, _, rfl⟩
  · exact ⟨_, _, rfl⟩

/-- A message to the host goes out on a line, or sets a pending bit. -/
theorem UnitSt.sendMsix_regs (x : UnitSt) (f v : Nat) : ∃ o c, x.sendMsix f v = { x with out := o, pci := c } := by
  unfold UnitSt.sendMsix UnitSt.onFn
  repeat' split
  all_goals exact ⟨_, _, rfl⟩

/-- A message to the host changes no register. -/
@[simp] theorem UnitSt.word_sendMsix (x : UnitSt) (f v a : Nat) : (x.sendMsix f v).word a = x.word a := by
  obtain ⟨o, c, h⟩ := x.sendMsix_regs f v
  rw [h]; rfl

/-- An event changes registers, lines and pending bits alone. -/
theorem UnitSt.evtBit_regs (x : UnitSt) (b k : Nat) : ∃ r o c, x.evtBit b k = { x with regs := r, out := o, pci := c } := by
  unfold UnitSt.evtBit UnitSt.deliver
  dsimp only
  repeat' split
  all_goals first
    | exact ⟨_, _, _, rfl⟩
    | exact ((UnitSt.sendMsix_regs _ _ _).elim fun o h => h.elim fun c h => ⟨_, o, c, h⟩)

/-- An event named by its field changes registers, lines and pending bits alone. -/
theorem UnitSt.evt_regs (x : UnitSt) (f : Fld) (i : Nat) : ∃ r o c, x.evt f i = { x with regs := r, out := o, pci := c } :=
  x.evtBit_regs _ _

/-- An error changes registers, lines and pending bits alone. -/
theorem UnitSt.err_regs (x : UnitSt) (f : Fld) (i : Nat) : ∃ r o c, x.err f i = { x with regs := r, out := o, pci := c } := by
  unfold UnitSt.err
  dsimp only
  split
  · obtain ⟨r, o, c, h⟩ := (x.set f 1 i).evtBit_regs (f.addr i - f.addr i % 0x1000) 0
    exact ⟨r, o, c, h⟩
  · exact ⟨_, _, _, rfl⟩

/-- An error of a cell changes registers alone. -/
theorem CellSt.err_regs (x : CellSt) (f : Fld) (i : Nat) : ∃ r o, x.err f i = { x with regs := r, out := o } := by
  unfold CellSt.err
  dsimp only
  split <;> exact ⟨_, _, rfl⟩

/-- Cell time passing changes registers alone. -/
theorem CellSt.tick_regs (x : CellSt) (t : Instant) : ∃ r o, x.tick t = { x with regs := r, out := o } := ⟨_, _, rfl⟩

/-- What leaves on a line changes no register. -/
@[simp] theorem UnitSt.word_emit (x : UnitSt) (o : Out) (a : Nat) : (x.emit o).word a = x.word a := rfl

/-- An event changes no register but that of its page's events. -/
theorem UnitSt.word_evtBit {x : UnitSt} {b k a : Nat} (h : a ≠ b + 0x1C) : (x.evtBit b k).word a = x.word a := by
  unfold UnitSt.evtBit UnitSt.deliver
  dsimp only
  repeat' split
  all_goals first | rfl | exact UnitSt.word_setWord_ne h _ | exact (UnitSt.word_sendMsix _ _ _ _).trans (UnitSt.word_setWord_ne h _)

/-- An event changes no field of another register. -/
theorem UnitSt.fld_evtBit {x : UnitSt} {b k j : Nat} {g : Fld} (h : g.addr j ≠ b + 0x1C) : (x.evtBit b k).fld g j = x.fld g j := by
  simp only [UnitSt.fld, UnitSt.word_evtBit h]

/-- An event named by its field changes no field of another register. -/
theorem UnitSt.fld_evt {x : UnitSt} {f g : Fld} {i j : Nat} (h : g.addr j ≠ f.addr i - f.addr i % 0x1000 + 0x1C) :
    (x.evt f i).fld g j = x.fld g j := UnitSt.fld_evtBit h

/-- An error leaves every register but its own and that of its page's events. -/
theorem UnitSt.word_err_ne {x : UnitSt} {f : Fld} {i a : Nat} (h : a ≠ f.addr i) (h1 : a ≠ f.addr i - f.addr i % 0x1000 + 0x1C) :
    (x.err f i).word a = x.word a := by
  unfold UnitSt.err
  dsimp only
  split
  · rw [UnitSt.word_evtBit h1]; exact UnitSt.word_setWord_ne h _
  · exact UnitSt.word_setWord_ne h _

/-- An error leaves every field of other registers. -/
theorem UnitSt.fld_err_ne {x : UnitSt} {f g : Fld} {i j : Nat} (h : g.addr j ≠ f.addr i)
    (h1 : g.addr j ≠ f.addr i - f.addr i % 0x1000 + 0x1C) : (x.err f i).fld g j = x.fld g j := by
  simp only [UnitSt.fld, UnitSt.word_err_ne h h1]

/-- The bit of an error reads 1 after it. -/
theorem UnitSt.fld_err {x : UnitSt} {f : Fld} {i : Nat} (hf : f.lo i + f.width ≤ 32)
    (h1 : f.addr i ≠ f.addr i - f.addr i % 0x1000 + 0x1C) : (x.err f i).fld f i = 1 % 2 ^ f.width := by
  unfold UnitSt.err
  dsimp only
  split
  · rw [UnitSt.fld_evtBit h1, UnitSt.fld_set f 1 i hf]
  · rw [UnitSt.fld_set f 1 i hf]

/-- An error of a cell leaves every register but its own and that of its page's events. -/
theorem CellSt.word_err_ne {x : CellSt} {f : Fld} {i a : Nat} (h : a ≠ f.addr i) (h1 : a ≠ f.addr i - f.addr i % 0x1000 + 0x1C) :
    (x.err f i).word a = x.word a := by
  unfold CellSt.err
  dsimp only
  split
  · rw [CellSt.word_setWord_ne h1]; exact CellSt.word_setWord_ne h _
  · exact CellSt.word_setWord_ne h _

/-- An error of a cell leaves every field of other registers. -/
theorem CellSt.fld_err_ne {x : CellSt} {f g : Fld} {i j : Nat} (h : g.addr j ≠ f.addr i)
    (h1 : g.addr j ≠ f.addr i - f.addr i % 0x1000 + 0x1C) : (x.err f i).fld g j = x.fld g j := by
  simp only [CellSt.fld, CellSt.word_err_ne h h1]

/-- The bit of an error of a cell reads 1 after it. -/
theorem CellSt.fld_err {x : CellSt} {f : Fld} {i : Nat} (hf : f.lo i + f.width ≤ 32)
    (h1 : f.addr i ≠ f.addr i - f.addr i % 0x1000 + 0x1C) : (x.err f i).fld f i = 1 % 2 ^ f.width := by
  unfold CellSt.err
  dsimp only
  split
  · simp only [CellSt.fld, CellSt.word_setWord_ne h1]
    exact CellSt.fld_set f 1 i hf
  · rw [CellSt.fld_set f 1 i hf]

/-- Holding the gates, or letting them go, changes registers, the switching state and window starts alone. -/
theorem CellSt.holdCheck_regs (x : CellSt) : ∃ r w c, x.holdCheck = { x with regs := r, sw := w, chs := c } := by
  have hd : ∀ (x : CellSt) (n : Nat), ∃ c, x.dropStarts n = { x with chs := c } := by
    intro x n
    unfold CellSt.dropStarts
    split <;> exact ⟨_, rfl⟩
  have hf : ∀ (l : List Nat) (x : CellSt), ∃ c, l.foldl CellSt.dropStarts x = { x with chs := c } := by
    intro l
    induction l with
    | nil => exact fun x => ⟨_, rfl⟩
    | cons n l ih =>
      intro x
      obtain ⟨c, hc⟩ := hd x n
      obtain ⟨d, hd⟩ := ih (x.dropStarts n)
      exact ⟨d, by rw [List.foldl_cons, hd, hc]⟩
  have hg : ∃ r w c, x.gatesOff = { x with regs := r, sw := w, chs := c } := by
    unfold CellSt.gatesOff
    dsimp only
    generalize hy : ((((x.set CSW_STATE.GATES 0).set CSW_STATE.LEG1 0).set CSW_STATE.LEG2 0).set CSW_STATE.CSTATE 3).set CSW_STATE.HOLD 1 = y
    obtain ⟨c, hc⟩ := hf (List.range 4) y
    rw [hc]
    exact ⟨y.regs, _, c, by rw [← hy]; rfl⟩
  have hs : ∀ y : CellSt, ∃ r, y.showPow = { y with regs := r } := by
    intro y
    unfold CellSt.showPow
    split <;> exact ⟨_, rfl⟩
  unfold CellSt.holdCheck
  dsimp only
  split
  · obtain ⟨r, w, c, h⟩ := hg
    obtain ⟨r', h'⟩ := hs x.gatesOff
    exact ⟨r', w, c, by rw [h', h]⟩
  · obtain ⟨r', h'⟩ := hs (x.set CSW_STATE.HOLD 0)
    exact ⟨r', x.sw, x.chs, by rw [h']; rfl⟩

/-- Dropping window starts changes no register. -/
theorem CellSt.word_dropStarts {x : CellSt} {n a : Nat} : (x.dropStarts n).word a = x.word a := by
  unfold CellSt.dropStarts
  split <;> rfl

/-- Holding the gates, or letting them go, leaves every register but `CSW_STATE` and `CPROT_PWR`. -/
theorem CellSt.word_holdCheck {x : CellSt} {a : Nat} (h : a ≠ CSW_STATE.GATES.addr 0) (h1 : a ≠ CPROT_PWR.STATE.addr 0) :
    x.holdCheck.word a = x.word a := by
  have hf : ∀ (l : List Nat) (x : CellSt), (l.foldl CellSt.dropStarts x).word a = x.word a := by
    intro l
    induction l with
    | nil => exact fun x => rfl
    | cons n l ih => exact fun x => (ih _).trans CellSt.word_dropStarts
  have hs : ∀ y : CellSt, y.showPow.word a = y.word a := by
    intro y
    unfold CellSt.showPow
    split <;> exact CellSt.word_setWord_ne h1 _
  have hg : x.gatesOff.word a = x.word a := by
    unfold CellSt.gatesOff
    dsimp only
    generalize hy : (List.range 4).foldl CellSt.dropStarts _ = y
    have e : y.word a = x.word a := by
      rw [← hy, hf, CellSt.word_set_ne (f := CSW_STATE.HOLD) h, CellSt.word_set_ne (f := CSW_STATE.CSTATE) h,
        CellSt.word_set_ne (f := CSW_STATE.LEG2) h, CellSt.word_set_ne (f := CSW_STATE.LEG1) h, CellSt.word_set_ne (f := CSW_STATE.GATES) h]
    exact e
  unfold CellSt.holdCheck
  dsimp only
  rw [hs]
  split
  · exact hg
  · exact CellSt.word_setWord_ne h _

/-- Holding the gates, or letting them go, leaves every field of registers but `CSW_STATE` and `CPROT_PWR`. -/
theorem CellSt.fld_holdCheck {x : CellSt} {g : Fld} {j : Nat} (h : g.addr j ≠ CSW_STATE.GATES.addr 0)
    (h1 : g.addr j ≠ CPROT_PWR.STATE.addr 0) : x.holdCheck.fld g j = x.fld g j := by
  simp only [CellSt.fld, CellSt.word_holdCheck h h1]

section

variable (x : UnitSt) (t : Instant) (b k : Nat) (f : Fld) (i : Nat)


@[simp] theorem UnitSt.tick_id : (x.tick t).id = x.id := by
  obtain ⟨r, o, h⟩ := UnitSt.tick_regs x t; rw [h]
@[simp] theorem UnitSt.tick_reqs : (x.tick t).reqs = x.reqs := by
  obtain ⟨r, o, h⟩ := UnitSt.tick_regs x t; rw [h]
@[simp] theorem UnitSt.tick_free : (x.tick t).free = x.free := by
  obtain ⟨r, o, h⟩ := UnitSt.tick_regs x t; rw [h]
@[simp] theorem UnitSt.tick_conf : (x.tick t).conf = x.conf := by
  obtain ⟨r, o, h⟩ := UnitSt.tick_regs x t; rw [h]
@[simp] theorem UnitSt.tick_tim : (x.tick t).tim = x.tim := by
  obtain ⟨r, o, h⟩ := UnitSt.tick_regs x t; rw [h]
@[simp] theorem UnitSt.tick_ports : (x.tick t).ports = x.ports := by
  obtain ⟨r, o, h⟩ := UnitSt.tick_regs x t; rw [h]
@[simp] theorem UnitSt.tick_views : (x.tick t).views = x.views := by
  obtain ⟨r, o, h⟩ := UnitSt.tick_regs x t; rw [h]
@[simp] theorem UnitSt.tick_hbx : (x.tick t).hbx = x.hbx := by
  obtain ⟨r, o, h⟩ := UnitSt.tick_regs x t; rw [h]
@[simp] theorem UnitSt.tick_lse : (x.tick t).lse = x.lse := by
  obtain ⟨r, o, h⟩ := UnitSt.tick_regs x t; rw [h]
@[simp] theorem UnitSt.tick_spl : (x.tick t).spl = x.spl := by
  obtain ⟨r, o, h⟩ := UnitSt.tick_regs x t; rw [h]
@[simp] theorem UnitSt.tick_flt : (x.tick t).flt = x.flt := by
  obtain ⟨r, o, h⟩ := UnitSt.tick_regs x t; rw [h]
@[simp] theorem UnitSt.tick_mem : (x.tick t).mem = x.mem := by
  obtain ⟨r, o, h⟩ := UnitSt.tick_regs x t; rw [h]
@[simp] theorem UnitSt.tick_host : (x.tick t).host = x.host := by
  obtain ⟨r, o, h⟩ := UnitSt.tick_regs x t; rw [h]
@[simp] theorem UnitSt.tick_clp : (x.tick t).clp = x.clp := by
  obtain ⟨r, o, h⟩ := UnitSt.tick_regs x t; rw [h]
@[simp] theorem UnitSt.tick_cal : (x.tick t).cal = x.cal := by
  obtain ⟨r, o, h⟩ := UnitSt.tick_regs x t; rw [h]
@[simp] theorem UnitSt.tick_mins : (x.tick t).mins = x.mins := by
  obtain ⟨r, o, h⟩ := UnitSt.tick_regs x t; rw [h]
@[simp] theorem UnitSt.tick_reel : (x.tick t).reel = x.reel := by
  obtain ⟨r, o, h⟩ := UnitSt.tick_regs x t; rw [h]
@[simp] theorem UnitSt.tick_lpe : (x.tick t).lpe = x.lpe := by
  obtain ⟨r, o, h⟩ := UnitSt.tick_regs x t; rw [h]
@[simp] theorem UnitSt.tick_net : (x.tick t).net = x.net := by
  obtain ⟨r, o, h⟩ := UnitSt.tick_regs x t; rw [h]
@[simp] theorem UnitSt.tick_pci : (x.tick t).pci = x.pci := by
  obtain ⟨r, o, h⟩ := UnitSt.tick_regs x t; rw [h]
@[simp] theorem UnitSt.tick_ptp : (x.tick t).ptp = x.ptp := by
  obtain ⟨r, o, h⟩ := UnitSt.tick_regs x t; rw [h]
@[simp] theorem UnitSt.tick_disabled : (x.tick t).disabled = x.disabled := by
  obtain ⟨r, o, h⟩ := UnitSt.tick_regs x t; rw [h]
@[simp] theorem UnitSt.tick_boot : (x.tick t).boot = x.boot := by
  obtain ⟨r, o, h⟩ := UnitSt.tick_regs x t; rw [h]
@[simp] theorem UnitSt.tick_flash : (x.tick t).flash = x.flash := by
  obtain ⟨r, o, h⟩ := UnitSt.tick_regs x t; rw [h]
@[simp] theorem UnitSt.tick_verif : (x.tick t).verif = x.verif := by
  obtain ⟨r, o, h⟩ := UnitSt.tick_regs x t; rw [h]
@[simp] theorem UnitSt.tick_fls : (x.tick t).fls = x.fls := by
  obtain ⟨r, o, h⟩ := UnitSt.tick_regs x t; rw [h]
@[simp] theorem UnitSt.tick_clkAt : (x.tick t).clkAt = x.clkAt := by
  obtain ⟨r, o, h⟩ := UnitSt.tick_regs x t; rw [h]
@[simp] theorem UnitSt.tick_quietDue : (x.tick t).quietDue = x.quietDue := by
  obtain ⟨r, o, h⟩ := UnitSt.tick_regs x t; rw [h]
@[simp] theorem UnitSt.tick_quietTrip : (x.tick t).quietTrip = x.quietTrip := by
  obtain ⟨r, o, h⟩ := UnitSt.tick_regs x t; rw [h]
@[simp] theorem UnitSt.tick_jtag : (x.tick t).jtag = x.jtag := by
  obtain ⟨r, o, h⟩ := UnitSt.tick_regs x t; rw [h]
@[simp] theorem UnitSt.evtBit_id : (x.evtBit b k).id = x.id := by
  obtain ⟨r, o, c, h⟩ := UnitSt.evtBit_regs x b k; rw [h]
@[simp] theorem UnitSt.evtBit_reqs : (x.evtBit b k).reqs = x.reqs := by
  obtain ⟨r, o, c, h⟩ := UnitSt.evtBit_regs x b k; rw [h]
@[simp] theorem UnitSt.evtBit_free : (x.evtBit b k).free = x.free := by
  obtain ⟨r, o, c, h⟩ := UnitSt.evtBit_regs x b k; rw [h]
@[simp] theorem UnitSt.evtBit_conf : (x.evtBit b k).conf = x.conf := by
  obtain ⟨r, o, c, h⟩ := UnitSt.evtBit_regs x b k; rw [h]
@[simp] theorem UnitSt.evtBit_tim : (x.evtBit b k).tim = x.tim := by
  obtain ⟨r, o, c, h⟩ := UnitSt.evtBit_regs x b k; rw [h]
@[simp] theorem UnitSt.evtBit_ports : (x.evtBit b k).ports = x.ports := by
  obtain ⟨r, o, c, h⟩ := UnitSt.evtBit_regs x b k; rw [h]
@[simp] theorem UnitSt.evtBit_views : (x.evtBit b k).views = x.views := by
  obtain ⟨r, o, c, h⟩ := UnitSt.evtBit_regs x b k; rw [h]
@[simp] theorem UnitSt.evtBit_hbx : (x.evtBit b k).hbx = x.hbx := by
  obtain ⟨r, o, c, h⟩ := UnitSt.evtBit_regs x b k; rw [h]
@[simp] theorem UnitSt.evtBit_lse : (x.evtBit b k).lse = x.lse := by
  obtain ⟨r, o, c, h⟩ := UnitSt.evtBit_regs x b k; rw [h]
@[simp] theorem UnitSt.evtBit_spl : (x.evtBit b k).spl = x.spl := by
  obtain ⟨r, o, c, h⟩ := UnitSt.evtBit_regs x b k; rw [h]
@[simp] theorem UnitSt.evtBit_flt : (x.evtBit b k).flt = x.flt := by
  obtain ⟨r, o, c, h⟩ := UnitSt.evtBit_regs x b k; rw [h]
@[simp] theorem UnitSt.evtBit_mem : (x.evtBit b k).mem = x.mem := by
  obtain ⟨r, o, c, h⟩ := UnitSt.evtBit_regs x b k; rw [h]
@[simp] theorem UnitSt.evtBit_host : (x.evtBit b k).host = x.host := by
  obtain ⟨r, o, c, h⟩ := UnitSt.evtBit_regs x b k; rw [h]
@[simp] theorem UnitSt.evtBit_clp : (x.evtBit b k).clp = x.clp := by
  obtain ⟨r, o, c, h⟩ := UnitSt.evtBit_regs x b k; rw [h]
@[simp] theorem UnitSt.evtBit_cal : (x.evtBit b k).cal = x.cal := by
  obtain ⟨r, o, c, h⟩ := UnitSt.evtBit_regs x b k; rw [h]
@[simp] theorem UnitSt.evtBit_mins : (x.evtBit b k).mins = x.mins := by
  obtain ⟨r, o, c, h⟩ := UnitSt.evtBit_regs x b k; rw [h]
@[simp] theorem UnitSt.evtBit_reel : (x.evtBit b k).reel = x.reel := by
  obtain ⟨r, o, c, h⟩ := UnitSt.evtBit_regs x b k; rw [h]
@[simp] theorem UnitSt.evtBit_lpe : (x.evtBit b k).lpe = x.lpe := by
  obtain ⟨r, o, c, h⟩ := UnitSt.evtBit_regs x b k; rw [h]
@[simp] theorem UnitSt.evtBit_net : (x.evtBit b k).net = x.net := by
  obtain ⟨r, o, c, h⟩ := UnitSt.evtBit_regs x b k; rw [h]
@[simp] theorem UnitSt.evtBit_ptp : (x.evtBit b k).ptp = x.ptp := by
  obtain ⟨r, o, c, h⟩ := UnitSt.evtBit_regs x b k; rw [h]
@[simp] theorem UnitSt.evtBit_disabled : (x.evtBit b k).disabled = x.disabled := by
  obtain ⟨r, o, c, h⟩ := UnitSt.evtBit_regs x b k; rw [h]
@[simp] theorem UnitSt.evtBit_boot : (x.evtBit b k).boot = x.boot := by
  obtain ⟨r, o, c, h⟩ := UnitSt.evtBit_regs x b k; rw [h]
@[simp] theorem UnitSt.evtBit_flash : (x.evtBit b k).flash = x.flash := by
  obtain ⟨r, o, c, h⟩ := UnitSt.evtBit_regs x b k; rw [h]
@[simp] theorem UnitSt.evtBit_verif : (x.evtBit b k).verif = x.verif := by
  obtain ⟨r, o, c, h⟩ := UnitSt.evtBit_regs x b k; rw [h]
@[simp] theorem UnitSt.evtBit_fls : (x.evtBit b k).fls = x.fls := by
  obtain ⟨r, o, c, h⟩ := UnitSt.evtBit_regs x b k; rw [h]
@[simp] theorem UnitSt.evtBit_clkAt : (x.evtBit b k).clkAt = x.clkAt := by
  obtain ⟨r, o, c, h⟩ := UnitSt.evtBit_regs x b k; rw [h]
@[simp] theorem UnitSt.evtBit_quietDue : (x.evtBit b k).quietDue = x.quietDue := by
  obtain ⟨r, o, c, h⟩ := UnitSt.evtBit_regs x b k; rw [h]
@[simp] theorem UnitSt.evtBit_quietTrip : (x.evtBit b k).quietTrip = x.quietTrip := by
  obtain ⟨r, o, c, h⟩ := UnitSt.evtBit_regs x b k; rw [h]
@[simp] theorem UnitSt.evtBit_jtag : (x.evtBit b k).jtag = x.jtag := by
  obtain ⟨r, o, c, h⟩ := UnitSt.evtBit_regs x b k; rw [h]
@[simp] theorem UnitSt.evt_id : (x.evt f i).id = x.id := by
  obtain ⟨r, o, c, h⟩ := UnitSt.evt_regs x f i; rw [h]
@[simp] theorem UnitSt.evt_reqs : (x.evt f i).reqs = x.reqs := by
  obtain ⟨r, o, c, h⟩ := UnitSt.evt_regs x f i; rw [h]
@[simp] theorem UnitSt.evt_free : (x.evt f i).free = x.free := by
  obtain ⟨r, o, c, h⟩ := UnitSt.evt_regs x f i; rw [h]
@[simp] theorem UnitSt.evt_conf : (x.evt f i).conf = x.conf := by
  obtain ⟨r, o, c, h⟩ := UnitSt.evt_regs x f i; rw [h]
@[simp] theorem UnitSt.evt_tim : (x.evt f i).tim = x.tim := by
  obtain ⟨r, o, c, h⟩ := UnitSt.evt_regs x f i; rw [h]
@[simp] theorem UnitSt.evt_ports : (x.evt f i).ports = x.ports := by
  obtain ⟨r, o, c, h⟩ := UnitSt.evt_regs x f i; rw [h]
@[simp] theorem UnitSt.evt_views : (x.evt f i).views = x.views := by
  obtain ⟨r, o, c, h⟩ := UnitSt.evt_regs x f i; rw [h]
@[simp] theorem UnitSt.evt_hbx : (x.evt f i).hbx = x.hbx := by
  obtain ⟨r, o, c, h⟩ := UnitSt.evt_regs x f i; rw [h]
@[simp] theorem UnitSt.evt_lse : (x.evt f i).lse = x.lse := by
  obtain ⟨r, o, c, h⟩ := UnitSt.evt_regs x f i; rw [h]
@[simp] theorem UnitSt.evt_spl : (x.evt f i).spl = x.spl := by
  obtain ⟨r, o, c, h⟩ := UnitSt.evt_regs x f i; rw [h]
@[simp] theorem UnitSt.evt_flt : (x.evt f i).flt = x.flt := by
  obtain ⟨r, o, c, h⟩ := UnitSt.evt_regs x f i; rw [h]
@[simp] theorem UnitSt.evt_mem : (x.evt f i).mem = x.mem := by
  obtain ⟨r, o, c, h⟩ := UnitSt.evt_regs x f i; rw [h]
@[simp] theorem UnitSt.evt_host : (x.evt f i).host = x.host := by
  obtain ⟨r, o, c, h⟩ := UnitSt.evt_regs x f i; rw [h]
@[simp] theorem UnitSt.evt_clp : (x.evt f i).clp = x.clp := by
  obtain ⟨r, o, c, h⟩ := UnitSt.evt_regs x f i; rw [h]
@[simp] theorem UnitSt.evt_cal : (x.evt f i).cal = x.cal := by
  obtain ⟨r, o, c, h⟩ := UnitSt.evt_regs x f i; rw [h]
@[simp] theorem UnitSt.evt_mins : (x.evt f i).mins = x.mins := by
  obtain ⟨r, o, c, h⟩ := UnitSt.evt_regs x f i; rw [h]
@[simp] theorem UnitSt.evt_reel : (x.evt f i).reel = x.reel := by
  obtain ⟨r, o, c, h⟩ := UnitSt.evt_regs x f i; rw [h]
@[simp] theorem UnitSt.evt_lpe : (x.evt f i).lpe = x.lpe := by
  obtain ⟨r, o, c, h⟩ := UnitSt.evt_regs x f i; rw [h]
@[simp] theorem UnitSt.evt_net : (x.evt f i).net = x.net := by
  obtain ⟨r, o, c, h⟩ := UnitSt.evt_regs x f i; rw [h]
@[simp] theorem UnitSt.evt_ptp : (x.evt f i).ptp = x.ptp := by
  obtain ⟨r, o, c, h⟩ := UnitSt.evt_regs x f i; rw [h]
@[simp] theorem UnitSt.evt_disabled : (x.evt f i).disabled = x.disabled := by
  obtain ⟨r, o, c, h⟩ := UnitSt.evt_regs x f i; rw [h]
@[simp] theorem UnitSt.evt_boot : (x.evt f i).boot = x.boot := by
  obtain ⟨r, o, c, h⟩ := UnitSt.evt_regs x f i; rw [h]
@[simp] theorem UnitSt.evt_flash : (x.evt f i).flash = x.flash := by
  obtain ⟨r, o, c, h⟩ := UnitSt.evt_regs x f i; rw [h]
@[simp] theorem UnitSt.evt_verif : (x.evt f i).verif = x.verif := by
  obtain ⟨r, o, c, h⟩ := UnitSt.evt_regs x f i; rw [h]
@[simp] theorem UnitSt.evt_fls : (x.evt f i).fls = x.fls := by
  obtain ⟨r, o, c, h⟩ := UnitSt.evt_regs x f i; rw [h]
@[simp] theorem UnitSt.evt_clkAt : (x.evt f i).clkAt = x.clkAt := by
  obtain ⟨r, o, c, h⟩ := UnitSt.evt_regs x f i; rw [h]
@[simp] theorem UnitSt.evt_quietDue : (x.evt f i).quietDue = x.quietDue := by
  obtain ⟨r, o, c, h⟩ := UnitSt.evt_regs x f i; rw [h]
@[simp] theorem UnitSt.evt_quietTrip : (x.evt f i).quietTrip = x.quietTrip := by
  obtain ⟨r, o, c, h⟩ := UnitSt.evt_regs x f i; rw [h]
@[simp] theorem UnitSt.evt_jtag : (x.evt f i).jtag = x.jtag := by
  obtain ⟨r, o, c, h⟩ := UnitSt.evt_regs x f i; rw [h]
@[simp] theorem UnitSt.err_id : (x.err f i).id = x.id := by
  obtain ⟨r, o, c, h⟩ := UnitSt.err_regs x f i; rw [h]
@[simp] theorem UnitSt.err_reqs : (x.err f i).reqs = x.reqs := by
  obtain ⟨r, o, c, h⟩ := UnitSt.err_regs x f i; rw [h]
@[simp] theorem UnitSt.err_free : (x.err f i).free = x.free := by
  obtain ⟨r, o, c, h⟩ := UnitSt.err_regs x f i; rw [h]
@[simp] theorem UnitSt.err_conf : (x.err f i).conf = x.conf := by
  obtain ⟨r, o, c, h⟩ := UnitSt.err_regs x f i; rw [h]
@[simp] theorem UnitSt.err_tim : (x.err f i).tim = x.tim := by
  obtain ⟨r, o, c, h⟩ := UnitSt.err_regs x f i; rw [h]
@[simp] theorem UnitSt.err_ports : (x.err f i).ports = x.ports := by
  obtain ⟨r, o, c, h⟩ := UnitSt.err_regs x f i; rw [h]
@[simp] theorem UnitSt.err_views : (x.err f i).views = x.views := by
  obtain ⟨r, o, c, h⟩ := UnitSt.err_regs x f i; rw [h]
@[simp] theorem UnitSt.err_hbx : (x.err f i).hbx = x.hbx := by
  obtain ⟨r, o, c, h⟩ := UnitSt.err_regs x f i; rw [h]
@[simp] theorem UnitSt.err_lse : (x.err f i).lse = x.lse := by
  obtain ⟨r, o, c, h⟩ := UnitSt.err_regs x f i; rw [h]
@[simp] theorem UnitSt.err_spl : (x.err f i).spl = x.spl := by
  obtain ⟨r, o, c, h⟩ := UnitSt.err_regs x f i; rw [h]
@[simp] theorem UnitSt.err_flt : (x.err f i).flt = x.flt := by
  obtain ⟨r, o, c, h⟩ := UnitSt.err_regs x f i; rw [h]
@[simp] theorem UnitSt.err_mem : (x.err f i).mem = x.mem := by
  obtain ⟨r, o, c, h⟩ := UnitSt.err_regs x f i; rw [h]
@[simp] theorem UnitSt.err_host : (x.err f i).host = x.host := by
  obtain ⟨r, o, c, h⟩ := UnitSt.err_regs x f i; rw [h]
@[simp] theorem UnitSt.err_clp : (x.err f i).clp = x.clp := by
  obtain ⟨r, o, c, h⟩ := UnitSt.err_regs x f i; rw [h]
@[simp] theorem UnitSt.err_cal : (x.err f i).cal = x.cal := by
  obtain ⟨r, o, c, h⟩ := UnitSt.err_regs x f i; rw [h]
@[simp] theorem UnitSt.err_mins : (x.err f i).mins = x.mins := by
  obtain ⟨r, o, c, h⟩ := UnitSt.err_regs x f i; rw [h]
@[simp] theorem UnitSt.err_reel : (x.err f i).reel = x.reel := by
  obtain ⟨r, o, c, h⟩ := UnitSt.err_regs x f i; rw [h]
@[simp] theorem UnitSt.err_lpe : (x.err f i).lpe = x.lpe := by
  obtain ⟨r, o, c, h⟩ := UnitSt.err_regs x f i; rw [h]
@[simp] theorem UnitSt.err_net : (x.err f i).net = x.net := by
  obtain ⟨r, o, c, h⟩ := UnitSt.err_regs x f i; rw [h]
@[simp] theorem UnitSt.err_ptp : (x.err f i).ptp = x.ptp := by
  obtain ⟨r, o, c, h⟩ := UnitSt.err_regs x f i; rw [h]
@[simp] theorem UnitSt.err_disabled : (x.err f i).disabled = x.disabled := by
  obtain ⟨r, o, c, h⟩ := UnitSt.err_regs x f i; rw [h]
@[simp] theorem UnitSt.err_boot : (x.err f i).boot = x.boot := by
  obtain ⟨r, o, c, h⟩ := UnitSt.err_regs x f i; rw [h]
@[simp] theorem UnitSt.err_flash : (x.err f i).flash = x.flash := by
  obtain ⟨r, o, c, h⟩ := UnitSt.err_regs x f i; rw [h]
@[simp] theorem UnitSt.err_verif : (x.err f i).verif = x.verif := by
  obtain ⟨r, o, c, h⟩ := UnitSt.err_regs x f i; rw [h]
@[simp] theorem UnitSt.err_fls : (x.err f i).fls = x.fls := by
  obtain ⟨r, o, c, h⟩ := UnitSt.err_regs x f i; rw [h]
@[simp] theorem UnitSt.err_clkAt : (x.err f i).clkAt = x.clkAt := by
  obtain ⟨r, o, c, h⟩ := UnitSt.err_regs x f i; rw [h]
@[simp] theorem UnitSt.err_quietDue : (x.err f i).quietDue = x.quietDue := by
  obtain ⟨r, o, c, h⟩ := UnitSt.err_regs x f i; rw [h]
@[simp] theorem UnitSt.err_quietTrip : (x.err f i).quietTrip = x.quietTrip := by
  obtain ⟨r, o, c, h⟩ := UnitSt.err_regs x f i; rw [h]
@[simp] theorem UnitSt.err_jtag : (x.err f i).jtag = x.jtag := by
  obtain ⟨r, o, c, h⟩ := UnitSt.err_regs x f i; rw [h]
@[simp] theorem UnitSt.emit_id (l : Out) : (x.emit l).id = x.id := rfl
@[simp] theorem UnitSt.emit_regs (l : Out) : (x.emit l).regs = x.regs := rfl
@[simp] theorem UnitSt.emit_reqs (l : Out) : (x.emit l).reqs = x.reqs := rfl
@[simp] theorem UnitSt.emit_free (l : Out) : (x.emit l).free = x.free := rfl
@[simp] theorem UnitSt.emit_conf (l : Out) : (x.emit l).conf = x.conf := rfl
@[simp] theorem UnitSt.emit_tim (l : Out) : (x.emit l).tim = x.tim := rfl
@[simp] theorem UnitSt.emit_ports (l : Out) : (x.emit l).ports = x.ports := rfl
@[simp] theorem UnitSt.emit_views (l : Out) : (x.emit l).views = x.views := rfl
@[simp] theorem UnitSt.emit_hbx (l : Out) : (x.emit l).hbx = x.hbx := rfl
@[simp] theorem UnitSt.emit_lse (l : Out) : (x.emit l).lse = x.lse := rfl
@[simp] theorem UnitSt.emit_spl (l : Out) : (x.emit l).spl = x.spl := rfl
@[simp] theorem UnitSt.emit_flt (l : Out) : (x.emit l).flt = x.flt := rfl
@[simp] theorem UnitSt.emit_mem (l : Out) : (x.emit l).mem = x.mem := rfl
@[simp] theorem UnitSt.emit_host (l : Out) : (x.emit l).host = x.host := rfl
@[simp] theorem UnitSt.emit_clp (l : Out) : (x.emit l).clp = x.clp := rfl
@[simp] theorem UnitSt.emit_cal (l : Out) : (x.emit l).cal = x.cal := rfl
@[simp] theorem UnitSt.emit_mins (l : Out) : (x.emit l).mins = x.mins := rfl
@[simp] theorem UnitSt.emit_reel (l : Out) : (x.emit l).reel = x.reel := rfl
@[simp] theorem UnitSt.emit_lpe (l : Out) : (x.emit l).lpe = x.lpe := rfl
@[simp] theorem UnitSt.emit_net (l : Out) : (x.emit l).net = x.net := rfl
@[simp] theorem UnitSt.emit_pci (l : Out) : (x.emit l).pci = x.pci := rfl
@[simp] theorem UnitSt.emit_ptp (l : Out) : (x.emit l).ptp = x.ptp := rfl
@[simp] theorem UnitSt.emit_disabled (l : Out) : (x.emit l).disabled = x.disabled := rfl
@[simp] theorem UnitSt.emit_boot (l : Out) : (x.emit l).boot = x.boot := rfl
@[simp] theorem UnitSt.emit_flash (l : Out) : (x.emit l).flash = x.flash := rfl
@[simp] theorem UnitSt.emit_verif (l : Out) : (x.emit l).verif = x.verif := rfl
@[simp] theorem UnitSt.emit_fls (l : Out) : (x.emit l).fls = x.fls := rfl
@[simp] theorem UnitSt.emit_clkAt (l : Out) : (x.emit l).clkAt = x.clkAt := rfl
@[simp] theorem UnitSt.emit_quietDue (l : Out) : (x.emit l).quietDue = x.quietDue := rfl
@[simp] theorem UnitSt.emit_quietTrip (l : Out) : (x.emit l).quietTrip = x.quietTrip := rfl
@[simp] theorem UnitSt.emit_jtag (l : Out) : (x.emit l).jtag = x.jtag := rfl

end

section

variable (x : CellSt) (t : Instant) (f : Fld) (i : Nat)

@[simp] theorem CellSt.tick_key : (x.tick t).key = x.key := by
  obtain ⟨r, o, h⟩ := CellSt.tick_regs x t; rw [h]
@[simp] theorem CellSt.tick_reqs : (x.tick t).reqs = x.reqs := by
  obtain ⟨r, o, h⟩ := CellSt.tick_regs x t; rw [h]
@[simp] theorem CellSt.tick_free : (x.tick t).free = x.free := by
  obtain ⟨r, o, h⟩ := CellSt.tick_regs x t; rw [h]
@[simp] theorem CellSt.tick_pow : (x.tick t).pow = x.pow := by
  obtain ⟨r, o, h⟩ := CellSt.tick_regs x t; rw [h]
@[simp] theorem CellSt.tick_tim : (x.tick t).tim = x.tim := by
  obtain ⟨r, o, h⟩ := CellSt.tick_regs x t; rw [h]
@[simp] theorem CellSt.tick_lnkA : (x.tick t).lnkA = x.lnkA := by
  obtain ⟨r, o, h⟩ := CellSt.tick_regs x t; rw [h]
@[simp] theorem CellSt.tick_lnkB : (x.tick t).lnkB = x.lnkB := by
  obtain ⟨r, o, h⟩ := CellSt.tick_regs x t; rw [h]
@[simp] theorem CellSt.tick_hdr : (x.tick t).hdr = x.hdr := by
  obtain ⟨r, o, h⟩ := CellSt.tick_regs x t; rw [h]
@[simp] theorem CellSt.tick_acc : (x.tick t).acc = x.acc := by
  obtain ⟨r, o, h⟩ := CellSt.tick_regs x t; rw [h]
@[simp] theorem CellSt.tick_sw : (x.tick t).sw = x.sw := by
  obtain ⟨r, o, h⟩ := CellSt.tick_regs x t; rw [h]
@[simp] theorem CellSt.tick_chs : (x.tick t).chs = x.chs := by
  obtain ⟨r, o, h⟩ := CellSt.tick_regs x t; rw [h]
@[simp] theorem CellSt.tick_rot : (x.tick t).rot = x.rot := by
  obtain ⟨r, o, h⟩ := CellSt.tick_regs x t; rw [h]
@[simp] theorem CellSt.tick_prot : (x.tick t).prot = x.prot := by
  obtain ⟨r, o, h⟩ := CellSt.tick_regs x t; rw [h]
@[simp] theorem CellSt.tick_sup : (x.tick t).sup = x.sup := by
  obtain ⟨r, o, h⟩ := CellSt.tick_regs x t; rw [h]
@[simp] theorem CellSt.tick_flt : (x.tick t).flt = x.flt := by
  obtain ⟨r, o, h⟩ := CellSt.tick_regs x t; rw [h]
@[simp] theorem CellSt.tick_mem : (x.tick t).mem = x.mem := by
  obtain ⟨r, o, h⟩ := CellSt.tick_regs x t; rw [h]
@[simp] theorem CellSt.tick_replies : (x.tick t).replies = x.replies := by
  obtain ⟨r, o, h⟩ := CellSt.tick_regs x t; rw [h]
@[simp] theorem CellSt.tick_status : (x.tick t).status = x.status := by
  obtain ⟨r, o, h⟩ := CellSt.tick_regs x t; rw [h]
@[simp] theorem CellSt.tick_nocmd : (x.tick t).nocmd = x.nocmd := by
  obtain ⟨r, o, h⟩ := CellSt.tick_regs x t; rw [h]
@[simp] theorem CellSt.tick_rstPend : (x.tick t).rstPend = x.rstPend := by
  obtain ⟨r, o, h⟩ := CellSt.tick_regs x t; rw [h]
@[simp] theorem CellSt.tick_rate : (x.tick t).rate = x.rate := by
  obtain ⟨r, o, h⟩ := CellSt.tick_regs x t; rw [h]
@[simp] theorem CellSt.tick_rateFrom : (x.tick t).rateFrom = x.rateFrom := by
  obtain ⟨r, o, h⟩ := CellSt.tick_regs x t; rw [h]
@[simp] theorem CellSt.tick_waking : (x.tick t).waking = x.waking := by
  obtain ⟨r, o, h⟩ := CellSt.tick_regs x t; rw [h]
@[simp] theorem CellSt.tick_resume : (x.tick t).resume = x.resume := by
  obtain ⟨r, o, h⟩ := CellSt.tick_regs x t; rw [h]
@[simp] theorem CellSt.tick_hopSide : (x.tick t).hopSide = x.hopSide := by
  obtain ⟨r, o, h⟩ := CellSt.tick_regs x t; rw [h]
@[simp] theorem CellSt.tick_bpend : (x.tick t).bpend = x.bpend := by
  obtain ⟨r, o, h⟩ := CellSt.tick_regs x t; rw [h]
@[simp] theorem CellSt.tick_sync : (x.tick t).sync = x.sync := by
  obtain ⟨r, o, h⟩ := CellSt.tick_regs x t; rw [h]
@[simp] theorem CellSt.tick_chal : (x.tick t).chal = x.chal := by
  obtain ⟨r, o, h⟩ := CellSt.tick_regs x t; rw [h]
@[simp] theorem CellSt.tick_disabled : (x.tick t).disabled = x.disabled := by
  obtain ⟨r, o, h⟩ := CellSt.tick_regs x t; rw [h]
@[simp] theorem CellSt.tick_jtag : (x.tick t).jtag = x.jtag := by
  obtain ⟨r, o, h⟩ := CellSt.tick_regs x t; rw [h]
@[simp] theorem CellSt.err_key : (x.err f i).key = x.key := by
  obtain ⟨r, o, h⟩ := CellSt.err_regs x f i; rw [h]
@[simp] theorem CellSt.err_reqs : (x.err f i).reqs = x.reqs := by
  obtain ⟨r, o, h⟩ := CellSt.err_regs x f i; rw [h]
@[simp] theorem CellSt.err_free : (x.err f i).free = x.free := by
  obtain ⟨r, o, h⟩ := CellSt.err_regs x f i; rw [h]
@[simp] theorem CellSt.err_pow : (x.err f i).pow = x.pow := by
  obtain ⟨r, o, h⟩ := CellSt.err_regs x f i; rw [h]
@[simp] theorem CellSt.err_tim : (x.err f i).tim = x.tim := by
  obtain ⟨r, o, h⟩ := CellSt.err_regs x f i; rw [h]
@[simp] theorem CellSt.err_lnkA : (x.err f i).lnkA = x.lnkA := by
  obtain ⟨r, o, h⟩ := CellSt.err_regs x f i; rw [h]
@[simp] theorem CellSt.err_lnkB : (x.err f i).lnkB = x.lnkB := by
  obtain ⟨r, o, h⟩ := CellSt.err_regs x f i; rw [h]
@[simp] theorem CellSt.err_hdr : (x.err f i).hdr = x.hdr := by
  obtain ⟨r, o, h⟩ := CellSt.err_regs x f i; rw [h]
@[simp] theorem CellSt.err_acc : (x.err f i).acc = x.acc := by
  obtain ⟨r, o, h⟩ := CellSt.err_regs x f i; rw [h]
@[simp] theorem CellSt.err_sw : (x.err f i).sw = x.sw := by
  obtain ⟨r, o, h⟩ := CellSt.err_regs x f i; rw [h]
@[simp] theorem CellSt.err_chs : (x.err f i).chs = x.chs := by
  obtain ⟨r, o, h⟩ := CellSt.err_regs x f i; rw [h]
@[simp] theorem CellSt.err_rot : (x.err f i).rot = x.rot := by
  obtain ⟨r, o, h⟩ := CellSt.err_regs x f i; rw [h]
@[simp] theorem CellSt.err_prot : (x.err f i).prot = x.prot := by
  obtain ⟨r, o, h⟩ := CellSt.err_regs x f i; rw [h]
@[simp] theorem CellSt.err_sup : (x.err f i).sup = x.sup := by
  obtain ⟨r, o, h⟩ := CellSt.err_regs x f i; rw [h]
@[simp] theorem CellSt.err_flt : (x.err f i).flt = x.flt := by
  obtain ⟨r, o, h⟩ := CellSt.err_regs x f i; rw [h]
@[simp] theorem CellSt.err_mem : (x.err f i).mem = x.mem := by
  obtain ⟨r, o, h⟩ := CellSt.err_regs x f i; rw [h]
@[simp] theorem CellSt.err_replies : (x.err f i).replies = x.replies := by
  obtain ⟨r, o, h⟩ := CellSt.err_regs x f i; rw [h]
@[simp] theorem CellSt.err_status : (x.err f i).status = x.status := by
  obtain ⟨r, o, h⟩ := CellSt.err_regs x f i; rw [h]
@[simp] theorem CellSt.err_nocmd : (x.err f i).nocmd = x.nocmd := by
  obtain ⟨r, o, h⟩ := CellSt.err_regs x f i; rw [h]
@[simp] theorem CellSt.err_rstPend : (x.err f i).rstPend = x.rstPend := by
  obtain ⟨r, o, h⟩ := CellSt.err_regs x f i; rw [h]
@[simp] theorem CellSt.err_rate : (x.err f i).rate = x.rate := by
  obtain ⟨r, o, h⟩ := CellSt.err_regs x f i; rw [h]
@[simp] theorem CellSt.err_rateFrom : (x.err f i).rateFrom = x.rateFrom := by
  obtain ⟨r, o, h⟩ := CellSt.err_regs x f i; rw [h]
@[simp] theorem CellSt.err_waking : (x.err f i).waking = x.waking := by
  obtain ⟨r, o, h⟩ := CellSt.err_regs x f i; rw [h]
@[simp] theorem CellSt.err_resume : (x.err f i).resume = x.resume := by
  obtain ⟨r, o, h⟩ := CellSt.err_regs x f i; rw [h]
@[simp] theorem CellSt.err_hopSide : (x.err f i).hopSide = x.hopSide := by
  obtain ⟨r, o, h⟩ := CellSt.err_regs x f i; rw [h]
@[simp] theorem CellSt.err_bpend : (x.err f i).bpend = x.bpend := by
  obtain ⟨r, o, h⟩ := CellSt.err_regs x f i; rw [h]
@[simp] theorem CellSt.err_sync : (x.err f i).sync = x.sync := by
  obtain ⟨r, o, h⟩ := CellSt.err_regs x f i; rw [h]
@[simp] theorem CellSt.err_chal : (x.err f i).chal = x.chal := by
  obtain ⟨r, o, h⟩ := CellSt.err_regs x f i; rw [h]
@[simp] theorem CellSt.err_disabled : (x.err f i).disabled = x.disabled := by
  obtain ⟨r, o, h⟩ := CellSt.err_regs x f i; rw [h]
@[simp] theorem CellSt.err_jtag : (x.err f i).jtag = x.jtag := by
  obtain ⟨r, o, h⟩ := CellSt.err_regs x f i; rw [h]
@[simp] theorem CellSt.holdCheck_key : x.holdCheck.key = x.key := by
  obtain ⟨r, w, c, h⟩ := x.holdCheck_regs; rw [h]
@[simp] theorem CellSt.holdCheck_reqs : x.holdCheck.reqs = x.reqs := by
  obtain ⟨r, w, c, h⟩ := x.holdCheck_regs; rw [h]
@[simp] theorem CellSt.holdCheck_out : x.holdCheck.out = x.out := by
  obtain ⟨r, w, c, h⟩ := x.holdCheck_regs; rw [h]
@[simp] theorem CellSt.holdCheck_free : x.holdCheck.free = x.free := by
  obtain ⟨r, w, c, h⟩ := x.holdCheck_regs; rw [h]
@[simp] theorem CellSt.holdCheck_pow : x.holdCheck.pow = x.pow := by
  obtain ⟨r, w, c, h⟩ := x.holdCheck_regs; rw [h]
@[simp] theorem CellSt.holdCheck_tim : x.holdCheck.tim = x.tim := by
  obtain ⟨r, w, c, h⟩ := x.holdCheck_regs; rw [h]
@[simp] theorem CellSt.holdCheck_lnkA : x.holdCheck.lnkA = x.lnkA := by
  obtain ⟨r, w, c, h⟩ := x.holdCheck_regs; rw [h]
@[simp] theorem CellSt.holdCheck_lnkB : x.holdCheck.lnkB = x.lnkB := by
  obtain ⟨r, w, c, h⟩ := x.holdCheck_regs; rw [h]
@[simp] theorem CellSt.holdCheck_hdr : x.holdCheck.hdr = x.hdr := by
  obtain ⟨r, w, c, h⟩ := x.holdCheck_regs; rw [h]
@[simp] theorem CellSt.holdCheck_acc : x.holdCheck.acc = x.acc := by
  obtain ⟨r, w, c, h⟩ := x.holdCheck_regs; rw [h]
@[simp] theorem CellSt.holdCheck_rot : x.holdCheck.rot = x.rot := by
  obtain ⟨r, w, c, h⟩ := x.holdCheck_regs; rw [h]
@[simp] theorem CellSt.holdCheck_prot : x.holdCheck.prot = x.prot := by
  obtain ⟨r, w, c, h⟩ := x.holdCheck_regs; rw [h]
@[simp] theorem CellSt.holdCheck_sup : x.holdCheck.sup = x.sup := by
  obtain ⟨r, w, c, h⟩ := x.holdCheck_regs; rw [h]
@[simp] theorem CellSt.holdCheck_flt : x.holdCheck.flt = x.flt := by
  obtain ⟨r, w, c, h⟩ := x.holdCheck_regs; rw [h]
@[simp] theorem CellSt.holdCheck_mem : x.holdCheck.mem = x.mem := by
  obtain ⟨r, w, c, h⟩ := x.holdCheck_regs; rw [h]
@[simp] theorem CellSt.holdCheck_replies : x.holdCheck.replies = x.replies := by
  obtain ⟨r, w, c, h⟩ := x.holdCheck_regs; rw [h]
@[simp] theorem CellSt.holdCheck_status : x.holdCheck.status = x.status := by
  obtain ⟨r, w, c, h⟩ := x.holdCheck_regs; rw [h]
@[simp] theorem CellSt.holdCheck_nocmd : x.holdCheck.nocmd = x.nocmd := by
  obtain ⟨r, w, c, h⟩ := x.holdCheck_regs; rw [h]
@[simp] theorem CellSt.holdCheck_rstPend : x.holdCheck.rstPend = x.rstPend := by
  obtain ⟨r, w, c, h⟩ := x.holdCheck_regs; rw [h]
@[simp] theorem CellSt.holdCheck_rate : x.holdCheck.rate = x.rate := by
  obtain ⟨r, w, c, h⟩ := x.holdCheck_regs; rw [h]
@[simp] theorem CellSt.holdCheck_rateFrom : x.holdCheck.rateFrom = x.rateFrom := by
  obtain ⟨r, w, c, h⟩ := x.holdCheck_regs; rw [h]
@[simp] theorem CellSt.holdCheck_waking : x.holdCheck.waking = x.waking := by
  obtain ⟨r, w, c, h⟩ := x.holdCheck_regs; rw [h]
@[simp] theorem CellSt.holdCheck_resume : x.holdCheck.resume = x.resume := by
  obtain ⟨r, w, c, h⟩ := x.holdCheck_regs; rw [h]
@[simp] theorem CellSt.holdCheck_hopSide : x.holdCheck.hopSide = x.hopSide := by
  obtain ⟨r, w, c, h⟩ := x.holdCheck_regs; rw [h]
@[simp] theorem CellSt.holdCheck_bpend : x.holdCheck.bpend = x.bpend := by
  obtain ⟨r, w, c, h⟩ := x.holdCheck_regs; rw [h]
@[simp] theorem CellSt.holdCheck_sync : x.holdCheck.sync = x.sync := by
  obtain ⟨r, w, c, h⟩ := x.holdCheck_regs; rw [h]
@[simp] theorem CellSt.holdCheck_chal : x.holdCheck.chal = x.chal := by
  obtain ⟨r, w, c, h⟩ := x.holdCheck_regs; rw [h]
@[simp] theorem CellSt.holdCheck_disabled : x.holdCheck.disabled = x.disabled := by
  obtain ⟨r, w, c, h⟩ := x.holdCheck_regs; rw [h]
@[simp] theorem CellSt.holdCheck_jtag : x.holdCheck.jtag = x.jtag := by
  obtain ⟨r, w, c, h⟩ := x.holdCheck_regs; rw [h]

end

end Sys2Proof.Machine
end

