-- ==== Sys2Proof/Laws/Access.lean ====
section
/-! SUPPORT. What a guarded access does: it reaches its register, or it is turned away. -/
namespace Sys2Proof.Machine

variable {x : UnitSt} {q : Requester} {w : Bool} {a : Nat} {k : UnitSt → UnitSt}

/-- An allowed access does what its register does. -/
theorem UnitSt.guard_allowed (h : x.allowed q w a = true) : x.guard q w a k = k x := by
  simp only [UnitSt.allowed, Bool.and_eq_true, Bool.not_eq_true', Option.isSome_iff_ne_none, ne_eq] at h
  simp [UnitSt.guard, h.1.1, h.1.2, h.2]

/-- An allowed read acts as its meaning says. -/
theorem UnitSt.guardRead_allowed {k : UnitSt → UnitSt} (h : x.allowed q false a = true) : x.guardRead q a k = k x := by
  simp [UnitSt.guardRead, h]

/-- A denied access leaves DENY and a count. -/
theorem UnitSt.guard_denied (h : x.denied q w a = true) : x.guard q w a k = x.deny := by
  simp [UnitSt.guard, h]

/-- An access to an island that is off leaves XING. -/
theorem UnitSt.guard_off (h : x.denied q w a = false) (hp : (pageOf unitPages a).isSome = true)
    (hi : x.islandOn (unitIsland a) = false) : x.guard q w a k = x.err GEN_ERR.XING := by
  simp only [Option.isSome_iff_ne_none, ne_eq] at hp
  simp [UnitSt.guard, h, hp, hi]

/-- Every register page of a unit lies below the windows of BAR 2 and BAR 4. -/
theorem pageOf_unit_lt (h : (pageOf unitPages a).isSome = true) : a < 2 ^ 24 := by
  obtain ⟨p, hp⟩ := Option.isSome_iff_exists.mp h
  have hall : ∀ p ∈ unitPages, p.base + p.insts * 0x1000 ≤ 2 ^ 24 := by decide
  have := hall p (List.mem_of_find?_eq_some hp)
  have := List.find?_some hp
  simp only [Bool.and_eq_true, decide_eq_true_eq] at this
  omega

/-- The address of a register is no address of BAR 2 or BAR 4. -/
theorem inBar_page (h : (pageOf unitPages a).isSome = true) : inBar q a = false := by
  have h := pageOf_unit_lt h
  have e : a / 2 ^ 24 = 0 := Nat.div_eq_of_lt h
  unfold inBar
  rw [e]
  simp

/-- Outside BAR 2 and BAR 4 an access goes through the guard to the registers. -/
theorem UnitSt.readAt_reg (h : inBar q a = false) : x.readAt q a = x.guardRead q a (fun x => x.busRead q a) := by
  simp [UnitSt.readAt, h]
theorem UnitSt.writeAt_reg {v : Word} {t : Instant} (h : inBar q a = false) :
    x.writeAt q a v t = x.guard q true a (fun x => x.busWrite q a v t) := by
  simp [UnitSt.writeAt, h]

/-- A core is never denied. -/
@[simp] theorem UnitSt.denied_core (n : Fin 4) : x.denied (.core n) w a = false := rfl

/-- A register command of a powered cell reaches a register whose island runs; its result code is kept. -/
theorem CellSt.access_on {x : CellSt} {r : CellReq} {a : Nat} {k : CellSt → Nat × CellSt}
    (h0 : ¬ (x.pow = .off ∨ x.pow = .dormant)) (h1 : cellHasReg a = true) (h2 : x.islandOn (cellIsland a) = true) :
    x.access r a k = (k x).2.onReq r (fun q => { q with res := (k x).1 }) := by
  unfold CellSt.access CellSt.guarded
  rw [if_neg h0, if_neg (by rw [h1]; decide), if_neg (by rw [h2]; decide)]

end Sys2Proof.Machine
end

