-- ==== Sys2Proof/Laws/Dispatch.lean ====
section
/-! SUPPORT. What `exec` is of each command: one equation per constructor, so that no proof unfolds `exec`. -/
namespace Sys2Proof.Machine

@[simp] theorem exec_periodBoundary (u : UnitId) (s : State) :
    exec (.periodBoundary u) s = execPeriodBoundary u s := rfl
@[simp] theorem exec_computeStart (u : UnitId) (pact : Bool) (mis : (List Nat)) (s : State) :
    exec (.computeStart u pact mis) s = execComputeStart u pact mis s := rfl
@[simp] theorem exec_chkFail (u : UnitId) (c : CellId) (s : State) :
    exec (.chkFail u c) s = execChkFail u c s := rfl
@[simp] theorem exec_wearRetire (u : UnitId) (c : CellId) (s : State) :
    exec (.wearRetire u c) s = execWearRetire u c s := rfl
@[simp] theorem exec_substepIntegrate (u : UnitId) (arm : (Fin 6)) (at_ : Instant) (s : State) :
    exec (.substepIntegrate u arm at_) s = execSubstepIntegrate u arm at_ s := rfl
@[simp] theorem exec_holderLostClaim (u : UnitId) (s : State) :
    exec (.holderLostClaim u) s = execHolderLostClaim u s := rfl
@[simp] theorem exec_relayEnd (u : UnitId) (strand : (Fin 96)) (s : State) :
    exec (.relayEnd u strand) s = execRelayEnd u strand s := rfl
@[simp] theorem exec_reamPublishDone (u : UnitId) (s : State) :
    exec (.reamPublishDone u) s = execReamPublishDone u s := rfl
@[simp] theorem exec_calenderRun (u : UnitId) (s : State) :
    exec (.calenderRun u) s = execCalenderRun u s := rfl
@[simp] theorem exec_stageDeadlineMiss (u : UnitId) (cal : Bool) (s : State) :
    exec (.stageDeadlineMiss u cal) s = execStageDeadlineMiss u cal s := rfl
@[simp] theorem exec_maskEvaluate (u : UnitId) (s : State) :
    exec (.maskEvaluate u) s = execMaskEvaluate u s := rfl
@[simp] theorem exec_prefetchFreeze (u : UnitId) (s : State) :
    exec (.prefetchFreeze u) s = execPrefetchFreeze u s := rfl
@[simp] theorem exec_frameBuild (u : UnitId) (s : State) :
    exec (.frameBuild u) s = execFrameBuild u s := rfl
@[simp] theorem exec_mirrorSend (u : UnitId) (s : State) :
    exec (.mirrorSend u) s = execMirrorSend u s := rfl
@[simp] theorem exec_cmdFrameLaunch (u : UnitId) (l : Launch) (s : State) :
    exec (.cmdFrameLaunch u l) s = execCmdFrameLaunch u l s := rfl
@[simp] theorem exec_statusFrameLaunch (u : UnitId) (l : Launch) (s : State) :
    exec (.statusFrameLaunch u l) s = execStatusFrameLaunch u l s := rfl
@[simp] theorem exec_statusFrameRx (u : UnitId) (p : Fin 100) (rx : RxFrame) (at_ : Instant) (cut : Bool) (s : State) :
    exec (.statusFrameRx u p rx at_ cut) s = execStatusFrameRx u p rx at_ cut s := rfl
@[simp] theorem exec_cellBoundary (c : CellId) (s : State) :
    exec (.cellBoundary c) s = execCellBoundary c s := rfl
@[simp] theorem exec_cmdAdopt (c : CellId) (s : State) :
    exec (.cmdAdopt c) s = execCmdAdopt c s := rfl
@[simp] theorem exec_leaseExpire (c : CellId) (s : State) :
    exec (.leaseExpire c) s = execLeaseExpire c s := rfl
@[simp] theorem exec_orphanBlock (c : CellId) (s : State) :
    exec (.orphanBlock c) s = execOrphanBlock c s := rfl
@[simp] theorem exec_orphanBypass (c : CellId) (at_ : Instant) (s : State) :
    exec (.orphanBypass c at_) s = execOrphanBypass c at_ s := rfl
@[simp] theorem exec_statusLatch (c : CellId) (s : State) :
    exec (.statusLatch c) s = execStatusLatch c s := rfl
@[simp] theorem exec_cmdFrameRx (c : CellId) (side : Side) (rx : RxFrame) (stamp : Instant) (done : Instant) (at_ : Instant) (s : State) :
    exec (.cmdFrameRx c side rx stamp done at_) s = execCmdFrameRx c side rx stamp done at_ s := rfl
@[simp] theorem exec_servoLocked (c : CellId) (s : State) :
    exec (.servoLocked c) s = execServoLocked c s := rfl
@[simp] theorem exec_servoHoldover (c : CellId) (s : State) :
    exec (.servoHoldover c) s = execServoHoldover c s := rfl
@[simp] theorem exec_statusFramePass (c : CellId) (side : Side) (bytes : Bytes) (s : State) :
    exec (.statusFramePass c side bytes) s = execStatusFramePass c side bytes s := rfl
@[simp] theorem exec_tailBecome (c : CellId) (d : Side) (s : State) :
    exec (.tailBecome c d) s = execTailBecome c d s := rfl
@[simp] theorem exec_tailOriginate (c : CellId) (d : Side) (s : State) :
    exec (.tailOriginate c d) s = execTailOriginate c d s := rfl
@[simp] theorem exec_tailEnd (c : CellId) (d : Side) (s : State) :
    exec (.tailEnd c d) s = execTailEnd c d s := rfl
@[simp] theorem exec_stopRx (c : CellId) (side : Side) (o : UnitId) (cut : Bool) (at_ : Instant) (s : State) :
    exec (.stopRx c side o cut at_) s = execStopRx c side o cut at_ s := rfl
@[simp] theorem exec_abortRx (c : CellId) (side : Side) (o : FaultCode) (cut : Bool) (s : State) :
    exec (.abortRx c side o cut) s = execAbortRx c side o cut s := rfl
@[simp] theorem exec_linkLockLoss (e : LinkEnd) (loss : LockLoss) (s : State) :
    exec (.linkLockLoss e loss) s = execLinkLockLoss e loss s := rfl
@[simp] theorem exec_linkLock (e : LinkEnd) (low : Bool) (at_ : Instant) (s : State) :
    exec (.linkLock e low at_) s = execLinkLock e low at_ s := rfl
@[simp] theorem exec_portSearchToggle (c : CellId) (p : SideAt) (s : State) :
    exec (.portSearchToggle c p) s = execPortSearchToggle c p s := rfl
@[simp] theorem exec_cellLineSearch (c : CellId) (at_ : Instant) (s : State) :
    exec (.cellLineSearch c at_) s = execCellLineSearch c at_ s := rfl
@[simp] theorem exec_relayFrameRx (u : UnitId) (bytes : Bytes) (at_ : Instant) (s : State) :
    exec (.relayFrameRx u bytes at_) s = execRelayFrameRx u bytes at_ s := rfl
@[simp] theorem exec_spliceStatusFwdRx (u : UnitId) (strand : (Fin 96)) (hop : (Fin 64)) (slot : Bytes) (s : State) :
    exec (.spliceStatusFwdRx u strand hop slot) s = execSpliceStatusFwdRx u strand hop slot s := rfl
@[simp] theorem exec_enumAssign (c : CellId) (side : Side) (bytes : Bytes) (s : State) :
    exec (.enumAssign c side bytes) s = execEnumAssign c side bytes s := rfl
@[simp] theorem exec_enumEcho (c : CellId) (side : Side) (bytes : Bytes) (s : State) :
    exec (.enumEcho c side bytes) s = execEnumEcho c side bytes s := rfl
@[simp] theorem exec_enumIdreq (c : CellId) (side : Side) (bytes : Bytes) (s : State) :
    exec (.enumIdreq c side bytes) s = execEnumIdreq c side bytes s := rfl
@[simp] theorem exec_cellIdrspSend (c : CellId) (s : State) :
    exec (.cellIdrspSend c) s = execCellIdrspSend c s := rfl
@[simp] theorem exec_enumFrameRx (u : UnitId) (p : (Fin 100)) (bytes : Bytes) (at_ : Instant) (s : State) :
    exec (.enumFrameRx u p bytes at_) s = execEnumFrameRx u p bytes at_ s := rfl
@[simp] theorem exec_portReqOff (u : UnitId) (q : Requester) (p : (Fin 100)) (s : State) :
    exec (.portReqOff u q p) s = execPortReqOff u q p s := rfl
@[simp] theorem exec_portReqLow (u : UnitId) (q : Requester) (p : (Fin 100)) (s : State) :
    exec (.portReqLow u q p) s = execPortReqLow u q p s := rfl
@[simp] theorem exec_portReqTrain (u : UnitId) (q : Requester) (p : (Fin 100)) (s : State) :
    exec (.portReqTrain u q p) s = execPortReqTrain u q p s := rfl
@[simp] theorem exec_portReqEnum (u : UnitId) (q : Requester) (p : (Fin 100)) (at_ : Instant) (s : State) :
    exec (.portReqEnum u q p at_) s = execPortReqEnum u q p at_ s := rfl
@[simp] theorem exec_portReqActive (u : UnitId) (q : Requester) (p : (Fin 100)) (s : State) :
    exec (.portReqActive u q p) s = execPortReqActive u q p s := rfl
@[simp] theorem exec_portMeasureDone (u : UnitId) (p : (Fin 100)) (s : State) :
    exec (.portMeasureDone u p) s = execPortMeasureDone u p s := rfl
@[simp] theorem exec_rateSwitch (p : Part) (s : State) :
    exec (.rateSwitch p) s = execRateSwitch p s := rfl
@[simp] theorem exec_portAssignWrite (u : UnitId) (q : Requester) (p : (Fin 100)) (v : Word) (s : State) :
    exec (.portAssignWrite u q p v) s = execPortAssignWrite u q p v s := rfl
@[simp] theorem exec_entryRead (c : CellId) (u : UnitId) (tag : (Fin 8)) (addr : Word) (s : State) :
    exec (.entryRead c u tag addr) s = execEntryRead c u tag addr s := rfl
@[simp] theorem exec_entryWrite (c : CellId) (u : UnitId) (tag : (Fin 8)) (addr : Word) (data : Word) (mask : Word) (at_ : Instant) (s : State) :
    exec (.entryWrite c u tag addr data mask at_) s = execEntryWrite c u tag addr data mask at_ s := rfl
@[simp] theorem exec_entryBypass (c : CellId) (u : UnitId) (tag : (Fin 8)) (data : Word) (single : Bool) (holder : Bool) (s : State) :
    exec (.entryBypass c u tag data single holder) s = execEntryBypass c u tag data single holder s := rfl
@[simp] theorem exec_calreqRotate (c : CellId) (u : UnitId) (tag : (Fin 8)) (at_ : Instant) (s : State) :
    exec (.calreqRotate c u tag at_) s = execCalreqRotate c u tag at_ s := rfl
@[simp] theorem exec_calreqSparecal (c : CellId) (u : UnitId) (tag : (Fin 8)) (s : State) :
    exec (.calreqSparecal c u tag) s = execCalreqSparecal c u tag s := rfl
@[simp] theorem exec_calreqReload (c : CellId) (u : UnitId) (tag : (Fin 8)) (s : State) :
    exec (.calreqReload c u tag) s = execCalreqReload c u tag s := rfl
@[simp] theorem exec_entryInject (c : CellId) (u : UnitId) (tag : (Fin 8)) (data : Word) (at_ : Instant) (s : State) :
    exec (.entryInject c u tag data at_) s = execEntryInject c u tag data at_ s := rfl
@[simp] theorem exec_entryReset (c : CellId) (u : UnitId) (tag : (Fin 8)) (data : Word) (s : State) :
    exec (.entryReset c u tag data) s = execEntryReset c u tag data s := rfl
@[simp] theorem exec_cellStrandReset (c : CellId) (at_ : Instant) (s : State) :
    exec (.cellStrandReset c at_) s = execCellStrandReset c at_ s := rfl
@[simp] theorem exec_entryRate (c : CellId) (u : UnitId) (tag : (Fin 8)) (addr : Word) (data : Word) (s : State) :
    exec (.entryRate c u tag addr data) s = execEntryRate c u tag addr data s := rfl
@[simp] theorem exec_entryBulk (c : CellId) (u : UnitId) (tag : (Fin 8)) (len : (Fin 256)) (off : Word) (data : Bytes) (s : State) :
    exec (.entryBulk c u tag len off data) s = execEntryBulk c u tag len off data s := rfl
@[simp] theorem exec_timPchgReq (u : UnitId) (q : Requester) (v : Word) (s : State) :
    exec (.timPchgReq u q v) s = execTimPchgReq u q v s := rfl
@[simp] theorem exec_pchgReqRx (u : UnitId) (pn : (BitVec 48)) (t : (BitVec 8)) (s : State) :
    exec (.pchgReqRx u pn t) s = execPchgReqRx u pn t s := rfl
@[simp] theorem exec_pchgAnswerRx (u : UnitId) (pn : (BitVec 48)) (s : State) :
    exec (.pchgAnswerRx u pn) s = execPchgAnswerRx u pn s := rfl
@[simp] theorem exec_pchgDecide (u : UnitId) (s : State) :
    exec (.pchgDecide u) s = execPchgDecide u s := rfl
@[simp] theorem exec_pchgDropRx (u : UnitId) (pn : (BitVec 48)) (s : State) :
    exec (.pchgDropRx u pn) s = execPchgDropRx u pn s := rfl
@[simp] theorem exec_pchgEffect (u : UnitId) (s : State) :
    exec (.pchgEffect u) s = execPchgEffect u s := rfl
@[simp] theorem exec_spliceTimeTransfer (u : UnitId) (ofs : Int) (lat : Nat) (at_ : Instant) (s : State) :
    exec (.spliceTimeTransfer u ofs lat at_) s = execSpliceTimeTransfer u ofs lat at_ s := rfl
@[simp] theorem exec_alignError (u : UnitId) (s : State) :
    exec (.alignError u) s = execAlignError u s := rfl
@[simp] theorem exec_decimOutput (c : CellId) (ch : Fin 4) (raw : RawPair) (at_ : Instant) (s : State) :
    exec (.decimOutput c ch raw at_) s = execDecimOutput c ch raw at_ s := rfl
@[simp] theorem exec_windowRestart (c : CellId) (ch : (Fin 4)) (s : State) :
    exec (.windowRestart c ch) s = execWindowRestart c ch s := rfl
@[simp] theorem exec_cmeasSyncReq (c : CellId) (r : CellReq) (s : State) :
    exec (.cmeasSyncReq c r) s = execCmeasSyncReq c r s := rfl
@[simp] theorem exec_syncPinEdge (c : CellId) (s : State) :
    exec (.syncPinEdge c) s = execSyncPinEdge c s := rfl
@[simp] theorem exec_cmeasInjWrite (c : CellId) (r : CellReq) (v : Word) (at_ : Instant) (s : State) :
    exec (.cmeasInjWrite c r v at_) s = execCmeasInjWrite c r v at_ s := rfl
@[simp] theorem exec_injResultReady (c : CellId) (ch : (Fin 4)) (raw : Int) (s : State) :
    exec (.injResultReady c ch raw) s = execInjResultReady c ch raw s := rfl
@[simp] theorem exec_injresRead (c : CellId) (r : CellReq) (ch : (Fin 4)) (s : State) :
    exec (.injresRead c r ch) s = execInjresRead c r ch s := rfl
@[simp] theorem exec_spareCalibDone (c : CellId) (ofs : (BitVec 16)) (gerr : (BitVec 16)) (s : State) :
    exec (.spareCalibDone c ofs gerr) s = execSpareCalibDone c ofs gerr s := rfl
@[simp] theorem exec_rotationStepStart (c : CellId) (at_ : Instant) (s : State) :
    exec (.rotationStepStart c at_) s = execRotationStepStart c at_ s := rfl
@[simp] theorem exec_spareSettled (c : CellId) (s : State) :
    exec (.spareSettled c) s = execSpareSettled c s := rfl
@[simp] theorem exec_spareCompareDone (c : CellId) (at_ : Instant) (s : State) :
    exec (.spareCompareDone c at_) s = execSpareCompareDone c at_ s := rfl
@[simp] theorem exec_sliceSwap (c : CellId) (at_ : Instant) (s : State) :
    exec (.sliceSwap c at_) s = execSliceSwap c at_ s := rfl
@[simp] theorem exec_swapSkip (c : CellId) (at_ : Instant) (s : State) :
    exec (.swapSkip c at_) s = execSwapSkip c at_ s := rfl
@[simp] theorem exec_rotationStepSkip (c : CellId) (at_ : Instant) (s : State) :
    exec (.rotationStepSkip c at_) s = execRotationStepSkip c at_ s := rfl
@[simp] theorem exec_cmeasRetireWrite (c : CellId) (r : CellReq) (v : Word) (s : State) :
    exec (.cmeasRetireWrite c r v) s = execCmeasRetireWrite c r v s := rfl
@[simp] theorem exec_swChange (c : CellId) (leg : (Fin 2)) (s : State) :
    exec (.swChange c leg) s = execSwChange c leg s := rfl
@[simp] theorem exec_gateCall (c : CellId) (leg : (Fin 2)) (s : State) :
    exec (.gateCall c leg) s = execGateCall c leg s := rfl
@[simp] theorem exec_refreshStart (c : CellId) (leg : (Fin 2)) (s : State) :
    exec (.refreshStart c leg) s = execRefreshStart c leg s := rfl
@[simp] theorem exec_refreshEnd (c : CellId) (leg : (Fin 2)) (s : State) :
    exec (.refreshEnd c leg) s = execRefreshEnd c leg s := rfl
@[simp] theorem exec_carrierEdge (c : CellId) (at_ : Instant) (s : State) :
    exec (.carrierEdge c at_) s = execCarrierEdge c at_ s := rfl
@[simp] theorem exec_carrierTransferQ (c : CellId) (s : State) :
    exec (.carrierTransferQ c) s = execCarrierTransferQ c s := rfl
@[simp] theorem exec_cswCfgWrite (c : CellId) (r : CellReq) (v : Word) (s : State) :
    exec (.cswCfgWrite c r v) s = execCswCfgWrite c r v s := rfl
@[simp] theorem exec_cswCperWrite (c : CellId) (r : CellReq) (v : Word) (s : State) :
    exec (.cswCperWrite c r v) s = execCswCperWrite c r v s := rfl
@[simp] theorem exec_cswCdutyWrite (c : CellId) (r : CellReq) (v : Word) (s : State) :
    exec (.cswCdutyWrite c r v) s = execCswCdutyWrite c r v s := rfl
@[simp] theorem exec_cswCcmtCmt (c : CellId) (r : CellReq) (s : State) :
    exec (.cswCcmtCmt c r) s = execCswCcmtCmt c r s := rfl
@[simp] theorem exec_cswBypfireWrite (c : CellId) (r : CellReq) (v : Word) (s : State) :
    exec (.cswBypfireWrite c r v) s = execCswBypfireWrite c r v s := rfl
@[simp] theorem exec_cellTripInput (c : CellId) (n : (Fin 6)) (at_ : Instant) (s : State) :
    exec (.cellTripInput c n at_) s = execCellTripInput c n at_ s := rfl
@[simp] theorem exec_blankEnd (c : CellId) (n : (Fin 4)) (at_ : Instant) (s : State) :
    exec (.blankEnd c n at_) s = execBlankEnd c n at_ s := rfl
@[simp] theorem exec_tripBypassDelay (c : CellId) (n : (Fin 5)) (at_ : Instant) (s : State) :
    exec (.tripBypassDelay c n at_) s = execTripBypassDelay c n at_ s := rfl
@[simp] theorem exec_cprotTripclrWrite (c : CellId) (r : CellReq) (v : Word) (s : State) :
    exec (.cprotTripclrWrite c r v) s = execCprotTripclrWrite c r v s := rfl
@[simp] theorem exec_cellCoreWdogExpire (c : CellAt) (s : State) :
    exec (.cellCoreWdogExpire c) s = execCellCoreWdogExpire c s := rfl
@[simp] theorem exec_protClockFail (c : CellId) (s : State) :
    exec (.protClockFail c) s = execProtClockFail c s := rfl
@[simp] theorem exec_supTurnOn (c : CellId) (vaux : Nat) (at_ : Instant) (s : State) :
    exec (.supTurnOn c vaux at_) s = execSupTurnOn c vaux at_ s := rfl
@[simp] theorem exec_supTurnOff (c : CellId) (v : SupSense) (at_ : Instant) (s : State) :
    exec (.supTurnOff c v at_) s = execSupTurnOff c v at_ s := rfl
@[simp] theorem exec_softStartEnd (c : CellId) (vaux : Nat) (at_ : Instant) (s : State) :
    exec (.softStartEnd c vaux at_) s = execSoftStartEnd c vaux at_ s := rfl
@[simp] theorem exec_supOvStop (c : CellId) (at_ : Instant) (s : State) :
    exec (.supOvStop c at_) s = execSupOvStop c at_ s := rfl
@[simp] theorem exec_holdupReq (c : CellId) (r : CellReq) (v : Word) (s : State) :
    exec (.holdupReq c r v) s = execHoldupReq c r v s := rfl
@[simp] theorem exec_holdupEnd (c : CellId) (at_ : Instant) (s : State) :
    exec (.holdupEnd c at_) s = execHoldupEnd c at_ s := rfl
@[simp] theorem exec_cprotPwrreqWrite (c : CellId) (r : CellReq) (v : Word) (s : State) :
    exec (.cprotPwrreqWrite c r v) s = execCprotPwrreqWrite c r v s := rfl
@[simp] theorem exec_dormantLinkTimeout (c : CellId) (at_ : Instant) (s : State) :
    exec (.dormantLinkTimeout c at_) s = execDormantLinkTimeout c at_ s := rfl
@[simp] theorem exec_cellWakeLight (c : CellId) (at_ : Instant) (s : State) :
    exec (.cellWakeLight c at_) s = execCellWakeLight c at_ s := rfl
@[simp] theorem exec_cellWakeCharge (c : CellId) (at_ : Instant) (s : State) :
    exec (.cellWakeCharge c at_) s = execCellWakeCharge c at_ s := rfl
@[simp] theorem exec_cellPowerOnReset (c : CellId) (at_ : Instant) (s : State) :
    exec (.cellPowerOnReset c at_) s = execCellPowerOnReset c at_ s := rfl
@[simp] theorem exec_cellPowerLoss (c : CellId) (s : State) :
    exec (.cellPowerLoss c) s = execCellPowerLoss c s := rfl
@[simp] theorem exec_leaseClear (c : CellId) (r : CellReq) (v : Word) (s : State) :
    exec (.leaseClear c r v) s = execLeaseClear c r v s := rfl
@[simp] theorem exec_cgenRstWrite (c : CellId) (r : CellReq) (v : Word) (at_ : Instant) (s : State) :
    exec (.cgenRstWrite c r v at_) s = execCgenRstWrite c r v at_ s := rfl
@[simp] theorem exec_patchActivate (c : CellId) (r : CellReq) (s : State) :
    exec (.patchActivate c r) s = execPatchActivate c r s := rfl
@[simp] theorem exec_cellLedgerDaily (c : CellId) (s : State) :
    exec (.cellLedgerDaily c) s = execCellLedgerDaily c s := rfl
@[simp] theorem exec_ledgerReq (c : CellId) (r : CellReq) (v : Word) (s : State) :
    exec (.ledgerReq c r v) s = execLedgerReq c r v s := rfl
@[simp] theorem exec_cellFaultLatch (c : CellId) (at_ : Instant) (cyc : (BitVec 32)) (s : State) :
    exec (.cellFaultLatch c at_ cyc) s = execCellFaultLatch c at_ cyc s := rfl
@[simp] theorem exec_cellGraceExpire (c : CellId) (n : (Fin 11)) (at_ : Instant) (s : State) :
    exec (.cellGraceExpire c n at_) s = execCellGraceExpire c n at_ s := rfl
@[simp] theorem exec_cellMaskWindowEnd (c : CellId) (at_ : Instant) (cyc : (BitVec 32)) (s : State) :
    exec (.cellMaskWindowEnd c at_ cyc) s = execCellMaskWindowEnd c at_ cyc s := rfl
@[simp] theorem exec_minResult (u : UnitId) (n : (Fin 32)) (sum : Nat) (s : State) :
    exec (.minResult u n sum) s = execMinResult u n sum s := rfl
@[simp] theorem exec_minSyncReq (u : UnitId) (q : Requester) (at_ : Instant) (s : State) :
    exec (.minSyncReq u q at_) s = execMinSyncReq u q at_ s := rfl
@[simp] theorem exec_syncPnRx (u : UnitId) (pn : (BitVec 48)) (s : State) :
    exec (.syncPnRx u pn) s = execSyncPnRx u pn s := rfl
@[simp] theorem exec_converterSync (u : UnitId) (s : State) :
    exec (.converterSync u) s = execConverterSync u s := rfl
@[simp] theorem exec_minNoclk (u : UnitId) (n : (Fin 32)) (s : State) :
    exec (.minNoclk u n) s = execMinNoclk u n s := rfl
@[simp] theorem exec_minStuck (u : UnitId) (n : (Fin 32)) (s : State) :
    exec (.minStuck u n) s = execMinStuck u n s := rfl
@[simp] theorem exec_minFaultEnd (u : UnitId) (n : (Fin 32)) (at_ : Instant) (s : State) :
    exec (.minFaultEnd u n at_) s = execMinFaultEnd u n at_ s := rfl
@[simp] theorem exec_rtdChange (u : UnitId) (n : (Fin 32)) (rtd : (BitVec 12)) (s : State) :
    exec (.rtdChange u n rtd) s = execRtdChange u n rtd s := rfl
@[simp] theorem exec_tripInputChange (u : UnitId) (n : (Fin 16)) (level : Bool) (at_ : Instant) (s : State) :
    exec (.tripInputChange u n level at_) s = execTripInputChange u n level at_ s := rfl
@[simp] theorem exec_quietTripChange (u : UnitId) (n : (Fin 16)) (level : Bool) (at_ : Instant) (s : State) :
    exec (.quietTripChange u n level at_) s = execQuietTripChange u n level at_ s := rfl
@[simp] theorem exec_lpeChcfgWrite (u : UnitId) (q : Requester) (c : (Fin 96)) (v : Word) (s : State) :
    exec (.lpeChcfgWrite u q c v) s = execLpeChcfgWrite u q c v s := rfl
@[simp] theorem exec_lpeSwapReq (u : UnitId) (q : Requester) (v : Word) (s : State) :
    exec (.lpeSwapReq u q v) s = execLpeSwapReq u q v s := rfl
@[simp] theorem exec_swapReqRx (u : UnitId) (ch : (Fin 128)) (bank : (Fin 2)) (n : (Fin 8192)) (pn : (BitVec 48)) (s : State) :
    exec (.swapReqRx u ch bank n pn) s = execSwapReqRx u ch bank n pn s := rfl
@[simp] theorem exec_swapRefusalRx (u : UnitId) (ch : (Fin 128)) (res : (Fin 8)) (s : State) :
    exec (.swapRefusalRx u ch res) s = execSwapRefusalRx u ch res s := rfl
@[simp] theorem exec_swapEffect (u : UnitId) (s : State) :
    exec (.swapEffect u) s = execSwapEffect u s := rfl
@[simp] theorem exec_setpCommitReq (u : UnitId) (q : Requester) (s : State) :
    exec (.setpCommitReq u q) s = execSetpCommitReq u q s := rfl
@[simp] theorem exec_setpCommitRx (u : UnitId) (pn : (BitVec 48)) (vals : (List Word)) (s : State) :
    exec (.setpCommitRx u pn vals) s = execSetpCommitRx u pn vals s := rfl
@[simp] theorem exec_setpCommitEffect (u : UnitId) (s : State) :
    exec (.setpCommitEffect u) s = execSetpCommitEffect u s := rfl
@[simp] theorem exec_satWarn (u : UnitId) (c : (Fin 96)) (s : State) :
    exec (.satWarn u c) s = execSatWarn u c s := rfl
@[simp] theorem exec_satFault (u : UnitId) (c : (Fin 96)) (s : State) :
    exec (.satFault u c) s = execSatFault u c s := rfl
@[simp] theorem exec_lpeMoveReq (u : UnitId) (q : Requester) (v : Word) (s : State) :
    exec (.lpeMoveReq u q v) s = execLpeMoveReq u q v s := rfl
@[simp] theorem exec_clpCmdSeed (u : UnitId) (q : Requester) (s : State) :
    exec (.clpCmdSeed u q) s = execClpCmdSeed u q s := rfl
@[simp] theorem exec_clpCmdRetire (u : UnitId) (q : Requester) (s : State) :
    exec (.clpCmdRetire u q) s = execClpCmdRetire u q s := rfl
@[simp] theorem exec_clpCmdUnretire (u : UnitId) (q : Requester) (s : State) :
    exec (.clpCmdUnretire u q) s = execClpCmdUnretire u q s := rfl
@[simp] theorem exec_clpCmdClrchk (u : UnitId) (q : Requester) (s : State) :
    exec (.clpCmdClrchk u q) s = execClpCmdClrchk u q s := rfl
@[simp] theorem exec_clpCmdRx (u : UnitId) (op : (Fin 8)) (c : CellId) (cap : Word) (esr : Word) (pn : (BitVec 48)) (s : State) :
    exec (.clpCmdRx u op c cap esr pn) s = execClpCmdRx u op c cap esr pn s := rfl
@[simp] theorem exec_clpRecRead (u : UnitId) (q : Requester) (s : State) :
    exec (.clpRecRead u q) s = execClpRecRead u q s := rfl
@[simp] theorem exec_calFxWrite (u : UnitId) (q : Requester) (v : Word) (s : State) :
    exec (.calFxWrite u q v) s = execCalFxWrite u q v s := rfl
@[simp] theorem exec_reelPeriodClose (u : UnitId) (s : State) :
    exec (.reelPeriodClose u) s = execReelPeriodClose u s := rfl
@[simp] theorem exec_reelRingWrite (u : UnitId) (s : State) :
    exec (.reelRingWrite u) s = execReelRingWrite u s := rfl
@[simp] theorem exec_reelStart (u : UnitId) (q : Requester) (s : State) :
    exec (.reelStart u q) s = execReelStart u q s := rfl
@[simp] theorem exec_reelHalt (u : UnitId) (q : Requester) (s : State) :
    exec (.reelHalt u q) s = execReelHalt u q s := rfl
@[simp] theorem exec_reelMark (u : UnitId) (q : Requester) (at_ : Instant) (s : State) :
    exec (.reelMark u q at_) s = execReelMark u q at_ s := rfl
@[simp] theorem exec_xtrigRx (u : UnitId) (num : (Fin 16)) (qual : (Fin 8)) (frac : (Fin 8)) (fall : Bool) (time : Nat) (s : State) :
    exec (.xtrigRx u num qual frac fall time) s = execXtrigRx u num qual frac fall time s := rfl
@[simp] theorem exec_leaseMsgSend (u : UnitId) (s : State) :
    exec (.leaseMsgSend u) s = execLeaseMsgSend u s := rfl
@[simp] theorem exec_leaseMsgRx (u : UnitId) (m : LeaseMsg) (s : State) :
    exec (.leaseMsgRx u m) s = execLeaseMsgRx u m s := rfl
@[simp] theorem exec_spliceDown (u : UnitId) (s : State) :
    exec (.spliceDown u) s = execSpliceDown u s := rfl
@[simp] theorem exec_fenceRx (u : UnitId) (s : State) :
    exec (.fenceRx u) s = execFenceRx u s := rfl
@[simp] theorem exec_stopReqRx (u : UnitId) (at_ : Instant) (s : State) :
    exec (.stopReqRx u at_) s = execStopReqRx u at_ s := rfl
@[simp] theorem exec_spliceLaneRetire (u : UnitId) (n : (Fin 4)) (lost : Bool) (errs : (Fin 65536)) (s : State) :
    exec (.spliceLaneRetire u n lost errs) s = execSpliceLaneRetire u n lost errs s := rfl
@[simp] theorem exec_spliceLaneMove (u : UnitId) (s : State) :
    exec (.spliceLaneMove u) s = execSpliceLaneMove u s := rfl
@[simp] theorem exec_mirrorCommitRx (u : UnitId) (record : Bytes) (seq : (BitVec 32)) (pn : (BitVec 48)) (crc : (BitVec 32)) (s : State) :
    exec (.mirrorCommitRx u record seq pn crc) s = execMirrorCommitRx u record seq pn crc s := rfl
@[simp] theorem exec_resyncReqRx (u : UnitId) (arm : (Fin 6)) (s : State) :
    exec (.resyncReqRx u arm) s = execResyncReqRx u arm s := rfl
@[simp] theorem exec_resyncBlockRx (u : UnitId) (arm : (Fin 6)) (m : (BitVec 48)) (blk : Nat) (data : Bytes) (s : State) :
    exec (.resyncBlockRx u arm m blk data) s = execResyncBlockRx u arm m blk data s := rfl
@[simp] theorem exec_resyncApply (u : UnitId) (arm : (Fin 6)) (s : State) :
    exec (.resyncApply u arm) s = execResyncApply u arm s := rfl
@[simp] theorem exec_handoverReq (u : UnitId) (q : Requester) (v : Word) (s : State) :
    exec (.handoverReq u q v) s = execHandoverReq u q v s := rfl
@[simp] theorem exec_hovreqRx (u : UnitId) (p : (BitVec 48)) (s : State) :
    exec (.hovreqRx u p) s = execHovreqRx u p s := rfl
@[simp] theorem exec_hovackRx (u : UnitId) (p : (BitVec 48)) (s : State) :
    exec (.hovackRx u p) s = execHovackRx u p s := rfl
@[simp] theorem exec_handoverDeadline (u : UnitId) (s : State) :
    exec (.handoverDeadline u) s = execHandoverDeadline u s := rfl
@[simp] theorem exec_handoverSwitch (u : UnitId) (s : State) :
    exec (.handoverSwitch u) s = execHandoverSwitch u s := rfl
@[simp] theorem exec_hbxSubmit (u : UnitId) (q : Requester) (port : (Fin 6)) (v : Word) (s : State) :
    exec (.hbxSubmit u q port v) s = execHbxSubmit u q port v s := rfl
@[simp] theorem exec_hbxTimedRelease (u : UnitId) (at_ : Instant) (s : State) :
    exec (.hbxTimedRelease u at_) s = execHbxTimedRelease u at_ s := rfl
@[simp] theorem exec_hbxReplyMissing (u : UnitId) (s : State) :
    exec (.hbxReplyMissing u) s = execHbxReplyMissing u s := rfl
@[simp] theorem exec_hbxTimeout (u : UnitId) (s : State) :
    exec (.hbxTimeout u) s = execHbxTimeout u s := rfl
@[simp] theorem exec_hbxCplRead (u : UnitId) (q : Requester) (port : (Fin 6)) (s : State) :
    exec (.hbxCplRead u q port) s = execHbxCplRead u q port s := rfl
@[simp] theorem exec_hbxFlush (u : UnitId) (q : Requester) (v : Word) (s : State) :
    exec (.hbxFlush u q v) s = execHbxFlush u q v s := rfl
@[simp] theorem exec_pcieFlrPf0 (u : UnitId) (s : State) :
    exec (.pcieFlrPf0 u) s = execPcieFlrPf0 u s := rfl
@[simp] theorem exec_pcieFlrPf1 (u : UnitId) (s : State) :
    exec (.pcieFlrPf1 u) s = execPcieFlrPf1 u s := rfl
@[simp] theorem exec_pcieBmeClear (u : UnitId) (s : State) :
    exec (.pcieBmeClear u) s = execPcieBmeClear u s := rfl
@[simp] theorem exec_pcieLinkDown (u : UnitId) (s : State) :
    exec (.pcieLinkDown u) s = execPcieLinkDown u s := rfl
@[simp] theorem exec_pcieLinkUp (u : UnitId) (width : (BitVec 4)) (speed : (Fin 8)) (bme : Bool) (s : State) :
    exec (.pcieLinkUp u width speed bme) s = execPcieLinkUp u width speed bme s := rfl
@[simp] theorem exec_sessChal (u : UnitId) (q : Requester) (s : State) :
    exec (.sessChal u q) s = execSessChal u q s := rfl
@[simp] theorem exec_sessOpen (u : UnitId) (q : Requester) (key : (Fin 4)) (s : State) :
    exec (.sessOpen u q key) s = execSessOpen u q key s := rfl
@[simp] theorem exec_sessOpenDone (u : UnitId) (s : State) :
    exec (.sessOpenDone u) s = execSessOpenDone u s := rfl
@[simp] theorem exec_sessClose (u : UnitId) (q : Requester) (s : State) :
    exec (.sessClose u q) s = execSessClose u q s := rfl
@[simp] theorem exec_sessChalTimeout (u : UnitId) (s : State) :
    exec (.sessChalTimeout u) s = execSessChalTimeout u s := rfl
@[simp] theorem exec_sessIdleTimeout (u : UnitId) (s : State) :
    exec (.sessIdleTimeout u) s = execSessIdleTimeout u s := rfl
@[simp] theorem exec_sessLockoutEnd (u : UnitId) (s : State) :
    exec (.sessLockoutEnd u) s = execSessLockoutEnd u s := rfl
@[simp] theorem exec_reamPinWrite (u : UnitId) (q : Requester) (v : Word) (s : State) :
    exec (.reamPinWrite u q v) s = execReamPinWrite u q v s := rfl
@[simp] theorem exec_lowWordRead (p : RegPort) (a : (BitVec 32)) (s : State) :
    exec (.lowWordRead p a) s = execLowWordRead p a s := rfl
@[simp] theorem exec_highWordRead (p : RegPort) (a : (BitVec 32)) (s : State) :
    exec (.highWordRead p a) s = execHighWordRead p a s := rfl
@[simp] theorem exec_lowWordWrite (p : RegPort) (a : (BitVec 32)) (v : Word) (at_ : Instant) (s : State) :
    exec (.lowWordWrite p a v at_) s = execLowWordWrite p a v at_ s := rfl
@[simp] theorem exec_highWordWrite (p : RegPort) (a : (BitVec 32)) (v : Word) (at_ : Instant) (s : State) :
    exec (.highWordWrite p a v at_) s = execHighWordWrite p a v at_ s := rfl
@[simp] theorem exec_mbxPost (u : UnitId) (q : Requester) (ch : (Fin 32)) (v : Word) (s : State) :
    exec (.mbxPost u q ch v) s = execMbxPost u q ch v s := rfl
@[simp] theorem exec_mbxEpochRead (u : UnitId) (q : Requester) (ch : (Fin 32)) (s : State) :
    exec (.mbxEpochRead u q ch) s = execMbxEpochRead u q ch s := rfl
@[simp] theorem exec_mbxHepinc (u : UnitId) (q : Requester) (v : Word) (s : State) :
    exec (.mbxHepinc u q v) s = execMbxHepinc u q v s := rfl
@[simp] theorem exec_mbxAgeExpire (u : UnitId) (h2f : Bool) (ch : (Fin 32)) (s : State) :
    exec (.mbxAgeExpire u h2f ch) s = execMbxAgeExpire u h2f ch s := rfl
@[simp] theorem exec_mbxDbSet (u : UnitId) (q : Requester) (f : (Fin 2)) (v : Word) (s : State) :
    exec (.mbxDbSet u q f v) s = execMbxDbSet u q f v s := rfl
@[simp] theorem exec_mbxDbMaskWrite (u : UnitId) (q : Requester) (h2f : Bool) (f : (Fin 2)) (v : Word) (s : State) :
    exec (.mbxDbMaskWrite u q h2f f v) s = execMbxDbMaskWrite u q h2f f v s := rfl
@[simp] theorem exec_vectorRearm (u : UnitId) (q : Requester) (hi : Bool) (v : Word) (s : State) :
    exec (.vectorRearm u q hi v) s = execVectorRearm u q hi v s := rfl
@[simp] theorem exec_netFrameRx (u : UnitId) (p : (Fin 2)) (bytes : Bytes) (fcs : Bool) (at_ : Instant) (s : State) :
    exec (.netFrameRx u p bytes fcs at_) s = execNetFrameRx u p bytes fcs at_ s := rfl
@[simp] theorem exec_ptpSyncRx (u : UnitId) (p : (Fin 2)) (domain : (BitVec 8)) (src : (BitVec 80)) (seq : (BitVec 16)) (t1 : Instant) (corr : Int) (twoStep : Bool) (at_ : Instant) (s : State) :
    exec (.ptpSyncRx u p domain src seq t1 corr twoStep at_) s = execPtpSyncRx u p domain src seq t1 corr twoStep at_ s := rfl
@[simp] theorem exec_ptpAnnounceRx (u : UnitId) (p : (Fin 2)) (domain : (BitVec 8)) (src : (BitVec 80)) (gm : (BitVec 64)) (p1 : (BitVec 8)) (cls : (BitVec 8)) (acc : (BitVec 8)) (var : (BitVec 16)) (p2 : (BitVec 8)) (steps : (BitVec 16)) (at_ : Instant) (s : State) :
    exec (.ptpAnnounceRx u p domain src gm p1 cls acc var p2 steps at_) s = execPtpAnnounceRx u p domain src gm p1 cls acc var p2 steps at_ s := rfl
@[simp] theorem exec_ptpAnnounceTimeout (u : UnitId) (p : (Fin 2)) (at_ : Instant) (s : State) :
    exec (.ptpAnnounceTimeout u p at_) s = execPtpAnnounceTimeout u p at_ s := rfl
@[simp] theorem exec_pdelayReqSend (u : UnitId) (p : (Fin 2)) (at_ : Instant) (s : State) :
    exec (.pdelayReqSend u p at_) s = execPdelayReqSend u p at_ s := rfl
@[simp] theorem exec_pdelayReqRx (u : UnitId) (p : (Fin 2)) (seq : (BitVec 16)) (src : (BitVec 80)) (at_ : Instant) (s : State) :
    exec (.pdelayReqRx u p seq src at_) s = execPdelayReqRx u p seq src at_ s := rfl
@[simp] theorem exec_pdelayRespRx (u : UnitId) (p : (Fin 2)) (seq : (BitVec 16)) (turn : Int) (at_ : Instant) (s : State) :
    exec (.pdelayRespRx u p seq turn at_) s = execPdelayRespRx u p seq turn at_ s := rfl
@[simp] theorem exec_ptpSyncTimeout (u : UnitId) (at_ : Instant) (s : State) :
    exec (.ptpSyncTimeout u at_) s = execPtpSyncTimeout u at_ s := rfl
@[simp] theorem exec_ppsOut (u : UnitId) (at_ : Instant) (s : State) :
    exec (.ppsOut u at_) s = execPpsOut u at_ s := rfl
@[simp] theorem exec_ppsinEdge (u : UnitId) (at_ : Instant) (s : State) :
    exec (.ppsinEdge u at_) s = execPpsinEdge u at_ s := rfl
@[simp] theorem exec_svFrameRx (u : UnitId) (p : (Fin 2)) (macl : (BitVec 16)) (appid : (BitVec 16)) (cnt : (BitVec 16)) (synch : (BitVec 8)) (vals : SvValues) (at_ : Instant) (s : State) :
    exec (.svFrameRx u p macl appid cnt synch vals at_) s = execSvFrameRx u p macl appid cnt synch vals at_ s := rfl
@[simp] theorem exec_svStreamFault (u : UnitId) (n : (Fin 16)) (at_ : Instant) (s : State) :
    exec (.svStreamFault u n at_) s = execSvStreamFault u n at_ s := rfl
@[simp] theorem exec_gooseNewState (u : UnitId) (q : Requester) (v : Word) (at_ : Instant) (s : State) :
    exec (.gooseNewState u q v at_) s = execGooseNewState u q v at_ s := rfl
@[simp] theorem exec_gooseRetransmit (u : UnitId) (n : (Fin 8)) (at_ : Instant) (s : State) :
    exec (.gooseRetransmit u n at_) s = execGooseRetransmit u n at_ s := rfl
@[simp] theorem exec_gooseRx (u : UnitId) (p : (Fin 2)) (macl : (BitVec 16)) (appid : (BitVec 16)) (st : (BitVec 32)) (sq : (BitVec 32)) (tal : (BitVec 32)) (data : GooseData) (frame : Bytes) (at_ : Instant) (s : State) :
    exec (.gooseRx u p macl appid st sq tal data frame at_) s = execGooseRx u p macl appid st sq tal data frame at_ s := rfl
@[simp] theorem exec_gooseTalExpire (u : UnitId) (n : (Fin 32)) (at_ : Instant) (s : State) :
    exec (.gooseTalExpire u n at_) s = execGooseTalExpire u n at_ s := rfl
@[simp] theorem exec_netTxSubmit (u : UnitId) (q : Requester) (v : Word) (s : State) :
    exec (.netTxSubmit u q v) s = execNetTxSubmit u q v s := rfl
@[simp] theorem exec_netTxLaunch (u : UnitId) (p : (Fin 2)) (at_ : Instant) (s : State) :
    exec (.netTxLaunch u p at_) s = execNetTxLaunch u p at_ s := rfl
@[simp] theorem exec_netTxComplete (u : UnitId) (p : (Fin 2)) (at_ : Instant) (s : State) :
    exec (.netTxComplete u p at_) s = execNetTxComplete u p at_ s := rfl
@[simp] theorem exec_netTxcplRead (u : UnitId) (q : Requester) (s : State) :
    exec (.netTxcplRead u q) s = execNetTxcplRead u q s := rfl
@[simp] theorem exec_netLinkChange (u : UnitId) (p : (Fin 2)) (up : Bool) (s : State) :
    exec (.netLinkChange u p up) s = execNetLinkChange u p up s := rfl
@[simp] theorem exec_healthRecord (u : UnitId) (at_ : Instant) (tj : Int) (eyes : EyeMargins) (spleye : (List Nat)) (s : State) :
    exec (.healthRecord u at_ tj eyes spleye) s = execHealthRecord u at_ tj eyes spleye s := rfl
@[simp] theorem exec_healthRecordRx (u : UnitId) (record : Bytes) (s : State) :
    exec (.healthRecordRx u record) s = execHealthRecordRx u record s := rfl
@[simp] theorem exec_faultLatch (u : UnitId) (at_ : Instant) (cyc : (BitVec 32)) (s : State) :
    exec (.faultLatch u at_ cyc) s = execFaultLatch u at_ cyc s := rfl
@[simp] theorem exec_graceExpire (u : UnitId) (at_ : Instant) (s : State) :
    exec (.graceExpire u at_) s = execGraceExpire u at_ s := rfl
@[simp] theorem exec_fltLatchClear (u : UnitId) (q : Requester) (v : Word) (s : State) :
    exec (.fltLatchClear u q v) s = execFltLatchClear u q v s := rfl
@[simp] theorem exec_cellFltLatchClear (c : CellId) (r : CellReq) (v : Word) (s : State) :
    exec (.cellFltLatchClear c r v) s = execCellFltLatchClear c r v s := rfl
@[simp] theorem exec_wdogKick (u : UnitId) (q : Requester) (n : (Fin 4)) (v : Word) (at_ : Instant) (s : State) :
    exec (.wdogKick u q n v at_) s = execWdogKick u q n v at_ s := rfl
@[simp] theorem exec_wdogExpire (u : UnitId) (n : (Fin 4)) (at_ : Instant) (s : State) :
    exec (.wdogExpire u n at_) s = execWdogExpire u n at_ s := rfl
@[simp] theorem exec_blockReset (p : RegPort) (a : (BitVec 32)) (en : Bool) (at_ : Instant) (s : State) :
    exec (.blockReset p a en at_) s = execBlockReset p a en at_ s := rfl
@[simp] theorem exec_maskWindowEnd (u : UnitId) (at_ : Instant) (cyc : (BitVec 32)) (s : State) :
    exec (.maskWindowEnd u at_ cyc) s = execMaskWindowEnd u at_ cyc s := rfl
@[simp] theorem exec_lockWrite (p : RegPort) (a : (BitVec 32)) (v : Word) (at_ : Instant) (s : State) :
    exec (.lockWrite p a v at_) s = execLockWrite p a v at_ s := rfl
@[simp] theorem exec_sramEccError (p : Part) (addr : (BitVec 26)) (double : Bool) (at_ : Instant) (s : State) :
    exec (.sramEccError p addr double at_) s = execSramEccError p addr double at_ s := rfl
@[simp] theorem exec_scrubOverrun (u : UnitId) (s : State) :
    exec (.scrubOverrun u) s = execScrubOverrun u s := rfl
@[simp] theorem exec_rowRetire (u : UnitId) (row : (Fin 49152)) (s : State) :
    exec (.rowRetire u row) s = execRowRetire u row s := rfl
@[simp] theorem exec_rowRetireSwitch (u : UnitId) (row : (Fin 49152)) (at_ : Instant) (s : State) :
    exec (.rowRetireSwitch u row at_) s = execRowRetireSwitch u row at_ s := rfl
@[simp] theorem exec_rowEntryAgeDrop (u : UnitId) (row : (Fin 49152)) (at_ : Instant) (s : State) :
    exec (.rowEntryAgeDrop u row at_) s = execRowEntryAgeDrop u row at_ s := rfl
@[simp] theorem exec_memRetreq (u : UnitId) (q : Requester) (v : Word) (s : State) :
    exec (.memRetreq u q v) s = execMemRetreq u q v s := rfl
@[simp] theorem exec_unitPowerOnReset (u : UnitId) (s : State) :
    exec (.unitPowerOnReset u) s = execUnitPowerOnReset u s := rfl
@[simp] theorem exec_unitPinReset (r : PinReset) (s : State) :
    exec (.unitPinReset r) s = execUnitPinReset r s := rfl
@[simp] theorem exec_genRstWrite (u : UnitId) (q : Requester) (v : Word) (s : State) :
    exec (.genRstWrite u q v) s = execGenRstWrite u q v s := rfl
@[simp] theorem exec_genPrstWrite (u : UnitId) (q : Requester) (v : Word) (s : State) :
    exec (.genPrstWrite u q v) s = execGenPrstWrite u q v s := rfl
@[simp] theorem exec_partnerResetRx (u : UnitId) (s : State) :
    exec (.partnerResetRx u) s = execPartnerResetRx u s := rfl
@[simp] theorem exec_bootConfirm (u : UnitId) (q : Requester) (s : State) :
    exec (.bootConfirm u q) s = execBootConfirm u q s := rfl
@[simp] theorem exec_bootTrialTimeout (u : UnitId) (s : State) :
    exec (.bootTrialTimeout u) s = execBootTrialTimeout u s := rfl
@[simp] theorem exec_configLoad (u : UnitId) (blocks : CfgBlocks) (sect : Bytes) (at_ : Instant) (s : State) :
    exec (.configLoad u blocks sect at_) s = execConfigLoad u blocks sect at_ s := rfl
@[simp] theorem exec_secVerify (u : UnitId) (q : Requester) (ca : Bool) (s : State) :
    exec (.secVerify u q ca) s = execSecVerify u q ca s := rfl
@[simp] theorem exec_secVerifyDone (u : UnitId) (s : State) :
    exec (.secVerifyDone u) s = execSecVerifyDone u s := rfl
@[simp] theorem exec_secRaise (u : UnitId) (q : Requester) (s : State) :
    exec (.secRaise u q) s = execSecRaise u q s := rfl
@[simp] theorem exec_secRandom (u : UnitId) (q : Requester) (s : State) :
    exec (.secRandom u q) s = execSecRandom u q s := rfl
@[simp] theorem exec_flsErase (u : UnitId) (q : Requester) (s : State) :
    exec (.flsErase u q) s = execFlsErase u q s := rfl
@[simp] theorem exec_flsProgram (u : UnitId) (q : Requester) (s : State) :
    exec (.flsProgram u q) s = execFlsProgram u q s := rfl
@[simp] theorem exec_flsRead (u : UnitId) (q : Requester) (s : State) :
    exec (.flsRead u q) s = execFlsRead u q s := rfl
@[simp] theorem exec_flsCheck (u : UnitId) (q : Requester) (s : State) :
    exec (.flsCheck u q) s = execFlsCheck u q s := rfl
@[simp] theorem exec_flsOpDone (u : UnitId) (ecc : Bool) (s : State) :
    exec (.flsOpDone u ecc) s = execFlsOpDone u ecc s := rfl
@[simp] theorem exec_pwrReqRun (u : UnitId) (q : Requester) (s : State) :
    exec (.pwrReqRun u q) s = execPwrReqRun u q s := rfl
@[simp] theorem exec_pwrReqHold (u : UnitId) (q : Requester) (s : State) :
    exec (.pwrReqHold u q) s = execPwrReqHold u q s := rfl
@[simp] theorem exec_pwrReqQuiet (u : UnitId) (q : Requester) (s : State) :
    exec (.pwrReqQuiet u q) s = execPwrReqQuiet u q s := rfl
@[simp] theorem exec_quietEnter (u : UnitId) (s : State) :
    exec (.quietEnter u) s = execQuietEnter u s := rfl
@[simp] theorem exec_quietLeaseEval (u : UnitId) (pact : Bool) (s : State) :
    exec (.quietLeaseEval u pact) s = execQuietLeaseEval u pact s := rfl
@[simp] theorem exec_refLoss (u : UnitId) (at_ : Instant) (s : State) :
    exec (.refLoss u at_) s = execRefLoss u at_ s := rfl
@[simp] theorem exec_refReturn (u : UnitId) (at_ : Instant) (s : State) :
    exec (.refReturn u at_) s = execRefReturn u at_ s := rfl
@[simp] theorem exec_pllUnlock (u : UnitId) (n : (Fin 7)) (s : State) :
    exec (.pllUnlock u n) s = execPllUnlock u n s := rfl
@[simp] theorem exec_tjThreshold (u : UnitId) (tj : (BitVec 10)) (s : State) :
    exec (.tjThreshold u tj) s = execTjThreshold u tj s := rfl
@[simp] theorem exec_jtagExtest (p : Part) (low : Bool) (s : State) :
    exec (.jtagExtest p low) s = execJtagExtest p low s := rfl
@[simp] theorem exec_jtagIdcode (p : Part) (s : State) :
    exec (.jtagIdcode p) s = execJtagIdcode p s := rfl
@[simp] theorem exec_jtagSamplePreload (p : Part) (pins : Nat) (load : Nat) (s : State) :
    exec (.jtagSamplePreload p pins load) s = execJtagSamplePreload p pins load s := rfl
@[simp] theorem exec_jtagHighz (p : Part) (low : Bool) (s : State) :
    exec (.jtagHighz p low) s = execJtagHighz p low s := rfl
@[simp] theorem exec_jtagClamp (p : Part) (low : Bool) (s : State) :
    exec (.jtagClamp p low) s = execJtagClamp p low s := rfl
@[simp] theorem exec_jtagFlashprog (p : Part) (s : State) :
    exec (.jtagFlashprog p) s = execJtagFlashprog p s := rfl
@[simp] theorem exec_jtagFlashprogAccess (u : UnitId) (write : Bool) (sram : Bool) (addr : Word) (data : Word) (at_ : Instant) (s : State) :
    exec (.jtagFlashprogAccess u write sram addr data at_) s = execJtagFlashprogAccess u write sram addr data at_ s := rfl
@[simp] theorem exec_jtagDebug (p : Part) (s : State) :
    exec (.jtagDebug p) s = execJtagDebug p s := rfl
@[simp] theorem exec_jtagBypass (p : Part) (code : (BitVec 6)) (s : State) :
    exec (.jtagBypass p code) s = execJtagBypass p code s := rfl
@[simp] theorem exec_regWrite (p : RegPort) (a : (BitVec 32)) (v : Word) (be : (BitVec 4)) (at_ : Instant) (s : State) :
    exec (.regWrite p a v be at_) s = execRegWrite p a v be at_ s := rfl
@[simp] theorem exec_partnerCmdFrameRx (u : UnitId) (p : Fin 100) (rx : RxCut) (at_ : Instant) (s : State) :
    exec (.partnerCmdFrameRx u p rx at_) s = execPartnerCmdFrameRx u p rx at_ s := rfl
@[simp] theorem exec_ptpFollowUpRx (u : UnitId) (p : (Fin 2)) (domain : (BitVec 8)) (src : (BitVec 80)) (seq : (BitVec 16)) (t1 : Instant) (corr : Int) (at_ : Instant) (s : State) :
    exec (.ptpFollowUpRx u p domain src seq t1 corr at_) s = execPtpFollowUpRx u p domain src seq t1 corr at_ s := rfl
@[simp] theorem exec_unitSupplyLoss (u : UnitId) (s : State) :
    exec (.unitSupplyLoss u) s = execUnitSupplyLoss u s := rfl
@[simp] theorem exec_tripSourceInactive (c : CellId) (n : (Fin 6)) (s : State) :
    exec (.tripSourceInactive c n) s = execTripSourceInactive c n s := rfl
@[simp] theorem exec_framAppendComplete (c : CellId) (ok : Bool) (s : State) :
    exec (.framAppendComplete c ok) s = execFramAppendComplete c ok s := rfl

end Sys2Proof.Machine
end

