-- ==== Sys2Proof/Laws/Effects.lean ====
section
/-! SUPPORT. What the shared operations leave in the state: one lemma per operation and place, so that no later proof unfolds
the operation. -/
namespace Sys2Proof.Machine

/-- A field is the same where registers and part are the same. -/
theorem UnitSt.fld_congr {x y : UnitSt} {f : Fld} {i : Nat} (hr : x.regs = y.regs) (hi : x.id = y.id) : x.fld f i = y.fld f i := by
  simp only [UnitSt.fld, UnitSt.word, hr, hi]

/-- A field of a cell is the same where registers and part are the same. -/
theorem CellSt.fld_congr {x y : CellSt} {f : Fld} {i : Nat} (hr : x.regs = y.regs) (hk : x.key = y.key) : x.fld f i = y.fld f i := by
  simp only [CellSt.fld, CellSt.word, hr, hk]

/-- What each step of a fold leaves alone, the fold leaves alone. -/
theorem foldl_keep {α β γ : Type} (p : α → γ) (f : α → β → α) (h : ∀ a b, p (f a b) = p a) (l : List β) (a : α) :
    p (l.foldl f a) = p a := by
  induction l generalizing a with
  | nil => rfl
  | cons b l ih => exact (ih _).trans (h a b)

/-! Caliper. -/

/-- Changes of records move no front. -/
theorem UnitSt.onRec_fold_front (g : UnitSt → Nat → ClpRec → ClpRec) (l : List Nat) (y : UnitSt) :
    (l.foldl (fun x k => x.onRec k (g x k)) y).clp.front = y.clp.front := by
  induction l generalizing y with
  | nil => rfl
  | cons b l ih => exact (ih _).trans rfl

/-- A sub-step integrated moves the front of its arm on by one (R261). -/
theorem UnitSt.armStep_front {x : UnitSt} {arm pn : Nat} {a b : Instant} (h : x.subStep (x.clpFront arm) = some (pn, a, b)) :
    (x.armStep arm).clpFront arm = x.clpFront arm + 1 := by
  unfold UnitSt.armStep
  dsimp only
  rw [h]
  dsimp only
  unfold UnitSt.clpFront
  rw [UnitSt.onRec_fold_front]
  exact sget_sset

/-- A record reads back as changed. -/
theorem UnitSt.clpRec_onRec {x : UnitSt} {k : Nat} {f : ClpRec → ClpRec} : (x.onRec k f).clpRec k = f (x.clpRec k) := sget_sset

/-- An error leaves the records. -/
@[simp] theorem UnitSt.clpRec_err {x : UnitSt} {f : Fld} {i k : Nat} : (x.err f i).clpRec k = x.clpRec k := by
  unfold UnitSt.clpRec; rw [UnitSt.err_clp]

/-- Showing Caliper's status leaves the records. -/
@[simp] theorem UnitSt.clpRec_showClp {x : UnitSt} {k : Nat} : x.showClp.clpRec k = x.clpRec k := rfl

/-- Showing Caliper's status leaves every field of another register. -/
theorem UnitSt.fld_showClp {x : UnitSt} {g : Fld} {j : Nat} (h : g.addr j ≠ CLP_STAT.RETPEND.addr 0) : x.showClp.fld g j = x.fld g j := by
  unfold UnitSt.showClp
  dsimp only
  rw [UnitSt.fld_set_ne CLP_STAT.SEEDING _ _ _ _ h, UnitSt.fld_set_ne CLP_STAT.RETPEND _ _ _ _ h]

/-! Period changes (R62). -/

/-- The end of a period change shows its result, and no change runs any more. -/
theorem UnitSt.pchgEnd_fld {x : UnitSt} {res : Nat} {f : Fld} :
    (x.pchgEnd res).fld f = ((x.set TIM_PCHG.RES res).set TIM_PCHG.REQ 0).fld f := by
  unfold UnitSt.pchgEnd
  exact UnitSt.fld_congr (y := (x.set TIM_PCHG.RES res).set TIM_PCHG.REQ 0) rfl rfl

/-- The new length of the period stands in T. -/
theorem UnitSt.changeT_T {x : UnitSt} {p t : Nat} : (x.changeT p t).fld TIM_PERIOD.T = t % 256 := by
  have cp : ∀ (y : UnitSt) (f : Fld), y.clpPeriod.fld f = y.fld f := fun y f => UnitSt.fld_congr (y := y) rfl rfl
  unfold UnitSt.changeT
  dsimp only
  rw [cp]
  exact UnitSt.fld_set _ _ _ (by decide)

/-! The lease (R406 to R411, R425). -/

/-- Entering CLAIM from STANDBY changes STATE alone of what the lease state moves. -/
theorem UnitSt.setLstate_claim {x : UnitSt} (h : x.lstate = 0) : x.setLstate 1 = x.set LSE_STAT.STATE 1 := by
  unfold UnitSt.setLstate
  rw [h]
  rfl

/-- A claim from STANDBY enters CLAIM with epoch E + 1, and names its cause (R409). -/
theorem UnitSt.claim_shows {x : UnitSt} {cause : Nat} (h : x.lstate = 0) :
    (x.claim cause).fld LSE_STAT.STATE = 1 ∧ (x.claim cause).lse.epoch = (x.seenEpoch + 1) % 2 ^ 32 ∧
      (x.claim cause).fld LSE_EPOCH.EPOCH = (x.seenEpoch + 1) % 2 ^ 32 ∧ (x.claim cause).fld LSE_LOST.CAUSE = cause % 4 := by
  unfold UnitSt.claim
  rw [UnitSt.setLstate_claim h]
  have e : (x.set LSE_STAT.STATE 1).seenEpoch = x.seenEpoch := rfl
  dsimp only
  rw [e]
  unfold UnitSt.setEpoch
  dsimp only
  generalize hE : (x.seenEpoch + 1) % 2 ^ 32 = E
  have hlt : E < 2 ^ 32 := by omega
  have hb : ∀ (y : UnitSt) (l : LseSt) (f : Fld), ({ y with lse := l } : UnitSt).fld f = y.fld f := fun y l f => UnitSt.fld_congr rfl rfl
  have hs : ∀ (y : UnitSt) (l : LseSt) (f : Fld) (v i : Nat), ({ y with lse := l } : UnitSt).set f v i = { y.set f v i with lse := l } :=
    fun _ _ _ _ _ => rfl
  have hi : ∀ (y : UnitSt) (l : LseSt) (f : Fld) (i : Nat), ({ y with lse := l } : UnitSt).inc f i = { y.inc f i with lse := l } :=
    fun _ _ _ _ => rfl
  refine ⟨?_, rfl, ?_, ?_⟩
  · rw [hb, hs, hi, hb]
    simp (disch := decide) [UnitSt.inc, UnitSt.fld_set, UnitSt.fld_set_ne]
  · rw [hb, hs, hi, hb]
    simp (disch := decide) [UnitSt.inc, UnitSt.fld_set, UnitSt.fld_set_ne]
    exact hlt
  · rw [hb, hs, hi, hb]
    simp (disch := decide) [UnitSt.inc, UnitSt.fld_set, UnitSt.fld_set_ne]

/-! What arrives over Splice and from cells. -/

/-- What the unit knows of a cell reads back as changed. -/
theorem UnitSt.view_onView {x : UnitSt} {k : Nat} {f : CellView → CellView} : (x.onView k f).view k = f (x.view k) := sget_sset

/-- Errors, counts and registers leave what the unit knows of cells. -/
@[simp] theorem UnitSt.view_err {x : UnitSt} {f : Fld} {i k : Nat} : (x.err f i).view k = x.view k := by
  unfold UnitSt.view; rw [UnitSt.err_views]

/-- The views alone decide what the unit knows of a cell. -/
theorem UnitSt.view_congr {x y : UnitSt} {k : Nat} (h : x.views = y.views) : x.view k = y.view k := by
  unfold UnitSt.view; rw [h]

/-- Taking a reply changes at most the tags the unit holds of the cell. -/
theorem UnitSt.takeReply_view {x : UnitSt} {k : Nat} {slot : Bytes} :
    ∃ g, (x.takeReply k slot).view k = { x.view k with tags := g } := by
  unfold UnitSt.takeReply
  dsimp only
  split
  · exact ⟨_, rfl⟩
  · split
    · exact ⟨_, rfl⟩
    · rename_i g _ _ _
      refine ⟨(x.view k).tags.filter (fun e => e.1 != g), Eq.trans (UnitSt.view_congr ?_)
        (UnitSt.view_onView (x := x) (f := fun v => { v with tags := v.tags.filter (fun e => e.1 != g) }))⟩
      split <;> first | rfl | (split <;> rfl)

/-- Data discarded leaves the views. -/
theorem UnitSt.discarded_view {x : UnitSt} {v : Bool} {s k : Nat} : (x.discarded v s).view k = x.view k := by
  unfold UnitSt.discarded
  split
  · exact UnitSt.view_err
  · split
    · exact UnitSt.view_err
    · rfl

/-- A slot taken stands in the view of its cell, with the period it came in (R112, R121). -/
theorem UnitSt.takeSlot_view {x : UnitSt} {k pn : Nat} {v : Bool} {slot : Bytes} :
    ((x.takeSlot k pn v slot).view k).slot = slot ∧ ((x.takeSlot k pn v slot).view k).slotPn = some pn := by
  unfold UnitSt.takeSlot
  lift_lets
  extract_lets h y l z
  have hy : (z.view k).slot = slot ∧ (z.view k).slotPn = some pn := by
    have e : z.view k = y.view k := rfl
    rw [e, UnitSt.view_onView]
    exact ⟨rfl, rfl⟩
  clear_value z
  split
  · obtain ⟨g, e⟩ := UnitSt.takeReply_view (x := z) (k := k) (slot := slot)
    rw [e]
    exact hy
  · split
    · rw [UnitSt.discarded_view]
      exact hy
    · exact hy

/-- Showing the relayed strands leaves Splice's state and the lease. -/
theorem UnitSt.showRelay_parts {x : UnitSt} {act : List Nat} : (x.showRelay act).spl = x.spl ∧ (x.showRelay act).lse = x.lse := by
  unfold UnitSt.showRelay
  dsimp only
  simp only [UnitSt.set_spl, UnitSt.set_lse]
  refine ⟨foldl_keep (fun y : UnitSt => y.spl) _ ?_ _ _, foldl_keep (fun y : UnitSt => y.lse) _ ?_ _ _⟩ <;> intros <;> rfl

/-- Showing the relayed strands changes RELAY of the ports and the mask of Splice alone. -/
theorem UnitSt.showRelay_fld {x : UnitSt} {act : List Nat} {f : Fld} {i : Nat} (h : f.addr i < 0x100000)
    (h0 : f.addr i ≠ SPL_RMASK.STR.addr 0) (h1 : f.addr i ≠ SPL_RMASK.STR.addr 1) (h2 : f.addr i ≠ SPL_RMASK.STR.addr 2) :
    (x.showRelay act).fld f i = x.fld f i := by
  unfold UnitSt.showRelay
  dsimp only
  rw [UnitSt.fld_set_ne _ _ _ _ _ h2, UnitSt.fld_set_ne _ _ _ _ _ h1, UnitSt.fld_set_ne _ _ _ _ _ h0]
  refine foldl_keep (fun y : UnitSt => y.fld f i) _ (fun y sp => ?_) _ _
  have hp : STRP_STAT.RELAY.addr sp.2 ≥ 0x100000 := Nat.le_add_right_of_le (Nat.le_add_right_of_le (by decide))
  rw [UnitSt.fld_set_ne _ _ _ _ _ (by omega)]
  exact UnitSt.fld_congr rfl rfl

/-- A relayed command frame is evidence of a relay (R126, R127). -/
theorem UnitSt.relayRx_relNow {x : UnitSt} {bytes : Bytes} {t : Instant} : (x.relayRx bytes t).lse.relNow = true := by
  have hl : ∀ (y : UnitSt) (p : Nat) (f : Bytes), (y.relayLaunch p t f).lse = y.lse := by
    intro y p f
    unfold UnitSt.relayLaunch UnitSt.crossTo
    repeat' split
    all_goals first | rfl | exact UnitSt.err_lse ..
  unfold UnitSt.relayRx
  lift_lets
  extract_lets port r y l z w
  have hw : w.lse.relNow = true := by
    change (if r.2 = true then z.inc SPL_CNT2.MSGCRC else z).lse.relNow = true
    split <;> rfl
  clear_value w r port
  split
  · exact hw
  · rw [hl]
    exact hw

/-- What is taken of a LEASE message's digest shows in CFGD alone of what software reads, and in SPL_ERR (R19, R422). -/
theorem UnitSt.takeCfgd_fld {x : UnitSt} {d : Nat} {f : Fld} (h1 : f.addr 0 ≠ SPL_ERR.CFGD.addr 0)
    (h2 : f.addr 0 ≠ SPL_ERR.CFGD.addr 0 - SPL_ERR.CFGD.addr 0 % 0x1000 + 0x1C) (h3 : f.addr 0 ≠ PWR_COND.CFGD.addr 0) :
    (x.takeCfgd d).fld f = x.fld f := by
  unfold UnitSt.takeCfgd
  dsimp only
  rw [UnitSt.fld_set_ne _ _ _ _ _ h3]
  split
  · exact (UnitSt.fld_congr (y := x.err SPL_ERR.CFGD) rfl rfl).trans (UnitSt.fld_err_ne h1 h2)
  · exact UnitSt.fld_congr rfl rfl

/-! Resets (R588). -/

/-- Mapping rows of the ledger and loading the image touch registers and the SRAM. -/
theorem UnitSt.loadImage_regs (x : UnitSt) (k : Nat) (l : List Nat) :
    ∃ r m, (l.foldl UnitSt.mapRow x).loadImage k = { x with regs := r, mem := m } := by
  have hm : ∀ (l : List Nat) (y : UnitSt), ∃ r m, l.foldl UnitSt.mapRow y = { y with regs := r, mem := m } := by
    intro l
    induction l with
    | nil => exact fun y => ⟨y.regs, y.mem, rfl⟩
    | cons a l ih =>
      intro y
      obtain ⟨r, m, e⟩ := ih (y.mapRow a)
      have h1 : ∃ r m, y.mapRow a = { y with regs := r, mem := m } := by
        unfold UnitSt.mapRow
        dsimp only
        split <;> exact ⟨_, _, rfl⟩
      obtain ⟨r1, m1, e1⟩ := h1
      refine ⟨r, m, e.trans ?_⟩
      rw [e1]
  obtain ⟨r, m, e⟩ := hm l x
  rw [e]
  exact ⟨r, _, rfl⟩

/-- ROM's boot touches registers, the SRAM, what leaves the unit, and the boot's outcome. -/
theorem UnitSt.bootRom_regs (x was : UnitSt) (kind : Nat) :
    ∃ r o b c m, x.bootRom was kind = { x with regs := r, out := o, boot := b, pci := c, mem := m } := by
  have hs : ∀ (y : UnitSt) (k : Nat), ∃ r, y.showSlot k = { y with regs := r } := by
    intro y k
    unfold UnitSt.showSlot
    dsimp only
    split <;> exact ⟨_, rfl⟩
  unfold UnitSt.bootRom
  obtain ⟨r0, e0⟩ := hs x 0
  obtain ⟨r1, e1⟩ := hs (x.showSlot 0) 1
  rw [e1, e0]
  dsimp only
  split
  · obtain ⟨r, o, c, e⟩ := UnitSt.err_regs { x with regs := r1, boot := .noImage } FLS_ERR.NOIMG 0
    rw [e]
    exact ⟨_, _, _, _, _, rfl⟩
  · rename_i k fb hk
    obtain ⟨r2, m, e2⟩ := UnitSt.loadImage_regs { x with regs := r1 } k ({ x with regs := r1 } : UnitSt).ledgerRows
    rw [e2]
    dsimp only
    split
    · obtain ⟨r, o, c, e⟩ := UnitSt.err_regs ((((({ x with regs := r2, mem := m } : UnitSt).set GEN_BOOT.SLOT k).set GEN_BOOT.TRIAL 1).set GEN_IMGVER.VERSION
        (({ x with regs := r2, mem := m } : UnitSt).slotVersion k)).set GEN_BOOT.FB (b2n fb)) GEN_ERR.BOOTFB 0
      exact ⟨r, o, x.boot, c, m, e⟩
    · exact ⟨_, x.out, x.boot, x.pci, m, rfl⟩

end Sys2Proof.Machine
end

