-- ==== Sys2Proof/Laws/Memory.lean ====
section
/-! SUPPORT. The laws of the addressed memories (flash, SRAM, Ream buffers, download buffer): every write keeps the canonical
form, a byte reads back as written, and other bytes stay. -/
namespace Sys2Proof.Machine

/-- The flash of a unit is canonical. -/
abbrev UnitSt.flashOk (x : UnitSt) : Prop := Memory.wf (Config.flash x.id) x.flash = true

/-- The SRAM of a unit is canonical. -/
abbrev UnitSt.sramOk (x : UnitSt) : Prop := Memory.wf Memory.zero x.mem.sram = true

theorem UnitSt.setFlash_flashOk {x : UnitSt} (h : x.flashOk) (a : Nat) (b : Byte) : (x.setFlash a b).flashOk := swf_sset h
@[simp] theorem UnitSt.setFlash_mem {x : UnitSt} (a : Nat) (b : Byte) : (x.setFlash a b).mem = x.mem := rfl

/-- A flash byte reads back as written. -/
theorem UnitSt.flashByte_setFlash {x : UnitSt} (h : x.flashOk) (a : Nat) (b : Byte) : (x.setFlash a b).flashByte a = b :=
  sget_sset_same h

/-- A write of a flash byte leaves every other byte alone. -/
theorem UnitSt.flashByte_setFlash_ne {x : UnitSt} {a c : Nat} (hc : c ≠ a) (b : Byte) :
    (x.setFlash a b).flashByte c = x.flashByte c := sget_sset_ne hc

/-- A write of bytes keeps the SRAM canonical. -/
theorem UnitSt.sramPut_sramOk {x : UnitSt} (h : x.sramOk) (a : Nat) (bs : Bytes) : (x.sramPut a bs).sramOk :=
  swf_foldl (fun _ _ hm => swf_sset hm) _ h

@[simp] theorem UnitSt.sramPut_flash {x : UnitSt} (a : Nat) (bs : Bytes) : (x.sramPut a bs).flash = x.flash := rfl
@[simp] theorem UnitSt.sramPut_id {x : UnitSt} (a : Nat) (bs : Bytes) : (x.sramPut a bs).id = x.id := rfl

theorem sget_puts_ne {c a : Nat} (l : List (Byte × Nat)) (m : Sparse Byte) (h : ∀ b ∈ l, a + b.2 ≠ c) :
    sget Memory.zero (l.foldl (fun m bi => sset Memory.zero m (a + bi.2) bi.1) m) c = sget Memory.zero m c := by
  induction l generalizing m with
  | nil => rfl
  | cons b l ih =>
    rw [List.foldl_cons, ih _ (fun b hb => h b (List.mem_cons_of_mem _ hb))]
    exact sget_sset_ne (Ne.symm (h b List.mem_cons_self))

/-- A write of bytes leaves every byte outside them alone. -/
theorem UnitSt.sramPut_ne {x : UnitSt} {a c : Nat} {bs : Bytes} (h : c < a ∨ a + bs.length ≤ c) :
    sget Memory.zero (x.sramPut a bs).mem.sram c = sget Memory.zero x.mem.sram c := by
  refine sget_puts_ne bs.zipIdx x.mem.sram (fun b hb => ?_)
  have := List.snd_lt_of_mem_zipIdx hb
  omega

/-- Writes of flash bytes in a row keep the flash canonical and leave the SRAM alone. -/
theorem UnitSt.setFlashes_ok {x : UnitSt} (l : List Nat) (a : Nat → Nat) (b : UnitSt → Nat → Byte) (h : x.flashOk) :
    (l.foldl (fun (x : UnitSt) i => x.setFlash (a i) (b x i)) x).flashOk ∧
      (l.foldl (fun (x : UnitSt) i => x.setFlash (a i) (b x i)) x).mem = x.mem := by
  induction l generalizing x with
  | nil => exact ⟨h, rfl⟩
  | cons i l ih => exact ih (UnitSt.setFlash_flashOk h (a i) (b x i))

/-- The bytes a bulk block brings keep the download buffer canonical. -/
theorem CellSt.entryBulk_bufferOk {x : CellSt} (h : Memory.wf Memory.zero x.mem.sram = true) (len off : Nat) (data : Bytes) :
    Memory.wf Memory.zero (x.entryBulk len off data).2.mem.sram = true := by
  unfold CellSt.entryBulk
  split_ifs
  · exact h
  · exact h
  · exact h
  · exact swf_foldl (fun _ _ hm => swf_sset hm) _ h

/-- The contents of a Ream buffer are canonical. -/
theorem reamTable_ok (l : List (Nat × Byte)) : Memory.wf Memory.zero (reamTable l) = true :=
  swf_foldl (fun _ _ hm => swf_sset hm) _ rfl

/-- The contents formed for a publication are canonical. -/
theorem UnitSt.reamForm_ok {x : UnitSt} (h : ∀ m, x.host.reamHeld = some m → Memory.wf Memory.zero m = true) (m : Sparse Byte)
    (e : x.reamForm.host.reamHeld = some m) : Memory.wf Memory.zero m = true := by
  unfold UnitSt.reamForm at e
  split at e
  · cases Option.some.inj e
    exact reamTable_ok _
  · exact h m e

/-- The row map of the ledger leaves the bytes of the SRAM, and loading an image keeps it canonical. -/
theorem UnitSt.loadImage_sramOk {x : UnitSt} (h : x.sramOk) (k : Nat) (l : List Nat) :
    ((l.foldl UnitSt.mapRow x).loadImage k).sramOk := by
  have hm : (l.foldl UnitSt.mapRow x).mem.sram = x.mem.sram := by
    induction l generalizing x with
    | nil => rfl
    | cons a l ih =>
      have h1 : (x.mapRow a).mem.sram = x.mem.sram := by
        unfold UnitSt.mapRow
        dsimp only
        split <;> rfl
      exact (ih (by rw [UnitSt.sramOk, h1]; exact h)).trans h1
  unfold UnitSt.loadImage
  exact UnitSt.sramPut_sramOk (UnitSt.sramPut_sramOk (by rw [UnitSt.sramOk, hm]; exact h) _ _) _ _

/-- After reset nothing is listed in any memory. -/
theorem reset_memories_ok (u : UnitId) : (UnitSt.reset u).flashOk ∧ (UnitSt.reset u).sramOk ∧
    Memory.wf Memory.zero (UnitSt.reset u).host.ream0.bytes = true ∧ Memory.wf Memory.zero (UnitSt.reset u).host.ream1.bytes = true :=
  ⟨rfl, rfl, rfl, rfl⟩

end Sys2Proof.Machine
end

