-- ==== Sys2Proof/Machine/Pins.lean ====
section
/-! DEFINITION. The levels of the output pins that the state gives (R26, R190, R230, R411, R537, R538, R621 to R623, R628,
R630, R648, R650, R652, R653): `none` is high impedance. -/
namespace Sys2Proof.Machine

/-- A pulse of `w` from each of the instants, as it stands at `t`. -/
def pulseAt (w : Nat) (is : List Instant) (t : Instant) : Bool := is.any (fun i => decide (i ≤ t) && decide (t < i + w))

/-- Whether an instruction of R648 holds the pins of a part. -/
def JtagSt.holdsPins (j : JtagSt) : Bool := [0x00, 0x03, 0x04].contains j.ir

/-! Unit. -/

/-- ALIVE: 125 µs high and 125 µs low while AON runs, low from a FATAL latch to the next reset (R538).
Log entries 190 (DESIGN CHOICE), 215 (DESIGN CHOICE). -/
def UnitSt.alivePin (x : UnitSt) (t : Instant) : Bool :=
  x.toggles && (t + Config.alivePhase x.id) / (125 * us) % 2 == 0

/-- FAULT, an open drain that pulls low while it is asserted, in reset and under boundary scan as well (R537, R621, R648). -/
def UnitSt.faultPin (x : UnitSt) : Option Bool :=
  if x.boot = .off ∨ x.bit FLT_STAT.FAULT ∨ x.jtag.holdsPins then some false else none

/-- The unit's own ACTIVE line (R411, R623). -/
def UnitSt.activePin (x : UnitSt) : Bool := x.lse.active && x.boot == .up && !x.jtag.holdsPins

/-- The interlock outputs, open drains that pull low while asserted, follow the ACTIVE line (R26, R411). -/
def UnitSt.interlockPin (x : UnitSt) : Option Bool := if x.activePin then some false else none

/-- TMXDn at `t`; `mdat` are the data pins as sampled and `marks` the instants of Reel marks, which the state does not hold. -/
def UnitSt.tmxdPin (x : UnitSt) (n : Nat) (mdat : Nat → Bool) (marks : List Instant) (t : Instant) : Option Bool :=
  let sel := x.fld TMX_DSEL.SEL n
  let t0 := x.t0 x.pn
  let period (is : List Instant) : Option Bool := some (x.tim.counting && pulseAt (100 * ns) is t)
  if sel = 0 ∨ !dselOk sel then none
  else if sel = 1 then period [t0]
  else if sel = 2 then period [t0 + x.compOfs]
  else if sel = 3 then period [t0 + x.cmdOfs]
  else if sel = 4 then some (pulseAt (100 * ns) [t / sec * sec] t)
  else if sel = 5 then some x.activePin
  else if sel = 6 then some x.faultPin.isSome
  else if sel = 7 then some (pulseAt (100 * ns) marks t)
  else if sel < 0x40 then some (mdat (sel - 0x10))
  else if sel < 0x80 then some (bitAt (x.fld MIN_TRIPSTAT.LVL) (sel - 0x40))
  else some (x.bit STRP_STAT.LOCK (sel - 0x80))

/-- What an analogue test pin drives (R652, R653). -/
inductive Analogue
  | vdd | vdds | halfVdd12 | bandgap | timeControl | reference | vreg08 | vreg09 | vreg18
  deriving DecidableEq, Repr

/-- What TMXAn drives: nothing while its select is 0 (R650, R652). -/
def UnitSt.tmxaPin (x : UnitSt) (n : Nat) : Option Analogue :=
  match x.fld TMX_ASEL.SEL n with
  | 1 => some .vdd
  | 2 => some .vdds
  | 3 => some .halfVdd12
  | 4 => some .bandgap
  | 5 => some .timeControl
  | _ => none

/-! Cell. -/

/-- GATE1H to GATE2L, numbered 0 to 3: high impedance from a reset until the first `CSW_CFG` takes effect (R628). -/
def CellSt.gatePin (x : CellSt) (g : Nat) : Option Bool :=
  if x.pow = .off ∨ !x.sw.cfgDone then none else some (x.gateHigh g)

/-- BYPASS: low, or high once the fire latch is set; in Off it is not driven (R630). -/
def CellSt.bypassPin (x : CellSt) : Option Bool := if x.pow = .off then none else some (x.bit CSW_BYPSTAT.FIRED)

/-- CTMXDn at `t`; `mod16` is the modulator clock over 16. CTMXD0 is an input under select 1. -/
def CellSt.ctmxdPin (x : CellSt) (n : Nat) (mod16 : Bool) (t : Instant) : Option Bool :=
  let t0 := x.tim.t0
  match x.fld CTMX_DSEL.SEL n with
  | 2 => some (pulseAt (50 * ns) [t0] t)
  | 3 => some (pulseAt (50 * ns) [t0 + x.period - 300 * ns, t0 - 300 * ns] t)
  | 4 => some (bitAt (x.fld CSW_STATE.GATES) 0)
  | 5 => some (bitAt (x.fld CSW_STATE.GATES) 1)
  | 6 => some (bitAt (x.fld CSW_STATE.GATES) 2)
  | 7 => some (bitAt (x.fld CSW_STATE.GATES) 3)
  | 8 => some (x.bit CSW_BYPSTAT.FIRED)
  | 9 => some (x.bit CPROT_LATCH.LATCH)
  | 0xA => some (x.servo == 2)
  | 0xB => some mod16
  | 0xC => some x.sup.drv
  | _ => none

/-- What CTMXAn drives: nothing while its select is 0 (R650, R653). -/
def CellSt.ctmxaPin (x : CellSt) (n : Nat) : Option Analogue :=
  match x.fld CTMX_ASEL.SEL n with
  | 1 => some .reference
  | 2 => some .vreg08
  | 3 => some .vreg09
  | 4 => some .vreg18
  | _ => none

end Sys2Proof.Machine
end

