-- ==== Sys2Proof/Machine/Balls.lean ====
section
/-! DEFINITION. The ball maps of both packages (R617 to R620, R626, R627). Rows and columns are numbered from 1. -/
namespace Sys2Proof.Machine

/-- The supply nets of both parts, with the outputs of the FD1600's own regulators (R618, R627). -/
inductive Rail
  | vss | vdd | vdds | vdd12 | vdd18 | vdda18 | vdd33 | vreg08 | vreg09 | vreg18
  deriving DecidableEq, Repr

/-- What a position of the array carries: no ball, a supply, a numbered signal, or a signal that has no number. -/
inductive Net
  | noBall
  | rail (r : Rail)
  | line (name : String) (n : Nat)
  | one (name : String)
  deriving DecidableEq, Repr

/-- The letters of the rows from the A1 corner: I, O, Q, R, S, X and Z are left out (R617). -/
def rowLetters : List Char := "ABCDEFGHJKLMNPTUVWY".toList

/-- The name of row `r`: one letter up to Y, then AA to AY, then BA to BL (R617). -/
def rowName (r : Nat) : String :=
  let letter := String.singleton (rowLetters.getD ((r - 1) % 19) 'A')
  if r ≤ 19 then letter else if r ≤ 38 then "A" ++ letter else "B" ++ letter

/-- The row that a name names. -/
def rowOf (name : String) : Option Nat := (List.range 49).findSome? (fun i => if rowName (i + 1) = name then some (i + 1) else none)

/-- A name of a list for the ball `i` places after the first, when there is one. -/
def named (names : List String) (i : Nat) : Option Net := (names[i]?).map Net.one

/-- The first answer, or VSS: every other position of a block carries it (R618, R627). -/
def orVss (ns : List (Option Net)) : Net := (ns.findSome? id).getD (.rail .vss)

/-- `n` where `b` holds. -/
def onBall (b : Bool) (n : Net) : Option Net := if b then some n else none

/-- A lane or port of pairs: TXP, TXN, RXP and RXN of number `n` by the place in the pair and the direction. -/
def pairNet (name : String) (rx neg : Bool) (n : Nat) : Net :=
  .line (name ++ (if rx then "RX" else "TX") ++ (if neg then "N" else "P")) n

/-- The strand port signal at depth `d` and position `pos` of edge `q`, for the depths and positions that R619 gives. -/
def strandBall (q d pos : Nat) : Option Net :=
  let tier := if d < 6 then 0 else 1
  let j := (pos - 12) / 2
  if (d = 2 ∨ d = 5 ∨ d = 8 ∨ d = 11) ∧ 12 ≤ pos ∧ j < 13 - tier then
    some (pairNet "STR_" (d == 5 || d == 11) ((pos - 12) % 2 == 1) (25 * q + 13 * tier + j))
  else none

/-- A ball of a band (R618). -/
def bandNet (q d pos : Nat) : Net :=
  if d % 3 = 0 then .rail .vdds else (strandBall q d pos).getD (.rail .vss)

/-- The three balls of a central input: their rows are BB to BD for k below 8, else BF to BH (R620). -/
def inputBall (base r k : Nat) : Option Net :=
  (List.range 3).findSome? (fun i => onBall (r == 40 + i) (.line (["MCKO", "MCKI", "MDAT"].getD i "") (base + k)) |>.orElse
    (fun _ => onBall (r == 44 + i) (.line (["MCKO", "MCKI", "MDAT"].getD i "") (base + 8 + k))))

/-- A ball of the top-left block: Splice lanes, station ports, the thermal diode (R620). -/
def topLeftNet (r c : Nat) : Net :=
  orVss [onBall (r == 3 || r == 6 || r == 9) (.rail .vdd12),
    onBall ((r == 2 || r == 5) && decide (2 ≤ c ∧ c ≤ 9)) (pairNet "SPL_" (r == 5) (c % 2 == 1) ((c - 2) / 2)),
    onBall ((r == 8 || r == 11) && decide (2 ≤ c ∧ c ≤ 5)) (pairNet "NET_" (r == 11) (c % 2 == 1) ((c - 2) / 2)),
    onBall (r == 8 && (c == 7 || c == 8)) (.line "NETLOS" (c - 7)),
    onBall (r == 11 && c == 9) (.one "TDP"), onBall (r == 11 && c == 10) (.one "TDN")]

/-- A ball of the top-right block: the PCIe lanes and their clock (R620). -/
def topRightNet (r c : Nat) : Net :=
  orVss [onBall (r == 3 || r == 6 || r == 9) (.rail .vdd12),
    onBall ((r == 2 || r == 5 || r == 8 || r == 11) && decide (40 ≤ c ∧ c ≤ 47))
      (pairNet "PCIE_" (decide (8 ≤ r)) (c % 2 == 1) ((c - 40) / 2 + (if r = 5 ∨ r = 11 then 4 else 0))),
    if r = 7 ∧ 47 ≤ c then named ["PERSTN", "PCIE_REFCLKP", "PCIE_REFCLKN"] (c - 47) else none]

/-- The supplies that both bottom blocks have in common (R618). -/
def bottomRail (r c : Nat) : Option Net :=
  (onBall (r == 43 && (decide (2 ≤ c ∧ c ≤ 11) || decide (39 ≤ c ∧ c ≤ 48))) (.rail .vdd33)).orElse (fun _ =>
    (onBall ((c == 1 || c == 49) && decide (39 ≤ r ∧ r ≤ 48)) (.rail .vdd18)).orElse (fun _ =>
      onBall ((r == 40 || r == 41) && (c == 10 || c == 11 || c == 39 || c == 40)) (.rail .vdda18)))

/-- A ball of the bottom-left block: central inputs 0 to 15, multiplexers, flash, test port and the unit's own pins (R620). -/
def bottomLeftNet (r c : Nat) : Net :=
  orVss [bottomRail r c,
    if 2 ≤ c ∧ c ≤ 9 then inputBall 0 r (c - 2) else none,
    onBall (r == 39 && decide (2 ≤ c ∧ c ≤ 9)) (.line "TMXD" (c - 2)), onBall (r == 39 && decide (10 ≤ c)) (.line "TMXA" (c - 10)),
    if r = 47 ∧ 2 ≤ c then
      named ["XSPI_CK", "XSPI_CSN", "XSPI_DS", "XSPI_D0", "XSPI_D1", "XSPI_D2", "XSPI_D3", "XSPI_D4", "XSPI_D5", "XSPI_D6"] (c - 2)
    else none,
    if r = 48 ∧ 2 ≤ c ∧ c ≤ 3 then named ["XSPI_D7", "XSPI_RSTN"] (c - 2) else none,
    if r = 48 ∧ 5 ≤ c then named ["TCK", "TMS", "TDI", "TDO", "TRSTN"] (c - 5) else none,
    if r = 49 ∧ 2 ≤ c then
      named ["REF25", "PPSIN", "PPSOUT", "UNITSEL", "RESETN", "ALIVE", "FAULT", "ACTIVE_A", "ACTIVE_B", "ZCAL"] (c - 2)
    else none]

/-- A ball of the bottom-right block: central inputs 16 to 31, trip and interlock lines (R620). -/
def bottomRightNet (r c : Nat) : Net :=
  orVss [bottomRail r c,
    if 41 ≤ c ∧ c ≤ 48 then inputBall 16 r (48 - c) else none,
    onBall (r == 47 && decide (41 ≤ c ∧ c ≤ 48)) (.line "TRIP" (c - 41)),
    onBall (r == 48 && decide (41 ≤ c ∧ c ≤ 48)) (.line "TRIP" (c - 41 + 8)),
    onBall (r == 49 && decide (41 ≤ c ∧ c ≤ 48)) (.line "ILK" (c - 41))]

/-- The net of the FD7200's ball at row `r` and column `c`, each 1 to 49 (R618). -/
def net7200 (r c : Nat) : Net :=
  let rowIn := decide (12 ≤ r ∧ r ≤ 38)
  let colIn := decide (12 ≤ c ∧ c ≤ 38)
  if (r = 1 ∨ r = 49) ∧ (c = 1 ∨ c = 49) then .noBall
  else if rowIn && colIn then .rail (if (r + c) % 2 = 0 then .vss else .vdd)
  else if colIn then (if r < 12 then bandNet 0 r c else bandNet 2 (50 - r) c)
  else if rowIn then (if 38 < c then bandNet 1 (50 - c) r else bandNet 3 c r)
  else if r < 12 then (if c < 12 then topLeftNet r c else topRightNet r c)
  else if c < 12 then bottomLeftNet r c else bottomRightNet r c

/-- The signals of the FD1600, each with its row and column (R626). -/
def signals1600 : List (String × List (Nat × Nat × String)) :=
  [("strand", [(1, 4, "TXAP"), (1, 5, "TXAN"), (1, 8, "RXAP"), (1, 9, "RXAN"), (16, 4, "TXBP"), (16, 5, "TXBN"), (16, 8, "RXBP"),
      (16, 9, "RXBN"), (1, 12, "LDET_A"), (16, 12, "LDET_B")]),
   ("measurement", [(3, 1, "VCAPP"), (4, 1, "VCAPN"), (6, 1, "VCHKP"), (7, 1, "VCHKN"), (12, 1, "TEMPP"), (13, 1, "TEMPN"),
      (14, 1, "VAUXP"), (15, 1, "VAUXN"), (9, 1, "OVP"), (10, 1, "OVN"), (8, 2, "VREFC")]),
   ("power stage", [(3, 16, "GATE1H"), (4, 16, "GATE1L"), (5, 16, "GATE2H"), (6, 16, "GATE2L"), (8, 16, "BYPASS"), (10, 16, "TRIP0"),
      (11, 16, "TRIP1"), (12, 16, "TRIP2"), (13, 16, "TRIP3"), (14, 16, "ALIVE"), (3, 15, "SSDRV"), (4, 15, "SSCS")]),
   ("board", [(6, 15, "FRAM_CSN"), (7, 15, "FRAM_SCK"), (8, 15, "FRAM_SI"), (9, 15, "FRAM_SO"), (11, 15, "TCK"), (12, 15, "TMS"),
      (13, 15, "TDI"), (14, 15, "TDO"), (15, 15, "TRSTN"), (2, 14, "XTALI"), (2, 15, "XTALO"), (15, 2, "CTMXD0"), (15, 3, "CTMXD1"),
      (2, 1, "CTMXA0"), (2, 2, "CTMXA1")])]

/-- The supplies of the FD1600; the regulator outputs take decoupling capacitors alone (R627). -/
def rail1600 (r c : Nat) : Rail :=
  if (r = 4 ∨ r = 13) ∧ (c = 8 ∨ c = 9) then .vdd33
  else if (r = 8 ∨ r = 9) ∧ (c = 8 ∨ c = 9) then .vreg08
  else if (r = 2 ∨ r = 15) ∧ (c = 5 ∨ c = 8) then .vreg09
  else if (r = 5 ∨ r = 11) ∧ c = 2 then .vreg18
  else .vss

/-- The net of the FD1600's ball at row `r` and column `c`, each 1 to 16 (R626, R627). -/
def net1600 (r c : Nat) : Net :=
  ((signals1600.flatMap Prod.snd).findSome? (fun s => onBall (s.1 == r && s.2.1 == c) (.one s.2.2))).getD (.rail (rail1600 r c))

end Sys2Proof.Machine
end

