-- ==== Sys2Proof/WellFormed.lean ====
section
/-! DEFINITION. What a well-formed command is: instants that 64 bits of nanoseconds and 16 of fraction hold (R49), byte strings of
a length that their line carries, register addresses of the register that the command is about. A meaning does not rest on
it: where bytes are of another length a meaning does what the spec says of such a frame. -/
namespace Sys2Proof

/-- An instant that converter time can hold (R49). -/
def instantOk (t : Instant) : Bool := decide (t < 2 ^ 80)

/-- The longest strand frame in bytes: a status frame of 64 slots (R91, R108). -/
def frameMax : Nat := 1056

/-- A byte string of at most `n` bytes. -/
def bytesOk (n : Nat) (bs : Bytes) : Bool := decide (bs.length ≤ n)

/-- The address of a register word: a multiple of 4, in the register space of the part (R479, R605). -/
def lowAligned (p : RegPort) (a : BitVec 32) : Bool :=
  decide (a.toNat % 4 = 0) &&
    match p with
    | .unit _ _ => decide (a.toNat < 0x200000)
    | .cell _ _ => decide (a.toNat < 0x10000)

/-- Whether a command is well-formed. -/
def Instr.wf (i : Instr) : Bool :=
  match i with
  | .periodBoundary _ => true
  | .computeStart _ _ mis => mis.all (fun n : Nat => decide (n < 96)) && decide mis.Nodup
  | .chkFail _ _ => true
  | .wearRetire _ _ => true
  | .substepIntegrate _ _ at_ => instantOk at_
  | .holderLostClaim _ => true
  | .relayEnd _ _ => true
  | .reamPublishDone _ => true
  | .calenderRun _ => true
  | .stageDeadlineMiss _ _ => true
  | .maskEvaluate _ => true
  | .prefetchFreeze _ => true
  | .frameBuild _ => true
  | .mirrorSend _ => true
  | .cmdFrameLaunch _ l => instantOk l.at_
  | .statusFrameLaunch _ l => instantOk l.at_
  | .statusFrameRx _ _ rx at_ _ => instantOk at_ && bytesOk frameMax rx.bytes
  | .cellBoundary _ => true
  | .cmdAdopt _ => true
  | .leaseExpire _ => true
  | .orphanBlock _ => true
  | .orphanBypass _ at_ => instantOk at_
  | .statusLatch _ => true
  | .cmdFrameRx _ _ rx stamp done at_ => instantOk stamp && instantOk done && instantOk at_ && bytesOk frameMax rx.bytes && decide (stamp ≤ done)
  | .servoLocked _ => true
  | .servoHoldover _ => true
  | .statusFramePass _ _ bytes => bytesOk frameMax bytes
  | .tailBecome _ _ => true
  | .tailOriginate _ _ => true
  | .tailEnd _ _ => true
  | .stopRx _ _ _ _ at_ => instantOk at_
  | .abortRx _ _ o _ => decide (o.code ≠ 0x1E)
  | .linkLockLoss _ loss => instantOk loss.at_
  | .linkLock _ _ at_ => instantOk at_
  | .portSearchToggle _ p => instantOk p.at_
  | .cellLineSearch _ at_ => instantOk at_
  | .relayFrameRx _ bytes at_ => instantOk at_ && bytesOk frameMax bytes
  | .spliceStatusFwdRx _ _ _ slot => decide (slot.length = 16)
  | .enumAssign _ _ bytes => bytesOk frameMax bytes
  | .enumEcho _ _ bytes => bytesOk frameMax bytes
  | .enumIdreq _ _ bytes => bytesOk frameMax bytes
  | .cellIdrspSend _ => true
  | .enumFrameRx _ _ bytes at_ => instantOk at_ && bytesOk frameMax bytes
  | .portReqOff _ _ _ => true
  | .portReqLow _ _ _ => true
  | .portReqTrain _ _ _ => true
  | .portReqEnum _ _ _ at_ => instantOk at_
  | .portReqActive _ _ _ => true
  | .portMeasureDone _ _ => true
  | .rateSwitch _ => true
  | .portAssignWrite _ _ _ _ => true
  | .entryRead _ _ _ _ => true
  | .entryWrite _ _ _ _ _ _ at_ => instantOk at_
  | .entryBypass _ _ _ _ _ _ => true
  | .calreqRotate _ _ _ at_ => instantOk at_
  | .calreqSparecal _ _ _ => true
  | .calreqReload _ _ _ => true
  | .entryInject _ _ _ _ at_ => instantOk at_
  | .entryReset _ _ _ _ => true
  | .cellStrandReset _ at_ => instantOk at_
  | .entryRate _ _ _ _ _ => true
  | .entryBulk _ _ _ len _ data => decide (data.length = len.val)
  | .timPchgReq _ _ _ => true
  | .pchgReqRx _ _ _ => true
  | .pchgAnswerRx _ _ => true
  | .pchgDecide _ => true
  | .pchgDropRx _ _ => true
  | .pchgEffect _ => true
  | .spliceTimeTransfer _ _ _ at_ => instantOk at_
  | .alignError _ => true
  | .decimOutput _ _ _ at_ => instantOk at_
  | .windowRestart _ _ => true
  | .cmeasSyncReq _ _ => true
  | .syncPinEdge _ => true
  | .cmeasInjWrite _ _ _ at_ => instantOk at_
  | .injResultReady _ _ _ => true
  | .injresRead _ _ _ => true
  | .spareCalibDone _ _ _ => true
  | .rotationStepStart _ at_ => instantOk at_
  | .spareSettled _ => true
  | .spareCompareDone _ at_ => instantOk at_
  | .sliceSwap _ at_ => instantOk at_
  | .swapSkip _ at_ => instantOk at_
  | .rotationStepSkip _ at_ => instantOk at_
  | .cmeasRetireWrite _ _ _ => true
  | .swChange _ _ => true
  | .gateCall _ _ => true
  | .refreshStart _ _ => true
  | .refreshEnd _ _ => true
  | .carrierEdge _ at_ => instantOk at_
  | .carrierTransferQ _ => true
  | .cswCfgWrite _ _ _ => true
  | .cswCperWrite _ _ _ => true
  | .cswCdutyWrite _ _ _ => true
  | .cswCcmtCmt _ _ => true
  | .cswBypfireWrite _ _ _ => true
  | .cellTripInput _ _ at_ => instantOk at_
  | .blankEnd _ _ at_ => instantOk at_
  | .tripBypassDelay _ _ at_ => instantOk at_
  | .cprotTripclrWrite _ _ _ => true
  | .cellCoreWdogExpire c => instantOk c.at_
  | .protClockFail _ => true
  | .supTurnOn _ vaux at_ => instantOk at_ && decide (vaux < 0x10000)
  | .supTurnOff _ v at_ => instantOk at_ && decide (v.sscs < 0x10000) && decide (v.vaux < 0x10000)
  | .softStartEnd _ vaux at_ => instantOk at_ && decide (vaux < 0x10000)
  | .supOvStop _ at_ => instantOk at_
  | .holdupReq _ _ _ => true
  | .holdupEnd _ at_ => instantOk at_
  | .cprotPwrreqWrite _ _ _ => true
  | .dormantLinkTimeout _ at_ => instantOk at_
  | .cellWakeLight _ at_ => instantOk at_
  | .cellWakeCharge _ at_ => instantOk at_
  | .cellPowerOnReset _ at_ => instantOk at_
  | .cellPowerLoss _ => true
  | .leaseClear _ _ _ => true
  | .cgenRstWrite _ _ _ at_ => instantOk at_
  | .patchActivate _ _ => true
  | .cellLedgerDaily _ => true
  | .ledgerReq _ _ _ => true
  | .cellFaultLatch _ at_ _ => instantOk at_
  | .cellGraceExpire _ _ at_ => instantOk at_
  | .cellMaskWindowEnd _ at_ _ => instantOk at_
  | .minResult _ _ sum => decide (sum < 2 ^ 64)
  | .minSyncReq _ _ at_ => instantOk at_
  | .syncPnRx _ _ => true
  | .converterSync _ => true
  | .minNoclk _ _ => true
  | .minStuck _ _ => true
  | .minFaultEnd _ _ at_ => instantOk at_
  | .rtdChange _ _ _ => true
  | .tripInputChange _ _ _ at_ => instantOk at_
  | .quietTripChange _ _ _ at_ => instantOk at_
  | .lpeChcfgWrite _ _ _ _ => true
  | .lpeSwapReq _ _ _ => true
  | .swapReqRx _ _ _ _ _ => true
  | .swapRefusalRx _ _ _ => true
  | .swapEffect _ => true
  | .setpCommitReq _ _ => true
  | .setpCommitRx _ _ vals => decide (vals.length ≤ 64)
  | .setpCommitEffect _ => true
  | .satWarn _ _ => true
  | .satFault _ _ => true
  | .lpeMoveReq _ _ _ => true
  | .clpCmdSeed _ _ => true
  | .clpCmdRetire _ _ => true
  | .clpCmdUnretire _ _ => true
  | .clpCmdClrchk _ _ => true
  | .clpCmdRx _ _ _ _ _ _ => true
  | .clpRecRead _ _ => true
  | .calFxWrite _ _ _ => true
  | .reelPeriodClose _ => true
  | .reelRingWrite _ => true
  | .reelStart _ _ => true
  | .reelHalt _ _ => true
  | .reelMark _ _ at_ => instantOk at_
  | .xtrigRx _ _ _ _ _ time => decide (time < 2 ^ 64)
  | .leaseMsgSend _ => true
  | .leaseMsgRx _ _ => true
  | .spliceDown _ => true
  | .fenceRx _ => true
  | .stopReqRx _ at_ => instantOk at_
  | .spliceLaneRetire _ _ _ _ => true
  | .spliceLaneMove _ => true
  | .mirrorCommitRx _ record _ _ _ => decide (record.length ≤ 8192)
  | .resyncReqRx _ _ => true
  | .resyncBlockRx _ _ _ _ data => decide (data.length ≤ 4096)
  | .resyncApply _ _ => true
  | .handoverReq _ _ _ => true
  | .hovreqRx _ _ => true
  | .hovackRx _ _ => true
  | .handoverDeadline _ => true
  | .handoverSwitch _ => true
  | .hbxSubmit _ _ _ _ => true
  | .hbxTimedRelease _ at_ => instantOk at_
  | .hbxReplyMissing _ => true
  | .hbxTimeout _ => true
  | .hbxCplRead _ _ _ => true
  | .hbxFlush _ _ _ => true
  | .pcieFlrPf0 _ => true
  | .pcieFlrPf1 _ => true
  | .pcieBmeClear _ => true
  | .pcieLinkDown _ => true
  | .pcieLinkUp _ _ _ _ => true
  | .sessChal _ _ => true
  | .sessOpen _ _ _ => true
  | .sessOpenDone _ => true
  | .sessClose _ _ => true
  | .sessChalTimeout _ => true
  | .sessIdleTimeout _ => true
  | .sessLockoutEnd _ => true
  | .reamPinWrite _ _ _ => true
  | .lowWordRead p a => lowAligned p a
  | .highWordRead p a => lowAligned p a
  | .lowWordWrite p a _ at_ => instantOk at_ && lowAligned p a
  | .highWordWrite p a _ at_ => instantOk at_ && lowAligned p a
  | .mbxPost _ _ _ _ => true
  | .mbxEpochRead _ _ _ => true
  | .mbxHepinc _ _ _ => true
  | .mbxAgeExpire _ _ _ => true
  | .mbxDbSet _ _ _ _ => true
  | .mbxDbMaskWrite _ _ _ _ _ => true
  | .vectorRearm _ _ _ _ => true
  | .netFrameRx _ _ bytes _ at_ => instantOk at_ && decide (bytes.length ≤ 1522)
  | .ptpSyncRx _ _ _ _ _ t1 _ _ at_ => instantOk t1 && instantOk at_
  | .ptpAnnounceRx _ _ _ _ _ _ _ _ _ _ _ at_ => instantOk at_
  | .ptpAnnounceTimeout _ _ at_ => instantOk at_
  | .pdelayReqSend _ _ at_ => instantOk at_
  | .pdelayReqRx _ _ _ _ at_ => instantOk at_
  | .pdelayRespRx _ _ _ _ at_ => instantOk at_
  | .ptpSyncTimeout _ at_ => instantOk at_
  | .ppsOut _ at_ => instantOk at_
  | .ppsinEdge _ at_ => instantOk at_
  | .svFrameRx _ _ _ _ _ _ vals at_ => instantOk at_ && decide (vals.length ≤ 8)
  | .svStreamFault _ _ at_ => instantOk at_
  | .gooseNewState _ _ _ at_ => instantOk at_
  | .gooseRetransmit _ _ at_ => instantOk at_
  | .gooseRx _ _ _ _ _ _ _ _ frame at_ => instantOk at_ && decide (frame.length ≤ 1522)
  | .gooseTalExpire _ _ at_ => instantOk at_
  | .netTxSubmit _ _ _ => true
  | .netTxLaunch _ _ at_ => instantOk at_
  | .netTxComplete _ _ at_ => instantOk at_
  | .netTxcplRead _ _ => true
  | .netLinkChange _ _ _ => true
  | .healthRecord _ at_ _ eyes spleye => instantOk at_ && decide (eyes.length ≤ 100) && decide (spleye.length ≤ 16)
  | .healthRecordRx _ record => decide (record.length = 256)
  | .faultLatch _ at_ _ => instantOk at_
  | .graceExpire _ at_ => instantOk at_
  | .fltLatchClear _ _ _ => true
  | .cellFltLatchClear _ _ _ => true
  | .wdogKick _ _ _ _ at_ => instantOk at_
  | .wdogExpire _ _ at_ => instantOk at_
  | .blockReset _ a _ at_ => instantOk at_ && decide (a.toNat % 0x1000 = 0x00C)
  | .maskWindowEnd _ at_ _ => instantOk at_
  | .lockWrite _ a _ at_ => instantOk at_ && decide (a.toNat % 0x1000 = 0x024)
  | .sramEccError _ _ _ at_ => instantOk at_
  | .scrubOverrun _ => true
  | .rowRetire _ _ => true
  | .rowRetireSwitch _ _ at_ => instantOk at_
  | .rowEntryAgeDrop _ _ at_ => instantOk at_
  | .memRetreq _ _ _ => true
  | .unitPowerOnReset _ => true
  | .unitPinReset r => r.prog.all (fun e => decide (e.1 < 67108864))
  | .genRstWrite _ _ _ => true
  | .genPrstWrite _ _ _ => true
  | .partnerResetRx _ => true
  | .bootConfirm _ _ => true
  | .bootTrialTimeout _ => true
  | .configLoad _ _ sect at_ => instantOk at_ && decide (sect.length ≤ 0x100000)
  | .secVerify _ _ _ => true
  | .secVerifyDone _ => true
  | .secRaise _ _ => true
  | .secRandom _ _ => true
  | .flsErase _ _ => true
  | .flsProgram _ _ => true
  | .flsRead _ _ => true
  | .flsCheck _ _ => true
  | .flsOpDone _ _ => true
  | .pwrReqRun _ _ => true
  | .pwrReqHold _ _ => true
  | .pwrReqQuiet _ _ => true
  | .quietEnter _ => true
  | .quietLeaseEval _ _ => true
  | .refLoss _ at_ => instantOk at_
  | .refReturn _ at_ => instantOk at_
  | .pllUnlock _ _ => true
  | .tjThreshold _ _ => true
  | .jtagExtest _ _ => true
  | .jtagIdcode _ => true
  | .jtagSamplePreload _ _ _ => true
  | .jtagHighz _ _ => true
  | .jtagClamp _ _ => true
  | .jtagFlashprog _ => true
  | .jtagFlashprogAccess _ _ _ _ _ at_ => instantOk at_
  | .jtagDebug _ => true
  | .jtagBypass _ _ => true
  | .regWrite _ _ _ _ at_ => instantOk at_
  | .partnerCmdFrameRx _ _ rx at_ => instantOk at_ && bytesOk frameMax rx.bytes
  | .ptpFollowUpRx _ _ _ _ _ t1 _ at_ => instantOk t1 && instantOk at_
  | .unitSupplyLoss _ => true
  | .tripSourceInactive _ _ => true
  | .framAppendComplete _ _ => true

end Sys2Proof
end

