-- ==== Sys2Proof/Tests/Slice0.lean ====
section
/-! SUPPORT. Tests: commands that the check of well-formedness refuses, the spec's worked examples, and for every statement
concrete states and operands that meet its hypotheses. -/
set_option Elab.async false

open Sys2Proof Sys2Proof.Machine

/-! Well-formed commands: one ill-formed term for each check, and a well-formed one at the edge. -/

theorem test_wf_instant_ok : (.alignError .a : Instr).wf = true := by decide +kernel
theorem test_wf_instant_max : (.refLoss .a (2 ^ 80 - 1) : Instr).wf = true := by decide +kernel
theorem test_wf_instant_over : (.refLoss .a (2 ^ 80) : Instr).wf = false := by decide +kernel
theorem test_wf_spot_ok : (.computeStart .a true [95, 3] : Instr).wf = true := by decide +kernel
theorem test_wf_spot_range : (.computeStart .a true [96] : Instr).wf = false := by decide +kernel
theorem test_wf_spot_twice : (.computeStart .a true [3, 3] : Instr).wf = false := by decide +kernel
theorem test_wf_frame_max : (.statusFramePass ⟨0, 0⟩ .a (List.replicate 1056 0) : Instr).wf = true := by decide +kernel
theorem test_wf_frame_long : (.statusFramePass ⟨0, 0⟩ .a (List.replicate 1057 0) : Instr).wf = false := by decide +kernel
theorem test_wf_frame_stamp : (.cmdFrameRx ⟨0, 0⟩ .a ⟨[], 0⟩ 5 4 6 : Instr).wf = false := by decide +kernel
theorem test_wf_status_frame_long : (.statusFrameRx .a 0 ⟨List.replicate 1057 0, 0⟩ 0 false : Instr).wf = false := by decide +kernel
theorem test_wf_launch_instant : (.cmdFrameLaunch .a ⟨2 ^ 80, []⟩ : Instr).wf = false := by decide +kernel
theorem test_wf_lock_loss_instant : (.linkLockLoss (.unit .a 0) ⟨0, 2 ^ 80⟩ : Instr).wf = false := by decide +kernel
theorem test_wf_abort_code_is_stop : (.abortRx ⟨0, 0⟩ .a ⟨0x1E, .a⟩ false : Instr).wf = false := by decide +kernel
theorem test_wf_abort_other_code : (.abortRx ⟨0, 0⟩ .a ⟨0x2C, .a⟩ false : Instr).wf = true := by decide +kernel
theorem test_wf_slot_length : (.spliceStatusFwdRx .a 0 0 (List.replicate 15 0) : Instr).wf = false := by decide +kernel
theorem test_wf_bulk_length : (.entryBulk ⟨0, 0⟩ .a 0 4 0 [1, 2, 3] : Instr).wf = false := by decide +kernel
theorem test_wf_compare_instant : (.spareCompareDone ⟨0, 0⟩ (2 ^ 80) : Instr).wf = false := by decide +kernel
theorem test_wf_vaux_range : (.supTurnOn ⟨0, 0⟩ 0x10000 0 : Instr).wf = false := by decide +kernel
theorem test_wf_off_vaux_range : (.supTurnOff ⟨0, 0⟩ ⟨0, 0x10000⟩ 0 : Instr).wf = false := by decide +kernel
theorem test_wf_off_sense_range : (.supTurnOff ⟨0, 0⟩ ⟨0x10000, 0⟩ 0 : Instr).wf = false := by decide +kernel
theorem test_wf_flash_end : (.unitPinReset ⟨.a, [(0x3FFFFFF, 1)]⟩ : Instr).wf = true := by decide +kernel
theorem test_wf_flash_over : (.unitPinReset ⟨.a, [(0x4000000, 1)]⟩ : Instr).wf = false := by decide +kernel
theorem test_wf_soft_start_vaux : (.softStartEnd ⟨0, 0⟩ 0x10000 0 : Instr).wf = false := by decide +kernel
theorem test_wf_sum_range : (.minResult .a 0 (2 ^ 64) : Instr).wf = false := by decide +kernel
theorem test_wf_setpoints_many : (.setpCommitRx .a 0 (List.replicate 65 0) : Instr).wf = false := by decide +kernel
theorem test_wf_trigger_time : (.xtrigRx .a 0 0 0 false (2 ^ 64) : Instr).wf = false := by decide +kernel
theorem test_wf_mirror_long : (.mirrorCommitRx .a (List.replicate 8193 0) 0 0 0 : Instr).wf = false := by decide +kernel
theorem test_wf_resync_long : (.resyncBlockRx .a 0 0 0 (List.replicate 4097 0) : Instr).wf = false := by decide +kernel
theorem test_wf_read_odd : (.lowWordRead (.unit .a .pf0) 0x4042 : Instr).wf = false := by decide +kernel
theorem test_wf_read_unit_range : (.highWordRead (.unit .a .pf0) 0x200000 : Instr).wf = false := by decide +kernel
theorem test_wf_read_cell_range : (.lowWordRead (.cell ⟨0, 0⟩ .core) 0x10000 : Instr).wf = false := by decide +kernel
theorem test_wf_write_odd : (.lowWordWrite (.cell ⟨0, 0⟩ .core) 0x4042 0 0 : Instr).wf = false := by decide +kernel
theorem test_wf_station_frame_long : (.netFrameRx .a 0 (List.replicate 1523 0) true 0 : Instr).wf = false := by decide +kernel
theorem test_wf_sync_instant : (.ptpSyncRx .a 0 0 0 0 (2 ^ 80) 0 false 0 : Instr).wf = false := by decide +kernel
theorem test_wf_stream_values : (.svFrameRx .a 0 0 0 0 0 (List.replicate 9 (0, 0)) 0 : Instr).wf = false := by decide +kernel
theorem test_wf_goose_long : (.gooseRx .a 0 0 0 0 0 0 [] (List.replicate 1523 0) 0 : Instr).wf = false := by decide +kernel
theorem test_wf_health_eyes : (.healthRecord .a 0 0 (List.replicate 101 (0, 0, 0)) [] : Instr).wf = false := by decide +kernel
theorem test_wf_health_splice_eyes : (.healthRecord .a 0 0 [] (List.replicate 17 0) : Instr).wf = false := by decide +kernel
theorem test_wf_health_length : (.healthRecordRx .a (List.replicate 255 0) : Instr).wf = false := by decide +kernel
theorem test_wf_reset_address : (.blockReset (.unit .a .pf0) 0x4010 false 0 : Instr).wf = false := by decide +kernel
theorem test_wf_lock_address : (.lockWrite (.unit .a .pf0) 0x4028 1 0 : Instr).wf = false := by decide +kernel

/-! The words of the table: no row has bits. -/

theorem test_no_word_is_a_command : decodeTableWord 32 0 = none ∧ (State.reset.withFetchWord 32 0) = State.reset := by decide +kernel

/-! The step. -/

/-- The command at the front is taken and the rest waits. -/
theorem test_step_takes_the_front :
    step { State.reset with pending := [.unitSupplyLoss .a, .alignError .b] } =
      exec (.unitSupplyLoss .a) { State.reset with pending := [.alignError .b] } := rfl

/-! Worked examples of the spec. -/

/-- 01, after R35: a status frame of 64 slots is 1056 bytes; R90: a command frame of 64 slots is 560. -/
theorem test_frame_lengths : statLen 64 = 1056 ∧ cmdLen 64 = 560 ∧
    (statFrame (statHeader .a false 5 7 2 0x7F 0) (absentSlot 0 7 ++ absentSlot 1 7)).length = statLen 2 := by decide +kernel

/-- 02, after R83: with d = 4 a step is added in the periods whose PN mod 16 is 0, 4, 8 or 12. -/
theorem test_ball_map : [net7200 2 36, net7200 2 37, net7200 5 36, net7200 23 45, net7200 34 8, net7200 35 11] =
    [.line "STR_TXP" 12, .line "STR_TXN" 12, .line "STR_RXP" 12, .line "STR_RXN" 30, .line "STR_TXP" 99, .line "STR_RXN" 99] := by
  decide +kernel
theorem test_dither : (List.range 16).filter (fun n => dither n 4 == 1) = [0, 4, 8, 12] := by decide +kernel

/-- 17, after R613: the addresses the host computes. -/
theorem test_addresses : STRP_STAT.REACH.addr 12 = 0x10C010 ∧ LPE_CHOUT.O.addr 37 = 0x27AE0 ∧ MBXH_EPOCH.EPOCH.addr 3 = 0x121FC ∧
    CTIM_SERVO.STATE.addr 0 = 0x706C ∧ PCIE_IMAP.EN0.addr 108 = 0x105B0 := by decide +kernel

/-- 17, after R606: a core that reads PN while a boundary passes obtains a PN that existed, and another requester its own. -/
theorem test_pair_across_boundary :
    let x : UnitSt := { UnitSt.reset .a with regs := [(0x405C, 0xFFFFFFFF)] }
    let x := (x.busRead (.core 0) 0x405C).setPn 0x100000000
    ((x.busRead (.core 0) 0x4060).req (.core 0)).rdata = 0 ∧ ((x.busRead (.core 1) 0x4060).req (.core 1)).rdata = 1 := by decide +kernel

/-- 07, after R297: the fraction emitted and the form used at f = 0.375, at f = 0.12 and at f = 0.24. -/
theorem test_level_interpolation :
    emitted false 10000 2500 16384 3750 = (3750, false) ∧ emitted false 10000 2500 16384 1200 = (0, false) ∧
      emitted true 10000 2500 16384 2400 = (2500, true) := by decide +kernel

/-- A half-bridge cell of the reference project, inserted since long: DT 1.0 µs, MINP 1.5 µs, EAT 1. -/
def testCell : CellSt :=
  let x : CellSt := { CellSt.reset 0 with pow := .on, regs := [(0x4040, 0x1000), (0x4044, 0xFA0), (0x4048, 0x1770), (0x7054, 40)] }
  let x : CellSt := { x with sw := { x.sw with last := 1, leg1 := { cmd := .up } }, tim := { x.tim with t0 := 10000 * us } }
  x.gateUp 0 (9000 * us)

/-- 05, after R200, case 2: a pulse of less than DT is dropped whole. -/
theorem test_pulse_dropped :
    let x := (testCell.commandSlot 1 (10000 * us) (9999 * us) (slotBits 23200 20000 0 0 1)).swChange 0
    x.fld CSW_STATE.GATES = 1 ∧ x.fld CSW_CNT1.DROP = 1 ∧ (x.leg 0).sched = [] := by decide +kernel

/-- 05, after R200, case 1: the upper gate turns off at +1.2345 µs and the lower is called for DT later. -/
theorem test_dead_time :
    let x := (testCell.commandSlot 1 (10000 * us) (9999 * us) (slotBits 0 4938 0 0 1)).swChange 0
    x.fld CSW_STATE.GATES = 0 ∧ (x.leg 0).calls = [(10000 * us + 8938 * qns, .lo)] := by decide +kernel

/-- 08, after R320: in the second period of the fade the blend of 0.5 and 1.0 at 2/8 is 0.625. -/
theorem test_blend : r32 (blend 2 8 (r32 (.ofFrac 1 2)) (r32 (.ofFrac 1 1))) = r32 (.ofFrac 5 8) := by decide +kernel

/-- 08, after R325: g falls by GRATE toward the new winner and meets it. -/
theorem test_ramp :
    rampTo (r32 (.ofFrac 3 2)) (r32 (.ofFrac 1 2)) (r32 (.ofFrac 1 4)) = r32 (.ofFrac 5 4) ∧
      rampTo (r32 (.ofFrac 3 4)) (r32 (.ofFrac 1 2)) (r32 (.ofFrac 1 4)) = r32 (.ofFrac 1 2) := by decide +kernel

/-- R604, R39: a field of a register is cut to its width, and the fields beside it stay. -/
theorem test_field_write :
    let x : UnitSt := (UnitSt.reset .a).set STRP_ASSIGN.NCELL 0xFF 3
    x.fld STRP_ASSIGN.NCELL 3 = 0x7F ∧ x.fld STRP_ASSIGN.STRAND 3 = (UnitSt.reset .a).fld STRP_ASSIGN.STRAND 3 := by decide +kernel

/-! Hypotheses of the statements. -/

def wit_JtagInstructions_jtagFlashprog : State := State.reset.onUnit .a (fun x => x.set FLS_ERR.NOIMG 1)
theorem test_wit_JtagInstructions_jtagFlashprog : ((wit_JtagInstructions_jtagFlashprog.unit UnitId.a).bit FLS_ERR.NOIMG = true) := by decide +kernel
theorem test_wit_JtagInstructions_jtagFlashprogBypass : ((State.reset.unit UnitId.a).bit FLS_ERR.NOIMG = false) := by decide +kernel
def wit_JtagInstructions_jtagDebug : State := State.reset.onUnit .a (fun x => { x with regs := [(0x5040, 0)] })
theorem test_wit_JtagInstructions_jtagDebug : (wit_JtagInstructions_jtagDebug.debugClosed (Part.unit .a) = false) := by decide +kernel
def wit_JtagInstructions_jtagDebugBypass : State := State.reset.onUnit .a (fun x => { x with regs := [(0x5040, 3)] })
theorem test_wit_JtagInstructions_jtagDebugBypass : (wit_JtagInstructions_jtagDebugBypass.debugClosed (Part.unit .a) = true) := by decide +kernel
theorem test_wit_JtagInstructions_jtagBypass : (jtagKnown (Part.unit .a) ((0x3F : BitVec 6)).toNat = false) := by decide +kernel
theorem test_wit_ClockEvents_refLoss : (((State.reset.unit UnitId.a).tick 0).bit CLK_STAT.HOLD = false) := by decide +kernel
def wit_ClockEvents_refReturn : State := State.reset.onUnit .a (fun x => (x.set CLK_STAT.HOLD 1).set CLK_REF.PRESENT 0)
theorem test_wit_ClockEvents_refReturn : (((wit_ClockEvents_refReturn.unit UnitId.a).tick 0).bit CLK_REF.PRESENT = false) ∧ (((wit_ClockEvents_refReturn.unit UnitId.a).tick 0).bit CLK_STAT.HOLD = true) := by decide +kernel
def wit_ClockEvents_pllUnlock : State := State.reset.onUnit .a (fun x => x.set CLK_PLL.LOCK 0x7F)
theorem test_wit_ClockEvents_pllUnlock : (bitAt ((wit_ClockEvents_pllUnlock.unit UnitId.a).fld CLK_PLL.LOCK) ((6 : Fin 7)).val = true) := by decide +kernel
def wit_ClockEvents_tjThreshold : State := State.reset.onUnit .a (fun x => x.set CLK_TJ.PEAK 0x200)
theorem test_wit_ClockEvents_tjThreshold : (toInt 10 (((wit_ClockEvents_tjThreshold.unit UnitId.a).set CLK_TJ.TJ ((0 : BitVec 10)).toNat).fld CLK_TJ.PEAK) < ((0 : BitVec 10)).toInt) ∧ (((0 : BitVec 10)).toInt ≤ toInt 10 ((((wit_ClockEvents_tjThreshold.unit UnitId.a).set CLK_TJ.TJ ((0 : BitVec 10)).toNat).set CLK_TJ.PEAK ((0 : BitVec 10)).toNat).fld CLK_TJTH.HI)) ∧ (((0 : BitVec 10)).toInt ≤ toInt 10 ((((wit_ClockEvents_tjThreshold.unit UnitId.a).set CLK_TJ.TJ ((0 : BitVec 10)).toNat).set CLK_TJ.PEAK ((0 : BitVec 10)).toNat).fld CLK_TJTH.CRIT)) := by decide +kernel
def wit_PowerRequests_pwrReqRun : State := State.reset.onUnit .a (fun x => ((((x.set PWR_STAT.STATE 1).set PWR_COND.LOADED 1).set PWR_COND.BUDGET 1).set TIM_SRC.FREERUN 1))
theorem test_wit_PowerRequests_pwrReqRun : ((wit_PowerRequests_pwrReqRun.unit UnitId.a).allowed (Requester.core 0) true 0x2040 = true) ∧ (((wit_PowerRequests_pwrReqRun.unit UnitId.a).showCond.inHold && (wit_PowerRequests_pwrReqRun.unit UnitId.a).showCond.mayRun) = true) := by decide +kernel
def wit_PowerRequests_pwrReqHold : State := State.reset.onUnit .a (fun x => x.set PWR_STAT.STATE 0)
theorem test_wit_PowerRequests_pwrReqHold : ((wit_PowerRequests_pwrReqHold.unit UnitId.a).allowed (Requester.core 0) true 0x2040 = true) ∧ ((wit_PowerRequests_pwrReqHold.unit UnitId.a).inRun = true) := by decide +kernel
def wit_PowerRequests_pwrReqHoldQuiet : State := State.reset.onUnit .a (fun x => x.set PWR_STAT.STATE 2)
theorem test_wit_PowerRequests_pwrReqHoldQuiet : ((wit_PowerRequests_pwrReqHoldQuiet.unit UnitId.a).allowed (Requester.core 0) true 0x2040 = true) ∧ ((wit_PowerRequests_pwrReqHoldQuiet.unit UnitId.a).inRun = false) ∧ ((wit_PowerRequests_pwrReqHoldQuiet.unit UnitId.a).inQuiet = true) := by decide +kernel
def wit_PowerRequests_pwrReqQuiet : State := State.reset.onUnit .a (fun x => x.set PWR_STAT.STATE 1)
theorem test_wit_PowerRequests_pwrReqQuiet : ((wit_PowerRequests_pwrReqQuiet.unit UnitId.a).allowed (Requester.core 0) true 0x2040 = true) ∧ (((wit_PowerRequests_pwrReqQuiet.unit UnitId.a).inHold && (wit_PowerRequests_pwrReqQuiet.unit UnitId.a).livePorts.all (fun sp => decide ((wit_PowerRequests_pwrReqQuiet.unit UnitId.a).pstate sp.2 ≤ 1))) = true) := by decide +kernel
def wit_PowerRequests_quietEnter : State := State.reset.onUnit UnitId.a (fun x => { x.set PWR_STAT.STATE 1 with quietDue := true })
theorem test_wit_PowerRequests_quietEnter : (((wit_PowerRequests_quietEnter.unit UnitId.a).quietDue && (wit_PowerRequests_quietEnter.unit UnitId.a).inHold) = true) := by decide +kernel
def wit_PeriodTimeline_periodBoundary : State := State.reset.onUnit UnitId.a (fun x => { x with tim := { x.tim with baseSet := true } })
theorem test_wit_PeriodTimeline_periodBoundary : ((wit_PeriodTimeline_periodBoundary.unit UnitId.a).tim.baseSet = true) := by decide +kernel
def wit_PeriodTimeline_computeStart : State := State.reset.onUnit UnitId.a (fun x => { x with tim := { x.tim with counting := true } })
theorem test_wit_PeriodTimeline_computeStart : ((wit_PeriodTimeline_computeStart.unit UnitId.a).tim.counting = true) ∧ ((wit_PeriodTimeline_computeStart.unit UnitId.a).inQuiet = false) ∧ ((wit_PeriodTimeline_computeStart.unit UnitId.a).boot = .up) := by decide +kernel
def wit_PeriodTimeline_pchgEffect : State := State.reset.onUnit UnitId.a (fun x => { x.set PWR_STAT.STATE 1 with tim := { x.tim with pchg := some (0, 100), pchgGo := true } })
theorem test_wit_PeriodTimeline_pchgEffect : ((wit_PeriodTimeline_pchgEffect.unit UnitId.a).tim.peer = none) ∧ ((wit_PeriodTimeline_pchgEffect.unit UnitId.a).tim.pchg = some (0, 100)) ∧ ((wit_PeriodTimeline_pchgEffect.unit UnitId.a).tim.pchgGo = true) ∧ ((wit_PeriodTimeline_pchgEffect.unit UnitId.a).inHold = true) ∧ (0 = (wit_PeriodTimeline_pchgEffect.unit UnitId.a).pn) := by decide +kernel
def wit_PeriodTimeline_pchgEffectPeer : State := State.reset.onUnit UnitId.a (fun x => { x.set PWR_STAT.STATE 1 with tim := { x.tim with peer := some (0, 100) } })
theorem test_wit_PeriodTimeline_pchgEffectPeer : ((wit_PeriodTimeline_pchgEffectPeer.unit UnitId.a).tim.peer = some (0, 100)) ∧ ((wit_PeriodTimeline_pchgEffectPeer.unit UnitId.a).tim.pchg = none) ∧ ((wit_PeriodTimeline_pchgEffectPeer.unit UnitId.a).inHold = true) ∧ (0 = (wit_PeriodTimeline_pchgEffectPeer.unit UnitId.a).pn) := by decide +kernel
def wit_TimeTransferAndAlignment_spliceTimeTransfer : State := State.reset.onUnit UnitId.a (fun x => { x.set SPL_STAT.UP 1 with lse := { x.lse with partLse := 2 } })
theorem test_wit_TimeTransferAndAlignment_spliceTimeTransfer : ((wit_TimeTransferAndAlignment_spliceTimeTransfer.unit UnitId.a).splUp = true) ∧ ((((wit_TimeTransferAndAlignment_spliceTimeTransfer.unit UnitId.a).tick 0).spliceLatency 100).lse.partLse = 2) ∧ ((((wit_TimeTransferAndAlignment_spliceTimeTransfer.unit UnitId.a).tick 0).spliceLatency 100).isHolder = false) := by decide +kernel
def wit_TimeTransferAndAlignment_alignError : State := State.reset.onUnit UnitId.a (fun x => { x with tim := { x.tim with misalign := 16 } })
theorem test_wit_TimeTransferAndAlignment_alignError : (16 ≤ (wit_TimeTransferAndAlignment_alignError.unit UnitId.a).tim.misalign) ∧ ((wit_TimeTransferAndAlignment_alignError.unit UnitId.a).isHolder = false) := by decide +kernel
def wit_PeriodChangeMessages_timPchgReq : State := State.reset.onUnit .a (fun x => (x.set PWR_STAT.STATE 1).set TIM_PCHG_PN_LO.PN_LO 64)
theorem test_wit_PeriodChangeMessages_timPchgReq : ((wit_PeriodChangeMessages_timPchgReq.unit UnitId.a).allowed (Requester.core 0) true 0x4068 = true) ∧ ((wit_PeriodChangeMessages_timPchgReq.unit UnitId.a).bit TIM_PCHG.REQ = false) ∧ ((decide (20 ≤ ((0x80000014 : Word)).toNat % 256) && decide (((0x80000014 : Word)).toNat % 256 ≤ 200)) = true) ∧ (bitAt ((0x80000014 : Word)).toNat 31 = true) ∧ (((wit_PeriodChangeMessages_timPchgReq.unit UnitId.a).set TIM_PCHG.NEW_T (((0x80000014 : Word)).toNat % 256)).inHold = true) ∧ (¬ (((wit_PeriodChangeMessages_timPchgReq.unit UnitId.a).set TIM_PCHG.NEW_T (((0x80000014 : Word)).toNat % 256)).pchgPn < ((wit_PeriodChangeMessages_timPchgReq.unit UnitId.a).set TIM_PCHG.NEW_T (((0x80000014 : Word)).toNat % 256)).pn + 64 ∨ ((wit_PeriodChangeMessages_timPchgReq.unit UnitId.a).set TIM_PCHG.NEW_T (((0x80000014 : Word)).toNat % 256)).pn + 2 ^ 31 ≤ ((wit_PeriodChangeMessages_timPchgReq.unit UnitId.a).set TIM_PCHG.NEW_T (((0x80000014 : Word)).toNat % 256)).pchgPn)) := by decide +kernel
def wit_PeriodChangeMessages_pchgReqRx : State := State.reset.onUnit UnitId.a (fun x => x.set PWR_STAT.STATE 1)
theorem test_wit_PeriodChangeMessages_pchgReqRx : ((wit_PeriodChangeMessages_pchgReqRx.unit UnitId.a).inHold = true) := by decide +kernel
def wit_PeriodChangeMessages_pchgAnswerRx : State := State.reset.onUnit UnitId.a (fun x => { x with tim := { x.tim with pchg := some (5, 100) } })
theorem test_wit_PeriodChangeMessages_pchgAnswerRx : ((wit_PeriodChangeMessages_pchgAnswerRx.unit UnitId.a).tim.pchg = some (((5 : BitVec 48)).toNat, 100)) := by decide +kernel
def wit_PeriodChangeMessages_pchgDecide : State := State.reset.onUnit UnitId.a (fun x => { x.set PWR_STAT.STATE 1 with tim := { x.tim with pchg := some (2, 100), pchgAns := true } })
theorem test_wit_PeriodChangeMessages_pchgDecide : ((wit_PeriodChangeMessages_pchgDecide.unit UnitId.a).tim.pchg = some (2, 100)) ∧ ((wit_PeriodChangeMessages_pchgDecide.unit UnitId.a).tim.pchgGo = false) ∧ (2 ≤ (wit_PeriodChangeMessages_pchgDecide.unit UnitId.a).pn + 2) ∧ ((wit_PeriodChangeMessages_pchgDecide.unit UnitId.a).tim.pchgAns = true) ∧ ((wit_PeriodChangeMessages_pchgDecide.unit UnitId.a).inHold = true) ∧ ((wit_PeriodChangeMessages_pchgDecide.unit UnitId.a).tim.pchgIds.all (fun i => (wit_PeriodChangeMessages_pchgDecide.unit UnitId.a).hbxEnded i == some 0) = true) := by decide +kernel
def wit_PeriodChangeMessages_pchgDecideDrop : State := State.reset.onUnit UnitId.a (fun x => { x with tim := { x.tim with pchg := some (2, 100) } })
theorem test_wit_PeriodChangeMessages_pchgDecideDrop : ((wit_PeriodChangeMessages_pchgDecideDrop.unit UnitId.a).tim.pchg = some (2, 100)) ∧ ((wit_PeriodChangeMessages_pchgDecideDrop.unit UnitId.a).tim.pchgGo = false) ∧ (2 ≤ (wit_PeriodChangeMessages_pchgDecideDrop.unit UnitId.a).pn + 2) ∧ ((wit_PeriodChangeMessages_pchgDecideDrop.unit UnitId.a).tim.pchgAns = false) := by decide +kernel
def wit_PeriodChangeMessages_pchgDropRx : State := State.reset.onUnit UnitId.a (fun x => { x with tim := { x.tim with peer := some (5, 100) } })
theorem test_wit_PeriodChangeMessages_pchgDropRx : ((wit_PeriodChangeMessages_pchgDropRx.unit UnitId.a).tim.peer = some (((5 : BitVec 48)).toNat, 100)) := by decide +kernel
def wit_CentralInputResults_minResult : State := State.reset.onUnit .a (fun x => { (x.set MIN_CHCFG.CKOEN 1).setInp 0 { cfg := 0xD0190540, idx := 5 } with tim := { x.tim with counting := true } })
theorem test_wit_CentralInputResults_minResult : ((!((wit_CentralInputResults_minResult.unit UnitId.a).inp ((0 : Fin 32)).val).on || !(wit_CentralInputResults_minResult.unit UnitId.a).mckRuns ((0 : Fin 32)).val || !(wit_CentralInputResults_minResult.unit UnitId.a).works 0x30000 || !(wit_CentralInputResults_minResult.unit UnitId.a).tim.counting) = false) ∧ (((wit_CentralInputResults_minResult.unit UnitId.a).inp ((0 : Fin 32)).val).order < ((wit_CentralInputResults_minResult.unit UnitId.a).inp ((0 : Fin 32)).val).idx + 1) ∧ ((((wit_CentralInputResults_minResult.unit UnitId.a).tick (((wit_CentralInputResults_minResult.unit UnitId.a).inp ((0 : Fin 32)).val).nextEdge + (wit_CentralInputResults_minResult.unit UnitId.a).rtd ((0 : Fin 32)).val * 16384 + 1310720)).bit MIN_CHSTAT.FLT ((0 : Fin 32)).val) = false) := by decide +kernel
theorem test_wit_CentralInputResults_rtdChange : ((!(State.reset.unit UnitId.a).works 0x30000 || MIN_CHCFG.CKSRC.get ((State.reset.unit UnitId.a).inp ((3 : Fin 32)).val).cfg 0 == 1) = false) ∧ ((((State.reset.unit UnitId.a).set MIN_CHSTAT.RTD ((8 : BitVec 12)).toNat ((3 : Fin 32)).val).works 0x30000 && (List.range 32).any (fun m => decide ((State.reset.unit UnitId.a).rtd m + 8 < ((State.reset.unit UnitId.a).set MIN_CHSTAT.RTD ((8 : BitVec 12)).toNat ((3 : Fin 32)).val).rtd m) || decide (((State.reset.unit UnitId.a).set MIN_CHSTAT.RTD ((8 : BitVec 12)).toNat ((3 : Fin 32)).val).rtd m + 8 < (State.reset.unit UnitId.a).rtd m))) = false) := by decide +kernel
theorem test_wit_CentralInputResults_rtdChangeMore : ((!(State.reset.unit UnitId.a).works 0x30000 || MIN_CHCFG.CKSRC.get ((State.reset.unit UnitId.a).inp ((3 : Fin 32)).val).cfg 0 == 1) = false) ∧ ((((State.reset.unit UnitId.a).set MIN_CHSTAT.RTD ((9 : BitVec 12)).toNat ((3 : Fin 32)).val).works 0x30000 && (List.range 32).any (fun m => decide ((State.reset.unit UnitId.a).rtd m + 8 < ((State.reset.unit UnitId.a).set MIN_CHSTAT.RTD ((9 : BitVec 12)).toNat ((3 : Fin 32)).val).rtd m) || decide (((State.reset.unit UnitId.a).set MIN_CHSTAT.RTD ((9 : BitVec 12)).toNat ((3 : Fin 32)).val).rtd m + 8 < (State.reset.unit UnitId.a).rtd m))) = true) := by decide +kernel
def wit_CentralInputResults_minFaultEnd : State := State.reset.onUnit UnitId.a (fun x => x.setInp 31 { cond := true })
theorem test_wit_CentralInputResults_minFaultEnd : ((!(((wit_CentralInputResults_minFaultEnd.unit UnitId.a).tick 0).inp ((31 : Fin 32)).val).cond || !((wit_CentralInputResults_minFaultEnd.unit UnitId.a).tick 0).works 0x30000) = false) := by decide +kernel
def wit_CentralInputFaultsAndSync_minNoclk : State := State.reset.onUnit .a (fun x => (x.set MIN_CHCFG.CKOEN 1 7).setInp 7 { cfg := 0x80190540 })
theorem test_wit_CentralInputFaultsAndSync_minNoclk : (¬ (MIN_CHCFG.CKSRC.get ((wit_CentralInputFaultsAndSync_minNoclk.unit UnitId.a).inp ((7 : Fin 32)).val).cfg 0 = 1)) ∧ ((wit_CentralInputFaultsAndSync_minNoclk.unit UnitId.a).mckRuns ((7 : Fin 32)).val = true) ∧ ((!((wit_CentralInputFaultsAndSync_minNoclk.unit UnitId.a).inp ((7 : Fin 32)).val).on || !(wit_CentralInputFaultsAndSync_minNoclk.unit UnitId.a).works 0x30000) = false) ∧ (((wit_CentralInputFaultsAndSync_minNoclk.unit UnitId.a).inp ((7 : Fin 32)).val).cond = false) := by decide +kernel
def wit_CentralInputFaultsAndSync_minStuck : State := State.reset.onUnit .a (fun x => (x.set MIN_CHCFG.STUCKN 1 7).setInp 7 { cfg := 0x80190540 })
theorem test_wit_CentralInputFaultsAndSync_minStuck : (¬ ((wit_CentralInputFaultsAndSync_minStuck.unit UnitId.a).fld MIN_CHCFG.STUCKN ((7 : Fin 32)).val = 0)) ∧ ((!((wit_CentralInputFaultsAndSync_minStuck.unit UnitId.a).inp ((7 : Fin 32)).val).on || !(wit_CentralInputFaultsAndSync_minStuck.unit UnitId.a).works 0x30000) = false) ∧ (((wit_CentralInputFaultsAndSync_minStuck.unit UnitId.a).inp ((7 : Fin 32)).val).cond = false) := by decide +kernel
def wit_CentralInputFaultsAndSync_minSyncReq : State := State.reset.onUnit .a (fun x => x.set LSE_STAT.STATE 2)
theorem test_wit_CentralInputFaultsAndSync_minSyncReq : (((wit_CentralInputFaultsAndSync_minSyncReq.unit UnitId.a).tick 0).allowed (Requester.core 0) true 0x30344 = true) ∧ (((wit_CentralInputFaultsAndSync_minSyncReq.unit UnitId.a).tick 0).works 0x30000 = true) ∧ (((wit_CentralInputFaultsAndSync_minSyncReq.unit UnitId.a).tick 0).isHolder = true) := by decide +kernel
theorem test_wit_CentralInputFaultsAndSync_syncPnRx : (((State.reset.unit UnitId.a).isHolder || (State.reset.unit UnitId.a).inQuiet) = false) := by decide +kernel
def wit_CentralInputFaultsAndSync_converterSync : State := State.reset.onUnit UnitId.a (fun x => { x with mins := { x.mins with syncs := [0] } })
theorem test_wit_CentralInputFaultsAndSync_converterSync : ((!(wit_CentralInputFaultsAndSync_converterSync.unit UnitId.a).mins.syncs.contains (wit_CentralInputFaultsAndSync_converterSync.unit UnitId.a).pn || !(wit_CentralInputFaultsAndSync_converterSync.unit UnitId.a).works 0x30000) = false) := by decide +kernel
def wit_TripInputs_tripInputChange : State := State.reset.onUnit UnitId.a (fun x => x.set MIN_TRIPCFG.CLASS 0x40000000)
theorem test_wit_TripInputs_tripInputChange : (¬ ((((wit_TripInputs_tripInputChange.unit UnitId.a).tick 0).set MIN_TRIPSTAT.LVL (putBit ((wit_TripInputs_tripInputChange.unit UnitId.a).fld MIN_TRIPSTAT.LVL) ((15 : Fin 16)).val true)).tripClass ((15 : Fin 16)).val = 0)) ∧ ((((wit_TripInputs_tripInputChange.unit UnitId.a).tick 0).set MIN_TRIPSTAT.LVL (putBit ((wit_TripInputs_tripInputChange.unit UnitId.a).fld MIN_TRIPSTAT.LVL) ((15 : Fin 16)).val true)).inQuiet = false) ∧ ((((wit_TripInputs_tripInputChange.unit UnitId.a).tick 0).set MIN_TRIPSTAT.LVL (putBit ((wit_TripInputs_tripInputChange.unit UnitId.a).fld MIN_TRIPSTAT.LVL) ((15 : Fin 16)).val true)).works 0x30000 = true) := by decide +kernel
def wit_TripInputs_quietTripChange : State := State.reset.onUnit UnitId.a (fun x => (x.set MIN_TRIPCFG.CLASS 0x40000000).set PWR_STAT.STATE 2)
theorem test_wit_TripInputs_quietTripChange : (¬ ((((wit_TripInputs_quietTripChange.unit UnitId.a).tick 0).set MIN_TRIPSTAT.LVL (putBit ((wit_TripInputs_quietTripChange.unit UnitId.a).fld MIN_TRIPSTAT.LVL) ((15 : Fin 16)).val true)).tripClass ((15 : Fin 16)).val = 0)) ∧ ((((wit_TripInputs_quietTripChange.unit UnitId.a).tick 0).set MIN_TRIPSTAT.LVL (putBit ((wit_TripInputs_quietTripChange.unit UnitId.a).fld MIN_TRIPSTAT.LVL) ((15 : Fin 16)).val true)).inQuiet = true) := by decide +kernel
theorem test_wit_LoopRequests_lpeChcfgWrite : ((State.reset.unit UnitId.a).allowed (Requester.core 0) true (LPE_CHCFG.EN.addr ((95 : Fin 96)).val) = true) ∧ ((State.reset.unit UnitId.a).bit LPE_CHCFG.EN ((95 : Fin 96)).val = false) ∧ (bitAt ((0x80000000 : Word)).toNat 31 = true) ∧ (((State.reset.unit UnitId.a).setWord (LPE_CHCFG.EN.addr ((95 : Fin 96)).val) (((0x80000000 : Word)) &&& 0x3F9C0000)).mayEnable ((95 : Fin 96)).val = true) := by decide +kernel
def wit_LoopRequests_lpeChcfgWriteOff : State := State.reset.onUnit .a (fun x => x.set LPE_CHCFG.EN 1)
theorem test_wit_LoopRequests_lpeChcfgWriteOff : ((wit_LoopRequests_lpeChcfgWriteOff.unit UnitId.a).allowed (Requester.core 0) true (LPE_CHCFG.EN.addr ((0 : Fin 96)).val) = true) ∧ ((wit_LoopRequests_lpeChcfgWriteOff.unit UnitId.a).bit LPE_CHCFG.EN ((0 : Fin 96)).val = true) ∧ (bitAt ((0 : Word)).toNat 31 = false) ∧ (((0 : Word)) &&& 0x3F9C0000 = ((wit_LoopRequests_lpeChcfgWriteOff.unit UnitId.a).word (LPE_CHCFG.EN.addr ((0 : Fin 96)).val) &&& 0x3F9C0000)) := by decide +kernel
def wit_LoopRequests_lpeSwapReq : State := State.reset.onUnit .a (fun x => (x.set SPL_STAT.UP 1).set LPE_CHCFG.EN 1 95)
theorem test_wit_LoopRequests_lpeSwapReq : ((wit_LoopRequests_lpeSwapReq.unit UnitId.a).allowed (Requester.core 0) true 0x23044 = true) ∧ (2 = (if bitAt ((0x5000005F : Word)).toNat 30 = true then (wit_LoopRequests_lpeSwapReq.unit UnitId.a).pn + 2 else (wit_LoopRequests_lpeSwapReq.unit UnitId.a).pair LPE_SWAPPN_LO.PN_LO LPE_SWAPPN_HI.PN_HI)) ∧ ((wit_LoopRequests_lpeSwapReq.unit UnitId.a).swapCode { ch := ((0x5000005F : Word)).toNat % 128, bank := ((0x5000005F : Word)).toNat / 2 ^ 31, n := ((0x5000005F : Word)).toNat / 65536 % 8192, pn := 2, last := true } = 1) ∧ (((wit_LoopRequests_lpeSwapReq.unit UnitId.a).set LPE_SWAPRES.RES 1).splUp = true) := by decide +kernel
def wit_LoopRequests_swapReqRx : State := State.reset.onUnit UnitId.a (fun x => x.set LPE_CHCFG.EN 1 95)
theorem test_wit_LoopRequests_swapReqRx : ((wit_LoopRequests_swapReqRx.unit UnitId.a).works 0x23000 = true) ∧ ((wit_LoopRequests_swapReqRx.unit UnitId.a).swapCode { ch := ((95 : Fin 128)).val, bank := ((1 : Fin 2)).val, n := ((4096 : Fin 8192)).val, pn := ((2 : BitVec 48)).toNat, last := false } = 1) := by decide +kernel
theorem test_wit_LoopRequests_swapReqRxRefused : ((State.reset.unit UnitId.a).works 0x23000 = true) ∧ (¬ ((State.reset.unit UnitId.a).swapCode { ch := ((127 : Fin 128)).val, bank := ((1 : Fin 2)).val, n := ((0 : Fin 8192)).val, pn := ((2 : BitVec 48)).toNat, last := false } = 1)) := by decide +kernel
theorem test_wit_LoopRequests_swapRefusalRx : ((State.reset.unit UnitId.a).works 0x23000 = true) := by decide +kernel
def wit_LoopRequests_swapEffect : State := State.reset.onUnit .a (fun x => ({ x with lpe := { x.lpe with queue := [⟨5, 0, 1, 0, true⟩] } } : UnitSt).onChan 5 (fun c => { c with on := true }))
theorem test_wit_LoopRequests_swapEffect : ((wit_LoopRequests_swapEffect.unit UnitId.a).works 0x23000 = true) ∧ ((wit_LoopRequests_swapEffect.unit UnitId.a).lpe.queue = [(({ ch := 5, bank := 0, n := 1, pn := 0, last := true } : SwapReq))]) ∧ ((({ ch := 5, bank := 0, n := 1, pn := 0, last := true } : SwapReq)).pn ≤ (wit_LoopRequests_swapEffect.unit UnitId.a).pn) ∧ ((({ (wit_LoopRequests_swapEffect.unit UnitId.a) with lpe := { (wit_LoopRequests_swapEffect.unit UnitId.a).lpe with queue := [] } } : UnitSt).chan (({ ch := 5, bank := 0, n := 1, pn := 0, last := true } : SwapReq)).ch).on = true) := by decide +kernel
theorem test_wit_LoopRequests_lpeMoveReq : ((State.reset.unit UnitId.a).allowed (Requester.core 0) true 0x23058 = true) ∧ (((0x6000 : Word)).toNat % 128 < 96 ∧ (State.reset.unit UnitId.a).spares.contains (((0x6000 : Word)).toNat / 256 % 128) = true) := by decide +kernel
def wit_SetpointsSaturationMasks_setpCommitReq : State := State.reset.onUnit .a (fun x => x.set SPL_STAT.UP 1)
theorem test_wit_SetpointsSaturationMasks_setpCommitReq : ((wit_SetpointsSaturationMasks_setpCommitReq.unit UnitId.a).allowed (Requester.core 0) true 0x23054 = true) ∧ ((wit_SetpointsSaturationMasks_setpCommitReq.unit UnitId.a).splUp = true) := by decide +kernel
theorem test_wit_SetpointsSaturationMasks_setpCommitRx : ((State.reset.unit UnitId.a).works 0x23000 = true) := by decide +kernel
theorem test_wit_SetpointsSaturationMasks_setpCommitEffect : ((State.reset.unit UnitId.a).works 0x23000 = true) := by decide +kernel
def wit_SetpointsSaturationMasks_satWarn : State := State.reset.onUnit UnitId.a (fun x => ((x.onChan 95 (fun c => { c with on := true })).set LPE_CHSWARN.SWARN 3 95).set LPE_CHSATCNT.CNT 3 95)
theorem test_wit_SetpointsSaturationMasks_satWarn : (((wit_SetpointsSaturationMasks_satWarn.unit UnitId.a).chan ((95 : Fin 96)).val).on = true) ∧ ((wit_SetpointsSaturationMasks_satWarn.unit UnitId.a).fld LPE_CHSWARN.SWARN ((95 : Fin 96)).val ≠ 0) ∧ ((wit_SetpointsSaturationMasks_satWarn.unit UnitId.a).fld LPE_CHSWARN.SWARN ((95 : Fin 96)).val ≤ (wit_SetpointsSaturationMasks_satWarn.unit UnitId.a).fld LPE_CHSATCNT.CNT ((95 : Fin 96)).val) ∧ (((wit_SetpointsSaturationMasks_satWarn.unit UnitId.a).chan ((95 : Fin 96)).val).warned = false) := by decide +kernel
def wit_SetpointsSaturationMasks_satFault : State := State.reset.onUnit UnitId.a (fun x => ((x.onChan 95 (fun c => { c with on := true })).set LPE_CHSFLT.SFAULT 3 95).set LPE_CHSATCNT.CNT 4 95)
theorem test_wit_SetpointsSaturationMasks_satFault : (((wit_SetpointsSaturationMasks_satFault.unit UnitId.a).chan ((95 : Fin 96)).val).on = true) ∧ ((wit_SetpointsSaturationMasks_satFault.unit UnitId.a).fld LPE_CHSFLT.SFAULT ((95 : Fin 96)).val ≠ 0) ∧ ((wit_SetpointsSaturationMasks_satFault.unit UnitId.a).fld LPE_CHSFLT.SFAULT ((95 : Fin 96)).val ≤ (wit_SetpointsSaturationMasks_satFault.unit UnitId.a).fld LPE_CHSATCNT.CNT ((95 : Fin 96)).val) ∧ (((wit_SetpointsSaturationMasks_satFault.unit UnitId.a).chan ((95 : Fin 96)).val).failed = false) := by decide +kernel
def wit_SetpointsSaturationMasks_maskEvaluate : State := State.reset.onUnit UnitId.a (fun x => { x with tim := { x.tim with counting := true } })
theorem test_wit_SetpointsSaturationMasks_maskEvaluate : (((wit_SetpointsSaturationMasks_maskEvaluate.unit UnitId.a).works 0x31000 && (wit_SetpointsSaturationMasks_maskEvaluate.unit UnitId.a).tim.counting) = true) := by decide +kernel
theorem test_wit_SetpointsSaturationMasks_x1 : ({ armed := true } : MaskSt).armed = true ∧ 0 < 2 ∧ ({ armed := true } : MaskSt).out + 1 < 2 := by decide +kernel
theorem test_wit_SetpointsSaturationMasks_x2 : ({ armed := true } : MaskSt).armed = true ∧ 1 ≤ ({ armed := true } : MaskSt).out + 1 := by decide +kernel
theorem test_wit_SetpointsSaturationMasks_x3 : ({ armed := false } : MaskSt).armed = false ∧ 1 ≤ ({ armed := false } : MaskSt).inn + 1 := by decide +kernel
def wit_CaliperCommands_clpCmdSeed : State := State.reset.onUnit .a (fun x => ((x.set STRP_ASSIGN.NCELL 4 5).set CLP_SEL.STRAND 5).set CLP_SEL.HOP 3)
theorem test_wit_CaliperCommands_clpCmdSeed : ((wit_CaliperCommands_clpCmdSeed.unit UnitId.a).allowed (Requester.core 0) true 0x220F8 = true) ∧ (5 = (wit_CaliperCommands_clpCmdSeed.unit UnitId.a).fld CLP_SEL.STRAND) ∧ (3 = (wit_CaliperCommands_clpCmdSeed.unit UnitId.a).fld CLP_SEL.HOP) ∧ ((wit_CaliperCommands_clpCmdSeed.unit UnitId.a).isCell 5 3 = true) := by decide +kernel
def wit_CaliperCommands_clpCmdRetire : State := State.reset.onUnit .a (fun x => ((x.set STRP_ASSIGN.NCELL 4 5).set CLP_SEL.STRAND 5).set CLP_SEL.HOP 3)
theorem test_wit_CaliperCommands_clpCmdRetire : ((wit_CaliperCommands_clpCmdRetire.unit UnitId.a).allowed (Requester.core 0) true 0x220F8 = true) ∧ (5 = (wit_CaliperCommands_clpCmdRetire.unit UnitId.a).fld CLP_SEL.STRAND) ∧ (3 = (wit_CaliperCommands_clpCmdRetire.unit UnitId.a).fld CLP_SEL.HOP) ∧ ((wit_CaliperCommands_clpCmdRetire.unit UnitId.a).isCell 5 3 = true) := by decide +kernel
def wit_CaliperCommands_clpCmdUnretire : State := State.reset.onUnit .a (fun x => ((x.set STRP_ASSIGN.NCELL 4 5).set CLP_SEL.STRAND 5).set CLP_SEL.HOP 3)
theorem test_wit_CaliperCommands_clpCmdUnretire : ((wit_CaliperCommands_clpCmdUnretire.unit UnitId.a).allowed (Requester.core 0) true 0x220F8 = true) ∧ (5 = (wit_CaliperCommands_clpCmdUnretire.unit UnitId.a).fld CLP_SEL.STRAND) ∧ (3 = (wit_CaliperCommands_clpCmdUnretire.unit UnitId.a).fld CLP_SEL.HOP) ∧ ((wit_CaliperCommands_clpCmdUnretire.unit UnitId.a).isCell 5 3 = true) := by decide +kernel
def wit_CaliperCommands_clpCmdClrchk : State := State.reset.onUnit .a (fun x => ((x.set STRP_ASSIGN.NCELL 4 5).set CLP_SEL.STRAND 5).set CLP_SEL.HOP 3)
theorem test_wit_CaliperCommands_clpCmdClrchk : ((wit_CaliperCommands_clpCmdClrchk.unit UnitId.a).allowed (Requester.core 0) true 0x220F8 = true) ∧ (5 = (wit_CaliperCommands_clpCmdClrchk.unit UnitId.a).fld CLP_SEL.STRAND) ∧ (3 = (wit_CaliperCommands_clpCmdClrchk.unit UnitId.a).fld CLP_SEL.HOP) ∧ ((wit_CaliperCommands_clpCmdClrchk.unit UnitId.a).isCell 5 3 = true) := by decide +kernel
theorem test_wit_CaliperCommands_clpCmdRx : ((State.reset.unit UnitId.a).inQuiet = false) ∧ ((State.reset.unit UnitId.a).works 0x22000 = true) := by decide +kernel
def wit_CaliperCommands_clpCmdRxOff : State := State.reset.onUnit UnitId.a (fun x => { x.setWord 0x22000 0 with disabled := [0x22000] })
theorem test_wit_CaliperCommands_clpCmdRxOff : ((wit_CaliperCommands_clpCmdRxOff.unit UnitId.a).inQuiet = false) ∧ ((wit_CaliperCommands_clpCmdRxOff.unit UnitId.a).works 0x22000 = false) := by decide +kernel
theorem test_wit_CaliperCommands_due : ({ State.reset.unit .a with clp := { cmds := [⟨1, 0, 0, 0, 0, true⟩] } } : UnitSt).clp.cmds = [⟨1, 0, 0, 0, 0, true⟩] ∧ (⟨1, 0, 0, 0, 0, true⟩ : ClpOp).pn ≤ ({ State.reset.unit .a with clp := { cmds := [⟨1, 0, 0, 0, 0, true⟩] } } : UnitSt).pn := by decide +kernel
theorem test_wit_CaliperCommands_clpRecRead : ((State.reset.unit UnitId.a).allowed (Requester.core 0) false 0x220B0 = true) := by decide +kernel
def wit_CaliperCalenderEvents_substepIntegrate : State := State.reset.onUnit UnitId.a (fun x => { x with clp := { x.clp with spans := [(0, 0, 1638400)] } })
theorem test_wit_CaliperCalenderEvents_substepIntegrate : (((wit_CaliperCalenderEvents_substepIntegrate.unit UnitId.a).tick 10000000000).works 0x22000 = true) ∧ (((wit_CaliperCalenderEvents_substepIntegrate.unit UnitId.a).tick 10000000000).subStep (((wit_CaliperCalenderEvents_substepIntegrate.unit UnitId.a).tick 10000000000).clpFront ((0 : Fin 6)).val) = some (0, 0, 1638400)) ∧ (1638400 + ((wit_CaliperCalenderEvents_substepIntegrate.unit UnitId.a).tick 10000000000).armLat ((0 : Fin 6)).val ≤ 10000000000) := by decide +kernel
def wit_CaliperCalenderEvents_chkFail : State := State.reset.onUnit UnitId.a (fun x => x.onRec 6143 (fun r => { r with chkcnt := 255 }))
theorem test_wit_CaliperCalenderEvents_chkFail : ((!(wit_CaliperCalenderEvents_chkFail.unit UnitId.a).works 0x22000 || ((wit_CaliperCalenderEvents_chkFail.unit UnitId.a).clpRec ((⟨95, 63⟩ : CellId)).key).chkfail || decide (((wit_CaliperCalenderEvents_chkFail.unit UnitId.a).clpRec ((⟨95, 63⟩ : CellId)).key).chkcnt < max 1 ((wit_CaliperCalenderEvents_chkFail.unit UnitId.a).fld CLP_CHK.CHKN))) = false) := by decide +kernel
def wit_CaliperCalenderEvents_wearRetire : State := State.reset.onUnit UnitId.a (fun x => ((((x.onRec 1 (fun r => { r with rcnt := 9 })).set CLP_WCFG.RETCONF 3).set STRP_ASSIGN.NCELL 2).set CAL_ARMCFG.NREQ 2))
theorem test_wit_CaliperCalenderEvents_wearRetire : ((wit_CaliperCalenderEvents_wearRetire.unit UnitId.a).armOf ((⟨0, 1⟩ : CellId)).key = some 0) ∧ ((wit_CaliperCalenderEvents_wearRetire.unit UnitId.a).works 0x22000 = true) ∧ (¬ ((wit_CaliperCalenderEvents_wearRetire.unit UnitId.a).fld CLP_WCFG.RETCONF = 0 ∨ ((wit_CaliperCalenderEvents_wearRetire.unit UnitId.a).clpRec ((⟨0, 1⟩ : CellId)).key).rcnt < (wit_CaliperCalenderEvents_wearRetire.unit UnitId.a).fld CLP_WCFG.RETCONF ∨ ((wit_CaliperCalenderEvents_wearRetire.unit UnitId.a).clpRec ((⟨0, 1⟩ : CellId)).key).retired = true ∨ ((wit_CaliperCalenderEvents_wearRetire.unit UnitId.a).clpRec ((⟨0, 1⟩ : CellId)).key).retpend = true)) ∧ ((wit_CaliperCalenderEvents_wearRetire.unit UnitId.a).availableBut 0 ((⟨0, 1⟩ : CellId)).key < (wit_CaliperCalenderEvents_wearRetire.unit UnitId.a).fld CAL_ARMCFG.NREQ 0) := by decide +kernel
def wit_CaliperCalenderEvents_wearRetireNow : State := State.reset.onUnit UnitId.a (fun x => ((((x.onRec 1 (fun r => { r with rcnt := 3 })).set CLP_WCFG.RETCONF 3).set STRP_ASSIGN.NCELL 2).set CAL_ARMCFG.NREQ 0))
theorem test_wit_CaliperCalenderEvents_wearRetireNow : ((wit_CaliperCalenderEvents_wearRetireNow.unit UnitId.a).armOf ((⟨0, 1⟩ : CellId)).key = some 0) ∧ ((wit_CaliperCalenderEvents_wearRetireNow.unit UnitId.a).works 0x22000 = true) ∧ (¬ ((wit_CaliperCalenderEvents_wearRetireNow.unit UnitId.a).fld CLP_WCFG.RETCONF = 0 ∨ ((wit_CaliperCalenderEvents_wearRetireNow.unit UnitId.a).clpRec ((⟨0, 1⟩ : CellId)).key).rcnt < (wit_CaliperCalenderEvents_wearRetireNow.unit UnitId.a).fld CLP_WCFG.RETCONF ∨ ((wit_CaliperCalenderEvents_wearRetireNow.unit UnitId.a).clpRec ((⟨0, 1⟩ : CellId)).key).retired = true ∨ ((wit_CaliperCalenderEvents_wearRetireNow.unit UnitId.a).clpRec ((⟨0, 1⟩ : CellId)).key).retpend = true)) ∧ (¬ ((wit_CaliperCalenderEvents_wearRetireNow.unit UnitId.a).availableBut 0 ((⟨0, 1⟩ : CellId)).key < (wit_CaliperCalenderEvents_wearRetireNow.unit UnitId.a).fld CAL_ARMCFG.NREQ 0)) := by decide +kernel
def wit_CaliperCalenderEvents_calenderRun : State := State.reset.onUnit UnitId.a (fun x => { x with tim := { x.tim with counting := true } })
theorem test_wit_CaliperCalenderEvents_calenderRun : ((!(wit_CaliperCalenderEvents_calenderRun.unit UnitId.a).works 0x21000 || !(wit_CaliperCalenderEvents_calenderRun.unit UnitId.a).tim.counting) = false) := by decide +kernel
theorem test_wit_CaliperCalenderEvents_stageDeadlineMiss : ((State.reset.unit UnitId.a).works (if true then 0x21000 else 0x22000) = true) := by decide +kernel
def wit_CaliperCalenderEvents_calFxWrite : State := State.reset.onUnit .a (fun x => x.set STRP_ASSIGN.NCELL 4)
theorem test_wit_CaliperCalenderEvents_calFxWrite : ((wit_CaliperCalenderEvents_calFxWrite.unit UnitId.a).allowed (Requester.core 0) true 0x210D0 = true) ∧ ((wit_CaliperCalenderEvents_calFxWrite.unit UnitId.a).isCell (CAL_FX.STRAND.get ((0x80000003 : Word)) 0) (CAL_FX.HOP.get ((0x80000003 : Word)) 0) = true) := by decide +kernel
def wit_ReelCommands_reelStart : State := State.reset.onUnit .a (fun x => x.set REEL_RSIZE.SIZE 16)
theorem test_wit_ReelCommands_reelStart : ((wit_ReelCommands_reelStart.unit UnitId.a).allowed (Requester.core 0) true 0x310C0 = true) ∧ (¬ ((wit_ReelCommands_reelStart.unit UnitId.a).fld REEL_STAT.CAP = 1 ∨ (wit_ReelCommands_reelStart.unit UnitId.a).fld REEL_STAT.CAP = 2)) ∧ (¬ ((wit_ReelCommands_reelStart.unit UnitId.a).fld REEL_RSIZE.SIZE = 0)) ∧ (¬ ((wit_ReelCommands_reelStart.unit UnitId.a).fld REEL_RSIZE.SIZE < 16 ∨ 2 ^ 20 < (wit_ReelCommands_reelStart.unit UnitId.a).fld REEL_RSIZE.SIZE ∨ (wit_ReelCommands_reelStart.unit UnitId.a).fld REEL_RBASE_LO.ADDR_LO % 4096 ≠ 0)) ∧ ((wit_ReelCommands_reelStart.unit UnitId.a).reelOver ((wit_ReelCommands_reelStart.unit UnitId.a).fld TIM_PERIOD.T) = false) := by decide +kernel
def wit_ReelCommands_reelHalt : State := State.reset.onUnit .a (fun x => x.set REEL_STAT.CAP 2)
theorem test_wit_ReelCommands_reelHalt : ((wit_ReelCommands_reelHalt.unit UnitId.a).allowed (Requester.core 0) true 0x310C0 = true) ∧ (((wit_ReelCommands_reelHalt.unit UnitId.a).fld REEL_STAT.CAP = 1 ∨ (wit_ReelCommands_reelHalt.unit UnitId.a).fld REEL_STAT.CAP = 2)) := by decide +kernel
def wit_ReelCommands_reelMark : State := State.reset.onUnit UnitId.a (fun x => x.set REEL_STAT.CAP 1)
theorem test_wit_ReelCommands_reelMark : (((wit_ReelCommands_reelMark.unit UnitId.a).tick 0).allowed (Requester.core 3) true 0x310C0 = true) ∧ ((((wit_ReelCommands_reelMark.unit UnitId.a).tick 0).fld REEL_STAT.CAP = 1 ∨ ((wit_ReelCommands_reelMark.unit UnitId.a).tick 0).fld REEL_STAT.CAP = 2)) := by decide +kernel
theorem test_wit_ReelCommands_xtrigRx : ((State.reset.unit UnitId.a).inQuiet = false) := by decide +kernel
def wit_ReelCommands_reelPeriodClose : State := State.reset.onUnit .a (fun x => { (x.set TIM_PN_LO.PN_LO 1).set REEL_STAT.CAP 1 with tim := { x.tim with counting := true }, reel := { x.reel with snap := some ⟨0, 0, 100, 0, 0, 0, [], [], []⟩ } })
theorem test_wit_ReelCommands_reelPeriodClose : ((!(wit_ReelCommands_reelPeriodClose.unit UnitId.a).works 0x31000 || !(wit_ReelCommands_reelPeriodClose.unit UnitId.a).tim.counting || (wit_ReelCommands_reelPeriodClose.unit UnitId.a).pn == 0) = false) ∧ ((wit_ReelCommands_reelPeriodClose.unit UnitId.a).reel.snap = some (({ pn := 0, t0 := 0, t := 100, flags := 0, stat := 0, epoch := 0, cells := [], loop := [], arms := [] } : ReelSnap))) ∧ (((wit_ReelCommands_reelPeriodClose.unit UnitId.a).capturing && (({ pn := 0, t0 := 0, t := 100, flags := 0, stat := 0, epoch := 0, cells := [], loop := [], arms := [] } : ReelSnap)).pn + 1 == (wit_ReelCommands_reelPeriodClose.unit UnitId.a).pn) = true) := by decide +kernel
def wit_ReelCommands_reelRingWrite : State := State.reset.onUnit .a (fun x => { (((x.set PCIE_LINK.UP 1).set PCIE_LINK.BME0 1).set REEL_RSIZE.SIZE 16) with reel := { x.reel with staging := [⟨2, 0, 0, 0, List.replicate 48 0, true, false⟩] } })
theorem test_wit_ReelCommands_reelRingWrite : (((wit_ReelCommands_reelRingWrite.unit UnitId.a).works 0x31000 && (wit_ReelCommands_reelRingWrite.unit UnitId.a).bit PCIE_LINK.UP && (wit_ReelCommands_reelRingWrite.unit UnitId.a).bit PCIE_LINK.BME0 && (wit_ReelCommands_reelRingWrite.unit UnitId.a).ringSize != 0) = true) ∧ ((wit_ReelCommands_reelRingWrite.unit UnitId.a).reel.staging = ((⟨2, 0, 0, 0, List.replicate 48 0, true, false⟩ : ReelRec)) :: (([] : List ReelRec))) ∧ ((wit_ReelCommands_reelRingWrite.unit UnitId.a).ringSize - (wit_ReelCommands_reelRingWrite.unit UnitId.a).fld REEL_WPTR.WPTR ≥ ((⟨2, 0, 0, 0, List.replicate 48 0, true, false⟩ : ReelRec)).size) ∧ ((wit_ReelCommands_reelRingWrite.unit UnitId.a).ringFill + 0 + ((⟨2, 0, 0, 0, List.replicate 48 0, true, false⟩ : ReelRec)).size + 8 ≤ (wit_ReelCommands_reelRingWrite.unit UnitId.a).ringSize) := by decide +kernel
def wit_LeaseEvidence_holderLostClaim : State := State.reset.onUnit UnitId.a (fun x => { x with lse := { x.lse with lostNow := some 2 } })
theorem test_wit_LeaseEvidence_holderLostClaim : ((wit_LeaseEvidence_holderLostClaim.unit UnitId.a).lse.lostNow = some 2) ∧ ((wit_LeaseEvidence_holderLostClaim.unit UnitId.a).lstate = 0) := by decide +kernel
def wit_LeaseEvidence_quietLeaseEval : State := State.reset.onUnit UnitId.a (fun x => x.set PWR_STAT.STATE 2)
theorem test_wit_LeaseEvidence_quietLeaseEval : ((wit_LeaseEvidence_quietLeaseEval.unit UnitId.a).inQuiet = true ∧ (wit_LeaseEvidence_quietLeaseEval.unit UnitId.a).pn % 32 = 0) := by decide +kernel
theorem test_wit_LeaseEvidence_fenceRx : ((State.reset.unit UnitId.a).inQuiet = false) := by decide +kernel
theorem test_wit_LeaseEvidence_leaseMsgSend : ((State.reset.unit UnitId.a).inQuiet = false) ∧ ((State.reset.unit UnitId.a).spl.announce = none) := by decide +kernel
def wit_LeaseEvidence_leaseMsgSendRetired : State := State.reset.onUnit UnitId.a (fun x => { x with spl := { x.spl with announce := some 3 } })
theorem test_wit_LeaseEvidence_leaseMsgSendRetired : ((wit_LeaseEvidence_leaseMsgSendRetired.unit UnitId.a).inQuiet = false) ∧ ((wit_LeaseEvidence_leaseMsgSendRetired.unit UnitId.a).spl.announce = some ((3 : Fin 4))) := by decide +kernel
theorem test_wit_LeaseEvidence_leaseMsgRx : ((State.reset.unit UnitId.a).inQuiet = false) := by decide +kernel
def wit_LeaseEvidence_spliceDown : State := State.reset.onUnit UnitId.a (fun x => x.set SPL_STAT.UP 1)
theorem test_wit_LeaseEvidence_spliceDown : ((wit_LeaseEvidence_spliceDown.unit UnitId.a).splUp = true ∧ 2 ≤ (wit_LeaseEvidence_spliceDown.unit UnitId.a).spl.silent) := by decide +kernel
theorem test_wit_SpliceLanesAndHandOver_spliceLaneRetire : ((State.reset.unit UnitId.a).inQuiet = false) ∧ ((true || decide (((State.reset.unit UnitId.a).set SPL_CNT1.BLKERR (min 65535 ((State.reset.unit UnitId.a).fld SPL_CNT1.BLKERR + ((0 : Fin 65536)).val))).fld SPL_BERTH.BERTH < ((0 : Fin 65536)).val)) = true) ∧ (((if true then (((State.reset.unit UnitId.a).set SPL_CNT1.BLKERR (min 65535 ((State.reset.unit UnitId.a).fld SPL_CNT1.BLKERR + ((0 : Fin 65536)).val))).set SPL_LSTAT.LOCK 0 ((1 : Fin 4)).val).showLanes else (State.reset.unit UnitId.a).set SPL_CNT1.BLKERR (min 65535 ((State.reset.unit UnitId.a).fld SPL_CNT1.BLKERR + ((0 : Fin 65536)).val))).bit SPL_LSTAT.RET ((1 : Fin 4)).val) = false) := by decide +kernel
def wit_SpliceLanesAndHandOver_spliceLaneMove : State := State.reset.onUnit UnitId.a (fun x => x.set SPL_LANEMAP.AUTOSP 1)
theorem test_wit_SpliceLanesAndHandOver_spliceLaneMove : (¬ ((wit_SpliceLanesAndHandOver_spliceLaneMove.unit UnitId.a).inQuiet = true ∨ (!(wit_SpliceLanesAndHandOver_spliceLaneMove.unit UnitId.a).bit SPL_LANEMAP.AUTOSP) = true)) := by decide +kernel
theorem test_wit_SpliceLanesAndHandOver_ml : [2, 3].find? (fun n => ((State.reset.unit .a).set SPL_LSTAT.LOCK 1 3).bit SPL_LSTAT.LOCK n && !((State.reset.unit .a).set SPL_LSTAT.LOCK 1 3).bit SPL_LSTAT.RET n && !((State.reset.unit .a).set SPL_LSTAT.LOCK 1 3).bit SPL_LSTAT.USE n) = some 3 := by decide +kernel
def wit_SpliceLanesAndHandOver_handoverReq : State := State.reset.onUnit .a (fun x => { (x.set LSE_STAT.STATE 2).set SPL_STAT.UP 1 with lse := { x.lse with partReady := true } })
theorem test_wit_SpliceLanesAndHandOver_handoverReq : ((wit_SpliceLanesAndHandOver_handoverReq.unit UnitId.a).allowed (Requester.core 0) true 0x32048 = true) ∧ (bitAt ((0xC0000000 : Word)).toNat 31 = true) ∧ (3 = (if bitAt ((0xC0000000 : Word)).toNat 30 = true then (wit_SpliceLanesAndHandOver_handoverReq.unit UnitId.a).pn + 3 else (wit_SpliceLanesAndHandOver_handoverReq.unit UnitId.a).pair LSE_HOVPN_LO.PN_LO LSE_HOVPN_HI.PN_HI)) ∧ ((wit_SpliceLanesAndHandOver_handoverReq.unit UnitId.a).isHolder = true) ∧ (((wit_SpliceLanesAndHandOver_handoverReq.unit UnitId.a).splUp && (wit_SpliceLanesAndHandOver_handoverReq.unit UnitId.a).lse.partReady) = true) ∧ ((wit_SpliceLanesAndHandOver_handoverReq.unit UnitId.a).pn + 3 ≤ 3) := by decide +kernel
def wit_SpliceLanesAndHandOver_hovreqRx : State := State.reset.onUnit UnitId.a (fun x => { x.set SPL_STAT.UP 1 with lse := { x.lse with mirror := [1] } })
theorem test_wit_SpliceLanesAndHandOver_hovreqRx : ((wit_SpliceLanesAndHandOver_hovreqRx.unit UnitId.a).ready = true) ∧ ((wit_SpliceLanesAndHandOver_hovreqRx.unit UnitId.a).inQuiet = false) := by decide +kernel
def wit_SpliceLanesAndHandOver_hovackRx : State := State.reset.onUnit UnitId.a (fun x => { x.set LSE_STAT.STATE 2 with lse := { x.lse with hovMine := true, hovP := some 7 } })
theorem test_wit_SpliceLanesAndHandOver_hovackRx : ((wit_SpliceLanesAndHandOver_hovackRx.unit UnitId.a).lse.hovMine = true) ∧ ((wit_SpliceLanesAndHandOver_hovackRx.unit UnitId.a).lse.hovP = some ((7 : BitVec 48)).toNat) ∧ ((wit_SpliceLanesAndHandOver_hovackRx.unit UnitId.a).lse.hovAcked = false) ∧ ((wit_SpliceLanesAndHandOver_hovackRx.unit UnitId.a).isHolder = true) ∧ ((wit_SpliceLanesAndHandOver_hovackRx.unit UnitId.a).hovInTime ((7 : BitVec 48)).toNat = true) := by decide +kernel
theorem test_wit_HeadboxSubmission_hbxSubmit : ((State.reset.unit UnitId.a).allowed (Requester.core 0) true (0x2021C + 0x40 * ((5 : Fin 6)).val) = true) := by decide +kernel
theorem test_wit_HeadboxSubmission_s0 : ((State.reset.onUnit .a (fun x => x.set STRP_ASSIGN.NCELL 1)).unit .a).submitCode 0 { kind := kEntry, op := 1, bcast := false, aftok := false, timed := false, strand := 0, hop := 0, addr := 0x40, data := 0, mask := 0, buf := 0, tmo := 0, after := 0, at_ := 0 } = 0 := by decide +kernel
theorem test_wit_HeadboxSubmission_s1 : ((State.reset.onUnit .a (fun x => x.set STRP_ASSIGN.NCELL 1)).unit .a).submitCode 0 { kind := kEntry, op := 2, bcast := false, aftok := false, timed := false, strand := 0, hop := 0, addr := 0x4040, data := 0, mask := 0, buf := 0, tmo := 0, after := 0, at_ := 0 } = 1 := by decide +kernel
theorem test_wit_HeadboxSubmission_s2 : (State.reset.unit .a).submitCode 0 { kind := 31, op := 1, bcast := false, aftok := false, timed := false, strand := 0, hop := 0, addr := 0x40, data := 0, mask := 0, buf := 0, tmo := 0, after := 0, at_ := 0 } ≠ 0 ∧ (State.reset.unit .a).submitCode 0 { kind := 31, op := 1, bcast := false, aftok := false, timed := false, strand := 0, hop := 0, addr := 0x40, data := 0, mask := 0, buf := 0, tmo := 0, after := 0, at_ := 0 } ≠ 1 := by decide +kernel
def wit_HeadboxSubmission_hbxTimedRelease : State := State.reset.onUnit .a (fun x => { x with hbx := { x.hbx with delay := [⟨1, ⟨0, 1, false, false, true, 0, 0, 0, 0, 0, 0, 0, 0, 0⟩, 0, 0, [], [], [], 0, 0⟩] } })
theorem test_wit_HeadboxSubmission_hbxTimedRelease : (((wit_HeadboxSubmission_hbxTimedRelease.unit UnitId.a).tick 0).fenced = false) ∧ (((wit_HeadboxSubmission_hbxTimedRelease.unit UnitId.a).tick 0).hbx.delay = [((⟨1, ⟨0, 1, false, false, true, 0, 0, 0, 0, 0, 0, 0, 0, 0⟩, 0, 0, [], [], [], 0, 0⟩ : Txn))]) ∧ (dueIn (((wit_HeadboxSubmission_hbxTimedRelease.unit UnitId.a).tick 0).now / 65536000) ((⟨1, ⟨0, 1, false, false, true, 0, 0, 0, 0, 0, 0, 0, 0, 0⟩, 0, 0, [], [], [], 0, 0⟩ : Txn)).desc.at_ = 0) ∧ (((wit_HeadboxSubmission_hbxTimedRelease.unit UnitId.a).tick 0).queueDepth ((⟨1, ⟨0, 1, false, false, true, 0, 0, 0, 0, 0, 0, 0, 0, 0⟩, 0, 0, [], [], [], 0, 0⟩ : Txn)).desc < 256) ∧ (((wit_HeadboxSubmission_hbxTimedRelease.unit UnitId.a).tick 0).works 0x20000 = true) := by decide +kernel
def wit_HeadboxSubmission_hbxTimedReleaseFence : State := State.reset.onUnit UnitId.a (fun x => { (x.set LSE_STAT.STATE 3) with disabled := [0x20000] })
theorem test_wit_HeadboxSubmission_hbxTimedReleaseFence : (((wit_HeadboxSubmission_hbxTimedReleaseFence.unit UnitId.a).tick 5).fenced = true) ∧ ((((wit_HeadboxSubmission_hbxTimedReleaseFence.unit UnitId.a).tick 5).sayVia LSE_ERR.XING .fence).works 0x20000 = false) := by decide +kernel
theorem test_wit_HeadboxSubmission_hbxReplyMissing : ((State.reset.unit UnitId.a).works 0x20000 = true) := by decide +kernel
def wit_HeadboxSubmission_hbxTimeout : State := State.reset.onUnit UnitId.a (fun x => x.set HBX_STAT.MODE 3)
theorem test_wit_HeadboxSubmission_hbxTimeout : (¬ ((wit_HeadboxSubmission_hbxTimeout.unit UnitId.a).fld HBX_STAT.MODE = 0)) ∧ ((wit_HeadboxSubmission_hbxTimeout.unit UnitId.a).works 0x20000 = true) := by decide +kernel
theorem test_wit_HeadboxSubmission_hbxCplReadNone : ((State.reset.unit UnitId.a).allowed (Requester.core 0) false (0x20224 + 0x40 * ((5 : Fin 6)).val) = true) ∧ (sget (fun _ => []) (State.reset.unit UnitId.a).hbx.fifo ((5 : Fin 6)).val = []) := by decide +kernel
def wit_HeadboxSubmission_hbxCplRead : State := State.reset.onUnit .a (fun x => { x with hbx := { x.hbx with fifo := [(5, [⟨1, 0, 0, 0, 0, 0, 0⟩])] } })
theorem test_wit_HeadboxSubmission_hbxCplRead : ((wit_HeadboxSubmission_hbxCplRead.unit UnitId.a).allowed (Requester.core 0) false (0x20224 + 0x40 * ((5 : Fin 6)).val) = true) ∧ (sget (fun _ => []) (wit_HeadboxSubmission_hbxCplRead.unit UnitId.a).hbx.fifo ((5 : Fin 6)).val = ((⟨1, 0, 0, 0, 0, 0, 0⟩ : Cpl)) :: (([] : List Cpl))) := by decide +kernel
theorem test_wit_HeadboxSubmission_hbxFlush : ((State.reset.unit UnitId.a).allowed (Requester.core 0) true 0x20044 = true) := by decide +kernel
def wit_MirrorAndResync_mirrorSend : State := State.reset.onUnit UnitId.a (fun x => (x.set LSE_STAT.STATE 2).set SPL_STAT.UP 1)
theorem test_wit_MirrorAndResync_mirrorSend : ((wit_MirrorAndResync_mirrorSend.unit UnitId.a).mirrors = true) ∧ ((wit_MirrorAndResync_mirrorSend.unit UnitId.a).lse.rsTx = []) := by decide +kernel
def wit_MirrorAndResync_mirrorSendBlock : State := State.reset.onUnit UnitId.a (fun x => { (x.set LSE_STAT.STATE 2).set SPL_STAT.UP 1 with lse := { x.lse with rsTx := [(5, 0, List.replicate 64 0, 0)] } })
theorem test_wit_MirrorAndResync_mirrorSendBlock : ((wit_MirrorAndResync_mirrorSendBlock.unit UnitId.a).mirrors = true) ∧ ((wit_MirrorAndResync_mirrorSendBlock.unit UnitId.a).lse.rsTx = (5, 0, (List.replicate 64 (0 : Byte)), 0) :: (([] : List (Nat × Nat × Bytes × Nat)))) := by decide +kernel
theorem test_wit_MirrorAndResync_mirrorCommitRx : (((State.reset.unit UnitId.a).inQuiet || (State.reset.unit UnitId.a).isHolder || (State.reset.unit UnitId.a).fenced) = false) := by decide +kernel
def wit_MirrorAndResync_resyncReqRx : State := State.reset.onUnit UnitId.a (fun x => x.set LSE_STAT.STATE 2)
theorem test_wit_MirrorAndResync_resyncReqRx : ((!(wit_MirrorAndResync_resyncReqRx.unit UnitId.a).isHolder || (wit_MirrorAndResync_resyncReqRx.unit UnitId.a).inQuiet || (wit_MirrorAndResync_resyncReqRx.unit UnitId.a).lse.rsAsk.contains ((5 : Fin 6)).val || (wit_MirrorAndResync_resyncReqRx.unit UnitId.a).lse.rsTx.any (fun t => t.1 == ((5 : Fin 6)).val)) = false) := by decide +kernel
def wit_MirrorAndResync_resyncBlockRx : State := State.reset.onUnit UnitId.a (fun x => { x with lse := { x.lse with rsWant := [0] } })
theorem test_wit_MirrorAndResync_resyncBlockRx : (((wit_MirrorAndResync_resyncBlockRx.unit UnitId.a).inQuiet || !(wit_MirrorAndResync_resyncBlockRx.unit UnitId.a).lse.rsWant.contains ((0 : Fin 6)).val) = false) := by decide +kernel
def wit_MirrorAndResync_resyncBlockRxLater : State := State.reset.onUnit UnitId.a (fun x => { x with lse := { x.lse with rsWant := [0] } })
theorem test_wit_MirrorAndResync_resyncBlockRxLater : (((wit_MirrorAndResync_resyncBlockRxLater.unit UnitId.a).inQuiet || !(wit_MirrorAndResync_resyncBlockRxLater.unit UnitId.a).lse.rsWant.contains ((0 : Fin 6)).val) = false) ∧ (1 ≠ 0) := by decide +kernel
def wit_MirrorAndResync_resyncApply : State := State.reset.onUnit UnitId.a (fun x => { x with lse := { x.lse with rsRx := [⟨0, 0, [], []⟩] } })
theorem test_wit_MirrorAndResync_resyncApply : ((wit_MirrorAndResync_resyncApply.unit UnitId.a).lse.rsRx.find? (fun r => r.arm == ((0 : Fin 6)).val) = some ((⟨0, 0, [], []⟩ : RsRx))) ∧ (¬ (((⟨0, 0, [], []⟩ : RsRx)).data.length < 64 * ((wit_MirrorAndResync_resyncApply.unit UnitId.a).armCells ((0 : Fin 6)).val).length ∨ (!(wit_MirrorAndResync_resyncApply.unit UnitId.a).works 0x22000) = true)) := by decide +kernel
def wit_HandOverEnd_handoverDeadline : State := State.reset.onUnit UnitId.a (fun x => { x with lse := { x.lse with hovP := some 3, hovMine := true } })
theorem test_wit_HandOverEnd_handoverDeadline : ((wit_HandOverEnd_handoverDeadline.unit UnitId.a).lse.hovP = some 3) ∧ (((wit_HandOverEnd_handoverDeadline.unit UnitId.a).lse.hovMine = true ∧ (!(wit_HandOverEnd_handoverDeadline.unit UnitId.a).lse.hovAcked) = true ∧ 3 ≤ (wit_HandOverEnd_handoverDeadline.unit UnitId.a).pn + 3)) ∧ ((((wit_HandOverEnd_handoverDeadline.unit UnitId.a).hovRefuse 5).hovForget).flt.escWait = none) := by decide +kernel
def wit_HandOverEnd_handoverDeadlineBlock : State := State.reset.onUnit UnitId.a (fun x => { x with lse := { x.lse with hovP := some 3, hovMine := true }, flt := { x.flt with escWait := some 5 } })
theorem test_wit_HandOverEnd_handoverDeadlineBlock : ((wit_HandOverEnd_handoverDeadlineBlock.unit UnitId.a).lse.hovP = some 3) ∧ (((wit_HandOverEnd_handoverDeadlineBlock.unit UnitId.a).lse.hovMine = true ∧ (!(wit_HandOverEnd_handoverDeadlineBlock.unit UnitId.a).lse.hovAcked) = true ∧ 3 ≤ (wit_HandOverEnd_handoverDeadlineBlock.unit UnitId.a).pn + 3)) ∧ ((((wit_HandOverEnd_handoverDeadlineBlock.unit UnitId.a).hovRefuse 5).hovForget).flt.escWait = some 5) := by decide +kernel
def wit_HandOverEnd_handoverSwitch : State := State.reset.onUnit UnitId.a (fun x => { x.set LSE_STAT.STATE 2 with lse := { x.lse with hovP := some 1, hovMine := true, hovAcked := true } })
theorem test_wit_HandOverEnd_handoverSwitch : ((wit_HandOverEnd_handoverSwitch.unit UnitId.a).lse.hovP = some 1) ∧ ((wit_HandOverEnd_handoverSwitch.unit UnitId.a).lse.hovAcked = true) ∧ ((wit_HandOverEnd_handoverSwitch.unit UnitId.a).pn + 1 = 1) ∧ ((wit_HandOverEnd_handoverSwitch.unit UnitId.a).lse.hovMine = true) ∧ ((wit_HandOverEnd_handoverSwitch.unit UnitId.a).isHolder = true) := by decide +kernel
def wit_HandOverEnd_handoverSwitchTake : State := State.reset.onUnit UnitId.a (fun x => { x with lse := { x.lse with hovP := some 1, hovAcked := true } })
theorem test_wit_HandOverEnd_handoverSwitchTake : ((wit_HandOverEnd_handoverSwitchTake.unit UnitId.a).lse.hovP = some 1) ∧ ((wit_HandOverEnd_handoverSwitchTake.unit UnitId.a).lse.hovAcked = true) ∧ ((wit_HandOverEnd_handoverSwitchTake.unit UnitId.a).pn + 1 = 1) ∧ ((wit_HandOverEnd_handoverSwitchTake.unit UnitId.a).lse.hovMine = false) ∧ ((wit_HandOverEnd_handoverSwitchTake.unit UnitId.a).lstate = 0) := by decide +kernel
def wit_SessionCommands_sessChal : State := State.reset.onUnit .a (fun x => x.set PCIE_SESSSTAT.STATE 1)
theorem test_wit_SessionCommands_sessChal : ((wit_SessionCommands_sessChal.unit UnitId.a).allowed .pf1 true 0x10054 = true) ∧ ((wit_SessionCommands_sessChal.unit UnitId.a).host.opening.isNone = true) ∧ ((wit_SessionCommands_sessChal.unit UnitId.a).fld PCIE_SESSSTAT.STATE ≤ 1) := by decide +kernel
def wit_SessionCommands_sessOpen : State := State.reset.onUnit .a (fun x => { x.set PCIE_SESSSTAT.STATE 1 with conf := { x.conf with mkeys := [(3, [7])] } })
theorem test_wit_SessionCommands_sessOpen : ((wit_SessionCommands_sessOpen.unit UnitId.a).allowed .pf1 true 0x10054 = true) ∧ ((wit_SessionCommands_sessOpen.unit UnitId.a).host.opening.isNone = true) ∧ (¬ ((wit_SessionCommands_sessOpen.unit UnitId.a).fld PCIE_SESSSTAT.STATE ≠ 1 ∨ (wit_SessionCommands_sessOpen.unit UnitId.a).host.spent = true)) ∧ (¬ (sget (fun _ => []) (wit_SessionCommands_sessOpen.unit UnitId.a).conf.mkeys ((3 : Fin 4)).val = [])) := by decide +kernel
def wit_SessionCommands_sessClose : State := State.reset.onUnit .a (fun x => x.set PCIE_SESSSTAT.STATE 2)
theorem test_wit_SessionCommands_sessClose : ((wit_SessionCommands_sessClose.unit UnitId.a).allowed .pf1 true 0x10054 = true) ∧ ((wit_SessionCommands_sessClose.unit UnitId.a).host.opening.isNone = true) ∧ ((wit_SessionCommands_sessClose.unit UnitId.a).fld PCIE_SESSSTAT.STATE = 2) := by decide +kernel
def wit_SessionCommands_sessOpenDone : State := State.reset.onUnit UnitId.a (fun x => { x with host := { x.host with opening := some 0 } })
theorem test_wit_SessionCommands_sessOpenDone : ((wit_SessionCommands_sessOpenDone.unit UnitId.a).host.opening = some 0) := by decide +kernel
def wit_SessionCommands_sessChalTimeout : State := State.reset.onUnit .a (fun x => x.set PCIE_SESSSTAT.STATE 1)
theorem test_wit_SessionCommands_sessChalTimeout : ((wit_SessionCommands_sessChalTimeout.unit UnitId.a).fld PCIE_SESSSTAT.STATE = 1 ∧ (wit_SessionCommands_sessChalTimeout.unit UnitId.a).host.opening.isNone = true) := by decide +kernel
def wit_SessionCommands_sessIdleTimeout : State := State.reset.onUnit .a (fun x => (x.set PCIE_SESSSTAT.STATE 2).set PCIE_SESSCFG.IDLE 1)
theorem test_wit_SessionCommands_sessIdleTimeout : ((wit_SessionCommands_sessIdleTimeout.unit UnitId.a).fld PCIE_SESSSTAT.STATE = 2 ∧ (wit_SessionCommands_sessIdleTimeout.unit UnitId.a).fld PCIE_SESSCFG.IDLE ≠ 0) := by decide +kernel
def wit_SessionCommands_sessLockoutEnd : State := State.reset.onUnit .a (fun x => x.set PCIE_SESSSTAT.STATE 3)
theorem test_wit_SessionCommands_sessLockoutEnd : ((wit_SessionCommands_sessLockoutEnd.unit UnitId.a).fld PCIE_SESSSTAT.STATE = 3) := by decide +kernel
def wit_PcieLinkEvents_pcieFlrPf1 : State := State.reset.onUnit .a (fun x => x.set PCIE_SESSSTAT.STATE 2)
theorem test_wit_PcieLinkEvents_pcieFlrPf1 : ((((wit_PcieLinkEvents_pcieFlrPf1.unit UnitId.a).fnReset 1).inc PCIE_CNT2.LINKDN).fld PCIE_SESSSTAT.STATE = 2) := by decide +kernel
def wit_PcieLinkEvents_pcieFlrPf1Closed : State := State.reset.onUnit .a (fun x => x.set PCIE_SESSSTAT.STATE 1)
theorem test_wit_PcieLinkEvents_pcieFlrPf1Closed : (¬ ((((wit_PcieLinkEvents_pcieFlrPf1Closed.unit UnitId.a).fnReset 1).inc PCIE_CNT2.LINKDN).fld PCIE_SESSSTAT.STATE = 2)) := by decide +kernel
def wit_PcieLinkEvents_reamPublishDone : State := State.reset.onUnit UnitId.a (fun x => { x with host := { x.host with reamBusy := some 1 } })
theorem test_wit_PcieLinkEvents_reamPublishDone : ((wit_PcieLinkEvents_reamPublishDone.unit UnitId.a).host.reamBusy = some 1) := by decide +kernel
def wit_PcieLinkEvents_reamPinWrite : State := State.reset.onUnit .a (fun x => x.set PCIE_STAT.SESS 1)
theorem test_wit_PcieLinkEvents_reamPinWrite : ((wit_PcieLinkEvents_reamPinWrite.unit UnitId.a).allowed Requester.pf1 true 0x1004C = true) ∧ (Requester.pf1 = .pf1) := by decide +kernel
theorem test_wit_PcieLinkEvents_reamPinWrite0 : ((State.reset.unit UnitId.a).allowed Requester.pf0 true 0x1004C = true) ∧ (Requester.pf0 = .pf0) := by decide +kernel
theorem test_wit_MailboxesAndDoorbells_mbxPost : ((State.reset.unit UnitId.a).allowed Requester.pf0 true ((if (Requester.pf0.fn?).isSome then 0x12138 else 0x13138) + 0x40 * ((15 : Fin 32)).val) = true) ∧ ((Requester.pf0.fn?).isSome = true) ∧ (((0x38 : Word)).toNat % 64 ≠ 0) ∧ (((0x38 : Word)).toNat % 64 ≤ 56) ∧ (bitAt ((State.reset.unit UnitId.a).fld MBX_H2FFULL.FULL) ((15 : Fin 32)).val = false) := by decide +kernel
theorem test_wit_MailboxesAndDoorbells_mbxPostCore : ((State.reset.unit UnitId.a).allowed (Requester.core 0) true ((if ((Requester.core 0).fn?).isSome then 0x12138 else 0x13138) + 0x40 * ((31 : Fin 32)).val) = true) ∧ (((Requester.core 0).fn?).isSome = false) ∧ (((0x01 : Word)).toNat % 64 ≠ 0) ∧ (((0x01 : Word)).toNat % 64 ≤ 56) ∧ (bitAt ((State.reset.unit UnitId.a).fld MBX_F2HFULL.FULL) ((31 : Fin 32)).val = false) := by decide +kernel
def wit_MailboxesAndDoorbells_mbxEpochRead : State := State.reset.onUnit .a (fun x => x.set MBX_H2FFULL.FULL 0x80000000)
theorem test_wit_MailboxesAndDoorbells_mbxEpochRead : ((wit_MailboxesAndDoorbells_mbxEpochRead.unit UnitId.a).allowed (.core ((0 : Fin 4))) false (0x1213C + 0x40 * ((31 : Fin 32)).val) = true) ∧ (bitAt ((wit_MailboxesAndDoorbells_mbxEpochRead.unit UnitId.a).fld MBX_H2FFULL.FULL) ((31 : Fin 32)).val = true) := by decide +kernel
theorem test_wit_MailboxesAndDoorbells_mbxHepinc : ((State.reset.unit UnitId.a).allowed Requester.pf0 true 0x1104C = true) ∧ (Requester.pf0.fn? = some 0) ∧ (((1 : Word)).toNat % 2 = 1) := by decide +kernel
def wit_MailboxesAndDoorbells_mbxAgeExpire : State := State.reset.onUnit UnitId.a (fun x => (x.set MBX_AGE.AGEMAX 5).set MBX_F2HFULL.FULL 2)
theorem test_wit_MailboxesAndDoorbells_mbxAgeExpire : (((wit_MailboxesAndDoorbells_mbxAgeExpire.unit UnitId.a).fld MBX_AGE.AGEMAX ≠ 0 ∧ bitAt ((wit_MailboxesAndDoorbells_mbxAgeExpire.unit UnitId.a).fld (if false then MBX_H2FFULL.FULL else MBX_F2HFULL.FULL)) ((1 : Fin 32)).val = true ∧ (!(wit_MailboxesAndDoorbells_mbxAgeExpire.unit UnitId.a).host.aged.contains (((1 : Fin 32)).val + (if false then 0 else 32))) = true)) := by decide +kernel
theorem test_wit_MailboxesAndDoorbells_mbxDbSet : ((State.reset.unit UnitId.a).allowed Requester.pf0 true ((if (Requester.pf0.fn?).isSome then 0x11080 else 0x1108C) + 0x20 * ((0 : Fin 2)).val) = true) ∧ ((Requester.pf0.fn?).isSome = true) := by decide +kernel
theorem test_wit_MailboxesAndDoorbells_mbxDbMaskWrite : ((State.reset.unit UnitId.a).allowed (Requester.core 0) true ((if true then 0x11088 else 0x11094) + 0x20 * ((1 : Fin 2)).val) = true) ∧ (dbSide (Requester.core 0) true = true) := by decide +kernel
theorem test_wit_MailboxesAndDoorbells_vectorRearm : ((State.reset.unit UnitId.a).allowed Requester.pf0 true (if true then 0x100E4 else 0x100E0) = true) ∧ (Requester.pf0.fn? = some 0) := by decide +kernel
def wit_StationFrames_netFrameRx : State := State.reset.onUnit UnitId.a (fun x => x.set NET_PCFG.EN 1)
theorem test_wit_StationFrames_netFrameRx : ((wit_StationFrames_netFrameRx.unit UnitId.a).netEn ((0 : Fin 2)).val = true) ∧ (false = false) := by decide +kernel
def wit_StationFrames_netFrameRxLength : State := State.reset.onUnit UnitId.a (fun x => x.set NET_PCFG.EN 1)
theorem test_wit_StationFrames_netFrameRxLength : ((wit_StationFrames_netFrameRxLength.unit UnitId.a).netEn ((0 : Fin 2)).val = true) ∧ (true = true) ∧ ((([] : Bytes)).length < 64 ∨ 1522 < (([] : Bytes)).length) := by decide +kernel
def wit_StationFrames_netFrameRxRing : State := State.reset.onUnit UnitId.a (fun x => (fun y : UnitSt => { y with regs := (0x14048, 0) :: (0x1404C, 0) :: y.regs }) (x.set NET_PCFG.EN 1))
theorem test_wit_StationFrames_netFrameRxRing : ((wit_StationFrames_netFrameRxRing.unit UnitId.a).netEn ((0 : Fin 2)).val = true) ∧ (true = true) ∧ (¬ ((List.replicate 64 (0xFF : Byte)).length < 64 ∨ 1522 < (List.replicate 64 (0xFF : Byte)).length)) ∧ ((wit_StationFrames_netFrameRxRing.unit UnitId.a).netSort (untag (List.replicate 64 (0xFF : Byte))) = 3) := by decide +kernel
theorem test_wit_StationFrames_ringfull : ({ (State.reset.unit .a) with net := { rxFull := true } } : UnitSt).net.rxFull = true := by decide +kernel
theorem test_wit_StationFrames_ringput : (State.reset.unit .a).net.rxFull = false := by decide +kernel
def wit_StationFrames_svFrameRx : State := State.reset.onUnit UnitId.a (fun x => ((((x.set NET_PCFG.EN 1).set NET_SVCFG.EN 1 15).set NET_SVCFG.PORTS 1 15).set NET_SVCFG.APPID 0x4000 15))
theorem test_wit_StationFrames_svFrameRx : ((wit_StationFrames_svFrameRx.unit UnitId.a).netEn ((0 : Fin 2)).val = true) ∧ ((wit_StationFrames_svFrameRx.unit UnitId.a).svOf ((0 : Fin 2)).val ((0x4000 : BitVec 16)).toNat ((0 : BitVec 16)).toNat = [15]) := by decide +kernel
theorem test_wit_StationFrames_svlate : (State.reset.unit .a).fld NET_SVRATE.RATE 0 ≤ 65535 := by decide +kernel
def wit_StationFrames_gooseRx : State := State.reset.onUnit UnitId.a (fun x => ((((x.set NET_PCFG.EN 1 1).set NET_GSCFG.EN 1 31).set NET_GSCFG.PORTS 2 31).set NET_GSCFG.APPID 0x3000 31))
theorem test_wit_StationFrames_gooseRx : ((wit_StationFrames_gooseRx.unit UnitId.a).netEn ((1 : Fin 2)).val = true) ∧ ((wit_StationFrames_gooseRx.unit UnitId.a).gsOf ((1 : Fin 2)).val ((0x3000 : BitVec 16)).toNat ((0 : BitVec 16)).toNat = [31]) := by decide +kernel
def wit_GooseAndStreamTimes_svStreamFault : State := State.reset.onUnit UnitId.a (fun x => x.set NET_SVCFG.EN 1 15)
theorem test_wit_GooseAndStreamTimes_svStreamFault : (((wit_GooseAndStreamTimes_svStreamFault.unit UnitId.a).works 0x14000 && (wit_GooseAndStreamTimes_svStreamFault.unit UnitId.a).bit NET_SVCFG.EN ((15 : Fin 16)).val && !(wit_GooseAndStreamTimes_svStreamFault.unit UnitId.a).bit NET_SVSTAT.FLT ((15 : Fin 16)).val && decide (((wit_GooseAndStreamTimes_svStreamFault.unit UnitId.a).sv ((15 : Fin 16)).val).validAt + (wit_GooseAndStreamTimes_svStreamFault.unit UnitId.a).svLimit ((15 : Fin 16)).val ≤ 10000000000000000)) = true) := by decide +kernel
def wit_GooseAndStreamTimes_gooseTalExpire : State := State.reset.onUnit UnitId.a (fun x => (((x.set NET_GSCFG.EN 1 31).set NET_GSSTAT.VALID 1 31)))
theorem test_wit_GooseAndStreamTimes_gooseTalExpire : (((wit_GooseAndStreamTimes_gooseTalExpire.unit UnitId.a).works 0x14000 && (wit_GooseAndStreamTimes_gooseTalExpire.unit UnitId.a).bit NET_GSCFG.EN ((31 : Fin 32)).val && (wit_GooseAndStreamTimes_gooseTalExpire.unit UnitId.a).bit NET_GSSTAT.VALID ((31 : Fin 32)).val && !(wit_GooseAndStreamTimes_gooseTalExpire.unit UnitId.a).bit NET_GSSTAT.TALX ((31 : Fin 32)).val && decide (((wit_GooseAndStreamTimes_gooseTalExpire.unit UnitId.a).gs ((31 : Fin 32)).val).talEnd ≤ 0)) = true) := by decide +kernel
theorem test_wit_GooseAndStreamTimes_gstake : (State.reset.unit .a).bit NET_GSSTAT.VALID 31 = false := by decide +kernel
def wit_GooseAndStreamTimes_gooseNewState : State := State.reset.onUnit .a (fun x => (x.set NET_GPCFG.EN 1 7).set NET_GPCFG.STBY 1 7)
theorem test_wit_GooseAndStreamTimes_gooseNewState : ((wit_GooseAndStreamTimes_gooseNewState.unit UnitId.a).allowed (Requester.core 0) true 0x146B0 = true) ∧ ((wit_GooseAndStreamTimes_gooseNewState.unit UnitId.a).bit NET_GPCFG.EN (((7 : Word)).toNat % 8) = true) ∧ (((fun y : UnitSt => y.set NET_GPSTN.STNUM ((y.fld NET_GPSTN.STNUM (((7 : Word)).toNat % 8) + 1) % 2 ^ 32) (((7 : Word)).toNat % 8)) ((wit_GooseAndStreamTimes_gooseNewState.unit UnitId.a).gpStop (((7 : Word)).toNat % 8))).gpMay (((7 : Word)).toNat % 8) = true) := by decide +kernel
def wit_GooseAndStreamTimes_gooseRetransmit : State := State.reset.onUnit UnitId.a (fun x => ((x.set NET_GPCFG.EN 1 7).set NET_GPCFG.STBY 1 7).setGp 7 (some ⟨1, 0, 10, 0, true⟩))
theorem test_wit_GooseAndStreamTimes_gooseRetransmit : ((wit_GooseAndStreamTimes_gooseRetransmit.unit UnitId.a).gp ((7 : Fin 8)).val = some ((⟨1, 0, 10, 0, true⟩ : GpSt))) ∧ (((wit_GooseAndStreamTimes_gooseRetransmit.unit UnitId.a).works 0x14000 && (wit_GooseAndStreamTimes_gooseRetransmit.unit UnitId.a).gpMay ((7 : Fin 8)).val && decide (((⟨1, 0, 10, 0, true⟩ : GpSt)).due ≤ 0) && (((⟨1, 0, 10, 0, true⟩ : GpSt)).sent || !(wit_GooseAndStreamTimes_gooseRetransmit.unit UnitId.a).gpWaits ((7 : Fin 8)).val)) = true) := by decide +kernel
theorem test_wit_LaunchQueues_netTxSubmit : ((State.reset.unit UnitId.a).allowed (Requester.core 0) true 0x146CC = true) ∧ (((State.reset.unit UnitId.a).set NET_TXD3.AT_HI ((0 : Word)).toNat).islandOn .mem0 = true) ∧ (((State.reset.unit UnitId.a).set NET_TXD3.AT_HI ((0 : Word)).toNat).islandOn .mem1 = true) := by decide +kernel
def wit_LaunchQueues_netTxLaunch : State := State.reset.onUnit UnitId.a (fun x => ((x.set NET_PCFG.EN 1).set NET_STAT.LINK 3).setTx 0 [⟨5, [1], 2, false⟩])
theorem test_wit_LaunchQueues_netTxLaunch : ((wit_LaunchQueues_netTxLaunch.unit UnitId.a).netFree ((0 : Fin 2)).val = true) ∧ ((firstTimed ((wit_LaunchQueues_netTxLaunch.unit UnitId.a).txQueue ((0 : Fin 2)).val)).filter (fun j => decide (j.at_ * ns ≤ 200000)) = some ((⟨5, [1], 2, false⟩ : TxItem))) := by decide +kernel
def wit_LaunchQueues_netTxLaunchHead : State := State.reset.onUnit UnitId.a (fun x => ((x.set NET_PCFG.EN 1).set NET_STAT.LINK 3).setTx 0 [⟨5, [1], 0, false⟩])
theorem test_wit_LaunchQueues_netTxLaunchHead : ((wit_LaunchQueues_netTxLaunchHead.unit UnitId.a).netFree ((0 : Fin 2)).val = true) ∧ ((firstTimed ((wit_LaunchQueues_netTxLaunchHead.unit UnitId.a).txQueue ((0 : Fin 2)).val)).filter (fun j => decide (j.at_ * ns ≤ 0)) = none) ∧ (((wit_LaunchQueues_netTxLaunchHead.unit UnitId.a).netWait ((0 : Fin 2)).val).filter (wit_LaunchQueues_netTxLaunchHead.unit UnitId.a).jobMay = []) ∧ ((wit_LaunchQueues_netTxLaunchHead.unit UnitId.a).txQueue ((0 : Fin 2)).val = ((⟨5, [1], 0, false⟩ : TxItem)) :: (([] : List TxItem))) ∧ (((⟨5, [1], 0, false⟩ : TxItem)).at_ = 0) ∧ ((wit_LaunchQueues_netTxLaunchHead.unit UnitId.a).netMay ((0 : Fin 2)).val ((⟨5, [1], 0, false⟩ : TxItem)).bytes.length 0 = true) := by decide +kernel
def wit_LaunchQueues_netTxComplete : State := State.reset.onUnit UnitId.a (fun x => (x.setBusy 0 (some (⟨5, [1], 0, true⟩, 131072))))
theorem test_wit_LaunchQueues_netTxComplete : ((wit_LaunchQueues_netTxComplete.unit UnitId.a).netBusy ((0 : Fin 2)).val = some (((⟨5, [1], 0, true⟩ : TxItem)), 131072)) ∧ (((⟨5, [1], 0, true⟩ : TxItem)).at_ = 0) ∧ (((⟨5, [1], 0, true⟩ : TxItem)).id ≠ 0) := by decide +kernel
def wit_LaunchQueues_netTxcplRead : State := State.reset.onUnit .a (fun x => x.onNet (fun n => { n with cpl := [(1, 0, 99)] }))
theorem test_wit_LaunchQueues_netTxcplRead : ((wit_LaunchQueues_netTxcplRead.unit UnitId.a).allowed (Requester.core 0) false 0x146D4 = true) ∧ (((wit_LaunchQueues_netTxcplRead.unit UnitId.a).answer (Requester.core 0) ((wit_LaunchQueues_netTxcplRead.unit UnitId.a).word 0x146D4)).net.cpl = (1, 0, 99) :: (([] : List (Nat × Nat × Nat)))) := by decide +kernel
def wit_PtpMessages_ptpAnnounceRx : State := State.reset.onUnit UnitId.a (fun x => (fun y : UnitSt => { y with net := { y.net with mode := [] } }) ((((x.set NET_PCFG.EN 1).set NET_STAT.LINK 3).set PTP_CFG.EN 1).set PTP_CFG.PORTS 3))
theorem test_wit_PtpMessages_ptpAnnounceRx : (((wit_PtpMessages_ptpAnnounceRx.unit UnitId.a).ptpLive ((0 : Fin 2)).val && (wit_PtpMessages_ptpAnnounceRx.unit UnitId.a).fld PTP_CFG.DOMAIN == ((0 : BitVec 8)).toNat) = true) := by decide +kernel
def wit_PtpMessages_ptpAnnounceTimeout : State := State.reset.onUnit UnitId.a (fun x => ((fun y : UnitSt => { y with net := { y.net with mode := [] } }) ((((x.set NET_PCFG.EN 1).set NET_STAT.LINK 3).set PTP_CFG.EN 1).set PTP_CFG.PORTS 3)).onPtpPort 0 (fun q => { q with masters := [⟨7, 0, 0, 0, 0, 0, 0, 0, 5, none⟩] }))
theorem test_wit_PtpMessages_ptpAnnounceTimeout : (((wit_PtpMessages_ptpAnnounceTimeout.unit UnitId.a).ptpLive ((0 : Fin 2)).val && ((wit_PtpMessages_ptpAnnounceTimeout.unit UnitId.a).ptpPort ((0 : Fin 2)).val).masters.any (fun m => decide (m.last + 3 * sec ≤ 1000000000000000))) = true) := by decide +kernel
def wit_PtpMessages_ptpSyncRx : State := State.reset.onUnit UnitId.a (fun x => ((((((x.set NET_PCFG.EN 1).set NET_STAT.LINK 3).set PTP_CFG.EN 1).set PTP_CFG.PORTS 3).set PTP_PSTATE.P0 3).onPtp (fun q => { q with master := some (0, 7) })))
theorem test_wit_PtpMessages_ptpSyncRx : ((wit_PtpMessages_ptpSyncRx.unit UnitId.a).ptpFrom ((0 : Fin 2)).val ((0 : BitVec 8)).toNat ((7 : BitVec 80)).toNat = true) := by decide +kernel
def wit_PtpMessages_ptpFollowUpRx : State := State.reset.onUnit UnitId.a (fun x => ((((((x.set NET_PCFG.EN 1).set NET_STAT.LINK 3).set PTP_CFG.EN 1).set PTP_CFG.PORTS 3).set PTP_PSTATE.P0 3).onPtp (fun q => { q with master := some (0, 7) })).onPtpPort 0 (fun q => { q with sync := some (9, 1, 0) }))
theorem test_wit_PtpMessages_ptpFollowUpRx : (((wit_PtpMessages_ptpFollowUpRx.unit UnitId.a).ptpPort ((0 : Fin 2)).val).sync = some (((9 : BitVec 16)).toNat, 1, ((0 : Int)))) ∧ (((wit_PtpMessages_ptpFollowUpRx.unit UnitId.a).ptpFrom ((0 : Fin 2)).val ((0 : BitVec 8)).toNat ((7 : BitVec 80)).toNat && ((9 : BitVec 16)).toNat == ((9 : BitVec 16)).toNat) = true) := by decide +kernel
def wit_PtpMessages_ptpSyncTimeout : State := State.reset.onUnit UnitId.a (fun x => x.set PTP_CFG.EN 1)
theorem test_wit_PtpMessages_ptpSyncTimeout : (((wit_PtpMessages_ptpSyncTimeout.unit UnitId.a).works 0x15000 && ((wit_PtpMessages_ptpSyncTimeout.unit UnitId.a).bit PTP_CFG.EN || (wit_PtpMessages_ptpSyncTimeout.unit UnitId.a).bit TIM_SRC.PTPLOCK) && decide ((wit_PtpMessages_ptpSyncTimeout.unit UnitId.a).ptp.syncAt + max 1 ((wit_PtpMessages_ptpSyncTimeout.unit UnitId.a).fld PTP_INTV.SYNCTMO) * sec ≤ 100000000000000000)) = true) := by decide +kernel
def wit_PathDelayPpsAndLinks_pdelayReqSend : State := State.reset.onUnit UnitId.a (fun x => (fun y : UnitSt => { y with net := { y.net with mode := [] } }) ((((x.set NET_PCFG.EN 1).set NET_STAT.LINK 3).set PTP_CFG.EN 1).set PTP_CFG.PORTS 3))
theorem test_wit_PathDelayPpsAndLinks_pdelayReqSend : ((wit_PathDelayPpsAndLinks_pdelayReqSend.unit UnitId.a).ptpLive ((0 : Fin 2)).val = true) := by decide +kernel
def wit_PathDelayPpsAndLinks_pdelayReqRx : State := State.reset.onUnit UnitId.a (fun x => (fun y : UnitSt => { y with net := { y.net with mode := [] } }) ((((x.set NET_PCFG.EN 1).set NET_STAT.LINK 3).set PTP_CFG.EN 1).set PTP_CFG.PORTS 3))
theorem test_wit_PathDelayPpsAndLinks_pdelayReqRx : ((wit_PathDelayPpsAndLinks_pdelayReqRx.unit UnitId.a).ptpLive ((0 : Fin 2)).val = true) := by decide +kernel
def wit_PathDelayPpsAndLinks_pdelayRespRx : State := State.reset.onUnit UnitId.a (fun x => ((fun y : UnitSt => { y with net := { y.net with mode := [] } }) ((((x.set NET_PCFG.EN 1).set NET_STAT.LINK 3).set PTP_CFG.EN 1).set PTP_CFG.PORTS 3)).onPtpPort 0 (fun q => { q with req := some (3, 0) }))
theorem test_wit_PathDelayPpsAndLinks_pdelayRespRx : (((wit_PathDelayPpsAndLinks_pdelayRespRx.unit UnitId.a).ptpPort ((0 : Fin 2)).val).req = some (((3 : BitVec 16)).toNat, 0)) ∧ (((wit_PathDelayPpsAndLinks_pdelayRespRx.unit UnitId.a).ptpLive ((0 : Fin 2)).val && ((3 : BitVec 16)).toNat == ((3 : BitVec 16)).toNat) = true) := by decide +kernel
def wit_PathDelayPpsAndLinks_ppsOut : State := State.reset.onUnit UnitId.a (fun x => x.set PTP_PPSOUT.EN 1)
theorem test_wit_PathDelayPpsAndLinks_ppsOut : (((wit_PathDelayPpsAndLinks_ppsOut.unit UnitId.a).works 0x15000 && (wit_PathDelayPpsAndLinks_ppsOut.unit UnitId.a).bit PTP_PPSOUT.EN && 65536000000000 % sec == 0) = true) := by decide +kernel
def wit_PathDelayPpsAndLinks_ppsinEdge : State := State.reset.onUnit UnitId.a (fun x => x.set PTP_PPSIN.EN 1)
theorem test_wit_PathDelayPpsAndLinks_ppsinEdge : (((wit_PathDelayPpsAndLinks_ppsinEdge.unit UnitId.a).works 0x15000 && (wit_PathDelayPpsAndLinks_ppsinEdge.unit UnitId.a).bit PTP_PPSIN.EN) = true) := by decide +kernel
def wit_PathDelayPpsAndLinks_netLinkChange : State := State.reset.onUnit UnitId.a (fun x => x.set NET_PCFG.EN 1)
theorem test_wit_PathDelayPpsAndLinks_netLinkChange : ((wit_PathDelayPpsAndLinks_netLinkChange.unit UnitId.a).works 0x14000 = true) ∧ ((true && !(wit_PathDelayPpsAndLinks_netLinkChange.unit UnitId.a).netEn ((0 : Fin 2)).val) = false) ∧ (((wit_PathDelayPpsAndLinks_netLinkChange.unit UnitId.a).netUp ((0 : Fin 2)).val == true) = false) := by decide +kernel
def wit_StrandFrames_prefetchFreeze : State := State.reset.onUnit UnitId.a (fun x => { x with boot := .up })
theorem test_wit_StrandFrames_prefetchFreeze : ((wit_StrandFrames_prefetchFreeze.unit UnitId.a).works 0x20000 = true) := by decide +kernel
def wit_StrandFrames_frameBuild : State := State.reset.onUnit UnitId.a (fun x => { x with boot := .up })
theorem test_wit_StrandFrames_frameBuild : ((wit_StrandFrames_frameBuild.unit UnitId.a).works 0x20000 = true) := by decide +kernel
theorem test_wit_StrandFrames_build1 : (State.reset.unit .b).portOn 99 = true := by decide +kernel
def wit_StrandFrames_cmdFrameLaunch : State := State.reset.onUnit UnitId.a (fun x => (fun y : UnitSt => { y with tim := { y.tim with counting := true, baseSet := true } }) ((x.set STRP_ASSIGN.NCELL 1).set STRP_STAT.STATE 5))
theorem test_wit_StrandFrames_cmdFrameLaunch : (¬ (((wit_StrandFrames_cmdFrameLaunch.unit UnitId.a).tick ((⟨1000, [5]⟩ : Launch)).at_).fenced = true ∨ (!((wit_StrandFrames_cmdFrameLaunch.unit UnitId.a).tick ((⟨1000, [5]⟩ : Launch)).at_).anyLine) = true)) ∧ ((!((wit_StrandFrames_cmdFrameLaunch.unit UnitId.a).tick ((⟨1000, [5]⟩ : Launch)).at_).tim.baseSet) = false) ∧ ((!((wit_StrandFrames_cmdFrameLaunch.unit UnitId.a).tick ((⟨1000, [5]⟩ : Launch)).at_).tim.counting) = false) := by decide +kernel
def wit_StrandFrames_statusFrameLaunch : State := State.reset.onUnit UnitId.a (fun x => (fun y : UnitSt => { y with tim := { y.tim with counting := true, baseSet := true } }) ((x.set STRP_ASSIGN.NCELL 1).set STRP_STAT.STATE 5))
theorem test_wit_StrandFrames_statusFrameLaunch : (((wit_StrandFrames_statusFrameLaunch.unit UnitId.a).tick ((⟨1000, []⟩ : Launch)).at_).tim.counting = true) := by decide +kernel
def wit_StrandFrames_statusFrameRx : State := State.reset.onUnit UnitId.a (fun x => (fun y : UnitSt => { y with tim := { y.tim with counting := true, baseSet := true } }) ((x.set STRP_ASSIGN.NCELL 1).set STRP_STAT.STATE 5))
theorem test_wit_StrandFrames_statusFrameRx : (¬ (((wit_StrandFrames_statusFrameRx.unit UnitId.a).tick 1000).ncell ((0 : Fin 100)).val = 0 ∨ ((wit_StrandFrames_statusFrameRx.unit UnitId.a).tick 1000).pstate ((0 : Fin 100)).val = 0 ∨ ((wit_StrandFrames_statusFrameRx.unit UnitId.a).tick 1000).pstate ((0 : Fin 100)).val = 2 ∨ (!((wit_StrandFrames_statusFrameRx.unit UnitId.a).tick 1000).portOn ((0 : Fin 100)).val) = true)) ∧ (byteAt ((⟨[0x55, 3], 0⟩ : RxFrame)).bytes 1 = 3) := by decide +kernel
theorem test_wit_StrandFrames_slotOk : slotPasses 0 0 (statSlot (List.replicate 26 0 ++ List.replicate 15 0 ++ [BitVec.ofNat 8 (statCrc 0 0 (List.replicate 15 0))]) 0) = true := by decide +kernel
def wit_StrandFrames_spliceStatusFwdRx : State := State.reset.onUnit UnitId.a (fun x => x)
theorem test_wit_StrandFrames_spliceStatusFwdRx : ((wit_StrandFrames_spliceStatusFwdRx.unit UnitId.a).inQuiet = false) ∧ ((wit_StrandFrames_spliceStatusFwdRx.unit UnitId.a.other).portOf ((3 : Fin 96)).val = some 3) ∧ ((wit_StrandFrames_spliceStatusFwdRx.unit UnitId.a.other).pstate 3 ≠ 1) ∧ (slotPasses ((0 : Fin 64)).val (wit_StrandFrames_spliceStatusFwdRx.unit UnitId.a).pn (List.replicate 15 0 ++ [BitVec.ofNat 8 (statCrc 0 0 (List.replicate 15 0))]) = true) ∧ (((wit_StrandFrames_spliceStatusFwdRx.unit UnitId.a).view (((3 : Fin 96)).val * 64 + ((0 : Fin 64)).val)).slotPn ≠ some (wit_StrandFrames_spliceStatusFwdRx.unit UnitId.a).pn) := by decide +kernel
def wit_StrandFrames_spliceStatusLow : State := (State.reset.onUnit UnitId.a (fun x => x.set TIM_PN_LO.PN_LO 63)).onUnit UnitId.b (fun x => x.set STRP_STAT.STATE 1 3)
theorem test_wit_StrandFrames_spliceStatusLow : ((wit_StrandFrames_spliceStatusLow.unit UnitId.a).inQuiet = false) ∧ ((wit_StrandFrames_spliceStatusLow.unit UnitId.a.other).portOf ((3 : Fin 96)).val = some 3) ∧ ((wit_StrandFrames_spliceStatusLow.unit UnitId.a.other).pstate 3 = 1) ∧ (slotPasses ((0 : Fin 64)).val ((wit_StrandFrames_spliceStatusLow.unit UnitId.a).pn / 64 * 64) (List.replicate 15 0 ++ [BitVec.ofNat 8 (statCrc 0 0 (List.replicate 15 0))]) = true) ∧ (((wit_StrandFrames_spliceStatusLow.unit UnitId.a).view (((3 : Fin 96)).val * 64 + ((0 : Fin 64)).val)).slotPn ≠ some ((wit_StrandFrames_spliceStatusLow.unit UnitId.a).pn / 64 * 64)) := by decide +kernel
def wit_StrandFrames_relayEnd : State := State.reset.onUnit UnitId.a (fun x => (fun y : UnitSt => { y with spl := { y.spl with relayReq := [3] } }) ((((x.set LSE_STAT.STATE 2).set STRP_STAT.STATE 5 3).onPort 3 (fun q => { q with clean := 16 }))))
theorem test_wit_StrandFrames_relayEnd : ((wit_StrandFrames_relayEnd.unit UnitId.a).portOf ((3 : Fin 96)).val = some 3) ∧ ((wit_StrandFrames_relayEnd.unit UnitId.a).isHolder = true ∧ (wit_StrandFrames_relayEnd.unit UnitId.a).spl.relayReq.contains ((3 : Fin 96)).val = true ∧ 16 ≤ ((wit_StrandFrames_relayEnd.unit UnitId.a).port 3).clean ∧ ((wit_StrandFrames_relayEnd.unit UnitId.a).pstate 3 = 5 ∨ (wit_StrandFrames_relayEnd.unit UnitId.a).pstate 3 = 1)) := by decide +kernel
theorem test_wit_StrandFrames_relayFrameRx : (¬ (((State.reset.unit UnitId.a).tick 0).inQuiet = true ∨ ((State.reset.unit UnitId.a).tick 0).lstate ≠ 0)) := by decide +kernel
theorem test_wit_StrandFrames_relayRx : (State.reset.unit .a).portOf (byteAt ((cmdFrame (cmdHeader 1 .b false 0 0 0 1 0 100 0) { holder := .b, abd := false, llen := 4, epoch := 1, abdpn := 0 } (cmdSlotBytes 0 0 3) (padWindow []))) 3 % 128) = some 0 := by decide +kernel
theorem test_wit_StrandFrames_relayLaunch : ((State.reset.unit .a).set STRP_STAT.STATE 5).portOn 0 = true ∧ ((State.reset.unit .a).set STRP_STAT.STATE 5).relays 0 = true := by decide +kernel
def wit_StrandFrames_partnerCmdFrameRx : State := State.reset.onUnit UnitId.a (fun x => (fun y : UnitSt => { y with tim := { y.tim with counting := true, baseSet := true } }) ((x.set STRP_ASSIGN.NCELL 1).set STRP_STAT.STATE 5))
theorem test_wit_StrandFrames_partnerCmdFrameRx : (¬ (((wit_StrandFrames_partnerCmdFrameRx.unit UnitId.a).tick 0).pstate ((0 : Fin 100)).val = 0 ∨ (!((wit_StrandFrames_partnerCmdFrameRx.unit UnitId.a).tick 0).portOn ((0 : Fin 100)).val) = true)) := by decide +kernel
def wit_StrandFrames_stopReqRx : State := State.reset.onUnit UnitId.a (fun x => x)
theorem test_wit_StrandFrames_stopReqRx : ((wit_StrandFrames_stopReqRx.unit UnitId.a).inQuiet = false) := by decide +kernel
theorem test_wit_PortStates_portReqOff : ((State.reset.unit UnitId.b).allowed (Requester.core 0) true (0x100048 + 0x1000 * ((99 : Fin 100)).val) = true) := by decide +kernel
theorem test_wit_PortStates_portReqLow : ((State.reset.unit UnitId.a).allowed (Requester.core 0) true (0x100048 + 0x1000 * ((99 : Fin 100)).val) = true) := by decide +kernel
theorem test_wit_PortStates_portReqTrain : ((State.reset.unit UnitId.a).allowed (Requester.core 0) true (0x100048 + 0x1000 * ((0 : Fin 100)).val) = true) := by decide +kernel
theorem test_wit_PortStates_portReqEnum : (((State.reset.unit UnitId.a).tick 9).allowed (Requester.core 1) true (0x100048 + 0x1000 * ((7 : Fin 100)).val) = true) := by decide +kernel
theorem test_wit_PortStates_portReqActive : ((State.reset.unit UnitId.a).allowed (Requester.core 0) true (0x100048 + 0x1000 * ((0 : Fin 100)).val) = true) := by decide +kernel
theorem test_wit_PortStates_portAssignWrite : ((State.reset.unit UnitId.a).allowed (Requester.core 0) true (0x100040 + 0x1000 * ((99 : Fin 100)).val) = true) := by decide +kernel
theorem test_wit_PortStates_setPstate : (State.reset.unit .a).pstate 0 ≠ 1 := by decide +kernel
def wit_PortStates_portMeasureDone : State := State.reset.onUnit UnitId.a (fun x => x.set STRP_STAT.STATE 4)
theorem test_wit_PortStates_portMeasureDone : ((wit_PortStates_portMeasureDone.unit UnitId.a).pstate ((0 : Fin 100)).val = 4 ∧ (!((wit_PortStates_portMeasureDone.unit UnitId.a).port ((0 : Fin 100)).val).ncellBad) = true ∧ ((wit_PortStates_portMeasureDone.unit UnitId.a).port ((0 : Fin 100)).val).echoHops = [] ∧ (((wit_PortStates_portMeasureDone.unit UnitId.a).port ((0 : Fin 100)).val).measIds.all (fun i => match (wit_PortStates_portMeasureDone.unit UnitId.a).hbxEnded i with | some st => decide (st ≤ 1) | none => false)) = true) := by decide +kernel
theorem test_wit_PortStates_enumFrameRx : (enumOk ((closeFrame ([85, 4, 64, 0, 1, 1, 0, 0] ++ List.replicate 96 0))) = true) ∧ (byteAt ((closeFrame ([85, 4, 64, 0, 1, 1, 0, 0] ++ List.replicate 96 0))) 1 = 4) ∧ (byteAt ((closeFrame ([85, 4, 64, 0, 1, 1, 0, 0] ++ List.replicate 96 0))) 4 = 1) ∧ (srcUnit ((closeFrame ([85, 4, 64, 0, 1, 1, 0, 0] ++ List.replicate 96 0))) = UnitId.a) ∧ (bitAt (byteAt ((closeFrame ([85, 4, 64, 0, 1, 1, 0, 0] ++ List.replicate 96 0))) 2) 6 = true) := by decide +kernel
theorem test_wit_PortStates_enumBad : (enumOk ([(0x55 : Byte), 4]) = false) ∧ (byteAt ([(0x55 : Byte), 4]) 1 = 4) := by decide +kernel
def wit_FaultCollectorAndWatchdogs_faultLatch : State := State.reset.onUnit UnitId.a (fun x => { x with boot := .up })
theorem test_wit_FaultCollectorAndWatchdogs_faultLatch : (¬ ((wit_FaultCollectorAndWatchdogs_faultLatch.unit UnitId.a).boot = .off)) := by decide +kernel
theorem test_wit_FaultCollectorAndWatchdogs_fltLatchClear : ((State.reset.unit UnitId.a).allowed (Requester.core 0) true 0x3040 = true) := by decide +kernel
def wit_FaultCollectorAndWatchdogs_graceExpire : State := State.reset.onUnit UnitId.a (fun x => { x with flt := { x.flt with graceAt := [(4, 0)] } })
theorem test_wit_FaultCollectorAndWatchdogs_graceExpire : (¬ (((wit_FaultCollectorAndWatchdogs_graceExpire.unit UnitId.a).flt.graceAt.filter (fun g => decide (g.2 + (wit_FaultCollectorAndWatchdogs_graceExpire.unit UnitId.a).fld FLT_SCFG.GRACE g.1 * us ≤ 1000000000000000))).map (·.1) = [] ∨ (wit_FaultCollectorAndWatchdogs_graceExpire.unit UnitId.a).fenced = true)) := by decide +kernel
theorem test_wit_FaultCollectorAndWatchdogs_wdogKick : ((State.reset.unit UnitId.a).allowed (Requester.core 0) true (0x3088 + 4 * ((3 : Fin 4)).val) = true) := by decide +kernel
def wit_FaultCollectorAndWatchdogs_wdogExpire : State := State.reset.onUnit UnitId.a (fun x => x.set FLT_WDOG.TMO 1 3)
theorem test_wit_FaultCollectorAndWatchdogs_wdogExpire : ((wit_FaultCollectorAndWatchdogs_wdogExpire.unit UnitId.a).fld FLT_WDOG.TMO ((3 : Fin 4)).val ≠ 0 ∧ (!(wit_FaultCollectorAndWatchdogs_wdogExpire.unit UnitId.a).flt.expired.contains ((3 : Fin 4)).val) = true ∧ sget (fun _ => 0) (wit_FaultCollectorAndWatchdogs_wdogExpire.unit UnitId.a).flt.kickAt ((3 : Fin 4)).val + (wit_FaultCollectorAndWatchdogs_wdogExpire.unit UnitId.a).fld FLT_WDOG.TMO ((3 : Fin 4)).val * 1000 * us ≤ 65536000000000) := by decide +kernel
def wit_FaultCollectorAndWatchdogs_healthRecord : State := State.reset.onUnit UnitId.a (fun x => { x with boot := .up })
theorem test_wit_FaultCollectorAndWatchdogs_healthRecord : (¬ ((wit_FaultCollectorAndWatchdogs_healthRecord.unit UnitId.a).boot ≠ .up ∨ 65536000000000 % sec ≠ 0)) := by decide +kernel
def wit_FaultCollectorAndWatchdogs_healthRecordRx : State := State.reset.onUnit UnitId.a (fun x => { x with boot := .up })
theorem test_wit_FaultCollectorAndWatchdogs_healthRecordRx : ((wit_FaultCollectorAndWatchdogs_healthRecordRx.unit UnitId.a).islandOn .spl = true) := by decide +kernel
def wit_FaultCollectorAndWatchdogs_partnerResetRx : State := State.reset.onUnit UnitId.a (fun x => ({ x with boot := .up }).set GEN_CFG.PFEN 1)
theorem test_wit_FaultCollectorAndWatchdogs_partnerResetRx : ((wit_FaultCollectorAndWatchdogs_partnerResetRx.unit UnitId.a).islandOn .spl = true) ∧ (((wit_FaultCollectorAndWatchdogs_partnerResetRx.unit UnitId.a).bit GEN_CFG.PFEN && !(wit_FaultCollectorAndWatchdogs_partnerResetRx.unit UnitId.a).isHolder) = true) := by decide +kernel
theorem test_wit_BlockResetsLocksAndRows_blockReset : (((0x400C : BitVec 32)).toNat % 0x1000 = 0x00C) ∧ ((State.reset.unit UnitId.a).allowed (Requester.core 0) true ((0x400C : BitVec 32)).toNat = true) := by decide +kernel
theorem test_wit_BlockResetsLocksAndRows_blockResetCell : (((0x400C : BitVec 32)).toNat % 0x1000 = 0x00C) := by decide +kernel
theorem test_wit_BlockResetsLocksAndRows_lockWrite : (((0x4024 : BitVec 32)).toNat % 0x1000 = 0x024) ∧ ((State.reset.unit UnitId.a).allowed (Requester.core 0) true ((0x4024 : BitVec 32)).toNat = true) := by decide +kernel
theorem test_wit_BlockResetsLocksAndRows_lockWriteCell : (((0x2024 : BitVec 32)).toNat % 0x1000 = 0x024) := by decide +kernel
def wit_BlockResetsLocksAndRows_sramEccError : State := State.reset.onUnit UnitId.a (fun x => { x with boot := .up })
theorem test_wit_BlockResetsLocksAndRows_sramEccError : ((wit_BlockResetsLocksAndRows_sramEccError.unit UnitId.a).works 0x7000 = true) := by decide +kernel
def wit_BlockResetsLocksAndRows_sramEccCell : State := State.reset.onCell (⟨0, 0⟩ : CellId) (fun x => { x with pow := .on })
theorem test_wit_BlockResetsLocksAndRows_sramEccCell : (¬ ((wit_BlockResetsLocksAndRows_sramEccCell.cell ((⟨0, 0⟩ : CellId))).pow = .off ∨ (wit_BlockResetsLocksAndRows_sramEccCell.cell ((⟨0, 0⟩ : CellId))).pow = .dormant)) := by decide +kernel
def wit_BlockResetsLocksAndRows_scrubOverrun : State := State.reset.onUnit UnitId.a (fun x => ({ x with boot := .up }).set MEM_SCRUB.EN 1)
theorem test_wit_BlockResetsLocksAndRows_scrubOverrun : (((wit_BlockResetsLocksAndRows_scrubOverrun.unit UnitId.a).works 0x7000 && (wit_BlockResetsLocksAndRows_scrubOverrun.unit UnitId.a).bit MEM_SCRUB.EN) = true) := by decide +kernel
def wit_BlockResetsLocksAndRows_rowRetire : State := State.reset.onUnit UnitId.a (fun x => ({ x with boot := .up, mem := { x.mem with rows := [(7, 255, 0)] } } : UnitSt).set MEM_ROWTH.ROWTH 8)
theorem test_wit_BlockResetsLocksAndRows_rowRetire : (((wit_BlockResetsLocksAndRows_rowRetire.unit UnitId.a).works 0x7000 && (wit_BlockResetsLocksAndRows_rowRetire.unit UnitId.a).fld MEM_ROWTH.ROWTH != 0 && (wit_BlockResetsLocksAndRows_rowRetire.unit UnitId.a).mem.rows.any (fun r => r.1 == ((7 : Fin 49152)).val && decide ((wit_BlockResetsLocksAndRows_rowRetire.unit UnitId.a).fld MEM_ROWTH.ROWTH ≤ r.2.1)) && !(wit_BlockResetsLocksAndRows_rowRetire.unit UnitId.a).mem.copy.any (fun c => c.1 == ((7 : Fin 49152)).val)) = true) := by decide +kernel
theorem test_wit_BlockResetsLocksAndRows_rowCopy : (State.reset.unit .a).mem.copy.any (fun c => c.1 == 7) = false := by decide +kernel
def wit_BlockResetsLocksAndRows_rowRetireSwitch : State := State.reset.onUnit UnitId.a (fun x => { x with boot := .up, mem := { x.mem with copy := [(7, true)] } })
theorem test_wit_BlockResetsLocksAndRows_rowRetireSwitch : ((wit_BlockResetsLocksAndRows_rowRetireSwitch.unit UnitId.a).mem.copy.find? (fun c => c.1 == ((7 : Fin 49152)).val) = some (7, true)) ∧ (((!(wit_BlockResetsLocksAndRows_rowRetireSwitch.unit UnitId.a).works 0x7000) || (!(wit_BlockResetsLocksAndRows_rowRetireSwitch.unit UnitId.a).maySwitch 0)) = false) := by decide +kernel
def wit_BlockResetsLocksAndRows_rowEntryAgeDrop : State := State.reset.onUnit UnitId.a (fun x => { x with boot := .up })
theorem test_wit_BlockResetsLocksAndRows_rowEntryAgeDrop : ((wit_BlockResetsLocksAndRows_rowEntryAgeDrop.unit UnitId.a).works 0x7000 = true) := by decide +kernel
def wit_BlockResetsLocksAndRows_memRetreq : State := State.reset.onUnit UnitId.a (fun x => { x with boot := .up })
theorem test_wit_BlockResetsLocksAndRows_memRetreq : ((wit_BlockResetsLocksAndRows_memRetreq.unit UnitId.a).allowed (Requester.core 0) true 0x7058 = true) := by decide +kernel
def wit_ResetsAndBoot_unitPinReset : State := State.reset.onUnit .a (fun x => { x with boot := .up })
theorem test_wit_ResetsAndBoot_unitPinReset : (¬ (((wit_ResetsAndBoot_unitPinReset.unit ((⟨.a, [(0, 1)]⟩ : PinReset)).unit).programmer false ((⟨.a, [(0, 1)]⟩ : PinReset)).prog).boot = .off)) := by decide +kernel
theorem test_wit_ResetsAndBoot_programmer : 0x3FFFFFF < flashSize := by decide +kernel
theorem test_wit_ResetsAndBoot_genRstWrite : ((State.reset.unit UnitId.a).allowed (Requester.core 0) true 0x4C = true) := by decide +kernel
theorem test_wit_ResetsAndBoot_genPrstWrite : ((State.reset.unit UnitId.a).allowed (Requester.core 0) true 0x50 = true) := by decide +kernel
theorem test_wit_ResetsAndBoot_bootConfirm : ((State.reset.unit UnitId.a).allowed (Requester.core 0) true 0x58 = true) := by decide +kernel
def wit_ResetsAndBoot_bootTrialTimeout : State := State.reset.onUnit UnitId.a (fun x => { x with boot := .up, regs := [(0x54, 1), (0x58, 4)] })
theorem test_wit_ResetsAndBoot_bootTrialTimeout : ((wit_ResetsAndBoot_bootTrialTimeout.unit UnitId.a).boot = .up ∧ (wit_ResetsAndBoot_bootTrialTimeout.unit UnitId.a).bit GEN_BOOT.TRIAL = true ∧ (wit_ResetsAndBoot_bootTrialTimeout.unit UnitId.a).fld GEN_CFG.BOOTTMO ≠ 0) := by decide +kernel
theorem test_wit_ResetsAndBoot_bootNone : (((({ State.reset.a with flash := [(0, 0), (1, 0), (2, 0), (3, 0), (0x1800000, 0), (0x1800001, 0), (0x1800002, 0), (0x1800003, 0)] } : UnitSt).showSlot 0).showSlot 1).slotValid 0 = false) ∧ (((({ State.reset.a with flash := [(0, 0), (1, 0), (2, 0), (3, 0), (0x1800000, 0), (0x1800001, 0), (0x1800002, 0), (0x1800003, 0)] } : UnitSt).showSlot 0).showSlot 1).slotValid 1 = false) ∧ ((0 : Nat) = 0 ∨ State.reset.a.bit GEN_BOOT.TRIAL = false) ∧ ((0 : Nat) = 0 ∨ State.reset.a.bit GEN_BOOT.FB = false) := by decide +kernel
def wit_ResetsAndBoot_configLoad : State := State.reset.onUnit UnitId.a (fun x => { x with boot := .up })
theorem test_wit_ResetsAndBoot_configLoad : ((wit_ResetsAndBoot_configLoad.unit UnitId.a).boot = .up) := by decide +kernel
def wit_SecurityAndFlashCommands_secVerify : State := State.reset.onUnit UnitId.a (fun x => (fun y : UnitSt => { y with boot := .up }) (x.set SEC_VLEN.VLEN 1))
theorem test_wit_SecurityAndFlashCommands_secVerify : ((wit_SecurityAndFlashCommands_secVerify.unit UnitId.a).allowed (Requester.core 0) true 0x5078 = true) ∧ ((wit_SecurityAndFlashCommands_secVerify.unit UnitId.a).verif.isSome = false) ∧ ((wit_SecurityAndFlashCommands_secVerify.unit UnitId.a).fld SEC_VLEN.VLEN ≠ 0) ∧ ((sramRange ((wit_SecurityAndFlashCommands_secVerify.unit UnitId.a).fld SEC_VMSG.VMSG) ((wit_SecurityAndFlashCommands_secVerify.unit UnitId.a).fld SEC_VLEN.VLEN) && sramRange ((wit_SecurityAndFlashCommands_secVerify.unit UnitId.a).fld SEC_VSIG.VSIG) 96 && sramRange ((wit_SecurityAndFlashCommands_secVerify.unit UnitId.a).fld SEC_VKEY.VKEY) 97) = true) ∧ ((wit_SecurityAndFlashCommands_secVerify.unit UnitId.a).sramOn = true) := by decide +kernel
def wit_SecurityAndFlashCommands_secVerifyCa : State := State.reset.onUnit UnitId.a (fun x => (fun y : UnitSt => { y with boot := .up }) (x.set SEC_VLEN.VLEN 1))
theorem test_wit_SecurityAndFlashCommands_secVerifyCa : ((wit_SecurityAndFlashCommands_secVerifyCa.unit UnitId.a).allowed (Requester.core 0) true 0x5078 = true) ∧ ((wit_SecurityAndFlashCommands_secVerifyCa.unit UnitId.a).verif.isSome = false) ∧ ((wit_SecurityAndFlashCommands_secVerifyCa.unit UnitId.a).fld SEC_VLEN.VLEN ≠ 0) ∧ ((sramRange ((wit_SecurityAndFlashCommands_secVerifyCa.unit UnitId.a).fld SEC_VMSG.VMSG) ((wit_SecurityAndFlashCommands_secVerifyCa.unit UnitId.a).fld SEC_VLEN.VLEN) && sramRange ((wit_SecurityAndFlashCommands_secVerifyCa.unit UnitId.a).fld SEC_VSIG.VSIG) 96) = true) ∧ ((wit_SecurityAndFlashCommands_secVerifyCa.unit UnitId.a).sramOn = true) := by decide +kernel
def wit_SecurityAndFlashCommands_secBusy : State := State.reset.onUnit UnitId.a (fun x => { x with boot := .up, verif := some true })
theorem test_wit_SecurityAndFlashCommands_secBusy : ((wit_SecurityAndFlashCommands_secBusy.unit UnitId.a).allowed (Requester.core 0) true 0x5078 = true) ∧ ((wit_SecurityAndFlashCommands_secBusy.unit UnitId.a).verif.isSome = true) := by decide +kernel
def wit_SecurityAndFlashCommands_secVerifyDone : State := State.reset.onUnit UnitId.a (fun x => { x with verif := some false })
theorem test_wit_SecurityAndFlashCommands_secVerifyDone : ((wit_SecurityAndFlashCommands_secVerifyDone.unit UnitId.a).verif = some false) := by decide +kernel
def wit_SecurityAndFlashCommands_secRaise : State := State.reset.onUnit UnitId.a (fun x => { x with boot := .up, regs := [(0x58, 0)] })
theorem test_wit_SecurityAndFlashCommands_secRaise : ((wit_SecurityAndFlashCommands_secRaise.unit UnitId.a).allowed (Requester.core 0) true 0x5078 = true) ∧ ((wit_SecurityAndFlashCommands_secRaise.unit UnitId.a).verif.isSome = false) ∧ ((wit_SecurityAndFlashCommands_secRaise.unit UnitId.a).bit GEN_BOOT.TRIAL = false) := by decide +kernel
def wit_SecurityAndFlashCommands_secRandom : State := State.reset.onUnit UnitId.a (fun x => { x with boot := .up })
theorem test_wit_SecurityAndFlashCommands_secRandom : ((wit_SecurityAndFlashCommands_secRandom.unit UnitId.a).allowed (Requester.core 0) true 0x5078 = true) ∧ ((wit_SecurityAndFlashCommands_secRandom.unit UnitId.a).verif.isSome = false) ∧ (sramRange ((wit_SecurityAndFlashCommands_secRandom.unit UnitId.a).fld SEC_VMSG.VMSG) 32 = true) ∧ ((wit_SecurityAndFlashCommands_secRandom.unit UnitId.a).sramOn = true) := by decide +kernel
def wit_SecurityAndFlashCommands_flsErase : State := State.reset.onUnit UnitId.a (fun x => { x with boot := .up, regs := [(0x58, 0), (0x6054, 0x1800000), (0x605C, 1)] })
theorem test_wit_SecurityAndFlashCommands_flsErase : ((wit_SecurityAndFlashCommands_flsErase.unit UnitId.a).allowed (Requester.core 0) true 0x6050 = true) ∧ ((wit_SecurityAndFlashCommands_flsErase.unit UnitId.a).fls.isSome = false) ∧ ((wit_SecurityAndFlashCommands_flsErase.unit UnitId.a).fld FLS_LEN.LEN ≠ 0) ∧ (¬ (flashSize < (flsSpan 1 ((wit_SecurityAndFlashCommands_flsErase.unit UnitId.a).fld FLS_ADDR.ADDR) ((wit_SecurityAndFlashCommands_flsErase.unit UnitId.a).fld FLS_LEN.LEN)).2 ∨ (2 ≤ 1 ∧ 1 ≤ 3 ∧ (!(wit_SecurityAndFlashCommands_flsErase.unit UnitId.a).inSram ((wit_SecurityAndFlashCommands_flsErase.unit UnitId.a).fld FLS_SRAM.SRAM) ((wit_SecurityAndFlashCommands_flsErase.unit UnitId.a).fld FLS_LEN.LEN)) = true) ∨ (1 = 4 ∧ 2 * slotSize ≤ (wit_SecurityAndFlashCommands_flsErase.unit UnitId.a).fld FLS_ADDR.ADDR))) ∧ (¬ ((wit_SecurityAndFlashCommands_flsErase.unit UnitId.a).boot = .up ∧ (flsSpan 1 ((wit_SecurityAndFlashCommands_flsErase.unit UnitId.a).fld FLS_ADDR.ADDR) ((wit_SecurityAndFlashCommands_flsErase.unit UnitId.a).fld FLS_LEN.LEN)).1 < slotBase ((wit_SecurityAndFlashCommands_flsErase.unit UnitId.a).fld GEN_BOOT.SLOT) + slotSize ∧ slotBase ((wit_SecurityAndFlashCommands_flsErase.unit UnitId.a).fld GEN_BOOT.SLOT) < (flsSpan 1 ((wit_SecurityAndFlashCommands_flsErase.unit UnitId.a).fld FLS_ADDR.ADDR) ((wit_SecurityAndFlashCommands_flsErase.unit UnitId.a).fld FLS_LEN.LEN)).2)) := by decide +kernel
def wit_SecurityAndFlashCommands_flsProgram : State := State.reset.onUnit UnitId.a (fun x => { x with boot := .up, regs := [(0x58, 0), (0x6054, 0x1800000), (0x605C, 1)] })
theorem test_wit_SecurityAndFlashCommands_flsProgram : ((wit_SecurityAndFlashCommands_flsProgram.unit UnitId.a).allowed (Requester.core 0) true 0x6050 = true) ∧ ((wit_SecurityAndFlashCommands_flsProgram.unit UnitId.a).fls.isSome = false) ∧ ((wit_SecurityAndFlashCommands_flsProgram.unit UnitId.a).fld FLS_LEN.LEN ≠ 0) ∧ (¬ (flashSize < (flsSpan 2 ((wit_SecurityAndFlashCommands_flsProgram.unit UnitId.a).fld FLS_ADDR.ADDR) ((wit_SecurityAndFlashCommands_flsProgram.unit UnitId.a).fld FLS_LEN.LEN)).2 ∨ (2 ≤ 2 ∧ 2 ≤ 3 ∧ (!(wit_SecurityAndFlashCommands_flsProgram.unit UnitId.a).inSram ((wit_SecurityAndFlashCommands_flsProgram.unit UnitId.a).fld FLS_SRAM.SRAM) ((wit_SecurityAndFlashCommands_flsProgram.unit UnitId.a).fld FLS_LEN.LEN)) = true) ∨ (2 = 4 ∧ 2 * slotSize ≤ (wit_SecurityAndFlashCommands_flsProgram.unit UnitId.a).fld FLS_ADDR.ADDR))) ∧ (¬ ((wit_SecurityAndFlashCommands_flsProgram.unit UnitId.a).boot = .up ∧ (flsSpan 2 ((wit_SecurityAndFlashCommands_flsProgram.unit UnitId.a).fld FLS_ADDR.ADDR) ((wit_SecurityAndFlashCommands_flsProgram.unit UnitId.a).fld FLS_LEN.LEN)).1 < slotBase ((wit_SecurityAndFlashCommands_flsProgram.unit UnitId.a).fld GEN_BOOT.SLOT) + slotSize ∧ slotBase ((wit_SecurityAndFlashCommands_flsProgram.unit UnitId.a).fld GEN_BOOT.SLOT) < (flsSpan 2 ((wit_SecurityAndFlashCommands_flsProgram.unit UnitId.a).fld FLS_ADDR.ADDR) ((wit_SecurityAndFlashCommands_flsProgram.unit UnitId.a).fld FLS_LEN.LEN)).2)) := by decide +kernel
def wit_SecurityAndFlashCommands_flsRead : State := State.reset.onUnit UnitId.a (fun x => { x with boot := .up, regs := [(0x58, 0), (0x6054, 0), (0x605C, 1)] })
theorem test_wit_SecurityAndFlashCommands_flsRead : ((wit_SecurityAndFlashCommands_flsRead.unit UnitId.a).allowed (Requester.core 0) true 0x6050 = true) ∧ ((wit_SecurityAndFlashCommands_flsRead.unit UnitId.a).fls.isSome = false) ∧ ((wit_SecurityAndFlashCommands_flsRead.unit UnitId.a).fld FLS_LEN.LEN ≠ 0) ∧ (¬ (flashSize < (flsSpan 3 ((wit_SecurityAndFlashCommands_flsRead.unit UnitId.a).fld FLS_ADDR.ADDR) ((wit_SecurityAndFlashCommands_flsRead.unit UnitId.a).fld FLS_LEN.LEN)).2 ∨ (2 ≤ 3 ∧ 3 ≤ 3 ∧ (!(wit_SecurityAndFlashCommands_flsRead.unit UnitId.a).inSram ((wit_SecurityAndFlashCommands_flsRead.unit UnitId.a).fld FLS_SRAM.SRAM) ((wit_SecurityAndFlashCommands_flsRead.unit UnitId.a).fld FLS_LEN.LEN)) = true) ∨ (3 = 4 ∧ 2 * slotSize ≤ (wit_SecurityAndFlashCommands_flsRead.unit UnitId.a).fld FLS_ADDR.ADDR))) := by decide +kernel
def wit_SecurityAndFlashCommands_flsCheck : State := State.reset.onUnit UnitId.a (fun x => { x with boot := .up, regs := [(0x58, 0), (0x6054, 0), (0x605C, 1)] })
theorem test_wit_SecurityAndFlashCommands_flsCheck : ((wit_SecurityAndFlashCommands_flsCheck.unit UnitId.a).allowed (Requester.core 0) true 0x6050 = true) ∧ ((wit_SecurityAndFlashCommands_flsCheck.unit UnitId.a).fls.isSome = false) ∧ ((wit_SecurityAndFlashCommands_flsCheck.unit UnitId.a).fld FLS_LEN.LEN ≠ 0) ∧ (¬ (flashSize < (flsSpan 4 ((wit_SecurityAndFlashCommands_flsCheck.unit UnitId.a).fld FLS_ADDR.ADDR) ((wit_SecurityAndFlashCommands_flsCheck.unit UnitId.a).fld FLS_LEN.LEN)).2 ∨ (2 ≤ 4 ∧ 4 ≤ 3 ∧ (!(wit_SecurityAndFlashCommands_flsCheck.unit UnitId.a).inSram ((wit_SecurityAndFlashCommands_flsCheck.unit UnitId.a).fld FLS_SRAM.SRAM) ((wit_SecurityAndFlashCommands_flsCheck.unit UnitId.a).fld FLS_LEN.LEN)) = true) ∨ (4 = 4 ∧ 2 * slotSize ≤ (wit_SecurityAndFlashCommands_flsCheck.unit UnitId.a).fld FLS_ADDR.ADDR))) := by decide +kernel
def wit_SecurityAndFlashCommands_flsOpDone : State := State.reset.onUnit UnitId.a (fun x => { x with boot := .up, fls := some ⟨4, 0, 0, 1⟩ })
theorem test_wit_SecurityAndFlashCommands_flsOpDone : ((wit_SecurityAndFlashCommands_flsOpDone.unit UnitId.a).fls = some ((⟨4, 0, 0, 1⟩ : FlsOp))) ∧ ((wit_SecurityAndFlashCommands_flsOpDone.unit UnitId.a).islandOn .fls = true) := by decide +kernel
theorem test_wit_RegisterAccesses_busLow : groupOf unitPairs (TIM_NOW_LO.NS_LO.addr 0) = some [TIM_NOW_LO.NS_LO.addr 0 + 4, TIM_NOW_LO.NS_LO.addr 0 + 8] := by decide +kernel
theorem test_wit_RegisterAccesses_busLatched : groupOf unitPairs 0x4044 = none ∧ (((State.reset.unit .a).onReq (.core 0) (fun r => { r with latch := [(0x4044, 7)] })).req (.core 0)).latch.find? (fun e => e.1 == 0x4044) = some (0x4044, 7) := by decide +kernel
theorem test_wit_RegisterAccesses_regWrite : (((0xF : BitVec 4)) = 0xF ∧ ((0x4044 : BitVec 32)).toNat % 4 = 0) := by decide +kernel
theorem test_wit_RegisterAccesses_regWriteCell : (((0xF : BitVec 4)) = 0xF ∧ ((0x4044 : BitVec 32)).toNat % 4 = 0) := by decide +kernel
theorem test_wit_RegisterAccesses_regWritePart : (¬ (((0x7 : BitVec 4)) = 0xF ∧ ((0x4044 : BitVec 32)).toNat % 4 = 0)) := by decide +kernel
def wit_RegisterAccesses_jtagFlashprogAccess : State := State.reset.onUnit UnitId.a (fun x => (fun y : UnitSt => { y with jtag := { y.jtag with ir := 0x10 } }) (x.set FLS_ERR.NOIMG 1))
theorem test_wit_RegisterAccesses_jtagFlashprogAccess : ((wit_RegisterAccesses_jtagFlashprogAccess.unit UnitId.a).jtag.ir = 0x10 ∧ (wit_RegisterAccesses_jtagFlashprogAccess.unit UnitId.a).bit FLS_ERR.NOIMG = true) := by decide +kernel
def wit_CellSwitchingStage_swChange : State := State.reset.onCell (⟨0, 0⟩ : CellId) (fun x => (x.set CSW_CFG.EAT 0).setLeg 0 { sched := [⟨100, .up, 0, 0⟩] })
theorem test_wit_CellSwitchingStage_swChange : (((wit_CellSwitchingStage_swChange.cell ((⟨0, 0⟩ : CellId))).leg ((0 : Fin 2)).val).sched = [((⟨100, .up, 0, 0⟩ : Chg))]) ∧ (((wit_CellSwitchingStage_swChange.cell ((⟨0, 0⟩ : CellId))).leg ((0 : Fin 2)).val).refr = none) ∧ (((wit_CellSwitchingStage_swChange.cell ((⟨0, 0⟩ : CellId))).leg ((0 : Fin 2)).val).calls = []) ∧ ((wit_CellSwitchingStage_swChange.cell ((⟨0, 0⟩ : CellId))).upcoming ((0 : Fin 2)).val ((⟨100, .up, 0, 0⟩ : Chg)).at_ = []) ∧ ((wit_CellSwitchingStage_swChange.cell ((⟨0, 0⟩ : CellId))).eat = false) := by decide +kernel
theorem test_wit_CellSwitchingStage_showCode : (State.reset.cell ⟨0, 0⟩).sw.codeAt ≤ (⟨100, .up, 0, 0⟩ : Chg).at_ := by decide +kernel
def wit_CellSwitchingStage_gateCall : State := State.reset.onCell (⟨0, 0⟩ : CellId) (fun x => x.setLeg 1 { calls := [(7, .lo)] })
theorem test_wit_CellSwitchingStage_gateCall : (((wit_CellSwitchingStage_gateCall.cell ((⟨0, 0⟩ : CellId))).leg ((1 : Fin 2)).val).calls = (7, Leg.lo) :: (([] : List (Instant × Leg)))) := by decide +kernel
theorem test_wit_CellSwitchingStage_refreshStartNone : ((State.reset.cell ((⟨0, 0⟩ : CellId))).gateOn (2 * ((0 : Fin 2)).val) = none) := by decide +kernel
def wit_CellSwitchingStage_refreshStart : State := State.reset.onCell (⟨0, 0⟩ : CellId) (fun x => ((((x.setWord 0x404C 0x00010001).set CSW_CFG.EAT 0).set CSW_CFG.REFR 1).gateUp 0 100))
theorem test_wit_CellSwitchingStage_refreshStart : ((wit_CellSwitchingStage_refreshStart.cell ((⟨0, 0⟩ : CellId))).gateOn (2 * ((0 : Fin 2)).val) = some 100) ∧ (((wit_CellSwitchingStage_refreshStart.cell ((⟨0, 0⟩ : CellId))).leg ((0 : Fin 2)).val).refr = none) ∧ ((wit_CellSwitchingStage_refreshStart.cell ((⟨0, 0⟩ : CellId))).eat = false) ∧ ((wit_CellSwitchingStage_refreshStart.cell ((⟨0, 0⟩ : CellId))).bit CSW_CFG.REFR = true) ∧ (CSW_REFR.RINT.get ((wit_CellSwitchingStage_refreshStart.cell ((⟨0, 0⟩ : CellId))).refrWord (100 + CSW_REFR.RINT.get ((wit_CellSwitchingStage_refreshStart.cell ((⟨0, 0⟩ : CellId))).word 0x404C) 0 * us)) 0 ≠ 0) ∧ ((wit_CellSwitchingStage_refreshStart.cell ((⟨0, 0⟩ : CellId))).tim.t0 ≤ 100 + CSW_REFR.RINT.get ((wit_CellSwitchingStage_refreshStart.cell ((⟨0, 0⟩ : CellId))).word 0x404C) 0 * us) ∧ (((wit_CellSwitchingStage_refreshStart.cell ((⟨0, 0⟩ : CellId))).leg ((0 : Fin 2)).val).sched = []) ∧ ((wit_CellSwitchingStage_refreshStart.cell ((⟨0, 0⟩ : CellId))).upcoming ((0 : Fin 2)).val (100 + CSW_REFR.RINT.get ((wit_CellSwitchingStage_refreshStart.cell ((⟨0, 0⟩ : CellId))).word 0x404C) 0 * us) = []) := by decide +kernel
theorem test_wit_CellSwitchingStage_refreshEndNone : (((State.reset.cell ((⟨0, 0⟩ : CellId))).leg ((0 : Fin 2)).val).refr = none) := by decide +kernel
def wit_CellSwitchingStage_refreshEnd : State := State.reset.onCell (⟨0, 0⟩ : CellId) (fun x => x.setLeg 0 { refr := some (1, 2, 3) })
theorem test_wit_CellSwitchingStage_refreshEnd : (((wit_CellSwitchingStage_refreshEnd.cell ((⟨0, 0⟩ : CellId))).leg ((0 : Fin 2)).val).refr = some (1, 2, 3)) ∧ (((wit_CellSwitchingStage_refreshEnd.cell ((⟨0, 0⟩ : CellId))).leg ((0 : Fin 2)).val).calls = []) ∧ (((wit_CellSwitchingStage_refreshEnd.cell ((⟨0, 0⟩ : CellId))).leg ((0 : Fin 2)).val).sched = []) := by decide +kernel
def wit_CellSwitchingStage_carrierEdge : State := State.reset.onCell (⟨0, 0⟩ : CellId) (fun x => (fun y : CellSt => { y with pow := .on }) ((((fun y : CellSt => { y with sw := { y.sw with cfgDone := true, last := 0 } }) (x.set CSW_CFG.MODE 1)).set CTIM_SERVO.STATE 2)))
theorem test_wit_CellSwitchingStage_carrierEdge : ((!(wit_CellSwitchingStage_carrierEdge.cell ((⟨0, 0⟩ : CellId))).carrier || (wit_CellSwitchingStage_carrierEdge.cell ((⟨0, 0⟩ : CellId))).sw.last == 3 || (wit_CellSwitchingStage_carrierEdge.cell ((⟨0, 0⟩ : CellId))).held || !(wit_CellSwitchingStage_carrierEdge.cell ((⟨0, 0⟩ : CellId))).works 0x4000) = false) := by decide +kernel
def wit_CellSwitchingStage_carrierTransferQ : State := State.reset.onCell (⟨0, 0⟩ : CellId) (fun x => { x with sw := { x.sw with xfer := some (4000, 0, 9) } })
theorem test_wit_CellSwitchingStage_carrierTransferQ : ((wit_CellSwitchingStage_carrierTransferQ.cell ((⟨0, 0⟩ : CellId))).sw.xfer = some (4000, ((0 : Word)), 9)) := by decide +kernel
def wit_CellSwitchingStage_adoptCoast : State := State.reset.onCell (⟨0, 0⟩ : CellId) (fun x => (fun y : CellSt => { y with pow := .on }) (x))
theorem test_wit_CellSwitchingStage_adoptCoast : ((wit_CellSwitchingStage_adoptCoast.cell ((⟨0, 0⟩ : CellId))).pow = .on ∧ (wit_CellSwitchingStage_adoptCoast.cell ((⟨0, 0⟩ : CellId))).works 0x4000 = true) ∧ ((wit_CellSwitchingStage_adoptCoast.cell ((⟨0, 0⟩ : CellId))).acceptedSlot ((wit_CellSwitchingStage_adoptCoast.cell ((⟨0, 0⟩ : CellId))).pn + 1) = none) := by decide +kernel
def wit_CellSwitchingStage_cmdAdopt : State := State.reset.onCell (⟨0, 0⟩ : CellId) (fun x => (fun y : CellSt => { y with pow := .on }) ({ x with acc := { pn := 1, slotA := some 3 } }))
theorem test_wit_CellSwitchingStage_cmdAdopt : ((wit_CellSwitchingStage_cmdAdopt.cell ((⟨0, 0⟩ : CellId))).pow = .on ∧ (wit_CellSwitchingStage_cmdAdopt.cell ((⟨0, 0⟩ : CellId))).works 0x4000 = true) ∧ ((wit_CellSwitchingStage_cmdAdopt.cell ((⟨0, 0⟩ : CellId))).acceptedSlot ((wit_CellSwitchingStage_cmdAdopt.cell ((⟨0, 0⟩ : CellId))).pn + 1) = some 3) ∧ (((wit_CellSwitchingStage_cmdAdopt.cell ((⟨0, 0⟩ : CellId))).bridge || !(cslotBstate 3 == 2 || cslotAlt 3 == 2)) = true) := by decide +kernel
def wit_CellSwitchingStage_cellBoundary : State := State.reset.onCell (⟨0, 0⟩ : CellId) (fun x => (fun y : CellSt => { y with pow := .on }) (x))
theorem test_wit_CellSwitchingStage_cellBoundary : ((wit_CellSwitchingStage_cellBoundary.cell ((⟨0, 0⟩ : CellId))).islandOn .tim = true) := by decide +kernel
def wit_CellSwitchingStage_cswCfgWrite : State := State.reset.onCell (⟨0, 0⟩ : CellId) (fun x => { x with pow := .on })
theorem test_wit_CellSwitchingStage_cswCfgWrite : (¬ ((wit_CellSwitchingStage_cswCfgWrite.cell ((⟨0, 0⟩ : CellId))).pow = .off ∨ (wit_CellSwitchingStage_cswCfgWrite.cell ((⟨0, 0⟩ : CellId))).pow = .dormant)) ∧ ((wit_CellSwitchingStage_cswCfgWrite.cell ((⟨0, 0⟩ : CellId))).islandOn (cellIsland 0x4040) = true) := by decide +kernel
theorem test_wit_CellSwitchingStage_cfgWrite : CSW_CFG.ZSEL.get (0 : Word) 0 ≠ 3 := by decide +kernel
def wit_CellSwitchingStage_cswCperWrite : State := State.reset.onCell (⟨0, 0⟩ : CellId) (fun x => { x with pow := .on })
theorem test_wit_CellSwitchingStage_cswCperWrite : (¬ ((wit_CellSwitchingStage_cswCperWrite.cell ((⟨0, 0⟩ : CellId))).pow = .off ∨ (wit_CellSwitchingStage_cswCperWrite.cell ((⟨0, 0⟩ : CellId))).pow = .dormant)) ∧ ((wit_CellSwitchingStage_cswCperWrite.cell ((⟨0, 0⟩ : CellId))).islandOn (cellIsland 0x4050) = true) := by decide +kernel
def wit_CellSwitchingStage_cswCdutyWrite : State := State.reset.onCell (⟨0, 0⟩ : CellId) (fun x => { x with pow := .on })
theorem test_wit_CellSwitchingStage_cswCdutyWrite : (¬ ((wit_CellSwitchingStage_cswCdutyWrite.cell ((⟨0, 0⟩ : CellId))).pow = .off ∨ (wit_CellSwitchingStage_cswCdutyWrite.cell ((⟨0, 0⟩ : CellId))).pow = .dormant)) ∧ ((wit_CellSwitchingStage_cswCdutyWrite.cell ((⟨0, 0⟩ : CellId))).islandOn (cellIsland 0x4054) = true) := by decide +kernel
def wit_CellSwitchingStage_cswCcmtCmt : State := State.reset.onCell (⟨0, 0⟩ : CellId) (fun x => { x with pow := .on })
theorem test_wit_CellSwitchingStage_cswCcmtCmt : (¬ ((wit_CellSwitchingStage_cswCcmtCmt.cell ((⟨0, 0⟩ : CellId))).pow = .off ∨ (wit_CellSwitchingStage_cswCcmtCmt.cell ((⟨0, 0⟩ : CellId))).pow = .dormant)) ∧ ((wit_CellSwitchingStage_cswCcmtCmt.cell ((⟨0, 0⟩ : CellId))).islandOn (cellIsland 0x405C) = true) := by decide +kernel
def wit_CellSwitchingStage_cswBypfireWrite : State := State.reset.onCell (⟨0, 0⟩ : CellId) (fun x => { x with pow := .on })
theorem test_wit_CellSwitchingStage_cswBypfireWrite : (¬ ((wit_CellSwitchingStage_cswBypfireWrite.cell ((⟨0, 0⟩ : CellId))).pow = .off ∨ (wit_CellSwitchingStage_cswBypfireWrite.cell ((⟨0, 0⟩ : CellId))).pow = .dormant)) ∧ ((wit_CellSwitchingStage_cswBypfireWrite.cell ((⟨0, 0⟩ : CellId))).islandOn (cellIsland 0x40A4) = true) := by decide +kernel
theorem test_wit_CellMeasurementOutputs_outNone : (!(State.reset.cell ⟨0, 0⟩).running 0 || !(State.reset.cell ⟨0, 0⟩).isReady 0 0) = true := by decide +kernel
theorem test_wit_CellMeasurementOutputs_outRun : (!({ State.reset.cell ⟨0, 0⟩ with pow := .on } : CellSt).running 0 || !({ State.reset.cell ⟨0, 0⟩ with pow := .on } : CellSt).isReady 0 (1600 * ns)) = false := by decide +kernel
theorem test_wit_CellMeasurementOutputs_outOver : overInput (-10066330) = true := by decide +kernel
theorem test_wit_CellMeasurementOutputs_outMain : overInput 10066329 = false ∧ ((State.reset.cell ⟨0, 0⟩).ch 0).wait = false := by decide +kernel
theorem test_wit_CellMeasurementOutputs_winNone : (((State.reset.cell ((⟨0, 0⟩ : CellId))).ch ((0 : Fin 4)).val).starts = []) := by decide +kernel
def wit_CellMeasurementOutputs_windowRestart : State := State.reset.onCell (⟨0, 0⟩ : CellId) (fun x => x.onCh 2 (fun h => { h with starts := [5] }))
theorem test_wit_CellMeasurementOutputs_windowRestart : (((wit_CellMeasurementOutputs_windowRestart.cell ((⟨0, 0⟩ : CellId))).ch ((2 : Fin 4)).val).starts = [5]) := by decide +kernel
def wit_CellMeasurementOutputs_cmeasSyncReq : State := State.reset.onCell (⟨0, 0⟩ : CellId) (fun x => { x with pow := .on })
theorem test_wit_CellMeasurementOutputs_cmeasSyncReq : (¬ ((wit_CellMeasurementOutputs_cmeasSyncReq.cell ((⟨0, 0⟩ : CellId))).pow = .off ∨ (wit_CellMeasurementOutputs_cmeasSyncReq.cell ((⟨0, 0⟩ : CellId))).pow = .dormant)) ∧ ((wit_CellMeasurementOutputs_cmeasSyncReq.cell ((⟨0, 0⟩ : CellId))).islandOn (cellIsland 0x3118) = true) := by decide +kernel
def wit_CellMeasurementOutputs_syncPinEdge : State := State.reset.onCell (⟨0, 0⟩ : CellId) (fun x => (fun y : CellSt => { y with pow := .on }) ((x.set CMEAS_SYNC.SRC 1).set CTMX_DSEL.SEL 1 0))
theorem test_wit_CellMeasurementOutputs_syncPinEdge : (((wit_CellMeasurementOutputs_syncPinEdge.cell ((⟨0, 0⟩ : CellId))).bit CMEAS_SYNC.SRC && (wit_CellMeasurementOutputs_syncPinEdge.cell ((⟨0, 0⟩ : CellId))).fld CTMX_DSEL.SEL 0 == 1 && (wit_CellMeasurementOutputs_syncPinEdge.cell ((⟨0, 0⟩ : CellId))).works 0xA000 && (wit_CellMeasurementOutputs_syncPinEdge.cell ((⟨0, 0⟩ : CellId))).works 0x3000) = true) := by decide +kernel
def wit_CellMeasurementOutputs_cmeasInjWrite : State := State.reset.onCell (⟨0, 0⟩ : CellId) (fun x => (fun y : CellSt => { y with pow := .on }) (x))
theorem test_wit_CellMeasurementOutputs_cmeasInjWrite : (¬ (((wit_CellMeasurementOutputs_cmeasInjWrite.cell ((⟨0, 0⟩ : CellId))).tick 5).pow = .off ∨ ((wit_CellMeasurementOutputs_cmeasInjWrite.cell ((⟨0, 0⟩ : CellId))).tick 5).pow = .dormant)) ∧ (((wit_CellMeasurementOutputs_cmeasInjWrite.cell ((⟨0, 0⟩ : CellId))).tick 5).islandOn (cellIsland 0x30D8) = true) := by decide +kernel
theorem test_wit_CellMeasurementOutputs_injWrite : CMEAS_INJ.CH.get (0xF : Word) 0 ≠ 0 := by decide +kernel
theorem test_wit_CellMeasurementOutputs_injNone : (((State.reset.cell ((⟨0, 0⟩ : CellId))).ch ((3 : Fin 4)).val).inj = none) := by decide +kernel
def wit_CellMeasurementOutputs_injResultReady : State := State.reset.onCell (⟨0, 0⟩ : CellId) (fun x => (fun y : CellSt => { y with pow := .on }) (x.onCh 3 (fun h => { h with inj := some (1, 9) })))
theorem test_wit_CellMeasurementOutputs_injResultReady : (((wit_CellMeasurementOutputs_injResultReady.cell ((⟨0, 0⟩ : CellId))).ch ((3 : Fin 4)).val).inj = some (1, 9)) ∧ ((wit_CellMeasurementOutputs_injResultReady.cell ((⟨0, 0⟩ : CellId))).running ((3 : Fin 4)).val = true) := by decide +kernel
def wit_CellMeasurementOutputs_injresRead : State := State.reset.onCell (⟨0, 0⟩ : CellId) (fun x => (fun y : CellSt => { y with pow := .on }) (x))
theorem test_wit_CellMeasurementOutputs_injresRead : (¬ ((wit_CellMeasurementOutputs_injresRead.cell ((⟨0, 0⟩ : CellId))).pow = .off ∨ (wit_CellMeasurementOutputs_injresRead.cell ((⟨0, 0⟩ : CellId))).pow = .dormant)) ∧ ((wit_CellMeasurementOutputs_injresRead.cell ((⟨0, 0⟩ : CellId))).islandOn (cellIsland (0x30E0 + 4 * ((3 : Fin 4)).val)) = true) := by decide +kernel
def wit_CellSpareRotation_spareCalibDone : State := State.reset.onCell (⟨0, 0⟩ : CellId) (fun x => (fun y : CellSt => { y with pow := .on }) (x))
theorem test_wit_CellSpareRotation_spareCalibDone : ((wit_CellSpareRotation_spareCalibDone.cell ((⟨0, 0⟩ : CellId))).rotState ≤ 1 ∧ (wit_CellSpareRotation_spareCalibDone.cell ((⟨0, 0⟩ : CellId))).spare < 5 ∧ (wit_CellSpareRotation_spareCalibDone.cell ((⟨0, 0⟩ : CellId))).idleMeas = false ∧ (wit_CellSpareRotation_spareCalibDone.cell ((⟨0, 0⟩ : CellId))).pow = .on ∧ (wit_CellSpareRotation_spareCalibDone.cell ((⟨0, 0⟩ : CellId))).works 0x3000 = true) := by decide +kernel
def wit_CellSpareRotation_rotationStepStart : State := State.reset.onCell (⟨0, 0⟩ : CellId) (fun x => (fun y : CellSt => { y with pow := .on }) ((x.set CMEAS_ROT.STATE 1).set CMEAS_ROT.INTERVAL 1))
theorem test_wit_CellSpareRotation_rotationStepStart : ((wit_CellSpareRotation_rotationStepStart.cell ((⟨0, 0⟩ : CellId))).rotState = 1 ∧ (wit_CellSpareRotation_rotationStepStart.cell ((⟨0, 0⟩ : CellId))).rotInterval ≠ 0 ∧ (wit_CellSpareRotation_rotationStepStart.cell ((⟨0, 0⟩ : CellId))).rot.stepAt + (wit_CellSpareRotation_rotationStepStart.cell ((⟨0, 0⟩ : CellId))).rotInterval ≤ 1000000000000000000 ∧ (wit_CellSpareRotation_rotationStepStart.cell ((⟨0, 0⟩ : CellId))).idleMeas = false ∧ (wit_CellSpareRotation_rotationStepStart.cell ((⟨0, 0⟩ : CellId))).pow = .on ∧ (wit_CellSpareRotation_rotationStepStart.cell ((⟨0, 0⟩ : CellId))).works 0x3000 = true) := by decide +kernel
def wit_CellSpareRotation_spareSettled : State := State.reset.onCell (⟨0, 0⟩ : CellId) (fun x => (fun y : CellSt => { y with pow := .on }) ((x.set CMEAS_ROT.STATE 2)))
theorem test_wit_CellSpareRotation_spareSettled : ((wit_CellSpareRotation_spareSettled.cell ((⟨0, 0⟩ : CellId))).rotState = 2 ∧ (wit_CellSpareRotation_spareSettled.cell ((⟨0, 0⟩ : CellId))).rot.pass = 0 ∧ (wit_CellSpareRotation_spareSettled.cell ((⟨0, 0⟩ : CellId))).idleMeas = false ∧ (wit_CellSpareRotation_spareSettled.cell ((⟨0, 0⟩ : CellId))).pow = .on) := by decide +kernel
def wit_CellSpareRotation_spareCompareDone : State := State.reset.onCell (⟨0, 0⟩ : CellId) (fun x => (fun y : CellSt => { y with pow := .on }) ((fun y : CellSt => { y with rot := { y.rot with diffs := List.replicate 64 0 } }) ((x.set CMEAS_ROT.STATE 3))))
theorem test_wit_CellSpareRotation_spareCompareDone : ((wit_CellSpareRotation_spareCompareDone.cell ((⟨0, 0⟩ : CellId))).rotState = 3 ∧ (wit_CellSpareRotation_spareCompareDone.cell ((⟨0, 0⟩ : CellId))).rot.agreed = false ∧ (wit_CellSpareRotation_spareCompareDone.cell ((⟨0, 0⟩ : CellId))).rot.diffs.length = 64 ∧ (wit_CellSpareRotation_spareCompareDone.cell ((⟨0, 0⟩ : CellId))).idleMeas = false ∧ (wit_CellSpareRotation_spareCompareDone.cell ((⟨0, 0⟩ : CellId))).pow = .on) := by decide +kernel
def wit_CellSpareRotation_sliceSwap : State := State.reset.onCell (⟨0, 0⟩ : CellId) (fun x => (fun y : CellSt => { y with pow := .on }) ((fun y : CellSt => { y with rot := { y.rot with agreed := true } }) ((x.set CMEAS_ROT.STATE 3))))
theorem test_wit_CellSpareRotation_sliceSwap : (((wit_CellSpareRotation_sliceSwap.cell ((⟨0, 0⟩ : CellId))).rotState = 3 ∨ (wit_CellSpareRotation_sliceSwap.cell ((⟨0, 0⟩ : CellId))).rotState = 4) ∧ (wit_CellSpareRotation_sliceSwap.cell ((⟨0, 0⟩ : CellId))).rot.agreed = true ∧ (wit_CellSpareRotation_sliceSwap.cell ((⟨0, 0⟩ : CellId))).idleMeas = false ∧ (wit_CellSpareRotation_sliceSwap.cell ((⟨0, 0⟩ : CellId))).pow = .on ∧ (wit_CellSpareRotation_sliceSwap.cell ((⟨0, 0⟩ : CellId))).swapAt (1600 * ns) = true) ∧ (((wit_CellSpareRotation_sliceSwap.cell ((⟨0, 0⟩ : CellId))).ch (wit_CellSpareRotation_sliceSwap.cell ((⟨0, 0⟩ : CellId))).target).inj = none) ∧ ((wit_CellSpareRotation_sliceSwap.cell ((⟨0, 0⟩ : CellId))).rot.take = false) := by decide +kernel
def wit_CellSpareRotation_swapSkip : State := State.reset.onCell (⟨0, 0⟩ : CellId) (fun x => (fun y : CellSt => { y with pow := .on }) ((fun y : CellSt => { y with rot := { y.rot with due := some 4 } }) (((x.set CMEAS_ROT.STATE 4)).onCh 0 (fun h => { h with inj := some (1, 9) }))))
theorem test_wit_CellSpareRotation_swapSkip : ((wit_CellSpareRotation_swapSkip.cell ((⟨0, 0⟩ : CellId))).rot.due = some 4) ∧ ((wit_CellSpareRotation_swapSkip.cell ((⟨0, 0⟩ : CellId))).rotState = 4 ∧ ((wit_CellSpareRotation_swapSkip.cell ((⟨0, 0⟩ : CellId))).ch (wit_CellSpareRotation_swapSkip.cell ((⟨0, 0⟩ : CellId))).target).inj.isSome = true ∧ (wit_CellSpareRotation_swapSkip.cell ((⟨0, 0⟩ : CellId))).idleMeas = false ∧ (9600 * ns) = (wit_CellSpareRotation_swapSkip.cell ((⟨0, 0⟩ : CellId))).readyUpTo (wit_CellSpareRotation_swapSkip.cell ((⟨0, 0⟩ : CellId))).target (4 + (wit_CellSpareRotation_swapSkip.cell ((⟨0, 0⟩ : CellId))).period)) := by decide +kernel
def wit_CellSpareRotation_rotationStepSkip : State := State.reset.onCell (⟨0, 0⟩ : CellId) (fun x => (fun y : CellSt => { y with pow := .on }) (((x.set CMEAS_ROT.STATE 2)).set CMEAS_CHCFG.MODE 1 0))
theorem test_wit_CellSpareRotation_rotationStepSkip : (((wit_CellSpareRotation_rotationStepSkip.cell ((⟨0, 0⟩ : CellId))).rotState = 2 ∨ (wit_CellSpareRotation_rotationStepSkip.cell ((⟨0, 0⟩ : CellId))).rotState = 3) ∧ (wit_CellSpareRotation_rotationStepSkip.cell ((⟨0, 0⟩ : CellId))).rot.agreed = false ∧ (wit_CellSpareRotation_rotationStepSkip.cell ((⟨0, 0⟩ : CellId))).rot.take = false ∧ (wit_CellSpareRotation_rotationStepSkip.cell ((⟨0, 0⟩ : CellId))).rot.diffs.length < 64 ∧ (wit_CellSpareRotation_rotationStepSkip.cell ((⟨0, 0⟩ : CellId))).chMode (wit_CellSpareRotation_rotationStepSkip.cell ((⟨0, 0⟩ : CellId))).target ≠ 0 ∧ (wit_CellSpareRotation_rotationStepSkip.cell ((⟨0, 0⟩ : CellId))).rot.stepAt + (wit_CellSpareRotation_rotationStepSkip.cell ((⟨0, 0⟩ : CellId))).rotInterval ≤ 1000000000000000000 ∧ (wit_CellSpareRotation_rotationStepSkip.cell ((⟨0, 0⟩ : CellId))).idleMeas = false) := by decide +kernel
def wit_CellSpareRotation_cmeasRetireWrite : State := State.reset.onCell (⟨0, 0⟩ : CellId) (fun x => { x with pow := .on })
theorem test_wit_CellSpareRotation_cmeasRetireWrite : (¬ ((wit_CellSpareRotation_cmeasRetireWrite.cell ((⟨0, 0⟩ : CellId))).pow = .off ∨ (wit_CellSpareRotation_cmeasRetireWrite.cell ((⟨0, 0⟩ : CellId))).pow = .dormant)) ∧ ((wit_CellSpareRotation_cmeasRetireWrite.cell ((⟨0, 0⟩ : CellId))).islandOn (cellIsland 0x3064) = true) := by decide +kernel
def wit_CellPowerAndResets_cgenRstWrite : State := State.reset.onCell (⟨0, 0⟩ : CellId) (fun x => (fun y : CellSt => { y with pow := .on }) (x))
theorem test_wit_CellPowerAndResets_cgenRstWrite : (¬ ((wit_CellPowerAndResets_cgenRstWrite.cell ((⟨0, 0⟩ : CellId))).pow = .off ∨ (wit_CellPowerAndResets_cgenRstWrite.cell ((⟨0, 0⟩ : CellId))).pow = .dormant)) ∧ ((wit_CellPowerAndResets_cgenRstWrite.cell ((⟨0, 0⟩ : CellId))).islandOn (cellIsland 0x4C) = true) := by decide +kernel
def wit_CellPowerAndResets_cprotPwrreqWrite : State := State.reset.onCell (⟨0, 0⟩ : CellId) (fun x => { x with pow := .on })
theorem test_wit_CellPowerAndResets_cprotPwrreqWrite : (¬ ((wit_CellPowerAndResets_cprotPwrreqWrite.cell ((⟨0, 0⟩ : CellId))).pow = .off ∨ (wit_CellPowerAndResets_cprotPwrreqWrite.cell ((⟨0, 0⟩ : CellId))).pow = .dormant)) ∧ ((wit_CellPowerAndResets_cprotPwrreqWrite.cell ((⟨0, 0⟩ : CellId))).islandOn (cellIsland 0x506C) = true) := by decide +kernel
def wit_CellPowerAndResets_dormantLinkTimeout : State := State.reset.onCell (⟨0, 0⟩ : CellId) (fun x => (fun y : CellSt => { y with lnkA := { y.lnkA with lostAt := some 1 }, lnkB := { y.lnkB with lostAt := some 2 } }) ((x.set CPROT_PWR.VDORM 1).onCh 0 (fun h => { h with valid := true })))
theorem test_wit_CellPowerAndResets_dormantLinkTimeout : ((wit_CellPowerAndResets_dormantLinkTimeout.cell ((⟨0, 0⟩ : CellId))).lnkA.lostAt = some 1) ∧ ((wit_CellPowerAndResets_dormantLinkTimeout.cell ((⟨0, 0⟩ : CellId))).lnkB.lostAt = some 2) ∧ ((wit_CellPowerAndResets_dormantLinkTimeout.cell ((⟨0, 0⟩ : CellId))).pow = .idle ∧ (wit_CellPowerAndResets_dormantLinkTimeout.cell ((⟨0, 0⟩ : CellId))).belowDorm = true ∧ max 1 2 + 100000 * us ≤ 1000000000000000) := by decide +kernel
def wit_CellPowerAndResets_cellWakeLight : State := State.reset.onCell (⟨0, 0⟩ : CellId) (fun x => { x with pow := .dormant })
theorem test_wit_CellPowerAndResets_cellWakeLight : ((wit_CellPowerAndResets_cellWakeLight.cell ((⟨0, 0⟩ : CellId))).pow = .dormant) := by decide +kernel
def wit_CellPowerAndResets_cellWakeCharge : State := State.reset.onCell (⟨0, 0⟩ : CellId) (fun x => { x with pow := .dormant })
theorem test_wit_CellPowerAndResets_cellWakeCharge : ((wit_CellPowerAndResets_cellWakeCharge.cell ((⟨0, 0⟩ : CellId))).pow = .dormant) := by decide +kernel
def wit_CellPowerAndResets_cellStrandReset : State := State.reset.onCell (⟨0, 0⟩ : CellId) (fun x => { x with pow := .on, rstPend := some { pn := 7, due := 9, toA := true, toB := true } })
theorem test_wit_CellPowerAndResets_cellStrandReset : ((wit_CellPowerAndResets_cellStrandReset.cell ((⟨0, 0⟩ : CellId))).rstPend = some (({ pn := 7, due := 9, toA := true, toB := true } : RstPend))) ∧ (((wit_CellPowerAndResets_cellStrandReset.cell ((⟨0, 0⟩ : CellId))).islandOn .lnk && ((({ pn := 7, due := 9, toA := true, toB := true } : RstPend)).toA && (({ pn := 7, due := 9, toA := true, toB := true } : RstPend)).toB || decide ((({ pn := 7, due := 9, toA := true, toB := true } : RstPend)).due ≤ 0))) = true) := by decide +kernel
def wit_CellTripsSupplyAndLease_cellTripInput : State := State.reset.onCell (⟨0, 0⟩ : CellId) (fun x => (fun y : CellSt => { y with pow := .on }) (x))
theorem test_wit_CellTripsSupplyAndLease_cellTripInput : ((wit_CellTripsSupplyAndLease_cellTripInput.cell ((⟨0, 0⟩ : CellId))).protOn = true) := by decide +kernel
theorem test_wit_CellTripsSupplyAndLease_tripEffect : bitAt ((State.reset.cell ⟨0, 0⟩).fld CPROT_LATCH.LATCH) 0 = false := by decide +kernel
def wit_CellTripsSupplyAndLease_blankEnd : State := State.reset.onCell (⟨0, 0⟩ : CellId) (fun x => (fun y : CellSt => { y with pow := .on }) ((x.set CPROT_TRIPCFG.EN 1 0).setRaw 0 true))
theorem test_wit_CellTripsSupplyAndLease_blankEnd : (((wit_CellTripsSupplyAndLease_blankEnd.cell ((⟨0, 0⟩ : CellId))).protOn && (wit_CellTripsSupplyAndLease_blankEnd.cell ((⟨0, 0⟩ : CellId))).tripEn ((0 : Fin 4)).val && (wit_CellTripsSupplyAndLease_blankEnd.cell ((⟨0, 0⟩ : CellId))).rawOn ((0 : Fin 4)).val && ((wit_CellTripsSupplyAndLease_blankEnd.cell ((⟨0, 0⟩ : CellId))).activeSince ((0 : Fin 4)).val).isNone && !(wit_CellTripsSupplyAndLease_blankEnd.cell ((⟨0, 0⟩ : CellId))).blanked ((0 : Fin 4)).val 7) = true) := by decide +kernel
def wit_CellTripsSupplyAndLease_tripBypassDelay : State := State.reset.onCell (⟨0, 0⟩ : CellId) (fun x => (fun y : CellSt => { y with pow := .on }) ((((x.set CPROT_TRIPCFG.EN 1 0).set CPROT_TRIPCFG.ACT 1 0).setSince 0 (some 1))))
theorem test_wit_CellTripsSupplyAndLease_tripBypassDelay : ((wit_CellTripsSupplyAndLease_tripBypassDelay.cell ((⟨0, 0⟩ : CellId))).activeSince ((0 : Fin 5)).val = some 1) ∧ (((wit_CellTripsSupplyAndLease_tripBypassDelay.cell ((⟨0, 0⟩ : CellId))).protOn && (wit_CellTripsSupplyAndLease_tripBypassDelay.cell ((⟨0, 0⟩ : CellId))).tripEn ((0 : Fin 5)).val && (wit_CellTripsSupplyAndLease_tripBypassDelay.cell ((⟨0, 0⟩ : CellId))).tripAct ((0 : Fin 5)).val && decide (1 + (wit_CellTripsSupplyAndLease_tripBypassDelay.cell ((⟨0, 0⟩ : CellId))).fld CPROT_BYPDLY.BYPDLY * us ≤ 100000000000000)) = true) ∧ ((((wit_CellTripsSupplyAndLease_tripBypassDelay.cell ((⟨0, 0⟩ : CellId))).tick 100000000000000).bit CSW_BYPSTAT.FIRED) = false) := by decide +kernel
def wit_CellTripsSupplyAndLease_cprotTripclrWrite : State := State.reset.onCell (⟨0, 0⟩ : CellId) (fun x => { x with pow := .on })
theorem test_wit_CellTripsSupplyAndLease_cprotTripclrWrite : (¬ ((wit_CellTripsSupplyAndLease_cprotTripclrWrite.cell ((⟨0, 0⟩ : CellId))).pow = .off ∨ (wit_CellTripsSupplyAndLease_cprotTripclrWrite.cell ((⟨0, 0⟩ : CellId))).pow = .dormant)) ∧ ((wit_CellTripsSupplyAndLease_cprotTripclrWrite.cell ((⟨0, 0⟩ : CellId))).islandOn (cellIsland 0x505C) = true) := by decide +kernel
def wit_CellTripsSupplyAndLease_cellCoreWdogExpire : State := State.reset.onCell (⟨0, 0⟩ : CellId) (fun y : CellSt => { y with pow := .on })
theorem test_wit_CellTripsSupplyAndLease_cellCoreWdogExpire : (((wit_CellTripsSupplyAndLease_cellCoreWdogExpire.cell ((⟨⟨0, 0⟩, 10000 * us⟩ : CellAt)).cell).coreRuns ((⟨⟨0, 0⟩, 10000 * us⟩ : CellAt)).at_ && decide ((wit_CellTripsSupplyAndLease_cellCoreWdogExpire.cell ((⟨⟨0, 0⟩, 10000 * us⟩ : CellAt)).cell).prot.coreAt + 10000 * us ≤ ((⟨⟨0, 0⟩, 10000 * us⟩ : CellAt)).at_)) = true) := by decide +kernel
def wit_CellTripsSupplyAndLease_protClockFail : State := State.reset.onCell (⟨0, 0⟩ : CellId) (fun x => (fun y : CellSt => { y with pow := .on }) (x))
theorem test_wit_CellTripsSupplyAndLease_protClockFail : ((wit_CellTripsSupplyAndLease_protClockFail.cell ((⟨0, 0⟩ : CellId))).protOn = true) := by decide +kernel
def wit_CellTripsSupplyAndLease_supTurnOn : State := State.reset.onCell (⟨0, 0⟩ : CellId) (fun x => (fun y : CellSt => { y with pow := .on }) ((x.set CSUP_CFG.EN 1).set CSUP_VSET.VSET 100))
theorem test_wit_CellTripsSupplyAndLease_supTurnOn : (((wit_CellTripsSupplyAndLease_supTurnOn.cell ((⟨0, 0⟩ : CellId))).protOn && (wit_CellTripsSupplyAndLease_supTurnOn.cell ((⟨0, 0⟩ : CellId))).bit CSUP_CFG.EN && (wit_CellTripsSupplyAndLease_supTurnOn.cell ((⟨0, 0⟩ : CellId))).works 0x6000 && !(wit_CellTripsSupplyAndLease_supTurnOn.cell ((⟨0, 0⟩ : CellId))).sup.drv && (wit_CellTripsSupplyAndLease_supTurnOn.cell ((⟨0, 0⟩ : CellId))).sup.hu.isNone && decide ((wit_CellTripsSupplyAndLease_supTurnOn.cell ((⟨0, 0⟩ : CellId))).offEnd 10000000000000 ≤ 10000000000000) && decide (0 < (wit_CellTripsSupplyAndLease_supTurnOn.cell ((⟨0, 0⟩ : CellId))).fld CSUP_VSET.VSET * 40)) = true) := by decide +kernel
def wit_CellTripsSupplyAndLease_supTurnOff : State := State.reset.onCell (⟨0, 0⟩ : CellId) (fun x => (fun y : CellSt => { y with pow := .on }) ({ x with sup := { x.sup with drv := true } }))
theorem test_wit_CellTripsSupplyAndLease_supTurnOff : ((wit_CellTripsSupplyAndLease_supTurnOff.cell ((⟨0, 0⟩ : CellId))).sup.drv = true) ∧ ((wit_CellTripsSupplyAndLease_supTurnOff.cell ((⟨0, 0⟩ : CellId))).sup.since + supSpan ((wit_CellTripsSupplyAndLease_supTurnOff.cell ((⟨0, 0⟩ : CellId))).fld CSUP_TIME.TON) ≤ 10000000000000) := by decide +kernel
def wit_CellTripsSupplyAndLease_supTurnOffLimit : State := State.reset.onCell (⟨0, 0⟩ : CellId) (fun x => (fun y : CellSt => { y with pow := .on }) ({ x.set CSUP_TIME.TON 255 with sup := { x.sup with drv := true } }))
theorem test_wit_CellTripsSupplyAndLease_supTurnOffLimit : ((wit_CellTripsSupplyAndLease_supTurnOffLimit.cell ((⟨0, 0⟩ : CellId))).sup.drv = true) ∧ ((wit_CellTripsSupplyAndLease_supTurnOffLimit.cell ((⟨0, 0⟩ : CellId))).ipk16 (supSpan ((State.reset.cell ⟨0, 0⟩).fld CSUP_LIM.LEB)) ≤ 16 * ((⟨1000, 0⟩ : SupSense)).sscs) ∧ ((wit_CellTripsSupplyAndLease_supTurnOffLimit.cell ((⟨0, 0⟩ : CellId))).sup.since + supSpan ((wit_CellTripsSupplyAndLease_supTurnOffLimit.cell ((⟨0, 0⟩ : CellId))).fld CSUP_LIM.LEB) ≤ (supSpan ((State.reset.cell ⟨0, 0⟩).fld CSUP_LIM.LEB))) ∧ ((supSpan ((State.reset.cell ⟨0, 0⟩).fld CSUP_LIM.LEB)) < (wit_CellTripsSupplyAndLease_supTurnOffLimit.cell ((⟨0, 0⟩ : CellId))).sup.since + supSpan ((wit_CellTripsSupplyAndLease_supTurnOffLimit.cell ((⟨0, 0⟩ : CellId))).fld CSUP_TIME.TON)) := by decide +kernel
def wit_CellTripsSupplyAndLease_softStartEnd : State := State.reset.onCell (⟨0, 0⟩ : CellId) (fun x => (fun y : CellSt => { y with pow := .on }) (x))
theorem test_wit_CellTripsSupplyAndLease_softStartEnd : (((wit_CellTripsSupplyAndLease_softStartEnd.cell ((⟨0, 0⟩ : CellId))).protOn && !(wit_CellTripsSupplyAndLease_softStartEnd.cell ((⟨0, 0⟩ : CellId))).bit CSUP_STAT.SSDONE && decide ((wit_CellTripsSupplyAndLease_softStartEnd.cell ((⟨0, 0⟩ : CellId))).sup.ssAt + max 1 ((wit_CellTripsSupplyAndLease_softStartEnd.cell ((⟨0, 0⟩ : CellId))).fld CSUP_CFG.SST) * 1000 * us ≤ 1000000000000000000)) = true) := by decide +kernel
def wit_CellTripsSupplyAndLease_supOvStop : State := State.reset.onCell (⟨0, 0⟩ : CellId) (fun x => (fun y : CellSt => { y with pow := .on }) (x))
theorem test_wit_CellTripsSupplyAndLease_supOvStop : (((wit_CellTripsSupplyAndLease_supOvStop.cell ((⟨0, 0⟩ : CellId))).protOn && !(wit_CellTripsSupplyAndLease_supOvStop.cell ((⟨0, 0⟩ : CellId))).sup.ovStop && (wit_CellTripsSupplyAndLease_supOvStop.cell ((⟨0, 0⟩ : CellId))).works 0x6000) = true) := by decide +kernel
def wit_CellTripsSupplyAndLease_holdupReq : State := State.reset.onCell (⟨0, 0⟩ : CellId) (fun x => { x with pow := .on })
theorem test_wit_CellTripsSupplyAndLease_holdupReq : (¬ ((wit_CellTripsSupplyAndLease_holdupReq.cell ((⟨0, 0⟩ : CellId))).pow = .off ∨ (wit_CellTripsSupplyAndLease_holdupReq.cell ((⟨0, 0⟩ : CellId))).pow = .dormant)) ∧ ((wit_CellTripsSupplyAndLease_holdupReq.cell ((⟨0, 0⟩ : CellId))).islandOn (cellIsland 0x6054) = true) := by decide +kernel
theorem test_wit_CellTripsSupplyAndLease_huWrite : CSUP_HU.REQ.get (0xFFFFFFFF : Word) 0 ≠ 0 := by decide +kernel
theorem test_wit_CellTripsSupplyAndLease_holdupEndNone : ((State.reset.cell ((⟨0, 0⟩ : CellId))).sup.hu = none) := by decide +kernel
def wit_CellTripsSupplyAndLease_holdupEnd : State := State.reset.onCell (⟨0, 0⟩ : CellId) (fun x => (fun y : CellSt => { y with pow := .on }) ({ x with sup := { x.sup with hu := some (0, 1) } }))
theorem test_wit_CellTripsSupplyAndLease_holdupEnd : ((wit_CellTripsSupplyAndLease_holdupEnd.cell ((⟨0, 0⟩ : CellId))).sup.hu = some (((0 : Int)), 1)) ∧ (1 + (wit_CellTripsSupplyAndLease_holdupEnd.cell ((⟨0, 0⟩ : CellId))).fld CSUP_HU.WIN * us ≤ 100000000000000000 ∨ (((wit_CellTripsSupplyAndLease_holdupEnd.cell ((⟨0, 0⟩ : CellId))).fld CSUP_HU.DROP * 40 * 8388608 : Nat) : Int) ≤ (((0 : Int)) - toInt 24 ((wit_CellTripsSupplyAndLease_holdupEnd.cell ((⟨0, 0⟩ : CellId))).fld CMEAS_RES.VALUE 3)) * 40960) := by decide +kernel
def wit_CellTripsSupplyAndLease_leaseExpire : State := State.reset.onCell (⟨0, 0⟩ : CellId) (fun x => (fun y : CellSt => { y with pow := .on }) (x.set CPROT_LEASE.HOLDER 1))
theorem test_wit_CellTripsSupplyAndLease_leaseExpire : (((wit_CellTripsSupplyAndLease_leaseExpire.cell ((⟨0, 0⟩ : CellId))).protOn && (wit_CellTripsSupplyAndLease_leaseExpire.cell ((⟨0, 0⟩ : CellId))).fld CPROT_LEASE.HOLDER != 0 && !(wit_CellTripsSupplyAndLease_leaseExpire.cell ((⟨0, 0⟩ : CellId))).bit CPROT_LEASE.EXP && decide ((wit_CellTripsSupplyAndLease_leaseExpire.cell ((⟨0, 0⟩ : CellId))).exppn ≤ (wit_CellTripsSupplyAndLease_leaseExpire.cell ((⟨0, 0⟩ : CellId))).pn)) = true) := by decide +kernel
def wit_CellTripsSupplyAndLease_orphanBlock : State := State.reset.onCell (⟨0, 0⟩ : CellId) (fun x => (fun y : CellSt => { y with pow := .on }) ((fun y : CellSt => { y with prot := { y.prot with orphN := 100000 } }) (x.set CPROT_OSTAT.ORPHAN 1)))
theorem test_wit_CellTripsSupplyAndLease_orphanBlock : (((wit_CellTripsSupplyAndLease_orphanBlock.cell ((⟨0, 0⟩ : CellId))).pow == .on && (wit_CellTripsSupplyAndLease_orphanBlock.cell ((⟨0, 0⟩ : CellId))).bit CPROT_OSTAT.ORPHAN && decide ((wit_CellTripsSupplyAndLease_orphanBlock.cell ((⟨0, 0⟩ : CellId))).fld CPROT_ORPH.COAST < (wit_CellTripsSupplyAndLease_orphanBlock.cell ((⟨0, 0⟩ : CellId))).prot.orphN)) = true) := by decide +kernel
def wit_CellTripsSupplyAndLease_orphanBypass : State := State.reset.onCell (⟨0, 0⟩ : CellId) (fun x => (fun y : CellSt => { y with pow := .on }) ((x.set CPROT_OSTAT.ORPHAN 1).set CPROT_ORPH.OTIME 1))
theorem test_wit_CellTripsSupplyAndLease_orphanBypass : (((wit_CellTripsSupplyAndLease_orphanBypass.cell ((⟨0, 0⟩ : CellId))).pow == .on && (wit_CellTripsSupplyAndLease_orphanBypass.cell ((⟨0, 0⟩ : CellId))).bit CPROT_OSTAT.ORPHAN && (wit_CellTripsSupplyAndLease_orphanBypass.cell ((⟨0, 0⟩ : CellId))).fld CPROT_ORPH.OTIME != 0 && decide ((wit_CellTripsSupplyAndLease_orphanBypass.cell ((⟨0, 0⟩ : CellId))).prot.orphAt + (wit_CellTripsSupplyAndLease_orphanBypass.cell ((⟨0, 0⟩ : CellId))).fld CPROT_ORPH.OTIME * 1000 * us ≤ 1000000000000000000)) = true) := by decide +kernel
def wit_CellTripsSupplyAndLease_leaseClear : State := State.reset.onCell (⟨0, 0⟩ : CellId) (fun x => { x with pow := .on })
theorem test_wit_CellTripsSupplyAndLease_leaseClear : (¬ ((wit_CellTripsSupplyAndLease_leaseClear.cell ((⟨0, 0⟩ : CellId))).pow = .off ∨ (wit_CellTripsSupplyAndLease_leaseClear.cell ((⟨0, 0⟩ : CellId))).pow = .dormant)) ∧ ((wit_CellTripsSupplyAndLease_leaseClear.cell ((⟨0, 0⟩ : CellId))).islandOn (cellIsland 0x5098) = true) := by decide +kernel
def wit_CellFrames_cmdFrameRx : State := State.reset.onCell (⟨0, 0⟩ : CellId) (fun x => (fun y : CellSt => { y with pow := .on }) ((x).set CLNK_STAT.LOCK 1 0))
theorem test_wit_CellFrames_cmdFrameRx : ((wit_CellFrames_cmdFrameRx.cell ((⟨0, 0⟩ : CellId))).hears UnitId.a = true) ∧ (byteAt ((⟨[85, 1], 3⟩ : RxFrame)).bytes 1 = 1 ∨ byteAt ((⟨[85, 1], 3⟩ : RxFrame)).bytes 1 = 2) := by decide +kernel
def wit_CellFrames_cmdFrameRxCode : State := State.reset.onCell (⟨0, 0⟩ : CellId) (fun x => (fun y : CellSt => { y with pow := .on }) ((x).set CLNK_STAT.LOCK 1 0))
theorem test_wit_CellFrames_cmdFrameRxCode : ((wit_CellFrames_cmdFrameRxCode.cell ((⟨0, 0⟩ : CellId))).hears UnitId.a = true) ∧ (¬ (byteAt ((⟨[85, 7], 0⟩ : RxFrame)).bytes 1 = 1 ∨ byteAt ((⟨[85, 7], 0⟩ : RxFrame)).bytes 1 = 2)) ∧ (¬ (1 ≤ byteAt ((⟨[85, 7], 0⟩ : RxFrame)).bytes 1 ∧ byteAt ((⟨[85, 7], 0⟩ : RxFrame)).bytes 1 ≤ 4)) := by decide +kernel
def wit_CellFrames_statusLatch : State := State.reset.onCell (⟨0, 0⟩ : CellId) (fun x => (fun y : CellSt => { y with pow := .on }) (x))
theorem test_wit_CellFrames_statusLatch : (((wit_CellFrames_statusLatch.cell ((⟨0, 0⟩ : CellId))).islandOn .lnk && ((wit_CellFrames_statusLatch.cell ((⟨0, 0⟩ : CellId))).pow != .idle || (wit_CellFrames_statusLatch.cell ((⟨0, 0⟩ : CellId))).pn % 64 == 0 && decide ((wit_CellFrames_statusLatch.cell ((⟨0, 0⟩ : CellId))).rateFrom ≤ (wit_CellFrames_statusLatch.cell ((⟨0, 0⟩ : CellId))).tim.t0))) = true) := by decide +kernel
def wit_CellFrames_servoLocked : State := State.reset.onCell (⟨0, 0⟩ : CellId) (fun x => (fun y : CellSt => { y with pow := .on }) ((x.set CTIM_SERVO.STATE 1).set CTIM_SERVO.LOCKCNT 64))
theorem test_wit_CellFrames_servoLocked : ((wit_CellFrames_servoLocked.cell ((⟨0, 0⟩ : CellId))).servo = 1 ∧ 64 ≤ (wit_CellFrames_servoLocked.cell ((⟨0, 0⟩ : CellId))).fld CTIM_SERVO.LOCKCNT) := by decide +kernel
def wit_CellFrames_servoHoldover : State := State.reset.onCell (⟨0, 0⟩ : CellId) (fun x => (fun y : CellSt => { y with pow := .on }) ((fun y : CellSt => { y with tim := { y.tim with none_ := true } }) (x.set CTIM_SERVO.STATE 2)))
theorem test_wit_CellFrames_servoHoldover : ((wit_CellFrames_servoHoldover.cell ((⟨0, 0⟩ : CellId))).servo = 2 ∧ (wit_CellFrames_servoHoldover.cell ((⟨0, 0⟩ : CellId))).tim.none_ = true) := by decide +kernel
def wit_CellFrames_statusFramePass : State := State.reset.onCell (⟨0, 0⟩ : CellId) (fun x => (fun y : CellSt => { y with pow := .on }) ((x).set CLNK_STAT.LOCK 1 0))
theorem test_wit_CellFrames_statusFramePass : ((wit_CellFrames_statusFramePass.cell ((⟨0, 0⟩ : CellId))).hears UnitId.a = true) ∧ (byteAt (([85, 3] : Bytes)) 1 = 3) := by decide +kernel
def wit_CellFrames_tailBecome : State := State.reset.onCell (⟨0, 0⟩ : CellId) (fun x => (fun y : CellSt => { y with pow := .on }) (x.set CLNK_HOP.VALID 1 0))
theorem test_wit_CellFrames_tailBecome : (((wit_CellFrames_tailBecome.cell ((⟨0, 0⟩ : CellId))).islandOn .lnk && (wit_CellFrames_tailBecome.cell ((⟨0, 0⟩ : CellId))).hopValid && (!(wit_CellFrames_tailBecome.cell ((⟨0, 0⟩ : CellId))).locked UnitId.b.other || decide (2 ≤ ((wit_CellFrames_tailBecome.cell ((⟨0, 0⟩ : CellId))).lnk UnitId.b.other).quiet))) = true) := by decide +kernel
def wit_CellFrames_tailOriginate : State := State.reset.onCell (⟨0, 0⟩ : CellId) (fun x => (fun y : CellSt => { y with pow := .on }) ((x.set CLNK_HOP.VALID 1 0).set CLNK_STAT.TAIL 1 1))
theorem test_wit_CellFrames_tailOriginate : (((wit_CellFrames_tailOriginate.cell ((⟨0, 0⟩ : CellId))).islandOn .lnk && (wit_CellFrames_tailOriginate.cell ((⟨0, 0⟩ : CellId))).hopValid && (wit_CellFrames_tailOriginate.cell ((⟨0, 0⟩ : CellId))).bit CLNK_STAT.TAIL (sideIx UnitId.b) && (wit_CellFrames_tailOriginate.cell ((⟨0, 0⟩ : CellId))).launches && (wit_CellFrames_tailOriginate.cell ((⟨0, 0⟩ : CellId))).works (0x1000 + 0x1000 * sideIx UnitId.b)) = true) := by decide +kernel
def wit_CellFrames_tailEnd : State := State.reset.onCell (⟨0, 0⟩ : CellId) (fun x => (fun y : CellSt => { y with pow := .on }) ((fun y : CellSt => { y with lnkA := { y.lnkA with good := 2 } }) ((x.set CLNK_STAT.LOCK 1 0).set CLNK_STAT.TAIL 1 1)))
theorem test_wit_CellFrames_tailEnd : (((wit_CellFrames_tailEnd.cell ((⟨0, 0⟩ : CellId))).bit CLNK_STAT.TAIL (sideIx UnitId.b) && (wit_CellFrames_tailEnd.cell ((⟨0, 0⟩ : CellId))).locked UnitId.b.other && decide (2 ≤ ((wit_CellFrames_tailEnd.cell ((⟨0, 0⟩ : CellId))).lnk UnitId.b.other).good)) = true) := by decide +kernel
def wit_CellFrames_stopRx : State := State.reset.onCell (⟨0, 0⟩ : CellId) (fun x => (fun y : CellSt => { y with pow := .on }) ((x).set CLNK_STAT.LOCK 1 0))
theorem test_wit_CellFrames_stopRx : ((wit_CellFrames_stopRx.cell ((⟨0, 0⟩ : CellId))).hears UnitId.a = true) ∧ (((wit_CellFrames_stopRx.cell ((⟨0, 0⟩ : CellId))).lnk UnitId.a).acted.contains (0x1E, unitBit UnitId.a) = false) := by decide +kernel
def wit_CellFrames_abortRx : State := State.reset.onCell (⟨0, 0⟩ : CellId) (fun x => (fun y : CellSt => { y with pow := .on }) ((x).set CLNK_STAT.LOCK 1 0))
theorem test_wit_CellFrames_abortRx : ((wit_CellFrames_abortRx.cell ((⟨0, 0⟩ : CellId))).hears UnitId.a = true) ∧ (((⟨0x2D, .b⟩ : FaultCode)).code = 0x2D) := by decide +kernel
def wit_CellFrames_abortRxOther : State := State.reset.onCell (⟨0, 0⟩ : CellId) (fun x => (fun y : CellSt => { y with pow := .on }) ((x).set CLNK_STAT.LOCK 1 0))
theorem test_wit_CellFrames_abortRxOther : ((wit_CellFrames_abortRxOther.cell ((⟨0, 0⟩ : CellId))).hears UnitId.a = true) ∧ (¬ (((⟨0x2C, .b⟩ : FaultCode)).code = 0x2D)) := by decide +kernel
theorem test_wit_CellFrames_faultSet : ((State.reset.cell ⟨0, 0⟩).lnk .a).acted.contains (0x1E, unitBit .b) = false := by decide +kernel
def wit_CellFrames_linkLock : State := State.reset.onCell (⟨0, 0⟩ : CellId) (fun x => (fun y : CellSt => { y with pow := .on }) (x))
theorem test_wit_CellFrames_linkLock : ((wit_CellFrames_linkLock.cell ((⟨0, 0⟩ : CellId))).works (0x1000 + 0x1000 * sideIx UnitId.a) = true) ∧ (false = (wit_CellFrames_linkLock.cell ((⟨0, 0⟩ : CellId))).listensLow UnitId.a) := by decide +kernel
def wit_CellFrames_linkLockLoss : State := State.reset.onCell (⟨0, 0⟩ : CellId) (fun x => (fun y : CellSt => { y with pow := .on }) ((x).set CLNK_STAT.LOCK 1 0))
theorem test_wit_CellFrames_linkLockLoss : ((wit_CellFrames_linkLockLoss.cell ((⟨0, 0⟩ : CellId))).locked UnitId.a = true) := by decide +kernel
def wit_CellFrames_linkLossUnit : State := State.reset.onUnit UnitId.a (fun x => x.set STRP_STAT.LOCK 1 7)
theorem test_wit_CellFrames_linkLossUnit : ((wit_CellFrames_linkLossUnit.unit UnitId.a).bit STRP_STAT.LOCK ((7 : Fin 100)).val = true) := by decide +kernel
def wit_CellFrames_portSearchToggle : State := State.reset.onCell (⟨0, 0⟩ : CellId) (fun x => (fun y : CellSt => { y with pow := .on }) ({ x with lnkA := { x.lnkA with search := true } }))
theorem test_wit_CellFrames_portSearchToggle : (((wit_CellFrames_portSearchToggle.cell ((⟨0, 0⟩ : CellId))).islandOn .lnk && !(wit_CellFrames_portSearchToggle.cell ((⟨0, 0⟩ : CellId))).locked ((⟨.a, 1000 * us⟩ : SideAt)).side && ((wit_CellFrames_portSearchToggle.cell ((⟨0, 0⟩ : CellId))).lnk ((⟨.a, 1000 * us⟩ : SideAt)).side).search && decide (((wit_CellFrames_portSearchToggle.cell ((⟨0, 0⟩ : CellId))).lnk ((⟨.a, 1000 * us⟩ : SideAt)).side).srchAt + 1000 * us ≤ ((⟨.a, 1000 * us⟩ : SideAt)).at_)) = true) := by decide +kernel
def wit_CellFrames_cellLineSearch : State := State.reset.onCell (⟨0, 0⟩ : CellId) (fun x => (fun y : CellSt => { y with pow := .on }) ({ x with lnkA := { x.lnkA with lostAt := some 1 }, lnkB := { x.lnkB with lostAt := some 2 } }))
theorem test_wit_CellFrames_cellLineSearch : ((wit_CellFrames_cellLineSearch.cell ((⟨0, 0⟩ : CellId))).lnkA.lostAt = some 1) ∧ ((wit_CellFrames_cellLineSearch.cell ((⟨0, 0⟩ : CellId))).lnkB.lostAt = some 2) ∧ (((wit_CellFrames_cellLineSearch.cell ((⟨0, 0⟩ : CellId))).islandOn .lnk && decide (max 1 2 + 10000 * us ≤ 1000000000000000)) = true) := by decide +kernel
def wit_CellFrames_rateSwitch : State := State.reset.onCell (⟨0, 0⟩ : CellId) (fun x => (fun y : CellSt => { y with pow := .on }) ({ x with rate := some (0, 1) }))
theorem test_wit_CellFrames_rateSwitch : ((wit_CellFrames_rateSwitch.cell ((⟨0, 0⟩ : CellId))).rate = some (0, 1)) ∧ ((wit_CellFrames_rateSwitch.cell ((⟨0, 0⟩ : CellId))).pn % 2 ^ 32 = 0) := by decide +kernel
def wit_CellEntriesAndEnumeration_entryRead : State := State.reset.onCell (⟨0, 0⟩ : CellId) (fun x => (fun y : CellSt => { y with pow := .on }) ((x).set CLNK_HOP.VALID 1 0))
theorem test_wit_CellEntriesAndEnumeration_entryRead : ((wit_CellEntriesAndEnumeration_entryRead.cell ((⟨0, 0⟩ : CellId))).takesEntries = true) := by decide +kernel
def wit_CellEntriesAndEnumeration_entryWrite : State := State.reset.onCell (⟨0, 0⟩ : CellId) (fun x => (fun y : CellSt => { y with pow := .on }) ((x).set CLNK_HOP.VALID 1 0))
theorem test_wit_CellEntriesAndEnumeration_entryWrite : ((wit_CellEntriesAndEnumeration_entryWrite.cell ((⟨0, 0⟩ : CellId))).takesEntries = true) := by decide +kernel
def wit_CellEntriesAndEnumeration_entryBypass : State := State.reset.onCell (⟨0, 0⟩ : CellId) (fun x => (fun y : CellSt => { y with pow := .on }) ((x).set CLNK_HOP.VALID 1 0))
theorem test_wit_CellEntriesAndEnumeration_entryBypass : ((wit_CellEntriesAndEnumeration_entryBypass.cell ((⟨0, 0⟩ : CellId))).takesEntries = true) := by decide +kernel
def wit_CellEntriesAndEnumeration_calreqRotate : State := State.reset.onCell (⟨0, 0⟩ : CellId) (fun x => (fun y : CellSt => { y with pow := .on }) ((x).set CLNK_HOP.VALID 1 0))
theorem test_wit_CellEntriesAndEnumeration_calreqRotate : ((wit_CellEntriesAndEnumeration_calreqRotate.cell ((⟨0, 0⟩ : CellId))).takesEntries = true) := by decide +kernel
def wit_CellEntriesAndEnumeration_calreqSparecal : State := State.reset.onCell (⟨0, 0⟩ : CellId) (fun x => (fun y : CellSt => { y with pow := .on }) ((x).set CLNK_HOP.VALID 1 0))
theorem test_wit_CellEntriesAndEnumeration_calreqSparecal : ((wit_CellEntriesAndEnumeration_calreqSparecal.cell ((⟨0, 0⟩ : CellId))).takesEntries = true) := by decide +kernel
def wit_CellEntriesAndEnumeration_calreqReload : State := State.reset.onCell (⟨0, 0⟩ : CellId) (fun x => (fun y : CellSt => { y with pow := .on }) ((x).set CLNK_HOP.VALID 1 0))
theorem test_wit_CellEntriesAndEnumeration_calreqReload : ((wit_CellEntriesAndEnumeration_calreqReload.cell ((⟨0, 0⟩ : CellId))).takesEntries = true) := by decide +kernel
def wit_CellEntriesAndEnumeration_entryInject : State := State.reset.onCell (⟨0, 0⟩ : CellId) (fun x => (fun y : CellSt => { y with pow := .on }) ((x).set CLNK_HOP.VALID 1 0))
theorem test_wit_CellEntriesAndEnumeration_entryInject : ((wit_CellEntriesAndEnumeration_entryInject.cell ((⟨0, 0⟩ : CellId))).takesEntries = true) := by decide +kernel
def wit_CellEntriesAndEnumeration_entryReset : State := State.reset.onCell (⟨0, 0⟩ : CellId) (fun x => (fun y : CellSt => { y with pow := .on }) ((x).set CLNK_HOP.VALID 1 0))
theorem test_wit_CellEntriesAndEnumeration_entryReset : ((wit_CellEntriesAndEnumeration_entryReset.cell ((⟨0, 0⟩ : CellId))).takesEntries = true) := by decide +kernel
def wit_CellEntriesAndEnumeration_entryRate : State := State.reset.onCell (⟨0, 0⟩ : CellId) (fun x => (fun y : CellSt => { y with pow := .on }) ((x).set CLNK_HOP.VALID 1 0))
theorem test_wit_CellEntriesAndEnumeration_entryRate : ((wit_CellEntriesAndEnumeration_entryRate.cell ((⟨0, 0⟩ : CellId))).takesEntries = true) := by decide +kernel
def wit_CellEntriesAndEnumeration_entryBulk : State := State.reset.onCell (⟨0, 0⟩ : CellId) (fun x => (fun y : CellSt => { y with pow := .on }) ((x).set CLNK_HOP.VALID 1 0))
theorem test_wit_CellEntriesAndEnumeration_entryBulk : ((wit_CellEntriesAndEnumeration_entryBulk.cell ((⟨0, 0⟩ : CellId))).takesEntries = true) := by decide +kernel
theorem test_wit_CellEntriesAndEnumeration_rateEntry : ¬ ((64 : Word).toNat % 64 ≠ 0 ∨ ((64 : Word) - BitVec.ofNat 32 ((State.reset.cell ⟨0, 0⟩).pn % 2 ^ 32)).toNat < 2 ∨ 2 ^ 31 ≤ ((64 : Word) - BitVec.ofNat 32 ((State.reset.cell ⟨0, 0⟩).pn % 2 ^ 32)).toNat) := by decide +kernel
theorem test_wit_CellEntriesAndEnumeration_bulkEntry : (112 : Nat) ≠ 0 ∧ ¬ (112 < 112 ∨ cellSram < 524176 + 112) ∧ ({ State.reset.cell ⟨0, 0⟩ with pow := .on } : CellSt).islandOn .core = true := by decide +kernel
def wit_CellEntriesAndEnumeration_enumAssign : State := State.reset.onCell (⟨0, 0⟩ : CellId) (fun x => (fun y : CellSt => { y with pow := .on }) ((x).set CLNK_STAT.LOCK 1 0))
theorem test_wit_CellEntriesAndEnumeration_enumAssign : ((wit_CellEntriesAndEnumeration_enumAssign.cell ((⟨0, 0⟩ : CellId))).hears UnitId.a = true) ∧ (byteAt (([85, 4, 0, 0, 1] : Bytes)) 1 = 4) ∧ (byteAt (([85, 4, 0, 0, 1] : Bytes)) 4 = 1) ∧ (¬ ((([85, 4, 0, 0, 1] : Bytes)).length = 110 ∧ (!enumOk (([85, 4, 0, 0, 1] : Bytes))) = true)) := by decide +kernel
def wit_CellEntriesAndEnumeration_enumEcho : State := State.reset.onCell (⟨0, 0⟩ : CellId) (fun x => (fun y : CellSt => { y with pow := .on }) ((x).set CLNK_STAT.LOCK 1 0))
theorem test_wit_CellEntriesAndEnumeration_enumEcho : ((wit_CellEntriesAndEnumeration_enumEcho.cell ((⟨0, 0⟩ : CellId))).hears UnitId.a = true) ∧ (byteAt (([85, 4, 0, 0, 2] : Bytes)) 1 = 4) ∧ (byteAt (([85, 4, 0, 0, 2] : Bytes)) 4 = 2) ∧ (¬ ((([85, 4, 0, 0, 2] : Bytes)).length = 110 ∧ (!enumOk (([85, 4, 0, 0, 2] : Bytes))) = true)) := by decide +kernel
def wit_CellEntriesAndEnumeration_enumIdreq : State := State.reset.onCell (⟨0, 0⟩ : CellId) (fun x => (fun y : CellSt => { y with pow := .on }) ((x).set CLNK_STAT.LOCK 1 0))
theorem test_wit_CellEntriesAndEnumeration_enumIdreq : ((wit_CellEntriesAndEnumeration_enumIdreq.cell ((⟨0, 0⟩ : CellId))).hears UnitId.a = true) ∧ (byteAt (([85, 4, 0, 0, 3] : Bytes)) 1 = 4) ∧ (byteAt (([85, 4, 0, 0, 3] : Bytes)) 4 = 3) ∧ (¬ ((([85, 4, 0, 0, 3] : Bytes)).length = 110 ∧ (!enumOk (([85, 4, 0, 0, 3] : Bytes))) = true)) := by decide +kernel
def wit_CellEntriesAndEnumeration_cellIdrspSend : State := State.reset.onCell (⟨0, 0⟩ : CellId) (fun x => (fun y : CellSt => { y with pow := .on }) ({ x with chal := [(.b, [])] }))
theorem test_wit_CellEntriesAndEnumeration_cellIdrspSend : ((wit_CellEntriesAndEnumeration_cellIdrspSend.cell ((⟨0, 0⟩ : CellId))).chal = (UnitId.b, (([] : Bytes))) :: (([] : List (UnitId × Bytes)))) ∧ ((wit_CellEntriesAndEnumeration_cellIdrspSend.cell ((⟨0, 0⟩ : CellId))).islandOn .core = true) := by decide +kernel
def wit_CellFaultsAndLedger_cellFaultLatch : State := State.reset.onCell (⟨0, 0⟩ : CellId) (fun x => (fun y : CellSt => { y with pow := .on }) (x))
theorem test_wit_CellFaultsAndLedger_cellFaultLatch : (¬ ((wit_CellFaultsAndLedger_cellFaultLatch.cell ((⟨0, 0⟩ : CellId))).pow = .off)) := by decide +kernel
def wit_CellFaultsAndLedger_cellFltLatchClear : State := State.reset.onCell (⟨0, 0⟩ : CellId) (fun x => { x with pow := .on })
theorem test_wit_CellFaultsAndLedger_cellFltLatchClear : (¬ ((wit_CellFaultsAndLedger_cellFltLatchClear.cell ((⟨0, 0⟩ : CellId))).pow = .off ∨ (wit_CellFaultsAndLedger_cellFltLatchClear.cell ((⟨0, 0⟩ : CellId))).pow = .dormant)) ∧ ((wit_CellFaultsAndLedger_cellFltLatchClear.cell ((⟨0, 0⟩ : CellId))).islandOn (cellIsland 0x8040) = true) := by decide +kernel
def wit_CellFaultsAndLedger_cellGraceExpire : State := State.reset.onCell (⟨0, 0⟩ : CellId) (fun x => (fun y : CellSt => { y with pow := .on }) ({ x with flt := { x.flt with graceAt := [(3, 0)] } }))
theorem test_wit_CellFaultsAndLedger_cellGraceExpire : ((wit_CellFaultsAndLedger_cellGraceExpire.cell ((⟨0, 0⟩ : CellId))).flt.graceAt.find? (fun g => g.1 == ((3 : Fin 11)).val) = some (3, 0)) ∧ (0 + (wit_CellFaultsAndLedger_cellGraceExpire.cell ((⟨0, 0⟩ : CellId))).fld CFLT_SCFG.GRACE ((3 : Fin 11)).val * us ≤ 1000000000000000000) := by decide +kernel
def wit_CellFaultsAndLedger_ledgerReq : State := State.reset.onCell (⟨0, 0⟩ : CellId) (fun x => { x with pow := .on })
theorem test_wit_CellFaultsAndLedger_ledgerReq : (¬ ((wit_CellFaultsAndLedger_ledgerReq.cell ((⟨0, 0⟩ : CellId))).pow = .off ∨ (wit_CellFaultsAndLedger_ledgerReq.cell ((⟨0, 0⟩ : CellId))).pow = .dormant)) ∧ ((wit_CellFaultsAndLedger_ledgerReq.cell ((⟨0, 0⟩ : CellId))).islandOn (cellIsland 0x810C) = true) := by decide +kernel
theorem test_wit_CellFaultsAndLedger_lreqRange : CFLT_LREQ3.KIND.get (0xFFFFFFFF : Word) 0 ≠ 0 ∧ CFLT_LREQ3.KIND.get (0xFFFFFFFF : Word) 0 ≠ 0x10 := by decide +kernel
theorem test_wit_CellFaultsAndLedger_lreqEmpty : CFLT_LREQ3.KIND.get (0 : Word) 0 = 0 := by decide +kernel
theorem test_wit_CellFaultsAndLedger_lreqBusy : CFLT_LREQ3.KIND.get (CFLT_LREQ3.KIND.put 0 0 0x10) 0 = 0x10 ∧ ({ State.reset.cell ⟨0, 0⟩ with mem := { append := some (true, []) } } : CellSt).ledgerBusy = true := by decide +kernel
theorem test_wit_CellFaultsAndLedger_lreqOk : CFLT_LREQ3.KIND.get (CFLT_LREQ3.KIND.put 0 0 0x10) 0 = 0x10 ∧ (State.reset.cell ⟨0, 0⟩).ledgerBusy = false := by decide +kernel
def wit_CellFaultsAndLedger_framAppendComplete : State := State.reset.onCell (⟨0, 0⟩ : CellId) (fun x => (fun y : CellSt => { y with pow := .on }) ({ x with mem := { x.mem with append := some (true, []) } }))
theorem test_wit_CellFaultsAndLedger_framAppendComplete : ((wit_CellFaultsAndLedger_framAppendComplete.cell ((⟨0, 0⟩ : CellId))).mem.append = some (true, (([] : Bytes)))) ∧ ((wit_CellFaultsAndLedger_framAppendComplete.cell ((⟨0, 0⟩ : CellId))).pow = .on) := by decide +kernel
def wit_CellFaultsAndLedger_cellLedgerDaily : State := State.reset.onCell (⟨0, 0⟩ : CellId) (fun x => (fun y : CellSt => { y with pow := .on }) ({ x with mem := { x.mem with opTime := 24 * 3600 * sec } }))
theorem test_wit_CellFaultsAndLedger_cellLedgerDaily : ((wit_CellFaultsAndLedger_cellLedgerDaily.cell ((⟨0, 0⟩ : CellId))).pow = .on ∧ (wit_CellFaultsAndLedger_cellLedgerDaily.cell ((⟨0, 0⟩ : CellId))).mem.dailyAt + 24 * 3600 * sec ≤ (wit_CellFaultsAndLedger_cellLedgerDaily.cell ((⟨0, 0⟩ : CellId))).mem.opTime) := by decide +kernel
def wit_CellFaultsAndLedger_patchActivate : State := State.reset.onCell (⟨0, 0⟩ : CellId) (fun x => { x with pow := .on })
theorem test_wit_CellFaultsAndLedger_patchActivate : (¬ ((wit_CellFaultsAndLedger_patchActivate.cell ((⟨0, 0⟩ : CellId))).pow = .off ∨ (wit_CellFaultsAndLedger_patchActivate.cell ((⟨0, 0⟩ : CellId))).pow = .dormant)) ∧ ((wit_CellFaultsAndLedger_patchActivate.cell ((⟨0, 0⟩ : CellId))).islandOn (cellIsland 0x50) = true) := by decide +kernel
theorem test_wit_StepTakesTheFront_front : ({ State.reset with pending := [.periodBoundary .a] } : State).pending = .periodBoundary .a :: [] := by decide +kernel
theorem test_wit_EmptyQueueIdles_idle : State.reset.pending = [] := by decide +kernel
theorem test_wit_CommandsLeaveTheQueue_queue : exec (.framAppendComplete ⟨0, 0⟩ true) State.reset = .next (State.reset.onCell ⟨0, 0⟩ (fun x => x)) := rfl
theorem test_wit_CommandsStayInTheirParts_units : ∃ t, exec (.unitSupplyLoss .a) State.reset = .next t ∧ Part.unit .b ∉ (Instr.unitSupplyLoss .a).parts := ⟨_, rfl, by decide⟩
theorem test_wit_CommandsStayInTheirParts_cells : ∃ t, exec (.cellBoundary ⟨3, 1⟩) State.reset = .next t ∧ Part.cell ⟨0, 0⟩ ∉ (Instr.cellBoundary ⟨3, 1⟩).parts := ⟨_, rfl, by decide⟩
theorem test_wit_StepKeepsTheCellTable_keep : step State.reset = .next State.reset ∧ State.reset.cellsWf = true := ⟨rfl, by decide +kernel⟩
theorem test_wit_OffIslandAccess_unitRead : ((State.reset.onUnit .a (fun x => { x with boot := .noImage })).unit .a).denied (.core 0) false 0x4040 = false ∧ (pageOf unitPages 0x4040).isSome = true ∧ ((State.reset.onUnit .a (fun x => { x with boot := .noImage })).unit .a).islandOn (unitIsland 0x4040) = false := by decide +kernel
theorem test_wit_OffIslandAccess_unitWrite : ((((State.reset.onUnit .a (fun x => { x with boot := .noImage })).unit .a)).tick 5).denied (.core 0) true 0x4074 = false ∧ (pageOf unitPages 0x4074).isSome = true ∧ ((((State.reset.onUnit .a (fun x => { x with boot := .noImage })).unit .a)).tick 5).islandOn (unitIsland 0x4074) = false ∧ 0x4074 % 4 = 0 := by decide +kernel
theorem test_wit_OffIslandAccess_cellRead : ¬ (((State.reset.cell ⟨0, 0⟩).pow = .off ∨ (State.reset.cell ⟨0, 0⟩).pow = .dormant)) ∧ cellHasReg 0x4040 = true ∧ (State.reset.cell ⟨0, 0⟩).islandOn (cellIsland 0x4040) = false := by decide +kernel
theorem test_wit_OffIslandAccess_cellWrite : ¬ (((State.reset.cell ⟨0, 0⟩).pow = .off ∨ (State.reset.cell ⟨0, 0⟩).pow = .dormant)) ∧ cellHasReg 0x4050 = true ∧ (State.reset.cell ⟨0, 0⟩).islandOn (cellIsland 0x4050) = false := by decide +kernel
theorem test_wit_DeniedAndUnmappedAccess_read : (State.reset.unit .a).denied .pf0 false 0x5040 = true ∧ inBar .pf0 0x5040 = false := by decide +kernel
theorem test_wit_DeniedAndUnmappedAccess_write : (((State.reset.unit .a)).tick 5).denied .pf0 true 0x5044 = true ∧ inBar .pf0 0x5044 = false ∧ 0x5044 % 4 = 0 := by decide +kernel
theorem test_wit_DeniedAndUnmappedAccess_bar2 : inBar .pf0 0x02000004 = true ∧ 0x02000004 / 2 ^ 24 = 2 ∧ 0x02000004 % 4 = 0 := by decide +kernel
theorem test_wit_DeniedAndUnmappedAccess_nopage : (State.reset.unit .a).denied (.core 2) true 0x9000 = false ∧ (pageOf unitPages 0x9000).isNone = true := by decide +kernel
theorem test_wit_Pf0ReadOnly_denied : ((State.reset.unit .a).set PCIE_ACC.PF0RO 1).bit PCIE_ACC.PF0RO = true := by decide +kernel
theorem test_wit_Pf0ReadOnly_open : (0x12100 ≤ 0x124FC ∧ 0x124FC < 0x12500) ∧ (0x20300 ≤ 0x2033C ∧ 0x2033C < 0x20340) := by decide +kernel
theorem test_wit_FaultLatchClear_one : (State.reset.unit .a).allowed (.core 0) true 0x3040 = true ∧ bitAt (((State.reset.unit .a).set FLT_LATCH_LO.LATCH 16).fld FLT_LATCH_LO.LATCH) 4 = true := by decide +kernel
theorem test_wit_MinimumVersion_raise : ((State.reset.onUnit .a (fun x => { x with boot := .up, regs := [(0x58, 0)] })).unit .a).allowed (.core 0) true 0x5078 = true ∧ ((State.reset.onUnit .a (fun x => { x with boot := .up, regs := [(0x58, 0)] })).unit .a).verif = none ∧ ((State.reset.onUnit .a (fun x => { x with boot := .up, regs := [(0x58, 0)] })).unit .a).bit GEN_BOOT.TRIAL = false := by decide +kernel
theorem test_wit_MinimumVersion_trial : ((State.reset.onUnit .a (fun x => { x with boot := .up, regs := [(0x58, 4)] })).unit .a).bit GEN_BOOT.TRIAL = true := by decide +kernel
theorem test_wit_MinimumVersion_old : ({ State.reset.a with regs := [(0x5044, 5)], flash := [(slotBase 0 + 8, 4), (slotBase 0 + 9, 0), (slotBase 0 + 10, 0), (slotBase 0 + 11, 0)] } : UnitSt).slotVersion 0 < ({ State.reset.a with regs := [(0x5044, 5)], flash := [(slotBase 0 + 8, 4), (slotBase 0 + 9, 0), (slotBase 0 + 10, 0), (slotBase 0 + 11, 0)] } : UnitSt).fld SEC_MINVER.MINVER := by decide +kernel
theorem test_wit_PairsAreReadAsOne_pair : groupOf unitPairs 0x3040 = some [0x3044] ∧ groupOf unitPairs 0x3044 = none ∧ ((State.reset.a.busRead (.core 0) 0x3040).set FLT_LATCH_HI.LATCH 1).req (.core 0) = { State.reset.a.req (.core 0) with rdata := State.reset.a.liveWord (.core 0) 0x3040, latch := [(0x3044, State.reset.a.liveWord (.core 0) 0x3044)] } := by decide +kernel
theorem test_wit_WritesFollowTheAccessCodes_merge : 31 < 32 ∧ (0xFFFF0000 &&& 0xFFFF) % 2 ^ 32 = 0 := by decide +kernel
theorem test_wit_FramesReadBack_frame : (255 < 256 ∧ 95 < 128 ∧ 2 ^ 48 - 1 < 2 ^ 48 ∧ 2 ^ 24 - 1 < 2 ^ 24 ∧ 64 ≤ 64 ∧ 2 ^ 32 - 1 < 2 ^ 32) ∧ ((⟨.b, true, 15, 2 ^ 32 - 1, 2 ^ 48 - 1⟩ : Watermark).llen < 16 ∧ (⟨.b, true, 15, 2 ^ 32 - 1, 2 ^ 48 - 1⟩ : Watermark).epoch < 2 ^ 32 ∧ (⟨.b, true, 15, 2 ^ 32 - 1, 2 ^ 48 - 1⟩ : Watermark).abdpn < 2 ^ 48) ∧ (∀ h : Nat, (fun _ => 2 ^ 40 - 1 : Nat → Nat) h < 2 ^ 40) ∧ (List.replicate 128 (0xFF : Byte)).length = 128 := ⟨by decide, by decide, fun _ => (by decide : 2 ^ 40 - 1 < 2 ^ 40), List.length_replicate⟩
theorem test_wit_StatusFramesReadBack_frame : (127 < 128 ∧ 2 ^ 48 - 1 < 2 ^ 48 ∧ 64 ≤ 64 ∧ 0x7F < 256 ∧ 2 ^ 32 - 1 < 2 ^ 32) ∧ (∀ h : Nat, (fun _ => 2 ^ 120 - 1 : Nat → Nat) h < 2 ^ 120) := ⟨by decide, fun _ => (by decide : 2 ^ 120 - 1 < 2 ^ 120)⟩
theorem test_wit_StatusFramesReadBack_absent : statSlot (statFrame (statHeader .a false 5 0x123 1 0x7F 0) (absentSlot 0 0x123)) 0 = absentSlot 0 0x123 ∧ byteAt (statFrame (statHeader .a false 5 0x123 1 0x7F 0) (absentSlot 0 0x123)) 4 = 0x123 % 256 := by decide +kernel
def wit_UnitCommandsComplete_periodBoundary : State := State.reset.onUnit UnitId.a (fun x => { x with tim := { x.tim with baseSet := true } })
theorem test_wit_UnitCommandsComplete_periodBoundary : ((wit_UnitCommandsComplete_periodBoundary.unit UnitId.a).tim.baseSet = true) := by decide +kernel
def wit_UnitCommandsComplete_computeStart : State := State.reset.onUnit UnitId.a (fun x => { x with tim := { x.tim with counting := true } })
theorem test_wit_UnitCommandsComplete_computeStart : ((wit_UnitCommandsComplete_computeStart.unit UnitId.a).tim.counting = true) ∧ ((wit_UnitCommandsComplete_computeStart.unit UnitId.a).inQuiet = false) ∧ ((wit_UnitCommandsComplete_computeStart.unit UnitId.a).boot = .up) := by decide +kernel
def wit_UnitCommandsComplete_pchgEffect : State := State.reset.onUnit UnitId.a (fun x => { x.set PWR_STAT.STATE 1 with tim := { x.tim with pchg := some (0, 100), pchgGo := true } })
theorem test_wit_UnitCommandsComplete_pchgEffect : ((wit_UnitCommandsComplete_pchgEffect.unit UnitId.a).tim.peer = none) ∧ ((wit_UnitCommandsComplete_pchgEffect.unit UnitId.a).tim.pchg = some (0, 100)) ∧ ((wit_UnitCommandsComplete_pchgEffect.unit UnitId.a).tim.pchgGo = true) ∧ ((wit_UnitCommandsComplete_pchgEffect.unit UnitId.a).inHold = true) ∧ (0 = (wit_UnitCommandsComplete_pchgEffect.unit UnitId.a).pn) := by decide +kernel
def wit_UnitCommandsComplete_substepIntegrate : State := State.reset.onUnit UnitId.a (fun x => { x with clp := { x.clp with spans := [(0, 0, 1638400)] } })
theorem test_wit_UnitCommandsComplete_substepIntegrate : (((wit_UnitCommandsComplete_substepIntegrate.unit UnitId.a).tick 10000000000).works 0x22000 = true) ∧ (((wit_UnitCommandsComplete_substepIntegrate.unit UnitId.a).tick 10000000000).subStep (((wit_UnitCommandsComplete_substepIntegrate.unit UnitId.a).tick 10000000000).clpFront ((0 : Fin 6)).val) = some (0, 0, 1638400)) ∧ (1638400 + ((wit_UnitCommandsComplete_substepIntegrate.unit UnitId.a).tick 10000000000).armLat ((0 : Fin 6)).val ≤ 10000000000) := by decide +kernel
def wit_UnitCommandsComplete_chkFail : State := State.reset.onUnit UnitId.a (fun x => x.onRec 6143 (fun r => { r with chkcnt := 255 }))
theorem test_wit_UnitCommandsComplete_chkFail : ((!(wit_UnitCommandsComplete_chkFail.unit UnitId.a).works 0x22000 || ((wit_UnitCommandsComplete_chkFail.unit UnitId.a).clpRec ((⟨95, 63⟩ : CellId)).key).chkfail || decide (((wit_UnitCommandsComplete_chkFail.unit UnitId.a).clpRec ((⟨95, 63⟩ : CellId)).key).chkcnt < max 1 ((wit_UnitCommandsComplete_chkFail.unit UnitId.a).fld CLP_CHK.CHKN))) = false) := by decide +kernel
def wit_UnitCommandsComplete_wearRetire : State := State.reset.onUnit UnitId.a (fun x => ((((x.onRec 1 (fun r => { r with rcnt := 9 })).set CLP_WCFG.RETCONF 3).set STRP_ASSIGN.NCELL 2).set CAL_ARMCFG.NREQ 2))
theorem test_wit_UnitCommandsComplete_wearRetire : ((wit_UnitCommandsComplete_wearRetire.unit UnitId.a).armOf ((⟨0, 1⟩ : CellId)).key = some 0) ∧ ((wit_UnitCommandsComplete_wearRetire.unit UnitId.a).works 0x22000 = true) ∧ (¬ ((wit_UnitCommandsComplete_wearRetire.unit UnitId.a).fld CLP_WCFG.RETCONF = 0 ∨ ((wit_UnitCommandsComplete_wearRetire.unit UnitId.a).clpRec ((⟨0, 1⟩ : CellId)).key).rcnt < (wit_UnitCommandsComplete_wearRetire.unit UnitId.a).fld CLP_WCFG.RETCONF ∨ ((wit_UnitCommandsComplete_wearRetire.unit UnitId.a).clpRec ((⟨0, 1⟩ : CellId)).key).retired = true ∨ ((wit_UnitCommandsComplete_wearRetire.unit UnitId.a).clpRec ((⟨0, 1⟩ : CellId)).key).retpend = true)) ∧ ((wit_UnitCommandsComplete_wearRetire.unit UnitId.a).availableBut 0 ((⟨0, 1⟩ : CellId)).key < (wit_UnitCommandsComplete_wearRetire.unit UnitId.a).fld CAL_ARMCFG.NREQ 0) := by decide +kernel
def wit_UnitCommandsComplete_wearRetireNow : State := State.reset.onUnit UnitId.a (fun x => ((((x.onRec 1 (fun r => { r with rcnt := 3 })).set CLP_WCFG.RETCONF 3).set STRP_ASSIGN.NCELL 2).set CAL_ARMCFG.NREQ 0))
theorem test_wit_UnitCommandsComplete_wearRetireNow : ((wit_UnitCommandsComplete_wearRetireNow.unit UnitId.a).armOf ((⟨0, 1⟩ : CellId)).key = some 0) ∧ ((wit_UnitCommandsComplete_wearRetireNow.unit UnitId.a).works 0x22000 = true) ∧ (¬ ((wit_UnitCommandsComplete_wearRetireNow.unit UnitId.a).fld CLP_WCFG.RETCONF = 0 ∨ ((wit_UnitCommandsComplete_wearRetireNow.unit UnitId.a).clpRec ((⟨0, 1⟩ : CellId)).key).rcnt < (wit_UnitCommandsComplete_wearRetireNow.unit UnitId.a).fld CLP_WCFG.RETCONF ∨ ((wit_UnitCommandsComplete_wearRetireNow.unit UnitId.a).clpRec ((⟨0, 1⟩ : CellId)).key).retired = true ∨ ((wit_UnitCommandsComplete_wearRetireNow.unit UnitId.a).clpRec ((⟨0, 1⟩ : CellId)).key).retpend = true)) ∧ (¬ ((wit_UnitCommandsComplete_wearRetireNow.unit UnitId.a).availableBut 0 ((⟨0, 1⟩ : CellId)).key < (wit_UnitCommandsComplete_wearRetireNow.unit UnitId.a).fld CAL_ARMCFG.NREQ 0)) := by decide +kernel
def wit_UnitCommandsComplete_calenderRun : State := State.reset.onUnit UnitId.a (fun x => { x with tim := { x.tim with counting := true } })
theorem test_wit_UnitCommandsComplete_calenderRun : ((!(wit_UnitCommandsComplete_calenderRun.unit UnitId.a).works 0x21000 || !(wit_UnitCommandsComplete_calenderRun.unit UnitId.a).tim.counting) = false) := by decide +kernel
theorem test_wit_UnitCommandsComplete_stageDeadlineMiss : ((State.reset.unit UnitId.a).works (if true then 0x21000 else 0x22000) = true) := by decide +kernel
def wit_UnitCommandsComplete_calFxWrite : State := State.reset.onUnit .a (fun x => x.set STRP_ASSIGN.NCELL 4)
theorem test_wit_UnitCommandsComplete_calFxWrite : ((wit_UnitCommandsComplete_calFxWrite.unit UnitId.a).allowed (Requester.core 0) true 0x210D0 = true) ∧ ((wit_UnitCommandsComplete_calFxWrite.unit UnitId.a).isCell (CAL_FX.STRAND.get ((0x80000003 : Word)) 0) (CAL_FX.HOP.get ((0x80000003 : Word)) 0) = true) := by decide +kernel
def wit_UnitCommandsComplete_holderLostClaim : State := State.reset.onUnit UnitId.a (fun x => { x with lse := { x.lse with lostNow := some 2 } })
theorem test_wit_UnitCommandsComplete_holderLostClaim : ((wit_UnitCommandsComplete_holderLostClaim.unit UnitId.a).lse.lostNow = some 2) ∧ ((wit_UnitCommandsComplete_holderLostClaim.unit UnitId.a).lstate = 0) := by decide +kernel
def wit_UnitCommandsComplete_quietLeaseEval : State := State.reset.onUnit UnitId.a (fun x => x.set PWR_STAT.STATE 2)
theorem test_wit_UnitCommandsComplete_quietLeaseEval : ((wit_UnitCommandsComplete_quietLeaseEval.unit UnitId.a).inQuiet = true ∧ (wit_UnitCommandsComplete_quietLeaseEval.unit UnitId.a).pn % 32 = 0) := by decide +kernel
theorem test_wit_UnitCommandsComplete_fenceRx : ((State.reset.unit UnitId.a).inQuiet = false) := by decide +kernel
theorem test_wit_UnitCommandsComplete_leaseMsgSend : ((State.reset.unit UnitId.a).inQuiet = false) ∧ ((State.reset.unit UnitId.a).spl.announce = none) := by decide +kernel
theorem test_wit_UnitCommandsComplete_leaseMsgRx : ((State.reset.unit UnitId.a).inQuiet = false) := by decide +kernel
def wit_UnitCommandsComplete_spliceDown : State := State.reset.onUnit UnitId.a (fun x => x.set SPL_STAT.UP 1)
theorem test_wit_UnitCommandsComplete_spliceDown : ((wit_UnitCommandsComplete_spliceDown.unit UnitId.a).splUp = true ∧ 2 ≤ (wit_UnitCommandsComplete_spliceDown.unit UnitId.a).spl.silent) := by decide +kernel
def wit_UnitCommandsComplete_prefetchFreeze : State := State.reset.onUnit UnitId.a (fun x => { x with boot := .up })
theorem test_wit_UnitCommandsComplete_prefetchFreeze : ((wit_UnitCommandsComplete_prefetchFreeze.unit UnitId.a).works 0x20000 = true) := by decide +kernel
def wit_UnitCommandsComplete_frameBuild : State := State.reset.onUnit UnitId.a (fun x => { x with boot := .up })
theorem test_wit_UnitCommandsComplete_frameBuild : ((wit_UnitCommandsComplete_frameBuild.unit UnitId.a).works 0x20000 = true) := by decide +kernel
def wit_UnitCommandsComplete_cmdFrameLaunch : State := State.reset.onUnit UnitId.a (fun x => (fun y : UnitSt => { y with tim := { y.tim with counting := true, baseSet := true } }) ((x.set STRP_ASSIGN.NCELL 1).set STRP_STAT.STATE 5))
theorem test_wit_UnitCommandsComplete_cmdFrameLaunch : (¬ (((wit_UnitCommandsComplete_cmdFrameLaunch.unit UnitId.a).tick ((⟨1000, [5]⟩ : Launch)).at_).fenced = true ∨ (!((wit_UnitCommandsComplete_cmdFrameLaunch.unit UnitId.a).tick ((⟨1000, [5]⟩ : Launch)).at_).anyLine) = true)) ∧ ((!((wit_UnitCommandsComplete_cmdFrameLaunch.unit UnitId.a).tick ((⟨1000, [5]⟩ : Launch)).at_).tim.baseSet) = false) ∧ ((!((wit_UnitCommandsComplete_cmdFrameLaunch.unit UnitId.a).tick ((⟨1000, [5]⟩ : Launch)).at_).tim.counting) = false) := by decide +kernel
def wit_UnitCommandsComplete_statusFrameLaunch : State := State.reset.onUnit UnitId.a (fun x => (fun y : UnitSt => { y with tim := { y.tim with counting := true, baseSet := true } }) ((x.set STRP_ASSIGN.NCELL 1).set STRP_STAT.STATE 5))
theorem test_wit_UnitCommandsComplete_statusFrameLaunch : (((wit_UnitCommandsComplete_statusFrameLaunch.unit UnitId.a).tick ((⟨1000, []⟩ : Launch)).at_).tim.counting = true) := by decide +kernel
def wit_UnitCommandsComplete_statusFrameRx : State := State.reset.onUnit UnitId.a (fun x => (fun y : UnitSt => { y with tim := { y.tim with counting := true, baseSet := true } }) ((x.set STRP_ASSIGN.NCELL 1).set STRP_STAT.STATE 5))
theorem test_wit_UnitCommandsComplete_statusFrameRx : (¬ (((wit_UnitCommandsComplete_statusFrameRx.unit UnitId.a).tick 1000).ncell ((0 : Fin 100)).val = 0 ∨ ((wit_UnitCommandsComplete_statusFrameRx.unit UnitId.a).tick 1000).pstate ((0 : Fin 100)).val = 0 ∨ ((wit_UnitCommandsComplete_statusFrameRx.unit UnitId.a).tick 1000).pstate ((0 : Fin 100)).val = 2 ∨ (!((wit_UnitCommandsComplete_statusFrameRx.unit UnitId.a).tick 1000).portOn ((0 : Fin 100)).val) = true)) ∧ (byteAt ((⟨[0x55, 3], 0⟩ : RxFrame)).bytes 1 = 3) := by decide +kernel
def wit_UnitCommandsComplete_spliceStatusFwdRx : State := State.reset.onUnit UnitId.a (fun x => x)
theorem test_wit_UnitCommandsComplete_spliceStatusFwdRx : ((wit_UnitCommandsComplete_spliceStatusFwdRx.unit UnitId.a).inQuiet = false) ∧ ((wit_UnitCommandsComplete_spliceStatusFwdRx.unit UnitId.a.other).portOf ((3 : Fin 96)).val = some 3) ∧ ((wit_UnitCommandsComplete_spliceStatusFwdRx.unit UnitId.a.other).pstate 3 ≠ 1) ∧ (slotPasses ((0 : Fin 64)).val (wit_UnitCommandsComplete_spliceStatusFwdRx.unit UnitId.a).pn (List.replicate 15 0 ++ [BitVec.ofNat 8 (statCrc 0 0 (List.replicate 15 0))]) = true) ∧ (((wit_UnitCommandsComplete_spliceStatusFwdRx.unit UnitId.a).view (((3 : Fin 96)).val * 64 + ((0 : Fin 64)).val)).slotPn ≠ some (wit_UnitCommandsComplete_spliceStatusFwdRx.unit UnitId.a).pn) := by decide +kernel
def wit_UnitCommandsComplete_relayEnd : State := State.reset.onUnit UnitId.a (fun x => (fun y : UnitSt => { y with spl := { y.spl with relayReq := [3] } }) ((((x.set LSE_STAT.STATE 2).set STRP_STAT.STATE 5 3).onPort 3 (fun q => { q with clean := 16 }))))
theorem test_wit_UnitCommandsComplete_relayEnd : ((wit_UnitCommandsComplete_relayEnd.unit UnitId.a).portOf ((3 : Fin 96)).val = some 3) ∧ ((wit_UnitCommandsComplete_relayEnd.unit UnitId.a).isHolder = true ∧ (wit_UnitCommandsComplete_relayEnd.unit UnitId.a).spl.relayReq.contains ((3 : Fin 96)).val = true ∧ 16 ≤ ((wit_UnitCommandsComplete_relayEnd.unit UnitId.a).port 3).clean ∧ ((wit_UnitCommandsComplete_relayEnd.unit UnitId.a).pstate 3 = 5 ∨ (wit_UnitCommandsComplete_relayEnd.unit UnitId.a).pstate 3 = 1)) := by decide +kernel
theorem test_wit_UnitCommandsComplete_relayFrameRx : (¬ (((State.reset.unit UnitId.a).tick 0).inQuiet = true ∨ ((State.reset.unit UnitId.a).tick 0).lstate ≠ 0)) := by decide +kernel
def wit_UnitCommandsComplete_partnerCmdFrameRx : State := State.reset.onUnit UnitId.a (fun x => (fun y : UnitSt => { y with tim := { y.tim with counting := true, baseSet := true } }) ((x.set STRP_ASSIGN.NCELL 1).set STRP_STAT.STATE 5))
theorem test_wit_UnitCommandsComplete_partnerCmdFrameRx : (¬ (((wit_UnitCommandsComplete_partnerCmdFrameRx.unit UnitId.a).tick 0).pstate ((0 : Fin 100)).val = 0 ∨ (!((wit_UnitCommandsComplete_partnerCmdFrameRx.unit UnitId.a).tick 0).portOn ((0 : Fin 100)).val) = true)) := by decide +kernel
def wit_UnitCommandsComplete_stopReqRx : State := State.reset.onUnit UnitId.a (fun x => x)
theorem test_wit_UnitCommandsComplete_stopReqRx : ((wit_UnitCommandsComplete_stopReqRx.unit UnitId.a).inQuiet = false) := by decide +kernel
def wit_UnitCommandsComplete_faultLatch : State := State.reset.onUnit UnitId.a (fun x => { x with boot := .up })
theorem test_wit_UnitCommandsComplete_faultLatch : (¬ ((wit_UnitCommandsComplete_faultLatch.unit UnitId.a).boot = .off)) := by decide +kernel
theorem test_wit_UnitCommandsComplete_fltLatchClear : ((State.reset.unit UnitId.a).allowed (Requester.core 0) true 0x3040 = true) := by decide +kernel
def wit_UnitCommandsComplete_graceExpire : State := State.reset.onUnit UnitId.a (fun x => { x with flt := { x.flt with graceAt := [(4, 0)] } })
theorem test_wit_UnitCommandsComplete_graceExpire : (¬ (((wit_UnitCommandsComplete_graceExpire.unit UnitId.a).flt.graceAt.filter (fun g => decide (g.2 + (wit_UnitCommandsComplete_graceExpire.unit UnitId.a).fld FLT_SCFG.GRACE g.1 * us ≤ 1000000000000000))).map (·.1) = [] ∨ (wit_UnitCommandsComplete_graceExpire.unit UnitId.a).fenced = true)) := by decide +kernel
theorem test_wit_UnitCommandsComplete_wdogKick : ((State.reset.unit UnitId.a).allowed (Requester.core 0) true (0x3088 + 4 * ((0 : Fin 4)).val) = true) ∧ (((0xA1E : Word)).toNat % 65536 = 0xA1E) := by decide +kernel
def wit_UnitCommandsComplete_wdogExpire : State := State.reset.onUnit UnitId.a (fun x => x.set FLT_WDOG.TMO 1 3)
theorem test_wit_UnitCommandsComplete_wdogExpire : ((wit_UnitCommandsComplete_wdogExpire.unit UnitId.a).fld FLT_WDOG.TMO ((3 : Fin 4)).val ≠ 0 ∧ (!(wit_UnitCommandsComplete_wdogExpire.unit UnitId.a).flt.expired.contains ((3 : Fin 4)).val) = true ∧ sget (fun _ => 0) (wit_UnitCommandsComplete_wdogExpire.unit UnitId.a).flt.kickAt ((3 : Fin 4)).val + (wit_UnitCommandsComplete_wdogExpire.unit UnitId.a).fld FLT_WDOG.TMO ((3 : Fin 4)).val * 1000 * us ≤ 65536000000000) := by decide +kernel
def wit_UnitCommandsComplete_healthRecord : State := State.reset.onUnit UnitId.a (fun x => { x with boot := .up })
theorem test_wit_UnitCommandsComplete_healthRecord : (¬ ((wit_UnitCommandsComplete_healthRecord.unit UnitId.a).boot ≠ .up ∨ 65536000000000 % sec ≠ 0)) := by decide +kernel
def wit_UnitCommandsComplete_healthRecordRx : State := State.reset.onUnit UnitId.a (fun x => { x with boot := .up })
theorem test_wit_UnitCommandsComplete_healthRecordRx : ((wit_UnitCommandsComplete_healthRecordRx.unit UnitId.a).islandOn .spl = true) := by decide +kernel
def wit_UnitCommandsComplete_partnerResetRx : State := State.reset.onUnit UnitId.a (fun x => ({ x with boot := .up }).set GEN_CFG.PFEN 1)
theorem test_wit_UnitCommandsComplete_partnerResetRx : ((wit_UnitCommandsComplete_partnerResetRx.unit UnitId.a).islandOn .spl = true) ∧ (((wit_UnitCommandsComplete_partnerResetRx.unit UnitId.a).bit GEN_CFG.PFEN && !(wit_UnitCommandsComplete_partnerResetRx.unit UnitId.a).isHolder) = true) := by decide +kernel
theorem test_wit_UnitCommandsComplete_blockReset : (((0x400C : BitVec 32)).toNat % 0x1000 = 0x00C) ∧ ((State.reset.unit UnitId.a).allowed (Requester.core 0) true ((0x400C : BitVec 32)).toNat = true) := by decide +kernel
theorem test_wit_UnitCommandsComplete_blockResetCell : (((0x400C : BitVec 32)).toNat % 0x1000 = 0x00C) := by decide +kernel
theorem test_wit_UnitCommandsComplete_lockWrite : (((0x4024 : BitVec 32)).toNat % 0x1000 = 0x024) ∧ ((State.reset.unit UnitId.a).allowed (Requester.core 0) true ((0x4024 : BitVec 32)).toNat = true) := by decide +kernel
theorem test_wit_UnitCommandsComplete_lockWriteCell : (((0x2024 : BitVec 32)).toNat % 0x1000 = 0x024) := by decide +kernel
def wit_UnitCommandsComplete_sramEccError : State := State.reset.onUnit UnitId.a (fun x => { x with boot := .up })
theorem test_wit_UnitCommandsComplete_sramEccError : ((wit_UnitCommandsComplete_sramEccError.unit UnitId.a).works 0x7000 = true) := by decide +kernel
def wit_UnitCommandsComplete_sramEccCell : State := State.reset.onCell (⟨0, 0⟩ : CellId) (fun x => { x with pow := .on })
theorem test_wit_UnitCommandsComplete_sramEccCell : (¬ ((wit_UnitCommandsComplete_sramEccCell.cell ((⟨0, 0⟩ : CellId))).pow = .off ∨ (wit_UnitCommandsComplete_sramEccCell.cell ((⟨0, 0⟩ : CellId))).pow = .dormant)) := by decide +kernel
def wit_UnitCommandsComplete_scrubOverrun : State := State.reset.onUnit UnitId.a (fun x => ({ x with boot := .up }).set MEM_SCRUB.EN 1)
theorem test_wit_UnitCommandsComplete_scrubOverrun : (((wit_UnitCommandsComplete_scrubOverrun.unit UnitId.a).works 0x7000 && (wit_UnitCommandsComplete_scrubOverrun.unit UnitId.a).bit MEM_SCRUB.EN) = true) := by decide +kernel
def wit_UnitCommandsComplete_rowRetire : State := State.reset.onUnit UnitId.a (fun x => ({ x with boot := .up, mem := { x.mem with rows := [(7, 255, 0)] } } : UnitSt).set MEM_ROWTH.ROWTH 8)
theorem test_wit_UnitCommandsComplete_rowRetire : (((wit_UnitCommandsComplete_rowRetire.unit UnitId.a).works 0x7000 && (wit_UnitCommandsComplete_rowRetire.unit UnitId.a).fld MEM_ROWTH.ROWTH != 0 && (wit_UnitCommandsComplete_rowRetire.unit UnitId.a).mem.rows.any (fun r => r.1 == ((7 : Fin 49152)).val && decide ((wit_UnitCommandsComplete_rowRetire.unit UnitId.a).fld MEM_ROWTH.ROWTH ≤ r.2.1)) && !(wit_UnitCommandsComplete_rowRetire.unit UnitId.a).mem.copy.any (fun c => c.1 == ((7 : Fin 49152)).val)) = true) := by decide +kernel
def wit_UnitCommandsComplete_rowRetireSwitch : State := State.reset.onUnit UnitId.a (fun x => { x with boot := .up, mem := { x.mem with copy := [(7, true)] } })
theorem test_wit_UnitCommandsComplete_rowRetireSwitch : ((wit_UnitCommandsComplete_rowRetireSwitch.unit UnitId.a).mem.copy.find? (fun c => c.1 == ((7 : Fin 49152)).val) = some (7, true)) ∧ (((!(wit_UnitCommandsComplete_rowRetireSwitch.unit UnitId.a).works 0x7000) || (!(wit_UnitCommandsComplete_rowRetireSwitch.unit UnitId.a).maySwitch 0)) = false) := by decide +kernel
def wit_UnitCommandsComplete_rowEntryAgeDrop : State := State.reset.onUnit UnitId.a (fun x => { x with boot := .up })
theorem test_wit_UnitCommandsComplete_rowEntryAgeDrop : ((wit_UnitCommandsComplete_rowEntryAgeDrop.unit UnitId.a).works 0x7000 = true) := by decide +kernel
def wit_UnitCommandsComplete_memRetreq : State := State.reset.onUnit UnitId.a (fun x => { x with boot := .up })
theorem test_wit_UnitCommandsComplete_memRetreq : ((wit_UnitCommandsComplete_memRetreq.unit UnitId.a).allowed (Requester.core 0) true 0x7058 = true) := by decide +kernel
def wit_UnitCommandsComplete_unitPinReset : State := State.reset.onUnit .a (fun x => { x with boot := .up })
theorem test_wit_UnitCommandsComplete_unitPinReset : (¬ (((wit_UnitCommandsComplete_unitPinReset.unit ((⟨.a, [(0, 1)]⟩ : PinReset)).unit).programmer false ((⟨.a, [(0, 1)]⟩ : PinReset)).prog).boot = .off)) := by decide +kernel
theorem test_wit_UnitCommandsComplete_genRstWrite : ((State.reset.unit UnitId.a).allowed (Requester.core 0) true 0x4C = true) := by decide +kernel
def wit_UnitCommandsComplete_genPrstWrite : State := State.reset.onUnit .a (fun x => (x.set LSE_STAT.STATE 2).set SPL_STAT.UP 1)
theorem test_wit_UnitCommandsComplete_genPrstWrite : ((wit_UnitCommandsComplete_genPrstWrite.unit UnitId.a).allowed (Requester.core 0) true 0x50 = true) ∧ (((0xB008 : Word)).toNat % 65536 = 0xB008) ∧ ((wit_UnitCommandsComplete_genPrstWrite.unit UnitId.a).isHolder = true) ∧ ((wit_UnitCommandsComplete_genPrstWrite.unit UnitId.a).splUp = true) := by decide +kernel
theorem test_wit_UnitCommandsComplete_bootConfirm : ((State.reset.unit UnitId.a).allowed (Requester.core 0) true 0x58 = true) := by decide +kernel
def wit_UnitCommandsComplete_bootTrialTimeout : State := State.reset.onUnit UnitId.a (fun x => { x with boot := .up, regs := [(0x54, 1), (0x58, 4)] })
theorem test_wit_UnitCommandsComplete_bootTrialTimeout : ((wit_UnitCommandsComplete_bootTrialTimeout.unit UnitId.a).boot = .up ∧ (wit_UnitCommandsComplete_bootTrialTimeout.unit UnitId.a).bit GEN_BOOT.TRIAL = true ∧ (wit_UnitCommandsComplete_bootTrialTimeout.unit UnitId.a).fld GEN_CFG.BOOTTMO ≠ 0) := by decide +kernel
def wit_UnitCommandsComplete_configLoad : State := State.reset.onUnit UnitId.a (fun x => { x with boot := .up })
theorem test_wit_UnitCommandsComplete_configLoad : ((wit_UnitCommandsComplete_configLoad.unit UnitId.a).boot = .up) := by decide +kernel
theorem test_wit_UnitCommandsComplete_lpeChcfgWrite : ((State.reset.unit UnitId.a).allowed (Requester.core 0) true (LPE_CHCFG.EN.addr ((95 : Fin 96)).val) = true) ∧ ((State.reset.unit UnitId.a).bit LPE_CHCFG.EN ((95 : Fin 96)).val = false) ∧ (bitAt ((0x80000000 : Word)).toNat 31 = true) ∧ (((State.reset.unit UnitId.a).setWord (LPE_CHCFG.EN.addr ((95 : Fin 96)).val) (((0x80000000 : Word)) &&& 0x3F9C0000)).mayEnable ((95 : Fin 96)).val = true) := by decide +kernel
def wit_UnitCommandsComplete_lpeChcfgWriteOff : State := State.reset.onUnit .a (fun x => x.set LPE_CHCFG.EN 1)
theorem test_wit_UnitCommandsComplete_lpeChcfgWriteOff : ((wit_UnitCommandsComplete_lpeChcfgWriteOff.unit UnitId.a).allowed (Requester.core 0) true (LPE_CHCFG.EN.addr ((0 : Fin 96)).val) = true) ∧ ((wit_UnitCommandsComplete_lpeChcfgWriteOff.unit UnitId.a).bit LPE_CHCFG.EN ((0 : Fin 96)).val = true) ∧ (bitAt ((0 : Word)).toNat 31 = false) ∧ (((0 : Word)) &&& 0x3F9C0000 = ((wit_UnitCommandsComplete_lpeChcfgWriteOff.unit UnitId.a).word (LPE_CHCFG.EN.addr ((0 : Fin 96)).val) &&& 0x3F9C0000)) := by decide +kernel
def wit_UnitCommandsComplete_lpeSwapReq : State := State.reset.onUnit .a (fun x => (x.set SPL_STAT.UP 1).set LPE_CHCFG.EN 1 95)
theorem test_wit_UnitCommandsComplete_lpeSwapReq : ((wit_UnitCommandsComplete_lpeSwapReq.unit UnitId.a).allowed (Requester.core 0) true 0x23044 = true) ∧ (2 = (if bitAt ((0x5000005F : Word)).toNat 30 = true then (wit_UnitCommandsComplete_lpeSwapReq.unit UnitId.a).pn + 2 else (wit_UnitCommandsComplete_lpeSwapReq.unit UnitId.a).pair LPE_SWAPPN_LO.PN_LO LPE_SWAPPN_HI.PN_HI)) ∧ ((wit_UnitCommandsComplete_lpeSwapReq.unit UnitId.a).swapCode { ch := ((0x5000005F : Word)).toNat % 128, bank := ((0x5000005F : Word)).toNat / 2 ^ 31, n := ((0x5000005F : Word)).toNat / 65536 % 8192, pn := 2, last := true } = 1) ∧ (((wit_UnitCommandsComplete_lpeSwapReq.unit UnitId.a).set LPE_SWAPRES.RES 1).splUp = true) := by decide +kernel
def wit_UnitCommandsComplete_swapReqRx : State := State.reset.onUnit UnitId.a (fun x => x.set LPE_CHCFG.EN 1 95)
theorem test_wit_UnitCommandsComplete_swapReqRx : ((wit_UnitCommandsComplete_swapReqRx.unit UnitId.a).works 0x23000 = true) ∧ ((wit_UnitCommandsComplete_swapReqRx.unit UnitId.a).swapCode { ch := ((95 : Fin 128)).val, bank := ((1 : Fin 2)).val, n := ((4096 : Fin 8192)).val, pn := ((2 : BitVec 48)).toNat, last := false } = 1) := by decide +kernel
theorem test_wit_UnitCommandsComplete_swapReqRxRefused : ((State.reset.unit UnitId.a).works 0x23000 = true) ∧ (¬ ((State.reset.unit UnitId.a).swapCode { ch := ((127 : Fin 128)).val, bank := ((1 : Fin 2)).val, n := ((0 : Fin 8192)).val, pn := ((2 : BitVec 48)).toNat, last := false } = 1)) := by decide +kernel
theorem test_wit_UnitCommandsComplete_swapRefusalRx : ((State.reset.unit UnitId.a).works 0x23000 = true) := by decide +kernel
def wit_UnitCommandsComplete_swapEffect : State := State.reset.onUnit .a (fun x => ({ x with lpe := { x.lpe with queue := [⟨5, 0, 1, 0, true⟩] } } : UnitSt).onChan 5 (fun c => { c with on := true }))
theorem test_wit_UnitCommandsComplete_swapEffect : ((wit_UnitCommandsComplete_swapEffect.unit UnitId.a).works 0x23000 = true) ∧ ((wit_UnitCommandsComplete_swapEffect.unit UnitId.a).lpe.queue = [(({ ch := 5, bank := 0, n := 1, pn := 0, last := true } : SwapReq))]) ∧ ((({ ch := 5, bank := 0, n := 1, pn := 0, last := true } : SwapReq)).pn ≤ (wit_UnitCommandsComplete_swapEffect.unit UnitId.a).pn) ∧ ((({ (wit_UnitCommandsComplete_swapEffect.unit UnitId.a) with lpe := { (wit_UnitCommandsComplete_swapEffect.unit UnitId.a).lpe with queue := [] } } : UnitSt).chan (({ ch := 5, bank := 0, n := 1, pn := 0, last := true } : SwapReq)).ch).on = true) := by decide +kernel
theorem test_wit_UnitCommandsComplete_lpeMoveReq : ((State.reset.unit UnitId.a).allowed (Requester.core 0) true 0x23058 = true) ∧ (((0x6000 : Word)).toNat % 128 < 96 ∧ (State.reset.unit UnitId.a).spares.contains (((0x6000 : Word)).toNat / 256 % 128) = true) := by decide +kernel
def wit_UnitCommandsComplete_clpCmdSeed : State := State.reset.onUnit .a (fun x => ((x.set STRP_ASSIGN.NCELL 4 5).set CLP_SEL.STRAND 5).set CLP_SEL.HOP 3)
theorem test_wit_UnitCommandsComplete_clpCmdSeed : ((wit_UnitCommandsComplete_clpCmdSeed.unit UnitId.a).allowed (Requester.core 0) true 0x220F8 = true) ∧ (5 = (wit_UnitCommandsComplete_clpCmdSeed.unit UnitId.a).fld CLP_SEL.STRAND) ∧ (3 = (wit_UnitCommandsComplete_clpCmdSeed.unit UnitId.a).fld CLP_SEL.HOP) ∧ ((wit_UnitCommandsComplete_clpCmdSeed.unit UnitId.a).isCell 5 3 = true) := by decide +kernel
def wit_UnitCommandsComplete_clpCmdRetire : State := State.reset.onUnit .a (fun x => ((x.set STRP_ASSIGN.NCELL 4 5).set CLP_SEL.STRAND 5).set CLP_SEL.HOP 3)
theorem test_wit_UnitCommandsComplete_clpCmdRetire : ((wit_UnitCommandsComplete_clpCmdRetire.unit UnitId.a).allowed (Requester.core 0) true 0x220F8 = true) ∧ (5 = (wit_UnitCommandsComplete_clpCmdRetire.unit UnitId.a).fld CLP_SEL.STRAND) ∧ (3 = (wit_UnitCommandsComplete_clpCmdRetire.unit UnitId.a).fld CLP_SEL.HOP) ∧ ((wit_UnitCommandsComplete_clpCmdRetire.unit UnitId.a).isCell 5 3 = true) := by decide +kernel
def wit_UnitCommandsComplete_clpCmdUnretire : State := State.reset.onUnit .a (fun x => ((x.set STRP_ASSIGN.NCELL 4 5).set CLP_SEL.STRAND 5).set CLP_SEL.HOP 3)
theorem test_wit_UnitCommandsComplete_clpCmdUnretire : ((wit_UnitCommandsComplete_clpCmdUnretire.unit UnitId.a).allowed (Requester.core 0) true 0x220F8 = true) ∧ (5 = (wit_UnitCommandsComplete_clpCmdUnretire.unit UnitId.a).fld CLP_SEL.STRAND) ∧ (3 = (wit_UnitCommandsComplete_clpCmdUnretire.unit UnitId.a).fld CLP_SEL.HOP) ∧ ((wit_UnitCommandsComplete_clpCmdUnretire.unit UnitId.a).isCell 5 3 = true) := by decide +kernel
def wit_UnitCommandsComplete_clpCmdClrchk : State := State.reset.onUnit .a (fun x => ((x.set STRP_ASSIGN.NCELL 4 5).set CLP_SEL.STRAND 5).set CLP_SEL.HOP 3)
theorem test_wit_UnitCommandsComplete_clpCmdClrchk : ((wit_UnitCommandsComplete_clpCmdClrchk.unit UnitId.a).allowed (Requester.core 0) true 0x220F8 = true) ∧ (5 = (wit_UnitCommandsComplete_clpCmdClrchk.unit UnitId.a).fld CLP_SEL.STRAND) ∧ (3 = (wit_UnitCommandsComplete_clpCmdClrchk.unit UnitId.a).fld CLP_SEL.HOP) ∧ ((wit_UnitCommandsComplete_clpCmdClrchk.unit UnitId.a).isCell 5 3 = true) := by decide +kernel
theorem test_wit_UnitCommandsComplete_clpCmdRx : ((State.reset.unit UnitId.a).inQuiet = false) ∧ ((State.reset.unit UnitId.a).works 0x22000 = true) := by decide +kernel
theorem test_wit_UnitCommandsComplete_clpRecRead : ((State.reset.unit UnitId.a).allowed (Requester.core 0) false 0x220B0 = true) := by decide +kernel
def wit_UnitCommandsComplete_reelStart : State := State.reset.onUnit .a (fun x => x.set REEL_RSIZE.SIZE 16)
theorem test_wit_UnitCommandsComplete_reelStart : ((wit_UnitCommandsComplete_reelStart.unit UnitId.a).allowed (Requester.core 0) true 0x310C0 = true) ∧ (¬ ((wit_UnitCommandsComplete_reelStart.unit UnitId.a).fld REEL_STAT.CAP = 1 ∨ (wit_UnitCommandsComplete_reelStart.unit UnitId.a).fld REEL_STAT.CAP = 2)) ∧ (¬ ((wit_UnitCommandsComplete_reelStart.unit UnitId.a).fld REEL_RSIZE.SIZE = 0)) ∧ (¬ ((wit_UnitCommandsComplete_reelStart.unit UnitId.a).fld REEL_RSIZE.SIZE < 16 ∨ 2 ^ 20 < (wit_UnitCommandsComplete_reelStart.unit UnitId.a).fld REEL_RSIZE.SIZE ∨ (wit_UnitCommandsComplete_reelStart.unit UnitId.a).fld REEL_RBASE_LO.ADDR_LO % 4096 ≠ 0)) ∧ ((wit_UnitCommandsComplete_reelStart.unit UnitId.a).reelOver ((wit_UnitCommandsComplete_reelStart.unit UnitId.a).fld TIM_PERIOD.T) = false) := by decide +kernel
def wit_UnitCommandsComplete_reelHalt : State := State.reset.onUnit .a (fun x => x.set REEL_STAT.CAP 2)
theorem test_wit_UnitCommandsComplete_reelHalt : ((wit_UnitCommandsComplete_reelHalt.unit UnitId.a).allowed (Requester.core 0) true 0x310C0 = true) ∧ (((wit_UnitCommandsComplete_reelHalt.unit UnitId.a).fld REEL_STAT.CAP = 1 ∨ (wit_UnitCommandsComplete_reelHalt.unit UnitId.a).fld REEL_STAT.CAP = 2)) := by decide +kernel
def wit_UnitCommandsComplete_reelMark : State := State.reset.onUnit UnitId.a (fun x => x.set REEL_STAT.CAP 1)
theorem test_wit_UnitCommandsComplete_reelMark : (((wit_UnitCommandsComplete_reelMark.unit UnitId.a).tick 0).allowed (Requester.core 3) true 0x310C0 = true) ∧ ((((wit_UnitCommandsComplete_reelMark.unit UnitId.a).tick 0).fld REEL_STAT.CAP = 1 ∨ ((wit_UnitCommandsComplete_reelMark.unit UnitId.a).tick 0).fld REEL_STAT.CAP = 2)) := by decide +kernel
theorem test_wit_UnitCommandsComplete_xtrigRx : ((State.reset.unit UnitId.a).inQuiet = false) := by decide +kernel
def wit_UnitCommandsComplete_reelPeriodClose : State := State.reset.onUnit .a (fun x => { (x.set TIM_PN_LO.PN_LO 1).set REEL_STAT.CAP 1 with tim := { x.tim with counting := true }, reel := { x.reel with snap := some ⟨0, 0, 100, 0, 0, 0, [], [], []⟩ } })
theorem test_wit_UnitCommandsComplete_reelPeriodClose : ((!(wit_UnitCommandsComplete_reelPeriodClose.unit UnitId.a).works 0x31000 || !(wit_UnitCommandsComplete_reelPeriodClose.unit UnitId.a).tim.counting || (wit_UnitCommandsComplete_reelPeriodClose.unit UnitId.a).pn == 0) = false) ∧ ((wit_UnitCommandsComplete_reelPeriodClose.unit UnitId.a).reel.snap = some (({ pn := 0, t0 := 0, t := 100, flags := 0, stat := 0, epoch := 0, cells := [], loop := [], arms := [] } : ReelSnap))) ∧ (((wit_UnitCommandsComplete_reelPeriodClose.unit UnitId.a).capturing && (({ pn := 0, t0 := 0, t := 100, flags := 0, stat := 0, epoch := 0, cells := [], loop := [], arms := [] } : ReelSnap)).pn + 1 == (wit_UnitCommandsComplete_reelPeriodClose.unit UnitId.a).pn) = true) := by decide +kernel
def wit_UnitCommandsComplete_reelRingWrite : State := State.reset.onUnit .a (fun x => { (((x.set PCIE_LINK.UP 1).set PCIE_LINK.BME0 1).set REEL_RSIZE.SIZE 16) with reel := { x.reel with staging := [⟨2, 0, 0, 0, List.replicate 48 0, true, false⟩] } })
theorem test_wit_UnitCommandsComplete_reelRingWrite : (((wit_UnitCommandsComplete_reelRingWrite.unit UnitId.a).works 0x31000 && (wit_UnitCommandsComplete_reelRingWrite.unit UnitId.a).bit PCIE_LINK.UP && (wit_UnitCommandsComplete_reelRingWrite.unit UnitId.a).bit PCIE_LINK.BME0 && (wit_UnitCommandsComplete_reelRingWrite.unit UnitId.a).ringSize != 0) = true) ∧ ((wit_UnitCommandsComplete_reelRingWrite.unit UnitId.a).reel.staging = ((⟨2, 0, 0, 0, List.replicate 48 0, true, false⟩ : ReelRec)) :: (([] : List ReelRec))) ∧ ((wit_UnitCommandsComplete_reelRingWrite.unit UnitId.a).ringSize - (wit_UnitCommandsComplete_reelRingWrite.unit UnitId.a).fld REEL_WPTR.WPTR ≥ ((⟨2, 0, 0, 0, List.replicate 48 0, true, false⟩ : ReelRec)).size) ∧ ((wit_UnitCommandsComplete_reelRingWrite.unit UnitId.a).ringFill + 0 + ((⟨2, 0, 0, 0, List.replicate 48 0, true, false⟩ : ReelRec)).size + 8 ≤ (wit_UnitCommandsComplete_reelRingWrite.unit UnitId.a).ringSize) := by decide +kernel
theorem test_wit_UnitCommandsComplete_spliceLaneRetire : ((State.reset.unit UnitId.a).inQuiet = false) ∧ ((true || decide (((State.reset.unit UnitId.a).set SPL_CNT1.BLKERR (min 65535 ((State.reset.unit UnitId.a).fld SPL_CNT1.BLKERR + ((0 : Fin 65536)).val))).fld SPL_BERTH.BERTH < ((0 : Fin 65536)).val)) = true) ∧ (((if true then (((State.reset.unit UnitId.a).set SPL_CNT1.BLKERR (min 65535 ((State.reset.unit UnitId.a).fld SPL_CNT1.BLKERR + ((0 : Fin 65536)).val))).set SPL_LSTAT.LOCK 0 ((1 : Fin 4)).val).showLanes else (State.reset.unit UnitId.a).set SPL_CNT1.BLKERR (min 65535 ((State.reset.unit UnitId.a).fld SPL_CNT1.BLKERR + ((0 : Fin 65536)).val))).bit SPL_LSTAT.RET ((1 : Fin 4)).val) = false) := by decide +kernel
def wit_UnitCommandsComplete_spliceLaneMove : State := State.reset.onUnit UnitId.a (fun x => x.set SPL_LANEMAP.AUTOSP 1)
theorem test_wit_UnitCommandsComplete_spliceLaneMove : (¬ ((wit_UnitCommandsComplete_spliceLaneMove.unit UnitId.a).inQuiet = true ∨ (!(wit_UnitCommandsComplete_spliceLaneMove.unit UnitId.a).bit SPL_LANEMAP.AUTOSP) = true)) := by decide +kernel
def wit_UnitCommandsComplete_handoverReq : State := State.reset.onUnit .a (fun x => { (x.set LSE_STAT.STATE 2).set SPL_STAT.UP 1 with lse := { x.lse with partReady := true } })
theorem test_wit_UnitCommandsComplete_handoverReq : ((wit_UnitCommandsComplete_handoverReq.unit UnitId.a).allowed (Requester.core 0) true 0x32048 = true) ∧ (bitAt ((0xC0000000 : Word)).toNat 31 = true) ∧ (3 = (if bitAt ((0xC0000000 : Word)).toNat 30 = true then (wit_UnitCommandsComplete_handoverReq.unit UnitId.a).pn + 3 else (wit_UnitCommandsComplete_handoverReq.unit UnitId.a).pair LSE_HOVPN_LO.PN_LO LSE_HOVPN_HI.PN_HI)) ∧ ((wit_UnitCommandsComplete_handoverReq.unit UnitId.a).isHolder = true) ∧ (((wit_UnitCommandsComplete_handoverReq.unit UnitId.a).splUp && (wit_UnitCommandsComplete_handoverReq.unit UnitId.a).lse.partReady) = true) ∧ ((wit_UnitCommandsComplete_handoverReq.unit UnitId.a).pn + 3 ≤ 3) := by decide +kernel
def wit_UnitCommandsComplete_hovreqRx : State := State.reset.onUnit UnitId.a (fun x => { x.set SPL_STAT.UP 1 with lse := { x.lse with mirror := [1] } })
theorem test_wit_UnitCommandsComplete_hovreqRx : ((wit_UnitCommandsComplete_hovreqRx.unit UnitId.a).ready = true) ∧ ((wit_UnitCommandsComplete_hovreqRx.unit UnitId.a).inQuiet = false) := by decide +kernel
def wit_UnitCommandsComplete_hovackRx : State := State.reset.onUnit UnitId.a (fun x => { x.set LSE_STAT.STATE 2 with lse := { x.lse with hovMine := true, hovP := some 7 } })
theorem test_wit_UnitCommandsComplete_hovackRx : ((wit_UnitCommandsComplete_hovackRx.unit UnitId.a).lse.hovMine = true) ∧ ((wit_UnitCommandsComplete_hovackRx.unit UnitId.a).lse.hovP = some ((7 : BitVec 48)).toNat) ∧ ((wit_UnitCommandsComplete_hovackRx.unit UnitId.a).lse.hovAcked = false) ∧ ((wit_UnitCommandsComplete_hovackRx.unit UnitId.a).isHolder = true) ∧ ((wit_UnitCommandsComplete_hovackRx.unit UnitId.a).hovInTime ((7 : BitVec 48)).toNat = true) := by decide +kernel
def wit_UnitCommandsComplete_handoverDeadline : State := State.reset.onUnit UnitId.a (fun x => { x with lse := { x.lse with hovP := some 3, hovMine := true } })
theorem test_wit_UnitCommandsComplete_handoverDeadline : ((wit_UnitCommandsComplete_handoverDeadline.unit UnitId.a).lse.hovP = some 3) ∧ (((wit_UnitCommandsComplete_handoverDeadline.unit UnitId.a).lse.hovMine = true ∧ (!(wit_UnitCommandsComplete_handoverDeadline.unit UnitId.a).lse.hovAcked) = true ∧ 3 ≤ (wit_UnitCommandsComplete_handoverDeadline.unit UnitId.a).pn + 3)) ∧ ((((wit_UnitCommandsComplete_handoverDeadline.unit UnitId.a).hovRefuse 5).hovForget).flt.escWait = none) := by decide +kernel
def wit_UnitCommandsComplete_handoverSwitch : State := State.reset.onUnit UnitId.a (fun x => { x.set LSE_STAT.STATE 2 with lse := { x.lse with hovP := some 1, hovMine := true, hovAcked := true } })
theorem test_wit_UnitCommandsComplete_handoverSwitch : ((wit_UnitCommandsComplete_handoverSwitch.unit UnitId.a).lse.hovP = some 1) ∧ ((wit_UnitCommandsComplete_handoverSwitch.unit UnitId.a).lse.hovAcked = true) ∧ ((wit_UnitCommandsComplete_handoverSwitch.unit UnitId.a).pn + 1 = 1) ∧ ((wit_UnitCommandsComplete_handoverSwitch.unit UnitId.a).lse.hovMine = true) ∧ ((wit_UnitCommandsComplete_handoverSwitch.unit UnitId.a).isHolder = true) := by decide +kernel
def wit_UnitCommandsComplete_handoverSwitchTake : State := State.reset.onUnit UnitId.a (fun x => { x with lse := { x.lse with hovP := some 1, hovAcked := true } })
theorem test_wit_UnitCommandsComplete_handoverSwitchTake : ((wit_UnitCommandsComplete_handoverSwitchTake.unit UnitId.a).lse.hovP = some 1) ∧ ((wit_UnitCommandsComplete_handoverSwitchTake.unit UnitId.a).lse.hovAcked = true) ∧ ((wit_UnitCommandsComplete_handoverSwitchTake.unit UnitId.a).pn + 1 = 1) ∧ ((wit_UnitCommandsComplete_handoverSwitchTake.unit UnitId.a).lse.hovMine = false) ∧ ((wit_UnitCommandsComplete_handoverSwitchTake.unit UnitId.a).lstate = 0) := by decide +kernel
theorem test_wit_UnitCommandsComplete_hbxSubmit : ((State.reset.unit UnitId.a).allowed (Requester.core 0) true (0x2021C + 0x40 * ((5 : Fin 6)).val) = true) := by decide +kernel
def wit_UnitCommandsComplete_hbxTimedRelease : State := State.reset.onUnit .a (fun x => { x with hbx := { x.hbx with delay := [⟨1, ⟨0, 1, false, false, true, 0, 0, 0, 0, 0, 0, 0, 0, 0⟩, 0, 0, [], [], [], 0, 0⟩] } })
theorem test_wit_UnitCommandsComplete_hbxTimedRelease : (((wit_UnitCommandsComplete_hbxTimedRelease.unit UnitId.a).tick 0).fenced = false) ∧ (((wit_UnitCommandsComplete_hbxTimedRelease.unit UnitId.a).tick 0).hbx.delay = [((⟨1, ⟨0, 1, false, false, true, 0, 0, 0, 0, 0, 0, 0, 0, 0⟩, 0, 0, [], [], [], 0, 0⟩ : Txn))]) ∧ (dueIn (((wit_UnitCommandsComplete_hbxTimedRelease.unit UnitId.a).tick 0).now / 65536000) ((⟨1, ⟨0, 1, false, false, true, 0, 0, 0, 0, 0, 0, 0, 0, 0⟩, 0, 0, [], [], [], 0, 0⟩ : Txn)).desc.at_ = 0) ∧ (((wit_UnitCommandsComplete_hbxTimedRelease.unit UnitId.a).tick 0).queueDepth ((⟨1, ⟨0, 1, false, false, true, 0, 0, 0, 0, 0, 0, 0, 0, 0⟩, 0, 0, [], [], [], 0, 0⟩ : Txn)).desc < 256) ∧ (((wit_UnitCommandsComplete_hbxTimedRelease.unit UnitId.a).tick 0).works 0x20000 = true) := by decide +kernel
theorem test_wit_UnitCommandsComplete_hbxReplyMissing : ((State.reset.unit UnitId.a).works 0x20000 = true) := by decide +kernel
def wit_UnitCommandsComplete_hbxTimeout : State := State.reset.onUnit UnitId.a (fun x => x.set HBX_STAT.MODE 3)
theorem test_wit_UnitCommandsComplete_hbxTimeout : (¬ ((wit_UnitCommandsComplete_hbxTimeout.unit UnitId.a).fld HBX_STAT.MODE = 0)) ∧ ((wit_UnitCommandsComplete_hbxTimeout.unit UnitId.a).works 0x20000 = true) := by decide +kernel
theorem test_wit_UnitCommandsComplete_hbxCplReadNone : ((State.reset.unit UnitId.a).allowed (Requester.core 0) false (0x20224 + 0x40 * ((5 : Fin 6)).val) = true) ∧ (sget (fun _ => []) (State.reset.unit UnitId.a).hbx.fifo ((5 : Fin 6)).val = []) := by decide +kernel
def wit_UnitCommandsComplete_hbxCplRead : State := State.reset.onUnit .a (fun x => { x with hbx := { x.hbx with fifo := [(5, [⟨1, 0, 0, 0, 0, 0, 0⟩])] } })
theorem test_wit_UnitCommandsComplete_hbxCplRead : ((wit_UnitCommandsComplete_hbxCplRead.unit UnitId.a).allowed (Requester.core 0) false (0x20224 + 0x40 * ((5 : Fin 6)).val) = true) ∧ (sget (fun _ => []) (wit_UnitCommandsComplete_hbxCplRead.unit UnitId.a).hbx.fifo ((5 : Fin 6)).val = ((⟨1, 0, 0, 0, 0, 0, 0⟩ : Cpl)) :: (([] : List Cpl))) := by decide +kernel
theorem test_wit_UnitCommandsComplete_hbxFlush : ((State.reset.unit UnitId.a).allowed (Requester.core 0) true 0x20044 = true) := by decide +kernel
def wit_UnitCommandsComplete_mirrorSend : State := State.reset.onUnit UnitId.a (fun x => (x.set LSE_STAT.STATE 2).set SPL_STAT.UP 1)
theorem test_wit_UnitCommandsComplete_mirrorSend : ((wit_UnitCommandsComplete_mirrorSend.unit UnitId.a).mirrors = true) ∧ ((wit_UnitCommandsComplete_mirrorSend.unit UnitId.a).lse.rsTx = []) := by decide +kernel
theorem test_wit_UnitCommandsComplete_mirrorCommitRx : (((State.reset.unit UnitId.a).inQuiet || (State.reset.unit UnitId.a).isHolder || (State.reset.unit UnitId.a).fenced) = false) := by decide +kernel
def wit_UnitCommandsComplete_resyncReqRx : State := State.reset.onUnit UnitId.a (fun x => x.set LSE_STAT.STATE 2)
theorem test_wit_UnitCommandsComplete_resyncReqRx : ((!(wit_UnitCommandsComplete_resyncReqRx.unit UnitId.a).isHolder || (wit_UnitCommandsComplete_resyncReqRx.unit UnitId.a).inQuiet || (wit_UnitCommandsComplete_resyncReqRx.unit UnitId.a).lse.rsAsk.contains ((5 : Fin 6)).val || (wit_UnitCommandsComplete_resyncReqRx.unit UnitId.a).lse.rsTx.any (fun t => t.1 == ((5 : Fin 6)).val)) = false) := by decide +kernel
def wit_UnitCommandsComplete_resyncBlockRx : State := State.reset.onUnit UnitId.a (fun x => { x with lse := { x.lse with rsWant := [0] } })
theorem test_wit_UnitCommandsComplete_resyncBlockRx : (((wit_UnitCommandsComplete_resyncBlockRx.unit UnitId.a).inQuiet || !(wit_UnitCommandsComplete_resyncBlockRx.unit UnitId.a).lse.rsWant.contains ((0 : Fin 6)).val) = false) := by decide +kernel
def wit_UnitCommandsComplete_resyncBlockRxLater : State := State.reset.onUnit UnitId.a (fun x => { x with lse := { x.lse with rsWant := [0] } })
theorem test_wit_UnitCommandsComplete_resyncBlockRxLater : (((wit_UnitCommandsComplete_resyncBlockRxLater.unit UnitId.a).inQuiet || !(wit_UnitCommandsComplete_resyncBlockRxLater.unit UnitId.a).lse.rsWant.contains ((0 : Fin 6)).val) = false) ∧ (1 ≠ 0) := by decide +kernel
def wit_UnitCommandsComplete_resyncApply : State := State.reset.onUnit UnitId.a (fun x => { x with lse := { x.lse with rsRx := [⟨0, 0, [], []⟩] } })
theorem test_wit_UnitCommandsComplete_resyncApply : ((wit_UnitCommandsComplete_resyncApply.unit UnitId.a).lse.rsRx.find? (fun r => r.arm == ((0 : Fin 6)).val) = some ((⟨0, 0, [], []⟩ : RsRx))) ∧ (¬ (((⟨0, 0, [], []⟩ : RsRx)).data.length < 64 * ((wit_UnitCommandsComplete_resyncApply.unit UnitId.a).armCells ((0 : Fin 6)).val).length ∨ (!(wit_UnitCommandsComplete_resyncApply.unit UnitId.a).works 0x22000) = true)) := by decide +kernel
def wit_CellCommandsComplete_swChange : State := State.reset.onCell (⟨0, 0⟩ : CellId) (fun x => (x.set CSW_CFG.EAT 0).setLeg 0 { sched := [⟨100, .up, 0, 0⟩] })
theorem test_wit_CellCommandsComplete_swChange : (((wit_CellCommandsComplete_swChange.cell ((⟨0, 0⟩ : CellId))).leg ((0 : Fin 2)).val).sched = [((⟨100, .up, 0, 0⟩ : Chg))]) ∧ (((wit_CellCommandsComplete_swChange.cell ((⟨0, 0⟩ : CellId))).leg ((0 : Fin 2)).val).refr = none) ∧ (((wit_CellCommandsComplete_swChange.cell ((⟨0, 0⟩ : CellId))).leg ((0 : Fin 2)).val).calls = []) ∧ ((wit_CellCommandsComplete_swChange.cell ((⟨0, 0⟩ : CellId))).upcoming ((0 : Fin 2)).val ((⟨100, .up, 0, 0⟩ : Chg)).at_ = []) ∧ ((wit_CellCommandsComplete_swChange.cell ((⟨0, 0⟩ : CellId))).eat = false) := by decide +kernel
def wit_CellCommandsComplete_gateCall : State := State.reset.onCell (⟨0, 0⟩ : CellId) (fun x => x.setLeg 1 { calls := [(7, .lo)] })
theorem test_wit_CellCommandsComplete_gateCall : (((wit_CellCommandsComplete_gateCall.cell ((⟨0, 0⟩ : CellId))).leg ((1 : Fin 2)).val).calls = (7, Leg.lo) :: (([] : List (Instant × Leg)))) := by decide +kernel
def wit_CellCommandsComplete_refreshStart : State := State.reset.onCell (⟨0, 0⟩ : CellId) (fun x => ((((x.setWord 0x404C 0x00010001).set CSW_CFG.EAT 0).set CSW_CFG.REFR 1).gateUp 0 100))
theorem test_wit_CellCommandsComplete_refreshStart : ((wit_CellCommandsComplete_refreshStart.cell ((⟨0, 0⟩ : CellId))).gateOn (2 * ((0 : Fin 2)).val) = some 100) ∧ (((wit_CellCommandsComplete_refreshStart.cell ((⟨0, 0⟩ : CellId))).leg ((0 : Fin 2)).val).refr = none) ∧ ((wit_CellCommandsComplete_refreshStart.cell ((⟨0, 0⟩ : CellId))).eat = false) ∧ ((wit_CellCommandsComplete_refreshStart.cell ((⟨0, 0⟩ : CellId))).bit CSW_CFG.REFR = true) ∧ (CSW_REFR.RINT.get ((wit_CellCommandsComplete_refreshStart.cell ((⟨0, 0⟩ : CellId))).refrWord (100 + CSW_REFR.RINT.get ((wit_CellCommandsComplete_refreshStart.cell ((⟨0, 0⟩ : CellId))).word 0x404C) 0 * us)) 0 ≠ 0) ∧ ((wit_CellCommandsComplete_refreshStart.cell ((⟨0, 0⟩ : CellId))).tim.t0 ≤ 100 + CSW_REFR.RINT.get ((wit_CellCommandsComplete_refreshStart.cell ((⟨0, 0⟩ : CellId))).word 0x404C) 0 * us) ∧ (((wit_CellCommandsComplete_refreshStart.cell ((⟨0, 0⟩ : CellId))).leg ((0 : Fin 2)).val).sched = []) ∧ ((wit_CellCommandsComplete_refreshStart.cell ((⟨0, 0⟩ : CellId))).upcoming ((0 : Fin 2)).val (100 + CSW_REFR.RINT.get ((wit_CellCommandsComplete_refreshStart.cell ((⟨0, 0⟩ : CellId))).word 0x404C) 0 * us) = []) := by decide +kernel
def wit_CellCommandsComplete_refreshEnd : State := State.reset.onCell (⟨0, 0⟩ : CellId) (fun x => x.setLeg 0 { refr := some (1, 2, 3) })
theorem test_wit_CellCommandsComplete_refreshEnd : (((wit_CellCommandsComplete_refreshEnd.cell ((⟨0, 0⟩ : CellId))).leg ((0 : Fin 2)).val).refr = some (1, 2, 3)) ∧ (((wit_CellCommandsComplete_refreshEnd.cell ((⟨0, 0⟩ : CellId))).leg ((0 : Fin 2)).val).calls = []) ∧ (((wit_CellCommandsComplete_refreshEnd.cell ((⟨0, 0⟩ : CellId))).leg ((0 : Fin 2)).val).sched = []) := by decide +kernel
def wit_CellCommandsComplete_carrierEdge : State := State.reset.onCell (⟨0, 0⟩ : CellId) (fun x => (fun y : CellSt => { y with pow := .on }) ((((fun y : CellSt => { y with sw := { y.sw with cfgDone := true, last := 0 } }) (x.set CSW_CFG.MODE 1)).set CTIM_SERVO.STATE 2)))
theorem test_wit_CellCommandsComplete_carrierEdge : ((!(wit_CellCommandsComplete_carrierEdge.cell ((⟨0, 0⟩ : CellId))).carrier || (wit_CellCommandsComplete_carrierEdge.cell ((⟨0, 0⟩ : CellId))).sw.last == 3 || (wit_CellCommandsComplete_carrierEdge.cell ((⟨0, 0⟩ : CellId))).held || !(wit_CellCommandsComplete_carrierEdge.cell ((⟨0, 0⟩ : CellId))).works 0x4000) = false) := by decide +kernel
def wit_CellCommandsComplete_carrierTransferQ : State := State.reset.onCell (⟨0, 0⟩ : CellId) (fun x => { x with sw := { x.sw with xfer := some (4000, 0, 9) } })
theorem test_wit_CellCommandsComplete_carrierTransferQ : ((wit_CellCommandsComplete_carrierTransferQ.cell ((⟨0, 0⟩ : CellId))).sw.xfer = some (4000, ((0 : Word)), 9)) := by decide +kernel
def wit_CellCommandsComplete_adoptCoast : State := State.reset.onCell (⟨0, 0⟩ : CellId) (fun x => (fun y : CellSt => { y with pow := .on }) (x))
theorem test_wit_CellCommandsComplete_adoptCoast : ((wit_CellCommandsComplete_adoptCoast.cell ((⟨0, 0⟩ : CellId))).pow = .on ∧ (wit_CellCommandsComplete_adoptCoast.cell ((⟨0, 0⟩ : CellId))).works 0x4000 = true) ∧ ((wit_CellCommandsComplete_adoptCoast.cell ((⟨0, 0⟩ : CellId))).acceptedSlot ((wit_CellCommandsComplete_adoptCoast.cell ((⟨0, 0⟩ : CellId))).pn + 1) = none) := by decide +kernel
def wit_CellCommandsComplete_cmdAdopt : State := State.reset.onCell (⟨0, 0⟩ : CellId) (fun x => (fun y : CellSt => { y with pow := .on }) ({ x with acc := { pn := 1, slotA := some 3 } }))
theorem test_wit_CellCommandsComplete_cmdAdopt : ((wit_CellCommandsComplete_cmdAdopt.cell ((⟨0, 0⟩ : CellId))).pow = .on ∧ (wit_CellCommandsComplete_cmdAdopt.cell ((⟨0, 0⟩ : CellId))).works 0x4000 = true) ∧ ((wit_CellCommandsComplete_cmdAdopt.cell ((⟨0, 0⟩ : CellId))).acceptedSlot ((wit_CellCommandsComplete_cmdAdopt.cell ((⟨0, 0⟩ : CellId))).pn + 1) = some 3) ∧ (((wit_CellCommandsComplete_cmdAdopt.cell ((⟨0, 0⟩ : CellId))).bridge || !(cslotBstate 3 == 2 || cslotAlt 3 == 2)) = true) := by decide +kernel
def wit_CellCommandsComplete_cellBoundary : State := State.reset.onCell (⟨0, 0⟩ : CellId) (fun x => (fun y : CellSt => { y with pow := .on }) (x))
theorem test_wit_CellCommandsComplete_cellBoundary : ((wit_CellCommandsComplete_cellBoundary.cell ((⟨0, 0⟩ : CellId))).islandOn .tim = true) := by decide +kernel
def wit_CellCommandsComplete_cswCfgWrite : State := State.reset.onCell (⟨0, 0⟩ : CellId) (fun x => { x with pow := .on })
theorem test_wit_CellCommandsComplete_cswCfgWrite : (¬ ((wit_CellCommandsComplete_cswCfgWrite.cell ((⟨0, 0⟩ : CellId))).pow = .off ∨ (wit_CellCommandsComplete_cswCfgWrite.cell ((⟨0, 0⟩ : CellId))).pow = .dormant)) ∧ ((wit_CellCommandsComplete_cswCfgWrite.cell ((⟨0, 0⟩ : CellId))).islandOn (cellIsland 0x4040) = true) := by decide +kernel
def wit_CellCommandsComplete_cswCperWrite : State := State.reset.onCell (⟨0, 0⟩ : CellId) (fun x => { x with pow := .on })
theorem test_wit_CellCommandsComplete_cswCperWrite : (¬ ((wit_CellCommandsComplete_cswCperWrite.cell ((⟨0, 0⟩ : CellId))).pow = .off ∨ (wit_CellCommandsComplete_cswCperWrite.cell ((⟨0, 0⟩ : CellId))).pow = .dormant)) ∧ ((wit_CellCommandsComplete_cswCperWrite.cell ((⟨0, 0⟩ : CellId))).islandOn (cellIsland 0x4050) = true) := by decide +kernel
def wit_CellCommandsComplete_cswCdutyWrite : State := State.reset.onCell (⟨0, 0⟩ : CellId) (fun x => { x with pow := .on })
theorem test_wit_CellCommandsComplete_cswCdutyWrite : (¬ ((wit_CellCommandsComplete_cswCdutyWrite.cell ((⟨0, 0⟩ : CellId))).pow = .off ∨ (wit_CellCommandsComplete_cswCdutyWrite.cell ((⟨0, 0⟩ : CellId))).pow = .dormant)) ∧ ((wit_CellCommandsComplete_cswCdutyWrite.cell ((⟨0, 0⟩ : CellId))).islandOn (cellIsland 0x4054) = true) := by decide +kernel
def wit_CellCommandsComplete_cswCcmtCmt : State := State.reset.onCell (⟨0, 0⟩ : CellId) (fun x => { x with pow := .on })
theorem test_wit_CellCommandsComplete_cswCcmtCmt : (¬ ((wit_CellCommandsComplete_cswCcmtCmt.cell ((⟨0, 0⟩ : CellId))).pow = .off ∨ (wit_CellCommandsComplete_cswCcmtCmt.cell ((⟨0, 0⟩ : CellId))).pow = .dormant)) ∧ ((wit_CellCommandsComplete_cswCcmtCmt.cell ((⟨0, 0⟩ : CellId))).islandOn (cellIsland 0x405C) = true) := by decide +kernel
def wit_CellCommandsComplete_cswBypfireWrite : State := State.reset.onCell (⟨0, 0⟩ : CellId) (fun x => { x with pow := .on })
theorem test_wit_CellCommandsComplete_cswBypfireWrite : (¬ ((wit_CellCommandsComplete_cswBypfireWrite.cell ((⟨0, 0⟩ : CellId))).pow = .off ∨ (wit_CellCommandsComplete_cswBypfireWrite.cell ((⟨0, 0⟩ : CellId))).pow = .dormant)) ∧ ((wit_CellCommandsComplete_cswBypfireWrite.cell ((⟨0, 0⟩ : CellId))).islandOn (cellIsland 0x40A4) = true) := by decide +kernel
def wit_CellCommandsComplete_windowRestart : State := State.reset.onCell (⟨0, 0⟩ : CellId) (fun x => x.onCh 2 (fun h => { h with starts := [5] }))
theorem test_wit_CellCommandsComplete_windowRestart : (((wit_CellCommandsComplete_windowRestart.cell ((⟨0, 0⟩ : CellId))).ch ((2 : Fin 4)).val).starts = [5]) := by decide +kernel
def wit_CellCommandsComplete_cmeasSyncReq : State := State.reset.onCell (⟨0, 0⟩ : CellId) (fun x => { x with pow := .on })
theorem test_wit_CellCommandsComplete_cmeasSyncReq : (¬ ((wit_CellCommandsComplete_cmeasSyncReq.cell ((⟨0, 0⟩ : CellId))).pow = .off ∨ (wit_CellCommandsComplete_cmeasSyncReq.cell ((⟨0, 0⟩ : CellId))).pow = .dormant)) ∧ ((wit_CellCommandsComplete_cmeasSyncReq.cell ((⟨0, 0⟩ : CellId))).islandOn (cellIsland 0x3118) = true) := by decide +kernel
def wit_CellCommandsComplete_syncPinEdge : State := State.reset.onCell (⟨0, 0⟩ : CellId) (fun x => (fun y : CellSt => { y with pow := .on }) ((x.set CMEAS_SYNC.SRC 1).set CTMX_DSEL.SEL 1 0))
theorem test_wit_CellCommandsComplete_syncPinEdge : (((wit_CellCommandsComplete_syncPinEdge.cell ((⟨0, 0⟩ : CellId))).bit CMEAS_SYNC.SRC && (wit_CellCommandsComplete_syncPinEdge.cell ((⟨0, 0⟩ : CellId))).fld CTMX_DSEL.SEL 0 == 1 && (wit_CellCommandsComplete_syncPinEdge.cell ((⟨0, 0⟩ : CellId))).works 0xA000 && (wit_CellCommandsComplete_syncPinEdge.cell ((⟨0, 0⟩ : CellId))).works 0x3000) = true) := by decide +kernel
def wit_CellCommandsComplete_cmeasInjWrite : State := State.reset.onCell (⟨0, 0⟩ : CellId) (fun x => (fun y : CellSt => { y with pow := .on }) (x))
theorem test_wit_CellCommandsComplete_cmeasInjWrite : (¬ (((wit_CellCommandsComplete_cmeasInjWrite.cell ((⟨0, 0⟩ : CellId))).tick 5).pow = .off ∨ ((wit_CellCommandsComplete_cmeasInjWrite.cell ((⟨0, 0⟩ : CellId))).tick 5).pow = .dormant)) ∧ (((wit_CellCommandsComplete_cmeasInjWrite.cell ((⟨0, 0⟩ : CellId))).tick 5).islandOn (cellIsland 0x30D8) = true) := by decide +kernel
def wit_CellCommandsComplete_injResultReady : State := State.reset.onCell (⟨0, 0⟩ : CellId) (fun x => (fun y : CellSt => { y with pow := .on }) (x.onCh 3 (fun h => { h with inj := some (1, 9) })))
theorem test_wit_CellCommandsComplete_injResultReady : (((wit_CellCommandsComplete_injResultReady.cell ((⟨0, 0⟩ : CellId))).ch ((3 : Fin 4)).val).inj = some (1, 9)) ∧ ((wit_CellCommandsComplete_injResultReady.cell ((⟨0, 0⟩ : CellId))).running ((3 : Fin 4)).val = true) := by decide +kernel
def wit_CellCommandsComplete_injresRead : State := State.reset.onCell (⟨0, 0⟩ : CellId) (fun x => (fun y : CellSt => { y with pow := .on }) (x))
theorem test_wit_CellCommandsComplete_injresRead : (¬ ((wit_CellCommandsComplete_injresRead.cell ((⟨0, 0⟩ : CellId))).pow = .off ∨ (wit_CellCommandsComplete_injresRead.cell ((⟨0, 0⟩ : CellId))).pow = .dormant)) ∧ ((wit_CellCommandsComplete_injresRead.cell ((⟨0, 0⟩ : CellId))).islandOn (cellIsland (0x30E0 + 4 * ((3 : Fin 4)).val)) = true) := by decide +kernel
def wit_CellCommandsComplete_cgenRstWrite : State := State.reset.onCell (⟨0, 0⟩ : CellId) (fun x => (fun y : CellSt => { y with pow := .on }) (x))
theorem test_wit_CellCommandsComplete_cgenRstWrite : (¬ ((wit_CellCommandsComplete_cgenRstWrite.cell ((⟨0, 0⟩ : CellId))).pow = .off ∨ (wit_CellCommandsComplete_cgenRstWrite.cell ((⟨0, 0⟩ : CellId))).pow = .dormant)) ∧ ((wit_CellCommandsComplete_cgenRstWrite.cell ((⟨0, 0⟩ : CellId))).islandOn (cellIsland 0x4C) = true) := by decide +kernel
def wit_CellCommandsComplete_cprotPwrreqWrite : State := State.reset.onCell (⟨0, 0⟩ : CellId) (fun x => { x with pow := .on })
theorem test_wit_CellCommandsComplete_cprotPwrreqWrite : (¬ ((wit_CellCommandsComplete_cprotPwrreqWrite.cell ((⟨0, 0⟩ : CellId))).pow = .off ∨ (wit_CellCommandsComplete_cprotPwrreqWrite.cell ((⟨0, 0⟩ : CellId))).pow = .dormant)) ∧ ((wit_CellCommandsComplete_cprotPwrreqWrite.cell ((⟨0, 0⟩ : CellId))).islandOn (cellIsland 0x506C) = true) := by decide +kernel
def wit_CellCommandsComplete_dormantLinkTimeout : State := State.reset.onCell (⟨0, 0⟩ : CellId) (fun x => (fun y : CellSt => { y with lnkA := { y.lnkA with lostAt := some 1 }, lnkB := { y.lnkB with lostAt := some 2 } }) ((x.set CPROT_PWR.VDORM 1).onCh 0 (fun h => { h with valid := true })))
theorem test_wit_CellCommandsComplete_dormantLinkTimeout : ((wit_CellCommandsComplete_dormantLinkTimeout.cell ((⟨0, 0⟩ : CellId))).lnkA.lostAt = some 1) ∧ ((wit_CellCommandsComplete_dormantLinkTimeout.cell ((⟨0, 0⟩ : CellId))).lnkB.lostAt = some 2) ∧ ((wit_CellCommandsComplete_dormantLinkTimeout.cell ((⟨0, 0⟩ : CellId))).pow = .idle ∧ (wit_CellCommandsComplete_dormantLinkTimeout.cell ((⟨0, 0⟩ : CellId))).belowDorm = true ∧ max 1 2 + 100000 * us ≤ 1000000000000000) := by decide +kernel
def wit_CellCommandsComplete_cellWakeLight : State := State.reset.onCell (⟨0, 0⟩ : CellId) (fun x => { x with pow := .dormant })
theorem test_wit_CellCommandsComplete_cellWakeLight : ((wit_CellCommandsComplete_cellWakeLight.cell ((⟨0, 0⟩ : CellId))).pow = .dormant) := by decide +kernel
def wit_CellCommandsComplete_cellWakeCharge : State := State.reset.onCell (⟨0, 0⟩ : CellId) (fun x => { x with pow := .dormant })
theorem test_wit_CellCommandsComplete_cellWakeCharge : ((wit_CellCommandsComplete_cellWakeCharge.cell ((⟨0, 0⟩ : CellId))).pow = .dormant) := by decide +kernel
def wit_CellCommandsComplete_cellStrandReset : State := State.reset.onCell (⟨0, 0⟩ : CellId) (fun x => { x with pow := .on, rstPend := some { pn := 7, due := 9, toA := true, toB := true } })
theorem test_wit_CellCommandsComplete_cellStrandReset : ((wit_CellCommandsComplete_cellStrandReset.cell ((⟨0, 0⟩ : CellId))).rstPend = some (({ pn := 7, due := 9, toA := true, toB := true } : RstPend))) ∧ (((wit_CellCommandsComplete_cellStrandReset.cell ((⟨0, 0⟩ : CellId))).islandOn .lnk && ((({ pn := 7, due := 9, toA := true, toB := true } : RstPend)).toA && (({ pn := 7, due := 9, toA := true, toB := true } : RstPend)).toB || decide ((({ pn := 7, due := 9, toA := true, toB := true } : RstPend)).due ≤ 0))) = true) := by decide +kernel
def wit_CellCommandsComplete_cellTripInput : State := State.reset.onCell (⟨0, 0⟩ : CellId) (fun x => (fun y : CellSt => { y with pow := .on }) (x))
theorem test_wit_CellCommandsComplete_cellTripInput : ((wit_CellCommandsComplete_cellTripInput.cell ((⟨0, 0⟩ : CellId))).protOn = true) := by decide +kernel
def wit_CellCommandsComplete_blankEnd : State := State.reset.onCell (⟨0, 0⟩ : CellId) (fun x => (fun y : CellSt => { y with pow := .on }) ((x.set CPROT_TRIPCFG.EN 1 0).setRaw 0 true))
theorem test_wit_CellCommandsComplete_blankEnd : (((wit_CellCommandsComplete_blankEnd.cell ((⟨0, 0⟩ : CellId))).protOn && (wit_CellCommandsComplete_blankEnd.cell ((⟨0, 0⟩ : CellId))).tripEn ((0 : Fin 4)).val && (wit_CellCommandsComplete_blankEnd.cell ((⟨0, 0⟩ : CellId))).rawOn ((0 : Fin 4)).val && ((wit_CellCommandsComplete_blankEnd.cell ((⟨0, 0⟩ : CellId))).activeSince ((0 : Fin 4)).val).isNone && !(wit_CellCommandsComplete_blankEnd.cell ((⟨0, 0⟩ : CellId))).blanked ((0 : Fin 4)).val 7) = true) := by decide +kernel
def wit_CellCommandsComplete_tripBypassDelay : State := State.reset.onCell (⟨0, 0⟩ : CellId) (fun x => (fun y : CellSt => { y with pow := .on }) ((((x.set CPROT_TRIPCFG.EN 1 0).set CPROT_TRIPCFG.ACT 1 0).setSince 0 (some 1))))
theorem test_wit_CellCommandsComplete_tripBypassDelay : ((wit_CellCommandsComplete_tripBypassDelay.cell ((⟨0, 0⟩ : CellId))).activeSince ((0 : Fin 5)).val = some 1) ∧ (((wit_CellCommandsComplete_tripBypassDelay.cell ((⟨0, 0⟩ : CellId))).protOn && (wit_CellCommandsComplete_tripBypassDelay.cell ((⟨0, 0⟩ : CellId))).tripEn ((0 : Fin 5)).val && (wit_CellCommandsComplete_tripBypassDelay.cell ((⟨0, 0⟩ : CellId))).tripAct ((0 : Fin 5)).val && decide (1 + (wit_CellCommandsComplete_tripBypassDelay.cell ((⟨0, 0⟩ : CellId))).fld CPROT_BYPDLY.BYPDLY * us ≤ 100000000000000)) = true) ∧ ((((wit_CellCommandsComplete_tripBypassDelay.cell ((⟨0, 0⟩ : CellId))).tick 100000000000000).bit CSW_BYPSTAT.FIRED) = false) := by decide +kernel
def wit_CellCommandsComplete_cprotTripclrWrite : State := State.reset.onCell (⟨0, 0⟩ : CellId) (fun x => { x with pow := .on })
theorem test_wit_CellCommandsComplete_cprotTripclrWrite : (¬ ((wit_CellCommandsComplete_cprotTripclrWrite.cell ((⟨0, 0⟩ : CellId))).pow = .off ∨ (wit_CellCommandsComplete_cprotTripclrWrite.cell ((⟨0, 0⟩ : CellId))).pow = .dormant)) ∧ ((wit_CellCommandsComplete_cprotTripclrWrite.cell ((⟨0, 0⟩ : CellId))).islandOn (cellIsland 0x505C) = true) := by decide +kernel
def wit_CellCommandsComplete_cellCoreWdogExpire : State := State.reset.onCell (⟨0, 0⟩ : CellId) (fun y : CellSt => { y with pow := .on })
theorem test_wit_CellCommandsComplete_cellCoreWdogExpire : (((wit_CellCommandsComplete_cellCoreWdogExpire.cell ((⟨⟨0, 0⟩, 10000 * us⟩ : CellAt)).cell).coreRuns ((⟨⟨0, 0⟩, 10000 * us⟩ : CellAt)).at_ && decide ((wit_CellCommandsComplete_cellCoreWdogExpire.cell ((⟨⟨0, 0⟩, 10000 * us⟩ : CellAt)).cell).prot.coreAt + 10000 * us ≤ ((⟨⟨0, 0⟩, 10000 * us⟩ : CellAt)).at_)) = true) := by decide +kernel
def wit_CellCommandsComplete_protClockFail : State := State.reset.onCell (⟨0, 0⟩ : CellId) (fun x => (fun y : CellSt => { y with pow := .on }) (x))
theorem test_wit_CellCommandsComplete_protClockFail : ((wit_CellCommandsComplete_protClockFail.cell ((⟨0, 0⟩ : CellId))).protOn = true) := by decide +kernel
def wit_CellCommandsComplete_supTurnOn : State := State.reset.onCell (⟨0, 0⟩ : CellId) (fun x => (fun y : CellSt => { y with pow := .on }) ((x.set CSUP_CFG.EN 1).set CSUP_VSET.VSET 100))
theorem test_wit_CellCommandsComplete_supTurnOn : (((wit_CellCommandsComplete_supTurnOn.cell ((⟨0, 0⟩ : CellId))).protOn && (wit_CellCommandsComplete_supTurnOn.cell ((⟨0, 0⟩ : CellId))).bit CSUP_CFG.EN && (wit_CellCommandsComplete_supTurnOn.cell ((⟨0, 0⟩ : CellId))).works 0x6000 && !(wit_CellCommandsComplete_supTurnOn.cell ((⟨0, 0⟩ : CellId))).sup.drv && (wit_CellCommandsComplete_supTurnOn.cell ((⟨0, 0⟩ : CellId))).sup.hu.isNone && decide ((wit_CellCommandsComplete_supTurnOn.cell ((⟨0, 0⟩ : CellId))).offEnd 10000000000000 ≤ 10000000000000) && decide (0 < (wit_CellCommandsComplete_supTurnOn.cell ((⟨0, 0⟩ : CellId))).fld CSUP_VSET.VSET * 40)) = true) := by decide +kernel
def wit_CellCommandsComplete_supTurnOff : State := State.reset.onCell (⟨0, 0⟩ : CellId) (fun x => (fun y : CellSt => { y with pow := .on }) ({ x with sup := { x.sup with drv := true } }))
theorem test_wit_CellCommandsComplete_supTurnOff : ((wit_CellCommandsComplete_supTurnOff.cell ((⟨0, 0⟩ : CellId))).sup.drv = true) ∧ ((wit_CellCommandsComplete_supTurnOff.cell ((⟨0, 0⟩ : CellId))).sup.since + supSpan ((wit_CellCommandsComplete_supTurnOff.cell ((⟨0, 0⟩ : CellId))).fld CSUP_TIME.TON) ≤ 10000000000000) := by decide +kernel
def wit_CellCommandsComplete_supTurnOffLimit : State := State.reset.onCell (⟨0, 0⟩ : CellId) (fun x => (fun y : CellSt => { y with pow := .on }) ({ x.set CSUP_TIME.TON 255 with sup := { x.sup with drv := true } }))
theorem test_wit_CellCommandsComplete_supTurnOffLimit : ((wit_CellCommandsComplete_supTurnOffLimit.cell ((⟨0, 0⟩ : CellId))).sup.drv = true) ∧ ((wit_CellCommandsComplete_supTurnOffLimit.cell ((⟨0, 0⟩ : CellId))).ipk16 (supSpan ((State.reset.cell ⟨0, 0⟩).fld CSUP_LIM.LEB)) ≤ 16 * ((⟨1000, 0⟩ : SupSense)).sscs) ∧ ((wit_CellCommandsComplete_supTurnOffLimit.cell ((⟨0, 0⟩ : CellId))).sup.since + supSpan ((wit_CellCommandsComplete_supTurnOffLimit.cell ((⟨0, 0⟩ : CellId))).fld CSUP_LIM.LEB) ≤ (supSpan ((State.reset.cell ⟨0, 0⟩).fld CSUP_LIM.LEB))) ∧ ((supSpan ((State.reset.cell ⟨0, 0⟩).fld CSUP_LIM.LEB)) < (wit_CellCommandsComplete_supTurnOffLimit.cell ((⟨0, 0⟩ : CellId))).sup.since + supSpan ((wit_CellCommandsComplete_supTurnOffLimit.cell ((⟨0, 0⟩ : CellId))).fld CSUP_TIME.TON)) := by decide +kernel
def wit_CellCommandsComplete_softStartEnd : State := State.reset.onCell (⟨0, 0⟩ : CellId) (fun x => (fun y : CellSt => { y with pow := .on }) (x))
theorem test_wit_CellCommandsComplete_softStartEnd : (((wit_CellCommandsComplete_softStartEnd.cell ((⟨0, 0⟩ : CellId))).protOn && !(wit_CellCommandsComplete_softStartEnd.cell ((⟨0, 0⟩ : CellId))).bit CSUP_STAT.SSDONE && decide ((wit_CellCommandsComplete_softStartEnd.cell ((⟨0, 0⟩ : CellId))).sup.ssAt + max 1 ((wit_CellCommandsComplete_softStartEnd.cell ((⟨0, 0⟩ : CellId))).fld CSUP_CFG.SST) * 1000 * us ≤ 1000000000000000000)) = true) := by decide +kernel
def wit_CellCommandsComplete_supOvStop : State := State.reset.onCell (⟨0, 0⟩ : CellId) (fun x => (fun y : CellSt => { y with pow := .on }) (x))
theorem test_wit_CellCommandsComplete_supOvStop : (((wit_CellCommandsComplete_supOvStop.cell ((⟨0, 0⟩ : CellId))).protOn && !(wit_CellCommandsComplete_supOvStop.cell ((⟨0, 0⟩ : CellId))).sup.ovStop && (wit_CellCommandsComplete_supOvStop.cell ((⟨0, 0⟩ : CellId))).works 0x6000) = true) := by decide +kernel
def wit_CellCommandsComplete_holdupReq : State := State.reset.onCell (⟨0, 0⟩ : CellId) (fun x => { x with pow := .on })
theorem test_wit_CellCommandsComplete_holdupReq : (¬ ((wit_CellCommandsComplete_holdupReq.cell ((⟨0, 0⟩ : CellId))).pow = .off ∨ (wit_CellCommandsComplete_holdupReq.cell ((⟨0, 0⟩ : CellId))).pow = .dormant)) ∧ ((wit_CellCommandsComplete_holdupReq.cell ((⟨0, 0⟩ : CellId))).islandOn (cellIsland 0x6054) = true) := by decide +kernel
def wit_CellCommandsComplete_holdupEnd : State := State.reset.onCell (⟨0, 0⟩ : CellId) (fun x => (fun y : CellSt => { y with pow := .on }) ({ x with sup := { x.sup with hu := some (0, 1) } }))
theorem test_wit_CellCommandsComplete_holdupEnd : ((wit_CellCommandsComplete_holdupEnd.cell ((⟨0, 0⟩ : CellId))).sup.hu = some (((0 : Int)), 1)) ∧ (1 + (wit_CellCommandsComplete_holdupEnd.cell ((⟨0, 0⟩ : CellId))).fld CSUP_HU.WIN * us ≤ 100000000000000000 ∨ (((wit_CellCommandsComplete_holdupEnd.cell ((⟨0, 0⟩ : CellId))).fld CSUP_HU.DROP * 40 * 8388608 : Nat) : Int) ≤ (((0 : Int)) - toInt 24 ((wit_CellCommandsComplete_holdupEnd.cell ((⟨0, 0⟩ : CellId))).fld CMEAS_RES.VALUE 3)) * 40960) := by decide +kernel
def wit_CellCommandsComplete_leaseExpire : State := State.reset.onCell (⟨0, 0⟩ : CellId) (fun x => (fun y : CellSt => { y with pow := .on }) (x.set CPROT_LEASE.HOLDER 1))
theorem test_wit_CellCommandsComplete_leaseExpire : (((wit_CellCommandsComplete_leaseExpire.cell ((⟨0, 0⟩ : CellId))).protOn && (wit_CellCommandsComplete_leaseExpire.cell ((⟨0, 0⟩ : CellId))).fld CPROT_LEASE.HOLDER != 0 && !(wit_CellCommandsComplete_leaseExpire.cell ((⟨0, 0⟩ : CellId))).bit CPROT_LEASE.EXP && decide ((wit_CellCommandsComplete_leaseExpire.cell ((⟨0, 0⟩ : CellId))).exppn ≤ (wit_CellCommandsComplete_leaseExpire.cell ((⟨0, 0⟩ : CellId))).pn)) = true) := by decide +kernel
def wit_CellCommandsComplete_orphanBlock : State := State.reset.onCell (⟨0, 0⟩ : CellId) (fun x => (fun y : CellSt => { y with pow := .on }) ((fun y : CellSt => { y with prot := { y.prot with orphN := 100000 } }) (x.set CPROT_OSTAT.ORPHAN 1)))
theorem test_wit_CellCommandsComplete_orphanBlock : (((wit_CellCommandsComplete_orphanBlock.cell ((⟨0, 0⟩ : CellId))).pow == .on && (wit_CellCommandsComplete_orphanBlock.cell ((⟨0, 0⟩ : CellId))).bit CPROT_OSTAT.ORPHAN && decide ((wit_CellCommandsComplete_orphanBlock.cell ((⟨0, 0⟩ : CellId))).fld CPROT_ORPH.COAST < (wit_CellCommandsComplete_orphanBlock.cell ((⟨0, 0⟩ : CellId))).prot.orphN)) = true) := by decide +kernel
def wit_CellCommandsComplete_orphanBypass : State := State.reset.onCell (⟨0, 0⟩ : CellId) (fun x => (fun y : CellSt => { y with pow := .on }) ((x.set CPROT_OSTAT.ORPHAN 1).set CPROT_ORPH.OTIME 1))
theorem test_wit_CellCommandsComplete_orphanBypass : (((wit_CellCommandsComplete_orphanBypass.cell ((⟨0, 0⟩ : CellId))).pow == .on && (wit_CellCommandsComplete_orphanBypass.cell ((⟨0, 0⟩ : CellId))).bit CPROT_OSTAT.ORPHAN && (wit_CellCommandsComplete_orphanBypass.cell ((⟨0, 0⟩ : CellId))).fld CPROT_ORPH.OTIME != 0 && decide ((wit_CellCommandsComplete_orphanBypass.cell ((⟨0, 0⟩ : CellId))).prot.orphAt + (wit_CellCommandsComplete_orphanBypass.cell ((⟨0, 0⟩ : CellId))).fld CPROT_ORPH.OTIME * 1000 * us ≤ 1000000000000000000)) = true) := by decide +kernel
def wit_CellCommandsComplete_leaseClear : State := State.reset.onCell (⟨0, 0⟩ : CellId) (fun x => { x with pow := .on })
theorem test_wit_CellCommandsComplete_leaseClear : (¬ ((wit_CellCommandsComplete_leaseClear.cell ((⟨0, 0⟩ : CellId))).pow = .off ∨ (wit_CellCommandsComplete_leaseClear.cell ((⟨0, 0⟩ : CellId))).pow = .dormant)) ∧ ((wit_CellCommandsComplete_leaseClear.cell ((⟨0, 0⟩ : CellId))).islandOn (cellIsland 0x5098) = true) := by decide +kernel
def wit_CellCommandsComplete_cmdFrameRx : State := State.reset.onCell (⟨0, 0⟩ : CellId) (fun x => (fun y : CellSt => { y with pow := .on }) ((x).set CLNK_STAT.LOCK 1 0))
theorem test_wit_CellCommandsComplete_cmdFrameRx : ((wit_CellCommandsComplete_cmdFrameRx.cell ((⟨0, 0⟩ : CellId))).hears UnitId.a = true) ∧ (byteAt ((⟨[85, 1], 3⟩ : RxFrame)).bytes 1 = 1 ∨ byteAt ((⟨[85, 1], 3⟩ : RxFrame)).bytes 1 = 2) := by decide +kernel
def wit_CellCommandsComplete_statusLatch : State := State.reset.onCell (⟨0, 0⟩ : CellId) (fun x => (fun y : CellSt => { y with pow := .on }) (x))
theorem test_wit_CellCommandsComplete_statusLatch : (((wit_CellCommandsComplete_statusLatch.cell ((⟨0, 0⟩ : CellId))).islandOn .lnk && ((wit_CellCommandsComplete_statusLatch.cell ((⟨0, 0⟩ : CellId))).pow != .idle || (wit_CellCommandsComplete_statusLatch.cell ((⟨0, 0⟩ : CellId))).pn % 64 == 0 && decide ((wit_CellCommandsComplete_statusLatch.cell ((⟨0, 0⟩ : CellId))).rateFrom ≤ (wit_CellCommandsComplete_statusLatch.cell ((⟨0, 0⟩ : CellId))).tim.t0))) = true) := by decide +kernel
def wit_CellCommandsComplete_servoLocked : State := State.reset.onCell (⟨0, 0⟩ : CellId) (fun x => (fun y : CellSt => { y with pow := .on }) ((x.set CTIM_SERVO.STATE 1).set CTIM_SERVO.LOCKCNT 64))
theorem test_wit_CellCommandsComplete_servoLocked : ((wit_CellCommandsComplete_servoLocked.cell ((⟨0, 0⟩ : CellId))).servo = 1 ∧ 64 ≤ (wit_CellCommandsComplete_servoLocked.cell ((⟨0, 0⟩ : CellId))).fld CTIM_SERVO.LOCKCNT) := by decide +kernel
def wit_CellCommandsComplete_servoHoldover : State := State.reset.onCell (⟨0, 0⟩ : CellId) (fun x => (fun y : CellSt => { y with pow := .on }) ((fun y : CellSt => { y with tim := { y.tim with none_ := true } }) (x.set CTIM_SERVO.STATE 2)))
theorem test_wit_CellCommandsComplete_servoHoldover : ((wit_CellCommandsComplete_servoHoldover.cell ((⟨0, 0⟩ : CellId))).servo = 2 ∧ (wit_CellCommandsComplete_servoHoldover.cell ((⟨0, 0⟩ : CellId))).tim.none_ = true) := by decide +kernel
def wit_CellCommandsComplete_statusFramePass : State := State.reset.onCell (⟨0, 0⟩ : CellId) (fun x => (fun y : CellSt => { y with pow := .on }) ((x).set CLNK_STAT.LOCK 1 0))
theorem test_wit_CellCommandsComplete_statusFramePass : ((wit_CellCommandsComplete_statusFramePass.cell ((⟨0, 0⟩ : CellId))).hears UnitId.a = true) ∧ (byteAt (([85, 3] : Bytes)) 1 = 3) := by decide +kernel
def wit_CellCommandsComplete_tailBecome : State := State.reset.onCell (⟨0, 0⟩ : CellId) (fun x => (fun y : CellSt => { y with pow := .on }) (x.set CLNK_HOP.VALID 1 0))
theorem test_wit_CellCommandsComplete_tailBecome : (((wit_CellCommandsComplete_tailBecome.cell ((⟨0, 0⟩ : CellId))).islandOn .lnk && (wit_CellCommandsComplete_tailBecome.cell ((⟨0, 0⟩ : CellId))).hopValid && (!(wit_CellCommandsComplete_tailBecome.cell ((⟨0, 0⟩ : CellId))).locked UnitId.b.other || decide (2 ≤ ((wit_CellCommandsComplete_tailBecome.cell ((⟨0, 0⟩ : CellId))).lnk UnitId.b.other).quiet))) = true) := by decide +kernel
def wit_CellCommandsComplete_tailOriginate : State := State.reset.onCell (⟨0, 0⟩ : CellId) (fun x => (fun y : CellSt => { y with pow := .on }) ((x.set CLNK_HOP.VALID 1 0).set CLNK_STAT.TAIL 1 1))
theorem test_wit_CellCommandsComplete_tailOriginate : (((wit_CellCommandsComplete_tailOriginate.cell ((⟨0, 0⟩ : CellId))).islandOn .lnk && (wit_CellCommandsComplete_tailOriginate.cell ((⟨0, 0⟩ : CellId))).hopValid && (wit_CellCommandsComplete_tailOriginate.cell ((⟨0, 0⟩ : CellId))).bit CLNK_STAT.TAIL (sideIx UnitId.b) && (wit_CellCommandsComplete_tailOriginate.cell ((⟨0, 0⟩ : CellId))).launches && (wit_CellCommandsComplete_tailOriginate.cell ((⟨0, 0⟩ : CellId))).works (0x1000 + 0x1000 * sideIx UnitId.b)) = true) := by decide +kernel
def wit_CellCommandsComplete_tailEnd : State := State.reset.onCell (⟨0, 0⟩ : CellId) (fun x => (fun y : CellSt => { y with pow := .on }) ((fun y : CellSt => { y with lnkA := { y.lnkA with good := 2 } }) ((x.set CLNK_STAT.LOCK 1 0).set CLNK_STAT.TAIL 1 1)))
theorem test_wit_CellCommandsComplete_tailEnd : (((wit_CellCommandsComplete_tailEnd.cell ((⟨0, 0⟩ : CellId))).bit CLNK_STAT.TAIL (sideIx UnitId.b) && (wit_CellCommandsComplete_tailEnd.cell ((⟨0, 0⟩ : CellId))).locked UnitId.b.other && decide (2 ≤ ((wit_CellCommandsComplete_tailEnd.cell ((⟨0, 0⟩ : CellId))).lnk UnitId.b.other).good)) = true) := by decide +kernel
def wit_CellCommandsComplete_stopRx : State := State.reset.onCell (⟨0, 0⟩ : CellId) (fun x => (fun y : CellSt => { y with pow := .on }) ((x).set CLNK_STAT.LOCK 1 0))
theorem test_wit_CellCommandsComplete_stopRx : ((wit_CellCommandsComplete_stopRx.cell ((⟨0, 0⟩ : CellId))).hears UnitId.a = true) ∧ (((wit_CellCommandsComplete_stopRx.cell ((⟨0, 0⟩ : CellId))).lnk UnitId.a).acted.contains (0x1E, unitBit UnitId.a) = false) := by decide +kernel
def wit_CellCommandsComplete_abortRx : State := State.reset.onCell (⟨0, 0⟩ : CellId) (fun x => (fun y : CellSt => { y with pow := .on }) ((x).set CLNK_STAT.LOCK 1 0))
theorem test_wit_CellCommandsComplete_abortRx : ((wit_CellCommandsComplete_abortRx.cell ((⟨0, 0⟩ : CellId))).hears UnitId.a = true) ∧ (((⟨0x2D, .b⟩ : FaultCode)).code = 0x2D) := by decide +kernel
def wit_CellCommandsComplete_linkLock : State := State.reset.onCell (⟨0, 0⟩ : CellId) (fun x => (fun y : CellSt => { y with pow := .on }) (x))
theorem test_wit_CellCommandsComplete_linkLock : ((wit_CellCommandsComplete_linkLock.cell ((⟨0, 0⟩ : CellId))).works (0x1000 + 0x1000 * sideIx UnitId.a) = true) ∧ (false = (wit_CellCommandsComplete_linkLock.cell ((⟨0, 0⟩ : CellId))).listensLow UnitId.a) := by decide +kernel
def wit_CellCommandsComplete_linkLockLoss : State := State.reset.onCell (⟨0, 0⟩ : CellId) (fun x => (fun y : CellSt => { y with pow := .on }) ((x).set CLNK_STAT.LOCK 1 0))
theorem test_wit_CellCommandsComplete_linkLockLoss : ((wit_CellCommandsComplete_linkLockLoss.cell ((⟨0, 0⟩ : CellId))).locked UnitId.a = true) := by decide +kernel
def wit_CellCommandsComplete_portSearchToggle : State := State.reset.onCell (⟨0, 0⟩ : CellId) (fun x => (fun y : CellSt => { y with pow := .on }) ({ x with lnkA := { x.lnkA with search := true } }))
theorem test_wit_CellCommandsComplete_portSearchToggle : (((wit_CellCommandsComplete_portSearchToggle.cell ((⟨0, 0⟩ : CellId))).islandOn .lnk && !(wit_CellCommandsComplete_portSearchToggle.cell ((⟨0, 0⟩ : CellId))).locked ((⟨.a, 1000 * us⟩ : SideAt)).side && ((wit_CellCommandsComplete_portSearchToggle.cell ((⟨0, 0⟩ : CellId))).lnk ((⟨.a, 1000 * us⟩ : SideAt)).side).search && decide (((wit_CellCommandsComplete_portSearchToggle.cell ((⟨0, 0⟩ : CellId))).lnk ((⟨.a, 1000 * us⟩ : SideAt)).side).srchAt + 1000 * us ≤ ((⟨.a, 1000 * us⟩ : SideAt)).at_)) = true) := by decide +kernel
def wit_CellCommandsComplete_cellLineSearch : State := State.reset.onCell (⟨0, 0⟩ : CellId) (fun x => (fun y : CellSt => { y with pow := .on }) ({ x with lnkA := { x.lnkA with lostAt := some 1 }, lnkB := { x.lnkB with lostAt := some 2 } }))
theorem test_wit_CellCommandsComplete_cellLineSearch : ((wit_CellCommandsComplete_cellLineSearch.cell ((⟨0, 0⟩ : CellId))).lnkA.lostAt = some 1) ∧ ((wit_CellCommandsComplete_cellLineSearch.cell ((⟨0, 0⟩ : CellId))).lnkB.lostAt = some 2) ∧ (((wit_CellCommandsComplete_cellLineSearch.cell ((⟨0, 0⟩ : CellId))).islandOn .lnk && decide (max 1 2 + 10000 * us ≤ 1000000000000000)) = true) := by decide +kernel
def wit_CellCommandsComplete_rateSwitch : State := State.reset.onCell (⟨0, 0⟩ : CellId) (fun x => (fun y : CellSt => { y with pow := .on }) ({ x with rate := some (0, 1) }))
theorem test_wit_CellCommandsComplete_rateSwitch : ((wit_CellCommandsComplete_rateSwitch.cell ((⟨0, 0⟩ : CellId))).rate = some (0, 1)) ∧ ((wit_CellCommandsComplete_rateSwitch.cell ((⟨0, 0⟩ : CellId))).pn % 2 ^ 32 = 0) := by decide +kernel
def wit_CellCommandsComplete_entryRead : State := State.reset.onCell (⟨0, 0⟩ : CellId) (fun x => (fun y : CellSt => { y with pow := .on }) ((x).set CLNK_HOP.VALID 1 0))
theorem test_wit_CellCommandsComplete_entryRead : ((wit_CellCommandsComplete_entryRead.cell ((⟨0, 0⟩ : CellId))).takesEntries = true) := by decide +kernel
def wit_CellCommandsComplete_entryWrite : State := State.reset.onCell (⟨0, 0⟩ : CellId) (fun x => (fun y : CellSt => { y with pow := .on }) ((x).set CLNK_HOP.VALID 1 0))
theorem test_wit_CellCommandsComplete_entryWrite : ((wit_CellCommandsComplete_entryWrite.cell ((⟨0, 0⟩ : CellId))).takesEntries = true) := by decide +kernel
def wit_CellCommandsComplete_entryBypass : State := State.reset.onCell (⟨0, 0⟩ : CellId) (fun x => (fun y : CellSt => { y with pow := .on }) ((x).set CLNK_HOP.VALID 1 0))
theorem test_wit_CellCommandsComplete_entryBypass : ((wit_CellCommandsComplete_entryBypass.cell ((⟨0, 0⟩ : CellId))).takesEntries = true) := by decide +kernel
def wit_CellCommandsComplete_calreqRotate : State := State.reset.onCell (⟨0, 0⟩ : CellId) (fun x => (fun y : CellSt => { y with pow := .on }) ((x).set CLNK_HOP.VALID 1 0))
theorem test_wit_CellCommandsComplete_calreqRotate : ((wit_CellCommandsComplete_calreqRotate.cell ((⟨0, 0⟩ : CellId))).takesEntries = true) := by decide +kernel
def wit_CellCommandsComplete_calreqSparecal : State := State.reset.onCell (⟨0, 0⟩ : CellId) (fun x => (fun y : CellSt => { y with pow := .on }) ((x).set CLNK_HOP.VALID 1 0))
theorem test_wit_CellCommandsComplete_calreqSparecal : ((wit_CellCommandsComplete_calreqSparecal.cell ((⟨0, 0⟩ : CellId))).takesEntries = true) := by decide +kernel
def wit_CellCommandsComplete_calreqReload : State := State.reset.onCell (⟨0, 0⟩ : CellId) (fun x => (fun y : CellSt => { y with pow := .on }) ((x).set CLNK_HOP.VALID 1 0))
theorem test_wit_CellCommandsComplete_calreqReload : ((wit_CellCommandsComplete_calreqReload.cell ((⟨0, 0⟩ : CellId))).takesEntries = true) := by decide +kernel
def wit_CellCommandsComplete_entryInject : State := State.reset.onCell (⟨0, 0⟩ : CellId) (fun x => (fun y : CellSt => { y with pow := .on }) ((x).set CLNK_HOP.VALID 1 0))
theorem test_wit_CellCommandsComplete_entryInject : ((wit_CellCommandsComplete_entryInject.cell ((⟨0, 0⟩ : CellId))).takesEntries = true) := by decide +kernel
def wit_CellCommandsComplete_entryReset : State := State.reset.onCell (⟨0, 0⟩ : CellId) (fun x => (fun y : CellSt => { y with pow := .on }) ((x).set CLNK_HOP.VALID 1 0))
theorem test_wit_CellCommandsComplete_entryReset : ((wit_CellCommandsComplete_entryReset.cell ((⟨0, 0⟩ : CellId))).takesEntries = true) ∧ (((0xC3 : Word)) = 0xC3) := by decide +kernel
def wit_CellCommandsComplete_entryRate : State := State.reset.onCell (⟨0, 0⟩ : CellId) (fun x => (fun y : CellSt => { y with pow := .on }) ((x).set CLNK_HOP.VALID 1 0))
theorem test_wit_CellCommandsComplete_entryRate : ((wit_CellCommandsComplete_entryRate.cell ((⟨0, 0⟩ : CellId))).takesEntries = true) := by decide +kernel
def wit_CellCommandsComplete_entryBulk : State := State.reset.onCell (⟨0, 0⟩ : CellId) (fun x => (fun y : CellSt => { y with pow := .on }) ((x).set CLNK_HOP.VALID 1 0))
theorem test_wit_CellCommandsComplete_entryBulk : ((wit_CellCommandsComplete_entryBulk.cell ((⟨0, 0⟩ : CellId))).takesEntries = true) := by decide +kernel
def wit_CellCommandsComplete_enumAssign : State := State.reset.onCell (⟨0, 0⟩ : CellId) (fun x => (fun y : CellSt => { y with pow := .on }) ((x).set CLNK_STAT.LOCK 1 0))
theorem test_wit_CellCommandsComplete_enumAssign : ((wit_CellCommandsComplete_enumAssign.cell ((⟨0, 0⟩ : CellId))).hears UnitId.a = true) ∧ (byteAt (([85, 4, 0, 0, 1] : Bytes)) 1 = 4) ∧ (byteAt (([85, 4, 0, 0, 1] : Bytes)) 4 = 1) ∧ (¬ ((([85, 4, 0, 0, 1] : Bytes)).length = 110 ∧ (!enumOk (([85, 4, 0, 0, 1] : Bytes))) = true)) := by decide +kernel
def wit_CellCommandsComplete_enumEcho : State := State.reset.onCell (⟨0, 0⟩ : CellId) (fun x => (fun y : CellSt => { y with pow := .on }) ((x).set CLNK_STAT.LOCK 1 0))
theorem test_wit_CellCommandsComplete_enumEcho : ((wit_CellCommandsComplete_enumEcho.cell ((⟨0, 0⟩ : CellId))).hears UnitId.a = true) ∧ (byteAt (([85, 4, 0, 0, 2] : Bytes)) 1 = 4) ∧ (byteAt (([85, 4, 0, 0, 2] : Bytes)) 4 = 2) ∧ (¬ ((([85, 4, 0, 0, 2] : Bytes)).length = 110 ∧ (!enumOk (([85, 4, 0, 0, 2] : Bytes))) = true)) := by decide +kernel
def wit_CellCommandsComplete_enumIdreq : State := State.reset.onCell (⟨0, 0⟩ : CellId) (fun x => (fun y : CellSt => { y with pow := .on }) ((x).set CLNK_STAT.LOCK 1 0))
theorem test_wit_CellCommandsComplete_enumIdreq : ((wit_CellCommandsComplete_enumIdreq.cell ((⟨0, 0⟩ : CellId))).hears UnitId.a = true) ∧ (byteAt (([85, 4, 0, 0, 3] : Bytes)) 1 = 4) ∧ (byteAt (([85, 4, 0, 0, 3] : Bytes)) 4 = 3) ∧ (¬ ((([85, 4, 0, 0, 3] : Bytes)).length = 110 ∧ (!enumOk (([85, 4, 0, 0, 3] : Bytes))) = true)) := by decide +kernel
def wit_CellCommandsComplete_cellIdrspSend : State := State.reset.onCell (⟨0, 0⟩ : CellId) (fun x => (fun y : CellSt => { y with pow := .on }) ({ x with chal := [(.b, [])] }))
theorem test_wit_CellCommandsComplete_cellIdrspSend : ((wit_CellCommandsComplete_cellIdrspSend.cell ((⟨0, 0⟩ : CellId))).chal = (UnitId.b, (([] : Bytes))) :: (([] : List (UnitId × Bytes)))) ∧ ((wit_CellCommandsComplete_cellIdrspSend.cell ((⟨0, 0⟩ : CellId))).islandOn .core = true) := by decide +kernel
def wit_CellCommandsComplete_cellFaultLatch : State := State.reset.onCell (⟨0, 0⟩ : CellId) (fun x => (fun y : CellSt => { y with pow := .on }) (x))
theorem test_wit_CellCommandsComplete_cellFaultLatch : (¬ ((wit_CellCommandsComplete_cellFaultLatch.cell ((⟨0, 0⟩ : CellId))).pow = .off)) := by decide +kernel
def wit_CellCommandsComplete_cellFltLatchClear : State := State.reset.onCell (⟨0, 0⟩ : CellId) (fun x => { x with pow := .on })
theorem test_wit_CellCommandsComplete_cellFltLatchClear : (¬ ((wit_CellCommandsComplete_cellFltLatchClear.cell ((⟨0, 0⟩ : CellId))).pow = .off ∨ (wit_CellCommandsComplete_cellFltLatchClear.cell ((⟨0, 0⟩ : CellId))).pow = .dormant)) ∧ ((wit_CellCommandsComplete_cellFltLatchClear.cell ((⟨0, 0⟩ : CellId))).islandOn (cellIsland 0x8040) = true) := by decide +kernel
def wit_CellCommandsComplete_cellGraceExpire : State := State.reset.onCell (⟨0, 0⟩ : CellId) (fun x => (fun y : CellSt => { y with pow := .on }) ({ x with flt := { x.flt with graceAt := [(3, 0)] } }))
theorem test_wit_CellCommandsComplete_cellGraceExpire : ((wit_CellCommandsComplete_cellGraceExpire.cell ((⟨0, 0⟩ : CellId))).flt.graceAt.find? (fun g => g.1 == ((3 : Fin 11)).val) = some (3, 0)) ∧ (0 + (wit_CellCommandsComplete_cellGraceExpire.cell ((⟨0, 0⟩ : CellId))).fld CFLT_SCFG.GRACE ((3 : Fin 11)).val * us ≤ 1000000000000000000) := by decide +kernel
def wit_CellCommandsComplete_ledgerReq : State := State.reset.onCell (⟨0, 0⟩ : CellId) (fun x => { x with pow := .on })
theorem test_wit_CellCommandsComplete_ledgerReq : (¬ ((wit_CellCommandsComplete_ledgerReq.cell ((⟨0, 0⟩ : CellId))).pow = .off ∨ (wit_CellCommandsComplete_ledgerReq.cell ((⟨0, 0⟩ : CellId))).pow = .dormant)) ∧ ((wit_CellCommandsComplete_ledgerReq.cell ((⟨0, 0⟩ : CellId))).islandOn (cellIsland 0x810C) = true) := by decide +kernel
def wit_CellCommandsComplete_framAppendComplete : State := State.reset.onCell (⟨0, 0⟩ : CellId) (fun x => (fun y : CellSt => { y with pow := .on }) ({ x with mem := { x.mem with append := some (true, []) } }))
theorem test_wit_CellCommandsComplete_framAppendComplete : ((wit_CellCommandsComplete_framAppendComplete.cell ((⟨0, 0⟩ : CellId))).mem.append = some (true, (([] : Bytes)))) ∧ ((wit_CellCommandsComplete_framAppendComplete.cell ((⟨0, 0⟩ : CellId))).pow = .on) := by decide +kernel
def wit_CellCommandsComplete_cellLedgerDaily : State := State.reset.onCell (⟨0, 0⟩ : CellId) (fun x => (fun y : CellSt => { y with pow := .on }) ({ x with mem := { x.mem with opTime := 24 * 3600 * sec } }))
theorem test_wit_CellCommandsComplete_cellLedgerDaily : ((wit_CellCommandsComplete_cellLedgerDaily.cell ((⟨0, 0⟩ : CellId))).pow = .on ∧ (wit_CellCommandsComplete_cellLedgerDaily.cell ((⟨0, 0⟩ : CellId))).mem.dailyAt + 24 * 3600 * sec ≤ (wit_CellCommandsComplete_cellLedgerDaily.cell ((⟨0, 0⟩ : CellId))).mem.opTime) := by decide +kernel
def wit_CellCommandsComplete_patchActivate : State := State.reset.onCell (⟨0, 0⟩ : CellId) (fun x => { x with pow := .on })
theorem test_wit_CellCommandsComplete_patchActivate : (¬ ((wit_CellCommandsComplete_patchActivate.cell ((⟨0, 0⟩ : CellId))).pow = .off ∨ (wit_CellCommandsComplete_patchActivate.cell ((⟨0, 0⟩ : CellId))).pow = .dormant)) ∧ ((wit_CellCommandsComplete_patchActivate.cell ((⟨0, 0⟩ : CellId))).islandOn (cellIsland 0x50) = true) := by decide +kernel
end

section
/-! PROOFS. What a command can change: every command answers a next state, reached by writes to the parts it names. From
it, the canonical form of the table of cells holds at reset and after every step (O48, O49). -/
namespace Sys2Proof.Machine

/-! The table of cells. -/

/-- The key of a cell is one of the 96 strands of 64 cells. -/
theorem cellId_key_lt (c : CellId) : c.key < 6144 := by
  have hs := c.strand.isLt
  have hh := c.hop.isLt
  unfold CellId.key
  omega

/-- A write lists no key but the written one and those that stood before. -/
theorem mem_sput {α : Type} {out : Bool} {m : Sparse α} {k : Nat} {v : α} {e : Nat × α} (h : e ∈ sput out m k v) :
    e = (k, v) ∨ e ∈ m := by
  induction m with
  | nil => cases out <;> simp_all [sput]
  | cons w m ih =>
    simp only [sput] at h
    split_ifs at h
    · exact (ih h).imp_right (List.mem_cons_of_mem w)
    · exact (List.mem_cons.mp h).imp_right (List.mem_cons_of_mem w)
    · obtain rfl | h := List.mem_cons.mp h
      · exact .inr List.mem_cons_self
      · exact (ih h).imp_right (List.mem_cons_of_mem w)
    · exact List.mem_cons.mp h

theorem State.cellsWf_iff {s : State} :
    s.cellsWf = true ↔ swf CellSt.reset s.cells = true ∧ ∀ e ∈ s.cells, e.1 < 6144 := by
  simp [State.cellsWf]

@[simp] theorem State.setUnit_cellsWf (s : State) (u : UnitId) (x : UnitSt) : (s.setUnit u x).cellsWf = s.cellsWf := by
  simp [State.cellsWf]

/-- A write of a cell keeps the table canonical, whatever the cell becomes. -/
theorem State.setCell_cellsWf {s : State} (c : CellId) (y : CellSt) (h : s.cellsWf = true) :
    (s.setCell c y).cellsWf = true := by
  obtain ⟨hwf, hkeys⟩ := State.cellsWf_iff.mp h
  refine State.cellsWf_iff.mpr ⟨swf_sset hwf, fun e he => ?_⟩
  obtain rfl | he := mem_sput he
  · exact cellId_key_lt c
  · exact hkeys e he

/-! What writes to given parts reach. -/

/-- `t` is `s` after writes to units and cells of `ps`, and nothing else. -/
inductive WritesTo (ps : List Part) (s : State) : State → Prop
  | done : WritesTo ps s s
  | setUnit {t : State} {u : UnitId} {x : UnitSt} (hu : .unit u ∈ ps) (h : WritesTo ps s t) : WritesTo ps s (t.setUnit u x)
  | setCell {t : State} {c : CellId} {y : CellSt} (hc : .cell c ∈ ps) (h : WritesTo ps s t) : WritesTo ps s (t.setCell c y)

theorem WritesTo.cellsWf {ps : List Part} {s t : State} (h : WritesTo ps s t) (hs : s.cellsWf = true) :
    t.cellsWf = true := by
  induction h with
  | done => exact hs
  | setUnit _ _ ih => rwa [State.setUnit_cellsWf]
  | setCell _ _ ih => exact State.setCell_cellsWf _ _ ih

/-- The outcome `o` is a next state, reached from `s` by writes to the parts `ps`. -/
def AnswersIn (ps : List Part) (s : State) (o : Host.Outcome State Fault Refusal) : Prop :=
  ∃ t, o = .next t ∧ WritesTo ps s t

section

variable {ps : List Part} {s : State} {u : UnitId} {c : CellId} {p : Part} {r : RegPort}

theorem WritesTo.next {t : State} (h : WritesTo ps s t) : AnswersIn ps s (.next t) := ⟨t, rfl, h⟩

theorem WritesTo.ite {k : Prop} [Decidable k] {t t' : State} (h : WritesTo ps s t) (h' : WritesTo ps s t') :
    WritesTo ps s (if k then t else t') := by
  split
  · exact h
  · exact h'

theorem AnswersIn.ite {k : Prop} [Decidable k] {o o' : Host.Outcome State Fault Refusal} (h : AnswersIn ps s o)
    (h' : AnswersIn ps s o') : AnswersIn ps s (if k then o else o') := by
  split
  · exact h
  · exact h'

theorem answersIn_same : AnswersIn ps s (.next s) := WritesTo.done.next

theorem WritesTo.onUnit {t : State} {f : UnitSt → UnitSt} (hu : .unit u ∈ ps) (h : WritesTo ps s t) :
    WritesTo ps s (t.onUnit u f) := h.setUnit hu

theorem answersIn_unitStep {f : UnitSt → UnitSt} (hu : .unit u ∈ ps) : AnswersIn ps s (unitStep s u f) :=
  (WritesTo.done.onUnit hu).next

theorem answersIn_cellStep {f : CellSt → CellSt} (hc : .cell c ∈ ps) : AnswersIn ps s (cellStep s c f) :=
  (WritesTo.done.setCell hc).next

theorem unit_mem_both (u : UnitId) : Part.unit u ∈ [Part.unit .a, Part.unit .b] := by
  cases u <;> simp

/-- A shift into the test access port of a part writes that part. -/
theorem WritesTo.onJtag {f : JtagSt → JtagSt} : WritesTo [p] s (s.onJtag p f) :=
  match p with
  | .unit _ => .setUnit List.mem_cons_self .done
  | .cell _ => .setCell List.mem_cons_self .done

/-- A register write writes the part of its port. -/
theorem WritesTo.writeAt {a : Nat} {v : Word} {t : Instant} : WritesTo [r.part] s (s.writeAt r a v t) :=
  match r with
  | .unit _ _ => .setUnit List.mem_cons_self .done
  | .cell _ _ => .setCell List.mem_cons_self .done

/-! The commands that happen at a part or a port of either kind. -/

theorem execJtagFlashprog_answersIn : AnswersIn [p] s (execJtagFlashprog p s) := by
  cases p with
  | unit u => exact WritesTo.onJtag.next
  | cell c => exact WritesTo.onJtag.next

theorem execJtagBypass_answersIn {code : BitVec 6} : AnswersIn [p] s (execJtagBypass p code s) :=
  (WritesTo.ite .done .onJtag).next

theorem execRegWrite_answersIn {a : BitVec 32} {v : Word} {be : BitVec 4} {t : Instant} :
    AnswersIn [r.part] s (execRegWrite r a v be t s) := by
  refine .ite WritesTo.writeAt.next ?_
  cases r with
  | unit => exact answersIn_unitStep List.mem_cons_self
  | cell => exact answersIn_same

theorem execBlockReset_answersIn {a : BitVec 32} {en : Bool} {t : Instant} :
    AnswersIn [r.part] s (execBlockReset r a en t s) := by
  refine .ite answersIn_same ?_
  cases r with
  | unit => exact answersIn_unitStep List.mem_cons_self
  | cell => exact answersIn_cellStep List.mem_cons_self

theorem execLockWrite_answersIn {a : BitVec 32} {v : Word} {t : Instant} :
    AnswersIn [r.part] s (execLockWrite r a v t s) := by
  refine .ite answersIn_same ?_
  cases r with
  | unit => exact answersIn_unitStep List.mem_cons_self
  | cell => exact answersIn_cellStep List.mem_cons_self

/-! The commands that reach the partner over Splice. -/

theorem execComputeStart_answersIn {pact : Bool} {mis : List Nat} :
    AnswersIn [.unit .a, .unit .b] s (execComputeStart u pact mis s) :=
  .ite answersIn_same ((WritesTo.done.setUnit (unit_mem_both u)).setUnit (unit_mem_both u.other)).next

theorem execMirrorSend_answersIn : AnswersIn [.unit .a, .unit .b] s (execMirrorSend u s) :=
  .ite ((WritesTo.done.setUnit (unit_mem_both u)).onUnit (unit_mem_both u.other)).next answersIn_same

theorem execPartnerResetRx_answersIn : AnswersIn [.unit .a, .unit .b] s (execPartnerResetRx u s) :=
  .ite answersIn_same
    (.ite (answersIn_unitStep (unit_mem_both u)) (answersIn_unitStep (unit_mem_both u.other)))

theorem execEnumFrameRx_answersIn {n : Fin 100} {bytes : Bytes} {t : Instant} :
    AnswersIn [.unit .a, .unit .b] s (execEnumFrameRx u n bytes t s) := by
  have ticked : WritesTo [.unit .a, .unit .b] s (s.onUnit u (fun x => x.tick t)) := WritesTo.done.onUnit (unit_mem_both u)
  have own {f : UnitSt → UnitSt} := ticked.onUnit (f := f) (unit_mem_both u)
  have partner {f g : UnitSt → UnitSt} := (own (f := f)).onUnit (f := g) (unit_mem_both u.other)
  refine .ite own.next (.ite ?_ (.ite ?_ (.ite own.next (.ite own.next ticked.next))))
  · exact (partner.ite own).next
  · exact (partner.ite own).next

end

/-- Every command answers a next state, reached by writes to the parts it names. -/
theorem exec_answersIn (i : Instr) (s : State) : AnswersIn i.parts s (exec i s) := by
  cases i with
  | computeStart => exact execComputeStart_answersIn
  | mirrorSend => exact execMirrorSend_answersIn
  | partnerResetRx => exact execPartnerResetRx_answersIn
  | enumFrameRx => exact execEnumFrameRx_answersIn
  | jtagFlashprog => exact execJtagFlashprog_answersIn
  | jtagBypass => exact execJtagBypass_answersIn
  | jtagExtest | jtagHighz | jtagClamp | jtagIdcode | jtagSamplePreload | jtagDebug => exact WritesTo.onJtag.next
  | rateSwitch p | sramEccError p =>
    cases p with
    | unit => exact answersIn_unitStep List.mem_cons_self
    | cell => exact answersIn_cellStep List.mem_cons_self
  | linkLock e | linkLockLoss e =>
    cases e with
    | cell => exact answersIn_cellStep List.mem_cons_self
    | unit | lane => exact answersIn_unitStep List.mem_cons_self
  | lowWordRead r | highWordRead r =>
    cases r with
    | unit => exact answersIn_unitStep List.mem_cons_self
    | cell => exact answersIn_cellStep List.mem_cons_self
  | lowWordWrite | highWordWrite => exact WritesTo.writeAt.next
  | regWrite => exact execRegWrite_answersIn
  | blockReset => exact execBlockReset_answersIn
  | lockWrite => exact execLockWrite_answersIn
  | swChange | gateCall | refreshStart | refreshEnd | carrierEdge | carrierTransferQ | cswCfgWrite | cswCperWrite
  | cswCdutyWrite | cswCcmtCmt | cswBypfireWrite | decimOutput | windowRestart | cmeasSyncReq | syncPinEdge
  | cmeasInjWrite | injResultReady | injresRead | spareCalibDone | rotationStepStart | spareSettled
  | spareCompareDone | sliceSwap | swapSkip | rotationStepSkip | cmeasRetireWrite | cellPowerOnReset
  | cellPowerLoss | cgenRstWrite | cprotPwrreqWrite | dormantLinkTimeout | cellWakeLight | cellWakeCharge
  | cellTripInput | blankEnd | tripSourceInactive | tripBypassDelay | cprotTripclrWrite | cellCoreWdogExpire
  | protClockFail | supTurnOn | supTurnOff | softStartEnd | supOvStop | holdupReq | holdupEnd | leaseExpire
  | orphanBlock | orphanBypass | leaseClear | cmdAdopt | cellFaultLatch | cellGraceExpire | cellMaskWindowEnd
  | cellFltLatchClear | ledgerReq | framAppendComplete | cellLedgerDaily | patchActivate | entryRead | entryWrite
  | entryBypass | calreqRotate | calreqSparecal | calreqReload | entryInject | entryReset | entryRate | entryBulk
  | servoLocked | servoHoldover | cmdFrameRx | statusLatch | statusFramePass | tailBecome | tailOriginate | tailEnd
  | stopRx | abortRx | portSearchToggle | cellLineSearch | enumAssign | enumEcho | enumIdreq | cellIdrspSend
  | cellStrandReset | cellBoundary =>
    exact answersIn_cellStep List.mem_cons_self
  | _ => exact answersIn_unitStep List.mem_cons_self

/-- A step reaches its next state by writes to parts, from the state with the rest of the queue. -/
theorem step_keeps_cellsWf {s t : State} (hs : s.cellsWf = true) (h : step s = .next t) : t.cellsWf = true := by
  unfold step at h
  split at h
  case h_1 => cases h; exact hs
  case h_2 i rest _ =>
    obtain ⟨t', ht', hw⟩ := exec_answersIn i { s with pending := rest }
    rw [ht'] at h
    cases h
    exact hw.cellsWf hs

/-- Settles O48: a step writes units and cells only, and either write keeps the table canonical. -/
theorem stepKeepsTheCellTable : Obligations.StepKeepsTheCellTable := by
  intro s t hs h
  exact step_keeps_cellsWf hs h

/-! Reset. -/

/-- A unit after reset lists nothing: every register and memory is at what an unlisted key reads as. -/
theorem UnitSt.reset_wf (u : UnitId) : (UnitSt.reset u).wf = true := rfl

theorem UnitSt.reset_id (u : UnitId) : (UnitSt.reset u).id = u := rfl

theorem State.reset_wf : State.reset.wf = true := by
  simp [State.wf, State.reset, UnitSt.reset_wf, UnitSt.reset_id]

theorem State.reset_cellsWf : State.reset.cellsWf = true := rfl

/-- Settles O49: nothing is listed after reset. -/
theorem resetIsWellFormed : Obligations.ResetIsWellFormed := ⟨State.reset_wf, State.reset_cellsWf⟩

end Sys2Proof.Machine
end

section
/-! PROOFS. What a command leaves alone (O46, O47) and the step over the queue (O43 to O45), both from the writes a command
is made of; what a reset and a configuration do (O32); accesses to islands that are off (O50). -/
namespace Sys2Proof.Machine

/-! Steps of one part. -/

section

variable {s : State} {u : UnitId} {c : CellId}

/-- A step of one unit is told by what becomes of the unit as it stands. -/
theorem unitStep_eq {f g : UnitSt → UnitSt} (h : f (s.unit u) = g (s.unit u)) : unitStep s u f = .next (s.onUnit u g) := by
  simp only [unitStep, State.onUnit, h]

/-- A step of one cell is told by what becomes of the cell as it stands. -/
theorem cellStep_eq {f g : CellSt → CellSt} (h : f (s.cell c) = g (s.cell c)) : cellStep s c f = .next (s.onCell c g) := by
  simp only [cellStep, State.onCell, h]

/-- A step whose access is allowed does what its register does. -/
theorem unitStep_guard_allowed {q : Requester} {w : Bool} {a : Nat} {k : UnitSt → UnitSt}
    (h : (s.unit u).allowed q w a = true) : unitStep s u (fun x => x.guard q w a k) = .next (s.onUnit u k) :=
  unitStep_eq (UnitSt.guard_allowed h)

end

/-! The frame of a write. -/

theorem CellId.key_injective : Function.Injective CellId.key := by
  rintro ⟨s, h⟩ ⟨s', h'⟩ e
  simp only [CellId.key] at e
  simp only [CellId.mk.injEq, Fin.ext_iff]
  omega

/-- A write of one unit leaves the other. -/
theorem State.setUnit_unit_ne {s : State} {u v : UnitId} {x : UnitSt} (h : v ≠ u) : (s.setUnit u x).unit v = s.unit v :=
  match u, v with
  | .a, .b | .b, .a => rfl
  | .a, .a | .b, .b => absurd rfl h

/-- A write of one cell leaves every other. -/
theorem State.setCell_cell_ne {s : State} {c d : CellId} {y : CellSt} (h : d ≠ c) : (s.setCell c y).cell d = s.cell d :=
  sget_sset_ne (CellId.key_injective.ne h)

section

variable {ps : List Part} {s t : State}

theorem WritesTo.pending (h : WritesTo ps s t) : t.pending = s.pending := by
  induction h with
  | done => rfl
  | setUnit _ _ ih => rwa [State.setUnit_pending]
  | setCell _ _ ih => rwa [State.setCell_pending]

/-- A unit that the writes do not name stays. -/
theorem WritesTo.unit {v : UnitId} (h : WritesTo ps s t) (hv : .unit v ∉ ps) : t.unit v = s.unit v := by
  induction h with
  | done => rfl
  | setUnit hu _ ih => rwa [State.setUnit_unit_ne (fun e : v = _ => hv (e ▸ hu))]
  | setCell _ _ ih => rwa [State.setCell_unit]

/-- A cell that the writes do not name stays. -/
theorem WritesTo.cell {d : CellId} (h : WritesTo ps s t) (hd : .cell d ∉ ps) : t.cell d = s.cell d := by
  induction h with
  | done => rfl
  | setUnit _ _ ih => rwa [State.setUnit_cell]
  | setCell hc _ ih => rwa [State.setCell_cell_ne (fun e : d = _ => hd (e ▸ hc))]

end

/-- The next state of a command is reached by writes to the parts it names. -/
theorem exec_writesTo {i : Instr} {s t : State} (h : exec i s = .next t) : WritesTo i.parts s t := by
  obtain ⟨t', ht', hw⟩ := exec_answersIn i s
  cases ht'.symm.trans h
  exact hw

/-- Settles O47: the writes a command is made of go to the parts it names. -/
theorem commandsStayInTheirParts : Obligations.CommandsStayInTheirParts :=
  ⟨fun _ _ _ _ h hu => (exec_writesTo h).unit hu, fun _ _ _ _ h hc => (exec_writesTo h).cell hc⟩

/-- Settles O46: no write of a part reaches the queue. -/
theorem commandsLeaveTheQueue : Obligations.CommandsLeaveTheQueue :=
  fun _ _ _ h => (exec_writesTo h).pending

/-! The queue. -/

/-- Settles O43: a step matches on the queue. -/
theorem stepTakesTheFront : Obligations.StepTakesTheFront := by
  intro i rest s h
  simp only [step, h]

/-- Settles O44: a step with no command waiting is the empty case of the match. -/
theorem emptyQueueIdles : Obligations.EmptyQueueIdles := by
  intro s h
  simp only [step, h]

/-- Settles O45: every command answers a next state. -/
theorem everyCommandCompletes : Obligations.EveryCommandCompletes := by
  intro i s
  obtain ⟨t, ht, -⟩ := exec_answersIn i s
  exact ⟨t, ht⟩

/-! Resets and boot. -/

/-- While RESETN is low the XSPI pins are the programmer's, and a byte it writes stands in the flash (R624). -/
theorem UnitSt.programmer_released {x : UnitSt} {a : Nat} {b : Byte} (h : a < flashSize) :
    x.programmer false [(a, b)] = x.setFlash a b := by
  have released : x.xspiDriven false = false := rfl
  simp [UnitSt.programmer, released, h]

/-- CONFIRM alone in GEN_BOOT ends the trial (R566). -/
theorem UnitSt.bootWrite_confirm (x : UnitSt) :
    x.bootWrite 0x80000000 = (x.set GEN_BOOT.TRIAL 0).set GEN_STAT.CONFIRMED 1 := if_pos (by decide)

/-- Without a valid slot ROM finds none to boot, unless a trial or a fallback ended (R566). -/
theorem UnitSt.chooseSlot_none {x was : UnitSt} {kind : Nat} (h0 : x.slotValid 0 = false) (h1 : x.slotValid 1 = false)
    (ht : kind = 0 ∨ was.bit GEN_BOOT.TRIAL = false) (hf : kind = 0 ∨ was.bit GEN_BOOT.FB = false) :
    x.chooseSlot was kind = (none, false) := by
  unfold UnitSt.chooseSlot
  rcases ht with rfl | ht
  · simp [h0, h1]
  · rcases hf with rfl | hf
    · simp [h0, h1]
    · simp [h0, h1, ht, hf]

/-- A boot that finds no slot stops without an image (R566). -/
theorem UnitSt.bootRom_noImage {x was : UnitSt} {kind : Nat} {b : Bool}
    (h : ((x.showSlot 0).showSlot 1).chooseSlot was kind = (none, b)) :
    x.bootRom was kind =
      (({ (x.showSlot 0).showSlot 1 with boot := .noImage } : UnitSt).err FLS_ERR.NOIMG).set FLT_STAT.FAULT 1 := by
  unfold UnitSt.bootRom
  dsimp only
  rw [h]

/-- Settles O32: each reset's step is told by the unit as it stands, and a boot that chooses no slot stops. -/
theorem resetsAndBoot : Obligations.ResetsAndBoot := by
  refine ⟨?powerOn, ?pin, ?flash, ?supplyLoss, ?firmware, ?partner, ?confirm, ?trialEnd, ?noSlot, ?config⟩
  case powerOn => exact fun _ _ => rfl
  case pin => exact fun _ _ h => unitStep_eq (if_neg h)
  case flash => exact fun _ _ _ h => UnitSt.programmer_released h
  case supplyLoss => exact fun _ _ => rfl
  case firmware => exact fun _ _ _ _ h => unitStep_guard_allowed h
  case partner => exact fun _ _ _ _ h => unitStep_guard_allowed h
  case confirm =>
    exact fun _ _ _ h => unitStep_eq ((UnitSt.guard_allowed h).trans (UnitSt.bootWrite_confirm _))
  case trialEnd => exact fun _ _ h => unitStep_eq (if_pos h)
  case noSlot => exact fun _ _ _ h0 h1 ht hf => UnitSt.bootRom_noImage (UnitSt.chooseSlot_none h0 h1 ht hf)
  case config => exact fun _ _ _ _ _ h => unitStep_eq (if_pos h)

/-! Accesses to islands that are off (R43). -/

section

variable {q : Requester} {r : CellReq} {a : Nat} {y : CellSt}

/-- A read of a page whose island is off answers 0 and leaves XING. -/
theorem UnitSt.readAt_off {x : UnitSt} (hd : x.denied q false a = false) (hp : (pageOf unitPages a).isSome = true)
    (hi : x.islandOn (unitIsland a) = false) : x.readAt q a = (x.err GEN_ERR.XING).answer q 0 := by
  have refused : ¬ x.allowed q false a = true := by simp [UnitSt.allowed, hi]
  rw [UnitSt.readAt_reg (inBar_page hp), UnitSt.guardRead, if_neg refused, UnitSt.guard_off hd hp hi]

/-- A write to a page whose island is off leaves XING alone. -/
theorem UnitSt.writeAt_off {x : UnitSt} {v : Word} {t : Instant} (hd : x.denied q true a = false)
    (hp : (pageOf unitPages a).isSome = true) (hi : x.islandOn (unitIsland a) = false) :
    x.writeAt q a v t = x.err GEN_ERR.XING := by
  rw [UnitSt.writeAt_reg (inBar_page hp), UnitSt.guard_off hd hp hi]

/-- A register command of a powered cell to an island that is off is turned away with XING. -/
theorem CellSt.guarded_off {k : CellSt → Nat × CellSt} (h0 : ¬ (y.pow = .off ∨ y.pow = .dormant))
    (h1 : cellHasReg a = true) (h2 : y.islandOn (cellIsland a) = false) :
    y.guarded r a k = (rcOff, y.err CGEN_ERR.XING) := by
  simp [CellSt.guarded, h0, h1, h2]

/-- A read of a powered cell's register whose island is off answers 0 and leaves XING. -/
theorem CellSt.readAt_off (h0 : ¬ (y.pow = .off ∨ y.pow = .dormant)) (h1 : cellHasReg a = true)
    (h2 : y.islandOn (cellIsland a) = false) :
    y.readAt r a = (y.err CGEN_ERR.XING).onReq r (fun p => { p with rdata := 0 }) := by
  have read : y.regRead r a = (0, false, y.err CGEN_ERR.XING) := by
    obtain ⟨hoff, hdormant⟩ := not_or.mp h0
    simp [CellSt.regRead, hoff, hdormant, h1, h2]
  simp only [CellSt.readAt, read]

/-- A register write of a unit that covers its aligned word reaches the bus at its instant. -/
theorem execRegWrite_unit_word {s : State} {u : UnitId} {b : BitVec 32} {v : Word} {t : Instant} (h : b.toNat % 4 = 0) :
    execRegWrite (.unit u q) b v 0xF t s = unitStep s u (fun x => (x.tick t).writeAt q b.toNat v t) := if_pos ⟨rfl, h⟩

end

/-- Settles O50: the guard of either part turns an access to an island that is off away. -/
theorem offIslandAccess : Obligations.OffIslandAccess := by
  refine ⟨?unitRead, ?unitWrite, ?cellRead, ?cellWrite, rfl, rfl, rfl⟩
  case unitRead => exact fun _ _ _ _ hd hp hi => unitStep_eq (UnitSt.readAt_off hd hp hi)
  case unitWrite =>
    intro s u q a v t hd hp hi ha
    rw [exec_regWrite, execRegWrite_unit_word ha]
    exact unitStep_eq (UnitSt.writeAt_off hd hp hi)
  case cellRead => exact fun _ _ _ _ h0 h1 h2 => cellStep_eq (CellSt.readAt_off h0 h1 h2)
  case cellWrite => exact fun _ _ _ _ _ _ _ h0 h1 h2 => CellSt.guarded_off h0 h1 h2

end Sys2Proof.Machine
end

section
/-! PROOFS. What is told of time between the units, of period changes and of the frames at a cell (O5, O6, O40). -/
namespace Sys2Proof.Machine

/-- The negation of a test that holds does not hold. -/
theorem bnot_ne_true {b : Bool} (h : b = true) : ¬ (!b) = true := by simp [h]

section

variable {x : UnitSt} {y : CellSt}

/-! Time over Splice (R51, R54, R55). -/

/-- A unit that does not hold the lease takes the alignment its partner's clock gives it. -/
theorem UnitSt.align_not_holder {src : Nat} {ofs : Int} {t : Instant} (h : x.isHolder = false) :
    x.align src ofs t =
      (fun z : UnitSt => ({ z with tim := { z.tim with aligned := true } } : UnitSt).steer t)
        (((x.set TIM_SRC.ALIGN src).set TIM_SRC.PARTNER
          (b2n (!(decide (3 * (ns : Int) < 10 * ofs) || decide (10 * ofs < -(3 * (ns : Int))))))).set
          TIM_PARTOFS.PARTOFS (ofInt 32 (ofs / 256))) :=
  if_neg (ne_true_of_eq_false h)

/-- Settles O5: the transfer aligns a unit that does not hold the lease, and a standing misalignment is an error of it. -/
theorem timeTransferAndAlignment : Obligations.TimeTransferAndAlignment := by
  refine ⟨?transfer, ?alignError⟩
  case transfer =>
    intro s u ofs lat t hup hpart hholder
    exact unitStep_eq ((if_pos hup).trans ((if_pos hpart).trans (UnitSt.align_not_holder hholder)))
  case alignError => exact fun s u hm hh => unitStep_eq (if_pos ⟨hm, by simp [hh]⟩)

/-! Period changes (R62). -/

/-- In Hold a request of a change that names a length in range and a period far enough ahead starts it. -/
theorem UnitSt.pchgRequest_accepted {v : Word} (hreq : x.bit TIM_PCHG.REQ = false)
    (hlen : (decide (20 ≤ v.toNat % 256) && decide (v.toNat % 256 ≤ 200)) = true) (hgo : bitAt v.toNat 31 = true)
    (hhold : (x.set TIM_PCHG.NEW_T (v.toNat % 256)).inHold = true)
    (hpn : ¬ ((x.set TIM_PCHG.NEW_T (v.toNat % 256)).pchgPn < (x.set TIM_PCHG.NEW_T (v.toNat % 256)).pn + 64 ∨
      (x.set TIM_PCHG.NEW_T (v.toNat % 256)).pn + 2 ^ 31 ≤ (x.set TIM_PCHG.NEW_T (v.toNat % 256)).pchgPn)) :
    x.pchgRequest v = (fun y : UnitSt => ((y.set TIM_PCHG.REQ 1).set TIM_PCHG.RES 5).pchgStart y.pchgPn (v.toNat % 256))
      (x.set TIM_PCHG.NEW_T (v.toNat % 256)) := by
  have far : ¬ (False ∨ (x.set TIM_PCHG.NEW_T (v.toNat % 256)).pchgPn < (x.set TIM_PCHG.NEW_T (v.toNat % 256)).pn + 64 ∨
      (x.set TIM_PCHG.NEW_T (v.toNat % 256)).pn + 2 ^ 31 ≤ (x.set TIM_PCHG.NEW_T (v.toNat % 256)).pchgPn) := by
    rwa [false_or]
  simp only [UnitSt.pchgRequest, hreq, hlen, hgo, hhold, far, Bool.not_true, Bool.false_eq_true, if_true, if_false]

/-- Settles O6: each message's step is told by the change that the unit, or its partner, has in hand. -/
theorem periodChangeMessages : Obligations.PeriodChangeMessages := by
  refine ⟨?request, ?requestRx, ?answerRx, ?goAhead, ?refuse, ?dropRx⟩
  case request =>
    intro s u q v hal hreq hlen hgo hhold hpn
    exact unitStep_eq ((UnitSt.guard_allowed hal).trans (UnitSt.pchgRequest_accepted hreq hlen hgo hhold hpn))
  case requestRx => exact fun s u pn t h => unitStep_eq (if_pos h)
  case answerRx => exact fun s u pn t h => unitStep_eq (by simp only [h, if_true])
  case goAhead =>
    intro s u p t hp hgo hpn hans hhold hids
    exact unitStep_eq (by simp only [hp, hgo, hpn, hans, hhold, hids, Bool.not_false, and_self, if_true])
  case refuse =>
    intro s u p t hp hgo hpn hans
    refine unitStep_eq ?_
    simp only [hp, hgo, hpn, hans, Bool.not_false, Bool.false_eq_true, false_and, and_self, if_true, if_false]
    rfl
  case dropRx => exact fun s u pn t h => unitStep_eq (by simp only [h, if_true])

/-! Frames at a cell. -/

/-- A fault set that this side has not acted on in this period is shown and acted on. -/
theorem CellSt.faultSet_first {side : Side} {code : Nat} {o : UnitId} {cut : Bool}
    (h : (y.lnk side).acted.contains (code, unitBit o) = false) :
    y.faultSet side code o cut = (true, (fun z : CellSt =>
        (((z.onLnk side (fun l => { l with acted := (code, unitBit o) :: l.acted })).set CLNK_FSYM.CODE code (sideIx side)).set
          CLNK_FSYM.ORIG (unitBit o) (sideIx side)).inc CLNK_FSYM.CNT (sideIx side))
      (if cut then (y.emit side.other (Sys2Proof.Machine.faultSet (BitVec.ofNat 8 code) o)).inc CLNK_CNT2.ABORT (sideIx side)
        else y.emit side.other (Sys2Proof.Machine.faultSet (BitVec.ofNat 8 code) o))) := by
  have kept (z : CellSt) (ha : z.lnkA = y.lnkA) (hb : z.lnkB = y.lnkB) :
      ¬ (z.lnk side).acted.contains (code, unitBit o) = true := by
    have e : z.lnk side = y.lnk side := by cases side <;> assumption
    rw [e, h]
    exact Bool.false_ne_true
  unfold CellSt.faultSet
  cases cut
  · exact if_neg (kept _ rfl rfl)
  · exact if_neg (kept _ rfl rfl)

/-- Settles O40: each frame, lock and period's step is told by the cell, or the unit, as it stands. -/
theorem cellFrames : Obligations.CellFrames := by
  refine ⟨?cmdFrame, ?otherCode, ?statusLatch, ?servoLocked, ?servoHoldover, ?statusFrame, ?tailBecome, ?tailOriginate, ?tailEnd,
    ?stop, ?abort, ?otherFault, ?faultSet, ?lockCell, ?lockUnit, ?lossCell, ?lossUnit, ?search, ?lineSearch, ?rateCell, ?rateUnit⟩
  case cmdFrame =>
    intro s c side rx stamp done t hh hc
    exact cellStep_eq ((if_neg (bnot_ne_true hh)).trans (if_pos hc))
  case otherCode =>
    intro s c side rx stamp done t hh hc hn
    exact cellStep_eq ((if_neg (bnot_ne_true hh)).trans ((if_neg hc).trans (if_neg hn)))
  case statusLatch => exact fun s c h => cellStep_eq (if_pos h)
  case servoLocked => exact fun s c h => cellStep_eq (if_pos h)
  case servoHoldover => exact fun s c h => cellStep_eq (if_pos h)
  case statusFrame => exact fun s c side bytes hh hc => cellStep_eq ((if_neg (bnot_ne_true hh)).trans (if_pos hc))
  case tailBecome => exact fun s c d h => cellStep_eq (if_pos h)
  case tailOriginate => exact fun s c d h => cellStep_eq (if_pos h)
  case tailEnd => exact fun s c d h => cellStep_eq (if_pos h)
  case stop =>
    intro s c side o cut t hh ha
    refine cellStep_eq ((if_neg (bnot_ne_true hh)).trans ?_)
    rw [CellSt.faultSet_first ha]
    rfl
  case abort => exact fun s c side o cut hh hc => cellStep_eq ((if_neg (bnot_ne_true hh)).trans (if_pos hc))
  case otherFault => exact fun s c side o cut hh hc => cellStep_eq ((if_neg (bnot_ne_true hh)).trans (if_neg hc))
  case faultSet => exact fun y side code o cut h => CellSt.faultSet_first h
  case lockCell => exact fun s c side low t hw hl => cellStep_eq (if_neg (by simp [hw, hl]))
  case lockUnit => exact fun s u p low t => rfl
  case lossCell => exact fun s c side loss h => cellStep_eq (if_neg (bnot_ne_true h))
  case lossUnit => exact fun s u p loss h => unitStep_eq (if_neg (bnot_ne_true h))
  case search => exact fun s c p h => cellStep_eq (if_pos h)
  case lineSearch =>
    intro s c t a b ha hb h
    exact cellStep_eq (by simp only [ha, hb, h, if_true])
  case rateCell =>
    intro s c a r hr hpn
    exact cellStep_eq (by simp only [CellSt.rateSwitch, hr, hpn, if_true])
  case rateUnit => exact fun s u => rfl

end

end Sys2Proof.Machine
end

section
/-! PROOFS. The commands of a unit that complete, each with the effect its rule names (O59). -/
namespace Sys2Proof.Machine

section

variable {s : State} {u : UnitId} {c : CellId} {x : UnitSt} {y : CellSt}

/-! What is said of a step of one part. -/

/-- A step of one unit answers a state that holds what holds of any state with the unit it makes. -/
theorem unitStep_shows {f : UnitSt → UnitSt} {w : UnitSt} {P : State → Prop} (hf : f (s.unit u) = w)
    (h : ∀ z : State, z.unit u = w → P z) : ∃ z, unitStep s u f = .next z ∧ P z :=
  ⟨_, rfl, h _ ((State.onUnit_unit s u f).trans hf)⟩

/-- A step of one unit makes of the unit what its command says, and leaves the queue, the partner and the cells. -/
theorem unitStep_completes {f : UnitSt → UnitSt} {w : UnitSt} (hf : f (s.unit u) = w) :
    ∃ z, unitStep s u f = .next z ∧ z.unit u = w ∧ z.pending = s.pending ∧ z.unit u.other = s.unit u.other ∧
      z.cells = s.cells :=
  ⟨_, rfl, (State.onUnit_unit s u f).trans hf, State.onUnit_pending s u f, State.onUnit_other s u f, State.onUnit_cells s u f⟩

/-- A step of one cell answers a state that holds what holds of any state with the cell it makes. -/
theorem cellStep_shows {f : CellSt → CellSt} {w : CellSt} {P : State → Prop} (hf : f (s.cell c) = w)
    (h : ∀ z : State, z.cell c = w → P z) : ∃ z, cellStep s c f = .next z ∧ P z :=
  ⟨_, rfl, h _ ((State.onCell_cell s c f).trans hf)⟩

/-- A step of one cell makes of the cell what its command says, and leaves the queue and both units. -/
theorem cellStep_completes {f : CellSt → CellSt} {w : CellSt} (hf : f (s.cell c) = w) :
    ∃ z, cellStep s c f = .next z ∧ z.cell c = w ∧ z.pending = s.pending ∧ z.a = s.a ∧ z.b = s.b :=
  ⟨_, rfl, (State.onCell_cell s c f).trans hf, rfl, rfl, rfl⟩

/-! Period changes (R62). -/

/-- Without a change of the partner's the unit's own takes effect in Hold, at its period. -/
theorem UnitSt.pchgEffect_own {p t : Nat} (hpeer : x.tim.peer = none) (hown : x.tim.pchg = some (p, t))
    (hgo : x.tim.pchgGo = true) (hhold : x.inHold = true) (hpn : p = x.pn) :
    x.peerChange.ownChange = (x.changeT p t).pchgEnd 1 := by
  have peer : x.peerChange = x := by simp only [UnitSt.peerChange, hpeer]
  simp only [peer, UnitSt.ownChange, hown, hgo, hpn, hhold, and_self, if_true]

/-- A change ended shows its result and no request, and is in hand no more. -/
theorem UnitSt.pchgEnd_shows {res : Nat} : (x.pchgEnd res).fld TIM_PCHG.RES = res % 8 ∧ (x.pchgEnd res).fld TIM_PCHG.REQ = 0 ∧
    (x.pchgEnd res).tim.pchg = none := by
  refine ⟨?_, ?_, rfl⟩
  · rw [UnitSt.pchgEnd_fld, UnitSt.fld_set_disjoint TIM_PCHG.REQ TIM_PCHG.RES _ _ _ rfl (by decide) (by decide)]
    exact UnitSt.fld_set _ _ _ (by decide)
  · rw [UnitSt.pchgEnd_fld, UnitSt.fld_set _ _ _ (by decide)]
    rfl

/-- The end of a change leaves the length of the period. -/
theorem UnitSt.pchgEnd_T {res : Nat} : (x.pchgEnd res).fld TIM_PERIOD.T = x.fld TIM_PERIOD.T := by
  rw [UnitSt.pchgEnd_fld, UnitSt.fld_set_ne _ _ _ _ _ (by decide), UnitSt.fld_set_ne _ _ _ _ _ (by decide)]

/-! Caliper and Calender. -/

/-- A cell due for retirement that its arm cannot spare is marked as pending (R281). -/
theorem UnitSt.wearRetire_pending {arm k : Nat}
    (hdue : ¬ (x.fld CLP_WCFG.RETCONF = 0 ∨ (x.clpRec k).rcnt < x.fld CLP_WCFG.RETCONF ∨ (x.clpRec k).retired = true ∨
      (x.clpRec k).retpend = true)) (hneed : x.availableBut arm k < x.fld CAL_ARMCFG.NREQ arm) :
    x.wearRetire arm k = (x.onRec k (fun r => { r with retpend := true })).err CLP_ERR.RETPEND :=
  (if_neg hdue).trans (if_pos hneed)

/-- A cell due for retirement that its arm can spare is retired (R281). -/
theorem UnitSt.wearRetire_retires {arm k : Nat}
    (hdue : ¬ (x.fld CLP_WCFG.RETCONF = 0 ∨ (x.clpRec k).rcnt < x.fld CLP_WCFG.RETCONF ∨ (x.clpRec k).retired = true ∨
      (x.clpRec k).retpend = true)) (hspare : ¬ x.availableBut arm k < x.fld CAL_ARMCFG.NREQ arm) :
    x.wearRetire arm k = (x.onRec k (fun r => { r with retired := true, retpend := false })).err CLP_ERR.RETIRE :=
  (if_neg hdue).trans (if_neg hspare)

/-- A record marked with an error reads as marked, and Caliper's status shows beside it. -/
theorem UnitSt.clpRec_showClp_err_onRec {k : Nat} {f : ClpRec → ClpRec} {e : Fld} :
    ((x.onRec k f).err e).showClp.clpRec k = f (x.clpRec k) := by
  rw [UnitSt.clpRec_showClp, UnitSt.clpRec_err, UnitSt.clpRec_onRec]

/-- A deadline that Calender misses is an error of its page, one that Caliper misses of Caliper's. -/
theorem UnitSt.late_shows (cal : Bool) {k : CalSt} :
    ({ (if cal then x.err CAL_ERR.LATE else x.err CLP_ERR.LATE) with cal := k } : UnitSt).fld
      (if cal then CAL_ERR.LATE else CLP_ERR.LATE) = 1 := by
  cases cal
  · exact (UnitSt.fld_congr (y := x.err CLP_ERR.LATE) rfl rfl).trans (UnitSt.fld_err (by decide) (by decide))
  · exact (UnitSt.fld_congr (y := x.err CAL_ERR.LATE) rfl rfl).trans (UnitSt.fld_err (by decide) (by decide))

/-- A command of Caliper for a cell of the converter waits for the next computation, and the partner hears of it. -/
theorem UnitSt.clpCmd_cell {op : Nat} (h0 : op ≠ 0) (h4 : ¬ 4 < op)
    (hc : x.isCell (x.fld CLP_SEL.STRAND) (x.fld CLP_SEL.HOP) = true) :
    x.clpCmd op =
      let o : ClpOp := {
        op := op, key := x.fld CLP_SEL.STRAND * 64 + x.fld CLP_SEL.HOP, c := x.word 0x220F0, esr := x.word 0x220F4
        pn := x.nextCompute, own := true }
      let y : UnitSt := { x.set CLP_CMD.RES 4 with clp := { x.clp with cmds := x.clp.cmds ++ [o] } }
      if y.splUp then y.emit (.splice (.clpCmd op (x.fld CLP_SEL.STRAND) (x.fld CLP_SEL.HOP) o.c o.esr o.pn)) else y :=
  (if_neg h0).trans ((if_neg h4).trans (if_neg (bnot_ne_true hc)))

/-! The lease, Splice and what crosses it. -/

/-- A unit in STANDBY that has lost its holder claims, and shows no relay. -/
theorem UnitSt.claimLost_standby {cause : Nat} (hl : x.lse.lostNow = some cause) (h0 : x.lstate = 0) :
    x.claimLost = (x.claim cause).showRelay [] := by
  simp only [UnitSt.claimLost, hl, h0, if_true]

/-- What showing no relay leaves of a claim. -/
theorem UnitSt.claim_showRelay {cause : Nat} {act : List Nat} (h0 : x.lstate = 0) :
    ((x.claim cause).showRelay act).fld LSE_STAT.STATE = 1 ∧
      ((x.claim cause).showRelay act).lse.epoch = (x.seenEpoch + 1) % 2 ^ 32 ∧
      ((x.claim cause).showRelay act).fld LSE_EPOCH.EPOCH = ((x.claim cause).showRelay act).lse.epoch ∧
      ((x.claim cause).showRelay act).fld LSE_LOST.CAUSE = cause % 4 := by
  obtain ⟨hstate, hlse, hepoch, hcause⟩ := UnitSt.claim_shows (x := x) (cause := cause) h0
  have kept : ((x.claim cause).showRelay act).lse = (x.claim cause).lse := UnitSt.showRelay_parts.2
  refine ⟨?_, ?_, ?_, ?_⟩
  · rw [UnitSt.showRelay_fld (by decide) (by decide) (by decide) (by decide), hstate]
  · rw [kept, hlse]
  · rw [UnitSt.showRelay_fld (by decide) (by decide) (by decide) (by decide), kept, hepoch, hlse]
  · rw [UnitSt.showRelay_fld (by decide) (by decide) (by decide) (by decide), hcause]

/-- Splice that goes down is an error and a count (R425). -/
theorem UnitSt.splDown_up (h : x.splUp = true) :
    x.splDown =
      let y := ((x.err SPL_ERR.DOWN).inc SPL_CNT2.DOWN).set SPL_STAT.UP 0
      let y := ((y.showRelay []).set SPL_RELAY.RNUM 0).set PWR_COND.CFGD 1
      { y with
        spl := { y.spl with relayReq := [] }
        lse := { y.lse with
          partStby := 0, cfgdDiff := false, partCfgd := none, rsWant := [], rsOwn := [], rsRx := [], rsAsk := [], rsTx := [] } } := by
  simp only [UnitSt.splDown, h, if_true]

/-- A handover that the holder may ask for is sent to the partner (R413). -/
theorem UnitSt.hovRequest_sent {p : Nat} (hh : x.isHolder = true) (hp : (x.splUp && x.lse.partReady) = true)
    (hpn : x.pn + 3 ≤ p) :
    x.hovRequest p = (true, (fun y : UnitSt =>
      ({ y with lse := { y.lse with hovP := some p, hovAcked := false, hovMine := true } } : UnitSt).emit (.splice (.hovReq p)))
        (x.set LSE_HOV.RES 0)) := by
  obtain ⟨hup, hready⟩ := Bool.and_eq_true_iff.mp hp
  exact (if_neg (bnot_ne_true hh)).trans ((if_neg (by simp [hup, hready])).trans (if_neg (not_lt.mpr hpn)))

/-- A holder that streams no resynchronisation sends its record and the commit of it alone. -/
theorem UnitSt.mirrorSend_record (hm : x.mirrors = true) (hrs : x.lse.rsTx = []) :
    x.mirrorSend =
      let seq := (x.lse.mirSeq + 1) % 2 ^ 32
      let r := x.mirrorRecord seq
      (({ x with lse := { x.lse with mirSeq := seq } } : UnitSt).say (.mirror r)).say (.commit seq x.pn (leAt r 8188 4)) := by
  simp only [UnitSt.mirrorSend, hm, Bool.not_true, Bool.false_eq_true, if_false, UnitSt.say, UnitSt.emit_lse, hrs]
  rfl

/-! Memory. -/

/-- An error counted against a row changes no register. -/
theorem UnitSt.fld_rowError {row : Nat} {t : Instant} {f : Fld} {i : Nat} : (x.rowError row t).fld f i = x.fld f i := by
  unfold UnitSt.rowError
  split
  · exact UnitSt.fld_congr rfl rfl
  · split
    · exact UnitSt.fld_congr rfl rfl
    · rfl

/-- A count leaves every field of other registers of a unit. -/
theorem UnitSt.fld_inc_ne {f g : Fld} {i j : Nat} (h : g.addr j ≠ f.addr i) : (x.inc f i).fld g j = x.fld g j := by
  rw [UnitSt.inc, UnitSt.fld_set_ne _ _ _ _ _ h]

/-- A count leaves every field of other registers of a cell. -/
theorem CellSt.fld_inc_ne {f g : Fld} {i j : Nat} (h : g.addr j ≠ f.addr i) : (y.inc f i).fld g j = y.fld g j := by
  rw [CellSt.inc, CellSt.fld_set_ne _ _ _ _ _ h]

/-- An uncorrected error of the SRAM sets its bit, and shows its address. -/
theorem UnitSt.eccUncorrected_shows {a : BitVec 26} :
    (((x.err MEM_ERR.UE).inc MEM_CNT.UE).set MEM_UEADDR.ADDR a.toNat).fld MEM_ERR.UE = 1 ∧
      (((x.err MEM_ERR.UE).inc MEM_CNT.UE).set MEM_UEADDR.ADDR a.toNat).fld MEM_UEADDR.ADDR = a.toNat := by
  constructor
  · rw [UnitSt.fld_set_ne _ _ _ _ _ (by decide), UnitSt.fld_inc_ne (by decide), UnitSt.fld_err (by decide) (by decide)]
    rfl
  · rw [UnitSt.fld_set _ _ _ (by decide)]
    exact Nat.mod_eq_of_lt a.isLt

/-- A corrected error of the SRAM sets its bit, and shows its address. -/
theorem UnitSt.eccCorrected_shows {a : BitVec 26} :
    (((x.err MEM_ERR.CE).inc MEM_CNT.CE).set MEM_CEADDR.ADDR a.toNat).fld MEM_ERR.CE = 1 ∧
      (((x.err MEM_ERR.CE).inc MEM_CNT.CE).set MEM_CEADDR.ADDR a.toNat).fld MEM_CEADDR.ADDR = a.toNat := by
  constructor
  · rw [UnitSt.fld_set_ne _ _ _ _ _ (by decide), UnitSt.fld_inc_ne (by decide), UnitSt.fld_err (by decide) (by decide)]
    rfl
  · rw [UnitSt.fld_set _ _ _ (by decide)]
    exact Nat.mod_eq_of_lt a.isLt

/-- What is counted of a corrected error, in the health record and against its row, is no register. -/
theorem UnitSt.fld_flt_rowError {w : FltSt} {row : Nat} {t : Instant} {f : Fld} :
    (({ x with flt := w } : UnitSt).rowError row t).fld f = x.fld f :=
  UnitSt.fld_rowError.trans (UnitSt.fld_congr rfl rfl)

/-- An error of a cell's SRAM, uncorrected or corrected, sets its bit. -/
theorem CellSt.ecc_shows (d : Bool) :
    (if d then y.err CFLT_ERR.ECCU else (y.err CFLT_ERR.ECCC).inc CFLT_CNT.ECCC).fld
      (if d then CFLT_ERR.ECCU else CFLT_ERR.ECCC) = 1 := by
  cases d
  · simp only [Bool.false_eq_true, if_false]
    rw [CellSt.fld_inc_ne (by decide), CellSt.fld_err (by decide) (by decide)]
    rfl
  · simp only [if_true]
    rw [CellSt.fld_err (by decide) (by decide)]
    rfl

/-! Loop engines. -/

/-- A swap accepted with Splice up is the last of the queue, and the partner hears of it. -/
theorem UnitSt.swapWrite_accepted {v : Word} {pn : Nat}
    (hpn : pn = (if bitAt v.toNat 30 = true then x.pn + 2 else x.pair LPE_SWAPPN_LO.PN_LO LPE_SWAPPN_HI.PN_HI))
    (hc : x.swapCode { ch := v.toNat % 128, bank := v.toNat / 2 ^ 31, n := v.toNat / 65536 % 8192, pn := pn, last := true } = 1)
    (hup : (x.set LPE_SWAPRES.RES 1).splUp = true) :
    x.swapWrite v =
      let y := x.set LPE_SWAPRES.RES 1
      let clear (c : ChanSt) : ChanSt := { c with due := c.due.map (fun q => { q with last := false }) }
      let y : UnitSt := { y with lpe := { y.lpe with
        queue := y.lpe.queue.map (fun q => { q with last := false }) ++
          [{ ch := v.toNat % 128, bank := v.toNat / 2 ^ 31, n := v.toNat / 65536 % 8192, pn := pn, last := true }]
        chs := y.lpe.chs.foldl (fun m e => sset (fun _ => {}) m e.1 (clear e.2)) [] } }
      y.emit (.splice (.swap (v.toNat % 128) (v.toNat / 2 ^ 31) (v.toNat / 65536 % 8192) pn)) := by
  subst hpn
  unfold UnitSt.swapWrite
  dsimp only
  rw [hc]
  exact (if_neg (not_not_intro rfl)).trans (if_pos hup)

/-- A channel that may be enabled may be configured. -/
theorem UnitSt.mayConfigure_of_mayEnable {n : Nat} (h : x.mayEnable n = true) : x.mayConfigure n = true := by
  simp only [UnitSt.mayEnable, Bool.and_eq_true] at h
  exact h.1.1.1

/-- A channel that is off takes its configuration and is enabled, where it may be. -/
theorem UnitSt.chcfgWrite_enables {n : Nat} {v : Word} (hoff : x.bit LPE_CHCFG.EN n = false) (hen : bitAt v.toNat 31 = true)
    (hmay : (x.setWord (LPE_CHCFG.EN.addr n) (v &&& 0x3F9C0000)).mayEnable n = true) :
    x.chcfgWrite n v = (x.setWord (LPE_CHCFG.EN.addr n) (v &&& 0x3F9C0000)).set LPE_CHCFG.EN 1 n := by
  have hconf := UnitSt.mayConfigure_of_mayEnable hmay
  exact (if_neg (ne_true_of_eq_false hoff)).trans
    ((if_neg (bnot_ne_true hconf)).trans ((if_neg (bnot_ne_true hen)).trans (if_pos hmay)))

/-- A channel that is on is disabled by a write that leaves its configuration. -/
theorem UnitSt.chcfgWrite_disables {n : Nat} {v : Word} (hon : x.bit LPE_CHCFG.EN n = true) (hen : bitAt v.toNat 31 = false)
    (hsame : v &&& 0x3F9C0000 = (x.word (LPE_CHCFG.EN.addr n) &&& 0x3F9C0000)) :
    x.chcfgWrite n v = (x.set LPE_CHCFG.EN 0 n).onChan n (fun k => { k with cleared := true }) := by
  simp only [UnitSt.chcfgWrite, hon, hen, hsame, if_true, Bool.false_eq_true, if_false]

/-! Reel and Headbox. -/

/-- A record that fits between the write pointer and the end of the ring, and in its free space, goes out. -/
theorem UnitSt.ringWrite_fits {r : ReelRec} {rest : List ReelRec} (hs : x.reel.staging = r :: rest)
    (hend : x.ringSize - x.fld REEL_WPTR.WPTR ≥ r.size) (hfree : x.ringFill + 0 + r.size + 8 ≤ x.ringSize) :
    x.ringWrite =
      let y := x.ringPut (recBytes r.rtype r.flags (r.size / 8) (x.fld REEL_SEQ.SEQ) r.pn r.sub r.body)
      let y := if r.last then y.writeBack else y
      let y := ({ y.set REEL_STAT.STALL 0 with reel := { y.reel with staging := rest } } : UnitSt).showStage
      if y.fld REEL_FILL.HTH * x.ringSize ≤ y.ringFill * 256 then y.evt REEL_EVT.FILL else y := by
  unfold UnitSt.ringWrite
  dsimp only
  rw [hs]
  dsimp only
  rw [if_neg (not_lt.mpr hend)]
  exact if_neg (not_lt.mpr hfree)

/-- The one delayed transaction that is due goes to its queue, where there is room. -/
theorem UnitSt.hbxRelease_one {d : Txn} (hd : x.hbx.delay = [d]) (hdue : dueIn (x.now / 65536000) d.desc.at_ = 0)
    (hroom : x.queueDepth d.desc < 256) :
    x.hbxRelease = (({ x with hbx := { x.hbx with delay := [] } } : UnitSt).enqueue d).hbxShow (d.id / 8192) d.desc := by
  have due : dueIn (x.now / us) d.desc.at_ = 0 := hdue
  have first : [d].takeWhile (fun v => v.id != d.id) = [] := by simp
  have taken : [d].filter (fun v => v.id != d.id) = [] := by simp
  simp only [UnitSt.hbxRelease, hd, List.foldl_cons, List.foldl_nil, due, hroom, first, taken, List.any_nil,
    Bool.not_false, and_self, if_true]

/-! Resets, locks and watchdogs. -/

/-- A partner that may be reset is reset (R589). -/
theorem execPartnerResetRx_resets (hi : (s.unit u).islandOn .spl = true)
    (hr : ((s.unit u).bit GEN_CFG.PFEN && !(s.unit u).isHolder) = true) :
    execPartnerResetRx u s = unitStep s u (fun x => x.resetTo 4) :=
  (if_neg (bnot_ne_true hi)).trans (if_pos hr)

/-- The key of a watchdog ends its expiry and restarts its time (R539). -/
theorem UnitSt.wdogWrite_key {n : Nat} {v : Word} {t : Instant} (hkey : v.toNat % 65536 = 0xA1E) :
    n ∉ (x.wdogWrite n v t).flt.expired ∧ sget (fun _ => 0) (x.wdogWrite n v t).flt.kickAt n = t := by
  unfold UnitSt.wdogWrite
  dsimp only
  rw [hkey]
  exact ⟨by simp, sget_sset⟩

/-- The key of a partner reset asks the partner, where the unit holds the lease and Splice is up (R589). -/
theorem UnitSt.prstWrite_asks {v : Word} (hkey : v.toNat % 65536 = 0xB008) (hh : x.isHolder = true) (hup : x.splUp = true) :
    x.prstWrite v = (x.set GEN_PRST.RES 1).emit (.splice .partnerReset) :=
  (if_neg (not_not_intro hkey)).trans (if_pos (by simp [hh, hup]))

/-- A partner reset asked for shows RES 1, and its message leaves over Splice. -/
theorem UnitSt.prst_asked : ((x.set GEN_PRST.RES 1).emit (.splice .partnerReset)).fld GEN_PRST.RES = 1 ∧
    ((x.set GEN_PRST.RES 1).emit (.splice .partnerReset)).out = .splice .partnerReset :: x.out :=
  ⟨(UnitSt.fld_congr (y := x.set GEN_PRST.RES 1) rfl rfl).trans (UnitSt.fld_set _ _ _ (by decide)), rfl⟩

/-- A boot confirmed shows no trial (R566). -/
theorem UnitSt.confirmed_shows : ((x.set GEN_BOOT.TRIAL 0).set GEN_STAT.CONFIRMED 1).fld GEN_BOOT.TRIAL = 0 ∧
    ((x.set GEN_BOOT.TRIAL 0).set GEN_STAT.CONFIRMED 1).fld GEN_STAT.CONFIRMED = 1 :=
  ⟨(UnitSt.fld_set_ne _ _ _ _ _ (by decide)).trans (UnitSt.fld_set _ _ _ (by decide)), UnitSt.fld_set _ _ _ (by decide)⟩

/-- A block reset at the address of a unit's CTRL register is a write that its guard lets through. -/
theorem execBlockReset_unit {q : Requester} {a : BitVec 32} {en : Bool} {t : Instant} (ha : a.toNat % 0x1000 = 0x00C) :
    execBlockReset (.unit u q) a en t s = unitStep s u (fun x => x.guard q true a.toNat
      (fun x => (x.writeWord a.toNat (BitVec.ofNat 32 (2 + b2n en))).blockReset (a.toNat - 0x00C) t)) :=
  if_neg (not_not_intro ha)

/-- A block reset at the address of a cell's CTRL register is a register write of the cell. -/
theorem execBlockReset_cell {r : CellReq} {a : BitVec 32} {en : Bool} {t : Instant} (ha : a.toNat % 0x1000 = 0x00C) :
    execBlockReset (.cell c r) a en t s =
      cellStep s c (fun x => (x.regWrite r a.toNat (BitVec.ofNat 32 (2 + b2n en)) 0xFFFFFFFF t).2) :=
  if_neg (not_not_intro ha)

/-- A write of a unit's LOCK register goes through its guard (R602). -/
theorem execLockWrite_unit {q : Requester} {a : BitVec 32} {v : Word} {t : Instant} (ha : a.toNat % 0x1000 = 0x024) :
    execLockWrite (.unit u q) a v t s = unitStep s u (fun x => x.guard q true a.toNat (fun x => x.writeWord a.toNat v)) :=
  if_neg (not_not_intro ha)

/-- A write of a cell's LOCK register is a register write of the cell (R602). -/
theorem execLockWrite_cell {r : CellReq} {a : BitVec 32} {v : Word} {t : Instant} (ha : a.toNat % 0x1000 = 0x024) :
    execLockWrite (.cell c r) a v t s = cellStep s c (fun x => (x.regWrite r a.toNat v 0xFFFFFFFF t).2) :=
  if_neg (not_not_intro ha)

end

/-- Settles O59: each command's step is told by the unit, or the cell, as it stands. -/
theorem unitCommandsComplete : Obligations.UnitCommandsComplete := by
  refine ⟨?periodBoundary, ?computeStart, ?pchgEffect, ?substepIntegrate, ?chkFail, ?wearRetirePend, ?wearRetire, ?calenderRun,
    ?stageDeadlineMiss, ?calFxWrite, ?holderLostClaim, ?quietLeaseEval, ?fenceRx, ?leaseMsgSend, ?leaseMsgRx, ?spliceDown,
    ?prefetchFreeze, ?frameBuild, ?cmdFrameLaunch, ?statusFrameLaunch, ?statusFrameRx, ?spliceStatusFwdRx, ?relayEnd,
    ?relayFrameRx, ?partnerCmdFrameRx, ?stopReqRx, ?faultLatch, ?fltLatchClear, ?graceExpire, ?wdogKick, ?wdogExpire,
    ?healthRecord, ?healthRecordRx, ?maskWindowEnd, ?partnerResetRx, ?blockResetUnit, ?blockResetCell, ?lockWriteUnit,
    ?lockWriteCell, ?sramEccUnit, ?sramEccCell, ?scrubOverrun, ?rowRetire, ?rowRetireSwitch, ?rowEntryAgeDrop, ?memRetreq,
    ?unitPowerOnReset, ?unitPinReset, ?unitSupplyLoss, ?genRstWrite, ?genPrstWrite, ?bootConfirm, ?bootTrialTimeout, ?configLoad,
    ?lpeEnable, ?lpeDisable, ?lpeSwapReq, ?swapReqRx, ?swapReqRxRefused, ?swapRefusalRx, ?swapEffect, ?lpeMoveReq, ?clpCmdSeed,
    ?clpCmdRetire, ?clpCmdUnretire, ?clpCmdClrchk, ?clpCmdRx, ?clpRecRead, ?reelStart, ?reelHalt, ?reelMark, ?xtrigRx,
    ?reelPeriodClose, ?reelRingWrite, ?spliceLaneRetire, ?spliceLaneMove, ?handoverReq, ?hovreqRx, ?hovackRx, ?handoverDeadline,
    ?handoverGive, ?handoverTake, ?hbxSubmit, ?hbxTimedRelease, ?hbxReplyMissing, ?hbxTimeout, ?hbxCplReadNone, ?hbxCplRead,
    ?hbxFlush, ?mirrorSend, ?mirrorCommitRx, ?resyncReqRx, ?resyncBlockFirst, ?resyncBlockNext, ?resyncApply⟩
  case periodBoundary => exact fun s u h => unitStep_completes (if_neg (bnot_ne_true h))
  case computeStart => exact fun s u pact mis hc hq hb => if_neg (by simp [hc, hq, hb])
  case pchgEffect =>
    intro s u p t hpeer hown hgo hhold hpn
    refine unitStep_shows (UnitSt.pchgEffect_own hpeer hown hgo hhold hpn) (fun z hz => ?_)
    rw [hz]
    exact ⟨UnitSt.pchgEnd_T.trans UnitSt.changeT_T, UnitSt.pchgEnd_shows⟩
  case substepIntegrate =>
    intro s u arm t pn a b hw hs hb
    refine unitStep_shows (w := ((s.unit u).tick t).armStep arm.val) ?_ (fun z hz => ?_)
    · dsimp only
      rw [if_neg (bnot_ne_true hw), hs]
      exact if_pos hb
    · rw [hz, UnitSt.armStep_front hs]
  case chkFail =>
    intro s u c h
    refine unitStep_shows (if_neg (ne_true_of_eq_false h)) (fun z hz => ?_)
    rw [hz, UnitSt.clpRec_err, UnitSt.clpRec_onRec]
    exact ⟨rfl, UnitSt.fld_err (by decide) (by decide)⟩
  case wearRetirePend =>
    intro s u c arm harm hw hdue hneed
    refine unitStep_shows (w := ((s.unit u).wearRetire arm c.key).showClp) ?_ (fun z hz => ?_)
    · simp only [harm, hw, if_true]
    · rw [hz, UnitSt.wearRetire_pending hdue hneed, UnitSt.clpRec_showClp_err_onRec, UnitSt.fld_showClp (by decide)]
      exact ⟨rfl, UnitSt.fld_err (by decide) (by decide)⟩
  case wearRetire =>
    intro s u c arm harm hw hdue hspare
    refine unitStep_shows (w := ((s.unit u).wearRetire arm c.key).showClp) ?_ (fun z hz => ?_)
    · simp only [harm, hw, if_true]
    · rw [hz, UnitSt.wearRetire_retires hdue hspare, UnitSt.clpRec_showClp_err_onRec, UnitSt.fld_showClp (by decide)]
      exact ⟨rfl, rfl, UnitSt.fld_err (by decide) (by decide)⟩
  case calenderRun => exact fun s u h => unitStep_completes (if_neg (ne_true_of_eq_false h))
  case stageDeadlineMiss =>
    intro s u cal h
    refine unitStep_shows (if_neg (bnot_ne_true h)) (fun z hz => ?_)
    rw [hz]
    exact ⟨rfl, UnitSt.late_shows cal⟩
  case calFxWrite =>
    intro s u q v h hc
    exact unitStep_shows ((UnitSt.guard_allowed h).trans (if_pos hc)) (fun z hz => by rw [hz])
  case holderLostClaim =>
    intro s u cause hl h0
    refine unitStep_shows (UnitSt.claimLost_standby hl h0) (fun z hz => ?_)
    rw [hz]
    exact UnitSt.claim_showRelay h0
  case quietLeaseEval => exact fun s u pact h => unitStep_completes (if_pos h)
  case fenceRx => exact fun s u h => unitStep_shows (if_neg (ne_true_of_eq_false h)) (fun z hz => by rw [hz])
  case leaseMsgSend =>
    intro s u hq ha
    refine ⟨_, rfl, ?_⟩
    simp only [State.onUnit_unit, hq, ha, Bool.false_eq_true, if_false]
    exact ⟨_, rfl, rfl, rfl, rfl⟩
  case leaseMsgRx =>
    intro s u m h
    exact unitStep_completes ((if_neg (ne_true_of_eq_false h)).trans
      (if_congr (and_congr_left' (Bool.not_eq_true' _).to_iff) rfl rfl))
  case spliceDown => exact fun s u h => unitStep_completes ((if_pos h).trans (UnitSt.splDown_up h.1))
  case prefetchFreeze => exact fun s u h => unitStep_completes (if_pos h)
  case frameBuild => exact fun s u h => unitStep_completes (if_pos h)
  case cmdFrameLaunch =>
    exact fun s u l h hb hc => unitStep_completes ((if_neg h).trans ((if_neg (ne_true_of_eq_false hb)).trans
      (if_neg (ne_true_of_eq_false hc))))
  case statusFrameLaunch => exact fun s u l h => unitStep_completes (if_pos h)
  case statusFrameRx => exact fun s u p rx t cut h h3 => unitStep_completes ((if_neg h).trans (if_neg (not_not_intro h3)))
  case spliceStatusFwdRx =>
    intro s u strand hop slot p hq hport hlow hpass hnew
    refine unitStep_shows (w := (s.unit u).takeSlot (strand.val * 64 + hop.val) (s.unit u).pn true slot) ?_ (fun z hz => ?_)
    · simp only [hq, hport, beq_false_of_ne hlow, hpass, hnew, Bool.false_eq_true, if_false, if_true]
    · rw [hz]
      exact UnitSt.takeSlot_view
  case relayEnd =>
    intro s u strand p hport h
    refine ⟨_, rfl, ?_⟩
    simp only [State.onUnit_unit, hport]
    rw [if_pos h, UnitSt.showRelay_parts.1]
    rfl
  case relayFrameRx =>
    intro s u bytes t h
    refine unitStep_shows (if_neg h) (fun z hz => ?_)
    rw [hz]
    exact UnitSt.relayRx_relNow
  case partnerCmdFrameRx => exact fun s u p rx t h => unitStep_completes (if_neg h)
  case stopReqRx => exact fun s u t h => unitStep_completes (if_neg (ne_true_of_eq_false h))
  case faultLatch => exact fun s u t cyc h => unitStep_completes (if_neg h)
  case fltLatchClear => exact fun s u q v h => unitStep_completes (UnitSt.guard_allowed h)
  case graceExpire => exact fun s u t h => unitStep_completes (if_neg h)
  case wdogKick =>
    intro s u q n v t h hkey
    refine unitStep_shows (UnitSt.guard_allowed h) (fun z hz => ?_)
    rw [hz]
    exact UnitSt.wdogWrite_key hkey
  case wdogExpire => exact fun s u n t h => unitStep_shows (if_pos h) (fun z hz => by rw [hz])
  case healthRecord =>
    exact fun s u t tj eyes spleye h => unitStep_shows (if_neg h) (fun z hz => by rw [hz])
  case healthRecordRx =>
    exact fun s u record h => unitStep_shows (if_neg (bnot_ne_true h)) (fun z hz => by rw [hz])
  case maskWindowEnd => exact fun s u t cyc => unitStep_completes rfl
  case partnerResetRx =>
    intro s u hi hr
    rw [exec_partnerResetRx, execPartnerResetRx_resets hi hr]
    exact unitStep_completes rfl
  case blockResetUnit =>
    intro s u q a en t ha h
    rw [exec_blockReset, execBlockReset_unit ha]
    exact unitStep_completes (UnitSt.guard_allowed h)
  case blockResetCell =>
    intro s c r a en t ha
    rw [exec_blockReset, execBlockReset_cell ha]
    exact cellStep_completes rfl
  case lockWriteUnit =>
    intro s u q a v t ha h
    rw [exec_lockWrite, execLockWrite_unit ha]
    exact unitStep_completes (UnitSt.guard_allowed h)
  case lockWriteCell =>
    intro s c r a v t ha
    rw [exec_lockWrite, execLockWrite_cell ha]
    exact cellStep_completes rfl
  case sramEccUnit =>
    intro s u addr d t hw
    refine unitStep_shows (if_neg (bnot_ne_true hw)) (fun z hz => ?_)
    rw [hz]
    cases d
    · exact ⟨UnitSt.fld_flt_rowError.trans UnitSt.eccCorrected_shows.1, UnitSt.fld_flt_rowError.trans UnitSt.eccCorrected_shows.2⟩
    · exact UnitSt.eccUncorrected_shows
  case sramEccCell =>
    intro s c addr d t hp
    refine cellStep_shows (if_neg hp) (fun z hz => ?_)
    rw [hz]
    exact CellSt.ecc_shows d
  case scrubOverrun =>
    intro s u h
    refine unitStep_shows (if_pos h) (fun z hz => ?_)
    rw [hz]
    exact UnitSt.fld_err (by decide) (by decide)
  case rowRetire => exact fun s u row h => unitStep_completes (if_pos h)
  case rowRetireSwitch =>
    intro s u row t r req hf h
    exact unitStep_completes (by dsimp only; rw [hf]; exact if_neg (ne_true_of_eq_false h))
  case rowEntryAgeDrop => exact fun s u row t h => unitStep_shows (if_pos h) (fun z hz => by rw [hz])
  case memRetreq => exact fun s u q v h => unitStep_completes (UnitSt.guard_allowed h)
  case unitPowerOnReset => exact fun s u => unitStep_completes rfl
  case unitPinReset => exact fun s r h => unitStep_completes (if_neg h)
  case unitSupplyLoss =>
    intro s u
    refine unitStep_shows rfl (fun z hz => ?_)
    rw [hz]
    exact ⟨rfl, rfl, rfl⟩
  case genRstWrite => exact fun s u q v h => unitStep_completes (UnitSt.guard_allowed h)
  case genPrstWrite =>
    intro s u q v h hkey hh hup
    refine unitStep_shows ((UnitSt.guard_allowed h).trans (UnitSt.prstWrite_asks hkey hh hup)) (fun z hz => ?_)
    rw [hz]
    exact UnitSt.prst_asked
  case bootConfirm =>
    intro s u q h
    refine unitStep_shows ((UnitSt.guard_allowed h).trans (UnitSt.bootWrite_confirm _)) (fun z hz => ?_)
    rw [hz]
    exact UnitSt.confirmed_shows
  case bootTrialTimeout => exact fun s u h => unitStep_completes (if_pos h)
  case configLoad => exact fun s u bs sect t h => unitStep_completes (if_pos h)
  case lpeEnable =>
    exact fun s u q c v h hoff hen hmay =>
      unitStep_completes ((UnitSt.guard_allowed h).trans (UnitSt.chcfgWrite_enables hoff hen hmay))
  case lpeDisable =>
    exact fun s u q c v h hon hen hsame =>
      unitStep_completes ((UnitSt.guard_allowed h).trans (UnitSt.chcfgWrite_disables hon hen hsame))
  case lpeSwapReq =>
    exact fun s u q v pn h hpn hc hup =>
      unitStep_completes ((UnitSt.guard_allowed h).trans (UnitSt.swapWrite_accepted hpn hc hup))
  case swapReqRx =>
    exact fun s u ch bank n pn hw hc => unitStep_completes ((if_neg (bnot_ne_true hw)).trans (if_pos hc))
  case swapReqRxRefused =>
    exact fun s u ch bank n pn hw hc => unitStep_completes ((if_neg (bnot_ne_true hw)).trans (if_neg hc))
  case swapRefusalRx => exact fun s u ch res h => unitStep_completes (if_pos h)
  case swapEffect =>
    intro s u r hw hq hr hon
    refine unitStep_completes ((if_neg (bnot_ne_true hw)).trans ?_)
    have due : [r].filter (fun q => decide (q.pn ≤ (s.unit u).pn)) = [r] := by simp [hr]
    have rest : [r].filter (fun q => decide ((s.unit u).pn < q.pn)) = [] := by simp [hr]
    dsimp only
    rw [hq, due, rest]
    exact if_pos hon
  case lpeMoveReq => exact fun s u q v h hm => unitStep_completes ((UnitSt.guard_allowed h).trans (if_pos hm))
  case clpCmdSeed | clpCmdRetire | clpCmdUnretire | clpCmdClrchk =>
    intro s u q st h hal hst hh hc
    subst hst hh
    exact unitStep_completes ((UnitSt.guard_allowed hal).trans (UnitSt.clpCmd_cell (by decide) (by decide) hc))
  case clpCmdRx =>
    exact fun s u op c cp esr pn hq hw => unitStep_completes ((if_neg (ne_true_of_eq_false hq)).trans (if_neg (bnot_ne_true hw)))
  case clpRecRead => exact fun s u q h => unitStep_completes (UnitSt.guardRead_allowed h)
  case reelStart =>
    exact fun s u q h hc h0 hs ho => unitStep_completes ((UnitSt.guard_allowed h).trans ((if_neg hc).trans
      ((if_neg h0).trans ((if_neg hs).trans (if_neg (ne_true_of_eq_false ho))))))
  case reelHalt => exact fun s u q h hc => unitStep_completes ((UnitSt.guard_allowed h).trans (if_pos hc))
  case reelMark => exact fun s u q t h hc => unitStep_completes ((UnitSt.guard_allowed h).trans (if_pos hc))
  case xtrigRx => exact fun s u num qual frac fall time h => unitStep_completes (if_neg (ne_true_of_eq_false h))
  case reelPeriodClose =>
    intro s u p h hs hc
    refine unitStep_completes ((if_neg (ne_true_of_eq_false h)).trans ?_)
    simp only [hs, hc, if_true]
  case reelRingWrite =>
    exact fun s u r rest h hs hend hfree => unitStep_completes ((if_pos h).trans (UnitSt.ringWrite_fits hs hend hfree))
  case spliceLaneRetire =>
    intro s u n lost errs hq hbad hret
    refine unitStep_completes ((if_neg (ne_true_of_eq_false hq)).trans ?_)
    cases lost
    · exact (if_pos (of_decide_eq_true hbad)).trans (if_neg (ne_true_of_eq_false hret))
    · exact if_neg (ne_true_of_eq_false hret)
  case spliceLaneMove => exact fun s u h => unitStep_completes (if_neg h)
  case handoverReq =>
    intro s u q v p h hv hp hh hr hpn
    subst hp
    refine unitStep_completes ((UnitSt.guard_allowed h).trans ((if_neg (bnot_ne_true hv)).trans ?_))
    rw [UnitSt.hovRequest_sent hh hr hpn]
  case hovreqRx => exact fun s u p hr hq => unitStep_completes (if_pos ⟨hr, by simp [hq]⟩)
  case hovackRx =>
    exact fun s u p hm hp ha hh ht => unitStep_completes (if_pos ⟨hm, hp, by simp [ha], hh, ht⟩)
  case handoverDeadline =>
    intro s u p hp h he
    exact unitStep_completes (by simp only [hp, h, he, and_self, if_true])
  case handoverGive =>
    intro s u p hp ha hpn hm hh
    have given : execHandoverSwitch u s = unitStep s u UnitSt.hovGive :=
      unitStep_eq (by simp only [hp, ha, hpn, hm, hh, Bool.not_true, Bool.false_eq_true, ne_eq, not_true, or_self, if_true,
        if_false])
    rw [exec_handoverSwitch, given]
    exact unitStep_completes rfl
  case handoverTake =>
    intro s u p hp ha hpn hm h0
    have taken : execHandoverSwitch u s = unitStep s u UnitSt.hovTake :=
      unitStep_eq (by simp only [hp, ha, hpn, hm, h0, Bool.not_true, Bool.false_eq_true, ne_eq, not_true, or_self, if_true,
        if_false])
    rw [exec_handoverSwitch, taken]
    exact unitStep_completes rfl
  case hbxSubmit => exact fun s u q port v h => unitStep_completes (UnitSt.guard_allowed h)
  case hbxTimedRelease =>
    intro s u t d hf hd hdue hroom hw
    refine unitStep_completes ?_
    simp only [hf, hw, Bool.false_eq_true, if_true, if_false]
    exact UnitSt.hbxRelease_one hd hdue hroom
  case hbxReplyMissing => exact fun s u h => unitStep_completes (if_pos h)
  case hbxTimeout => exact fun s u hm h => unitStep_completes ((if_pos h).trans (if_neg hm))
  case hbxCplReadNone =>
    exact fun s u q port h he => unitStep_completes ((UnitSt.guardRead_allowed h).trans (by simp only [UnitSt.cplRead, he]))
  case hbxCplRead =>
    exact fun s u q port c l h he => unitStep_completes ((UnitSt.guardRead_allowed h).trans (by simp only [UnitSt.cplRead, he]))
  case hbxFlush => exact fun s u q v h => unitStep_completes (UnitSt.guard_allowed h)
  case mirrorSend =>
    intro s u hm hrs
    refine (if_pos hm).trans ?_
    rw [UnitSt.mirrorSend_record hm hrs]
    rfl
  case mirrorCommitRx => exact fun s u record seq pn crc h => unitStep_completes (if_neg (ne_true_of_eq_false h))
  case resyncReqRx => exact fun s u arm h => unitStep_completes (if_neg (ne_true_of_eq_false h))
  case resyncBlockFirst => exact fun s u arm m data h => unitStep_completes ((if_neg (ne_true_of_eq_false h)).trans (if_pos rfl))
  case resyncBlockNext =>
    exact fun s u arm m blk data h hb => unitStep_completes ((if_neg (ne_true_of_eq_false h)).trans (if_neg hb))
  case resyncApply =>
    intro s u arm rx hf h
    exact unitStep_completes (by dsimp only; rw [hf]; exact if_neg h)

end Sys2Proof.Machine
end

section
/-! PROOFS. The bytes of a frame: what stands where in bytes laid one after another, and the check codes. The frames a unit or
a cell builds pass every check and read back (O57, O58). -/
namespace Sys2Proof.Machine

/-! Reading bytes. -/

section

variable {as bs : Bytes} {b : Byte} {i j m n v : Nat}

@[simp] theorem byteAt_cons_zero : byteAt (b :: bs) 0 = b.toNat := rfl

@[simp] theorem byteAt_cons_succ : byteAt (b :: bs) (i + 1) = byteAt bs i := rfl

theorem byteAt_append_left (h : i < as.length) : byteAt (as ++ bs) i = byteAt as i := by
  simp [byteAt, List.getElem?_append_left h]

theorem byteAt_append_right (h : as.length ≤ i) : byteAt (as ++ bs) i = byteAt bs (i - as.length) := by
  simp [byteAt, List.getElem?_append_right h]

theorem byteAt_slice (h : j < n) : byteAt (slice bs i n) j = byteAt bs (i + j) := by
  simp [byteAt, slice, h]

theorem leAt_succ : leAt bs i (n + 1) = leAt bs i n + byteAt bs (i + n) * 2 ^ (8 * n) := by
  simp [leAt, List.range_succ]

/-- A number is read from its bytes alone. -/
theorem leAt_congr (h : ∀ k < n, byteAt as (i + k) = byteAt bs (j + k)) : leAt as i n = leAt bs j n := by
  induction n with
  | zero => rfl
  | succ n ih => rw [leAt_succ, leAt_succ, ih (fun k hk => h k (by omega)), h n (by omega)]

@[simp] theorem leAt_cons_succ : leAt (b :: bs) (i + 1) n = leAt bs i n :=
  leAt_congr (fun k _ => by rw [Nat.add_right_comm, byteAt_cons_succ])

theorem leAt_append_left (h : i + n ≤ as.length) : leAt (as ++ bs) i n = leAt as i n :=
  leAt_congr (fun _ _ => byteAt_append_left (by omega))

theorem leAt_append_right (h : as.length ≤ i) : leAt (as ++ bs) i n = leAt bs (i - as.length) n :=
  leAt_congr (fun k _ => by rw [byteAt_append_right (by omega), Nat.sub_add_comm h])

theorem leAt_slice (h : j + n ≤ m) : leAt (slice bs i m) j n = leAt bs (i + j) n :=
  leAt_congr (fun k _ => by rw [byteAt_slice (by omega), Nat.add_assoc])

/-! Slices. -/

theorem slice_slice (h : j + n ≤ m) : slice (slice bs i m) j n = slice bs (i + j) n := by
  simp [slice, List.drop_take, List.take_take, List.drop_drop, Nat.min_eq_left (by omega : n ≤ m - j)]

theorem slice_append_left (h : i + n ≤ as.length) : slice (as ++ bs) i n = slice as i n := by
  simp [slice, List.drop_append_of_le_length (by omega : i ≤ as.length),
    List.take_append_of_le_length (by simp; omega : n ≤ (as.drop i).length)]

/-- A part that follows another at the front of a frame is read back from where the other ends. -/
theorem slice_of_prefix {f : Bytes} (hp : as ++ bs <+: f) (hi : as.length = i) (hn : bs.length = n) : slice f i n = bs := by
  obtain ⟨rest, rfl⟩ := hp
  subst hi hn
  simp [slice]

/-! Numbers as bytes (R92). -/

@[simp] theorem length_leBytes : (leBytes n v).length = n := by simp [leBytes]

theorem byteAt_leBytes (h : i < n) : byteAt (leBytes n v) i = v >>> (8 * i) % 256 := by
  simp [byteAt, leBytes, h]

theorem leAt_leBytes_mod : m ≤ n → leAt (leBytes n v) 0 m = v % 2 ^ (8 * m) := by
  induction m with
  | zero => intro _; simp [leAt, Nat.mod_one]
  | succ m ih =>
    intro h
    rw [leAt_succ, ih (by omega), byteAt_leBytes (by omega), Nat.mul_succ, Nat.pow_add, Nat.mod_mul, Nat.shiftRight_eq_div_pow]
    simp [Nat.mul_comm]

/-- A number that fits into its bytes reads back. -/
theorem leAt_leBytes (h : v < 2 ^ (8 * n)) : leAt (leBytes n v) 0 n = v := by
  rw [leAt_leBytes_mod le_rfl, Nat.mod_eq_of_lt h]

/-- A number reads back where its bytes stand. -/
theorem leAt_of_slice (h : slice bs i n = leBytes n v) (hv : v < 2 ^ (8 * n)) : leAt bs i n = v := by
  have read := leAt_slice (bs := bs) (i := i) (j := 0) (n := n) (m := n) (by omega)
  rw [h, leAt_leBytes hv] at read
  exact read.symm

/-! Parts of equal length, one after another. -/

theorem length_flatMap_range {g : Nat → Bytes} {k : Nat} (hg : ∀ h, (g h).length = k) :
    ((List.range n).flatMap g).length = k * n := by
  simp [List.length_flatMap, hg, Nat.mul_comm]

/-- Of parts of one length, part `j` stands at `j` times that length. -/
theorem slice_flatMap_range {g : Nat → Bytes} {k : Nat} (hg : ∀ h, (g h).length = k) (hj : j < n) :
    slice ((List.range n).flatMap g) (k * j) k = g j := by
  induction n with
  | zero => omega
  | succ n ih =>
    rw [List.range_succ, List.flatMap_append]
    obtain hj | rfl := Nat.lt_succ_iff_lt_or_eq.mp hj
    · rw [slice_append_left, ih hj]
      rw [length_flatMap_range hg, ← Nat.mul_succ]
      exact Nat.mul_le_mul_left k hj
    · refine slice_of_prefix (bs := g j) ?_ (length_flatMap_range hg) (hg j)
      rw [List.flatMap_singleton]

end

/-! Check codes (R93). -/

section

variable {w poly init fin c : Nat} {b : Byte} {bs : Bytes}

theorem crcBit_lt (hp : poly < 2 ^ w) : crcBit w poly c < 2 ^ w := by
  have shifted : (c <<< 1) % 2 ^ w < 2 ^ w := Nat.mod_lt _ (Nat.two_pow_pos w)
  unfold crcBit
  split
  · exact Nat.xor_lt_two_pow shifted hp
  · exact shifted

/-- The last of the eight bits of a byte leaves a code of the width. -/
theorem crcByte_lt (hp : poly < 2 ^ w) : crcByte w poly c b < 2 ^ w := by
  rw [crcByte, List.range_succ, List.foldl_append]
  exact crcBit_lt hp

theorem foldl_crcByte_lt (hp : poly < 2 ^ w) (hi : init < 2 ^ w) : bs.foldl (crcByte w poly) init < 2 ^ w := by
  induction bs generalizing init with
  | nil => exact hi
  | cons b bs ih => exact ih (crcByte_lt hp)

theorem crcPlain_lt (hp : poly < 2 ^ w) (hi : init < 2 ^ w) (hf : fin < 2 ^ w) : crcPlain w poly init fin bs < 2 ^ w :=
  Nat.xor_lt_two_pow (foldl_crcByte_lt hp hi) hf

theorem crc8_lt : crc8 bs < 2 ^ 8 := crcPlain_lt (by decide) (by decide) (by decide)

theorem crc16_lt : crc16 bs < 2 ^ 16 := crcPlain_lt (by decide) (by decide) (by decide)

/-- A code of 32 bits stays one under a byte: shifts right and the polynomial do not widen it. -/
theorem crc32Byte_lt (hc : c < 2 ^ 32) : crc32Byte c b < 2 ^ 32 := by
  refine List.foldlRecOn (motive := fun c => c < 2 ^ 32) _ _ (Nat.xor_lt_two_pow hc (by omega)) (fun c hc _ _ => ?_)
  have shifted : c >>> 1 < 2 ^ 32 := by rw [Nat.shiftRight_eq_div_pow]; omega
  split
  · exact Nat.xor_lt_two_pow shifted (by decide)
  · exact shifted

theorem crc32_lt : crc32 bs < 2 ^ 32 :=
  Nat.xor_lt_two_pow
    (List.foldlRecOn (motive := fun c => c < 2 ^ 32) _ _ (by decide) (fun _ hc _ _ => crc32Byte_lt hc)) (by decide)

end

/-! Bytes that end in their check. -/

section

variable {f as bs body : Bytes} {i n pn len : Nat}

/-- A frame passes the CRC-16 that stands behind what it covers. -/
theorem crc16_of_prefix (hp : as ++ body ++ leBytes 2 (crc16 body) <+: f) (hi : as.length = i) (hn : body.length = n) :
    crc16 (slice f i n) = leAt f (i + n) 2 := by
  have covered : slice f i n = body := slice_of_prefix ((List.prefix_append _ _).trans hp) hi hn
  have check : slice f (i + n) 2 = leBytes 2 (crc16 body) :=
    slice_of_prefix hp (by rw [List.length_append, hi, hn]) length_leBytes
  rw [covered, leAt_of_slice check crc16_lt]

@[simp] theorem length_closeFrame : (closeFrame bs).length = bs.length + 6 := by simp [closeFrame, eof]

theorem isPrefix_closeFrame : bs <+: closeFrame bs := by
  rw [closeFrame, List.append_assoc]
  exact List.prefix_append _ _

/-- A closed frame passes its CRC-32. -/
theorem crc32Ok_closeFrame (hl : bs.length + 6 = len) : crc32Ok (closeFrame bs) len = true := by
  subst hl
  have covered : slice (closeFrame bs) 1 (bs.length - 1) = bs.drop 1 := by
    cases bs with
    | nil => rfl
    | cons b bs => simp [closeFrame, slice]
  have check : leAt (closeFrame bs) bs.length 4 = crc32 (bs.drop 1) :=
    leAt_of_slice (slice_of_prefix (List.prefix_append _ _) rfl length_leBytes) crc32_lt
  simp [crc32Ok, covered, check]

/-- A byte holds a CRC-8. -/
theorem crc8_mod : crc8 bs % 256 = crc8 bs := Nat.mod_eq_of_lt crc8_lt

/-- The low byte of PN is all that the check of a slot takes of it. -/
theorem ofNat_low_byte : BitVec.ofNat 8 (pn % 256) = BitVec.ofNat 8 pn := by
  apply BitVec.eq_of_toNat_eq
  simp

end

/-! Command frames (R94 to R96). -/

section

variable {type strand pn lofs n bflags t cfgd h bits : Nat} {src : UnitId} {relay : Bool} {w : Watermark}
  {hdr slots window f : Bytes}

/-- Bit 7 of the byte of a header that names a unit and a flag is the unit's. -/
theorem unitOfBit_unitFlag (u : UnitId) (r : Bool) :
    unitOfBit ((BitVec.ofNat 8 (unitBit u * 128 + (if r then 64 else 0))).toNat / 128) = u := by
  cases u <;> cases r <;> decide

/-- Bit 6 of the byte of a header that names a unit and a flag is the flag. -/
theorem bitAt_unitFlag (u : UnitId) (r : Bool) :
    bitAt (BitVec.ofNat 8 (unitBit u * 128 + (if r then 64 else 0))).toNat 6 = r := by
  cases u <;> cases r <;> decide

@[simp] theorem length_cmdHeader : (cmdHeader type src relay strand pn lofs n bflags t cfgd).length = 22 := by
  simp [cmdHeader]

/-- The fields of a command frame's header read back in the frame it begins. -/
theorem cmdHeader_fields (hp : cmdHeader type src relay strand pn lofs n bflags t cfgd <+: f) (htype : type < 256)
    (hstrand : strand < 128) (hpn : pn < 2 ^ 48) (hlofs : lofs < 2 ^ 24) (hn : n < 256) (hbflags : bflags < 256) (ht : t < 256)
    (hcfgd : cfgd < 2 ^ 32) :
    srcUnit f = src ∧ byteAt f 1 = type ∧ bitAt (byteAt f 2) 6 = relay ∧ byteAt f 3 = strand ∧ framePn f = pn ∧
      leAt f 10 3 = lofs ∧ byteAt f 13 = n ∧ byteAt f 14 = bflags ∧ byteAt f 15 = t ∧ leAt f 16 4 = cfgd := by
  obtain ⟨rest, rfl⟩ := hp
  refine ⟨?src, ?type, ?relay, ?strand, ?pn, ?lofs, ?ncell, ?bflags, ?t, ?cfgd⟩
  case src => exact unitOfBit_unitFlag src relay
  case type => exact Nat.mod_eq_of_lt htype
  case relay => exact bitAt_unitFlag src relay
  case strand => exact Nat.mod_eq_of_lt (by omega)
  case pn => simp [cmdHeader, framePn, leAt_append_left, leAt_leBytes (n := 6) hpn]
  case lofs => simp [cmdHeader, leAt_append_right, leAt_append_left, leAt_leBytes (n := 3) hlofs]
  case ncell => simp [cmdHeader, byteAt_append_right, Nat.mod_eq_of_lt hn]
  case bflags => simp [cmdHeader, byteAt_append_right, Nat.mod_eq_of_lt hbflags]
  case t => simp [cmdHeader, byteAt_append_right, Nat.mod_eq_of_lt ht]
  case cfgd => simp [cmdHeader, leAt_append_right, leAt_append_left, leAt_leBytes (n := 4) hcfgd]

/-- The check of a slot in a command frame takes the low byte of PN. -/
theorem byteAt_four_of_cmdHeader (hp : cmdHeader type src relay strand pn lofs n bflags t cfgd <+: f) :
    byteAt f 4 = pn % 256 := by
  obtain ⟨rest, rfl⟩ := hp
  rfl

/-- A frame that begins with a command header passes its HCRC. -/
theorem hcrcOk_of_cmdHeader (hp : cmdHeader type src relay strand pn lofs n bflags t cfgd <+: f) : hcrcOk f = true := by
  have length : 22 ≤ f.length := length_cmdHeader ▸ hp.length_le
  have check : crc16 (slice f 1 19) = leAt f 20 2 := crc16_of_prefix (as := [sof]) hp rfl (by simp)
  simp [hcrcOk, length, check]

/-- A frame begins with its header, the Watermark, the slots and the window. -/
theorem isPrefix_cmdFrame_window : hdr ++ wmBytes w ++ slots ++ window <+: cmdFrame hdr w slots window := isPrefix_closeFrame

theorem isPrefix_cmdFrame_slots : hdr ++ wmBytes w ++ slots <+: cmdFrame hdr w slots window :=
  (List.prefix_append _ _).trans isPrefix_cmdFrame_window

theorem isPrefix_cmdFrame_wm : hdr ++ wmBytes w <+: cmdFrame hdr w slots window :=
  (List.prefix_append _ _).trans isPrefix_cmdFrame_slots

theorem isPrefix_cmdFrame_hdr : hdr <+: cmdFrame hdr w slots window :=
  (List.prefix_append _ _).trans isPrefix_cmdFrame_wm

@[simp] theorem length_wmBytes : (wmBytes w).length = 20 := by simp [wmBytes]

/-! Where the parts of a command frame stand. -/

section

variable (hh : hdr.length = 22) (hs : slots.length = 6 * n) (hw : window.length = 128)

include hh

theorem slice_cmdFrame_wm : slice (cmdFrame hdr w slots window) 22 20 = wmBytes w :=
  slice_of_prefix isPrefix_cmdFrame_wm hh length_wmBytes

include hs

theorem slice_cmdFrame_slots : slice (cmdFrame hdr w slots window) 42 (6 * n) = slots :=
  slice_of_prefix isPrefix_cmdFrame_slots (by simp [hh]) hs

include hw

theorem slice_cmdFrame_window : slice (cmdFrame hdr w slots window) (42 + 6 * n) 128 = window :=
  slice_of_prefix isPrefix_cmdFrame_window (by simp [hh, hs, ← Nat.add_assoc]) hw

/-- The parts and what closes a command frame fill its length. -/
theorem length_cmdFrame_parts : (hdr ++ wmBytes w ++ slots ++ window).length + 6 = cmdLen n := by
  simp only [List.length_append, hh, length_wmBytes, hs, hw, cmdLen]
  omega

end

/-- A frame whose Watermark follows a header of full length passes its WCRC. -/
theorem wcrcOk_of_prefix (hp : hdr ++ wmBytes w <+: f) (hh : hdr.length = 22) : wcrcOk f = true := by
  have length : 42 ≤ f.length := by simpa [hh] using hp.length_le
  rw [wmBytes, ← List.append_assoc] at hp
  have check : crc16 (slice f 22 18) = leAt f 40 2 := crc16_of_prefix hp hh (by simp)
  simp [wcrcOk, length, check]

/-- The holder and ABD share the first byte of the Watermark. -/
theorem wmBytes_flags (u : UnitId) (abd : Bool) :
    unitOfBit (BitVec.ofNat 8 (unitBit u + (if abd then 2 else 0))).toNat = u ∧
      bitAt (BitVec.ofNat 8 (unitBit u + (if abd then 2 else 0))).toNat 1 = abd := by
  cases u <;> cases abd <;> decide

/-- A Watermark that fits into its bytes reads back from where they stand. -/
theorem wmOf_of_slice (hs : slice f 22 20 = wmBytes w) (hllen : w.llen < 16) (hepoch : w.epoch < 2 ^ 32)
    (habdpn : w.abdpn < 2 ^ 48) : wmOf f = w := by
  have byteOf {j : Nat} (h : j < 20) : byteAt f (22 + j) = byteAt (wmBytes w) j := by rw [← hs, byteAt_slice h]
  have numOf {j m : Nat} (h : j + m ≤ 20) : leAt f (22 + j) m = leAt (wmBytes w) j m := by rw [← hs, leAt_slice h]
  have llen : byteAt (wmBytes w) 1 % 16 = w.llen := by
    have byte : byteAt (wmBytes w) 1 = w.llen % 16 % 256 := rfl
    omega
  have epoch : leAt (wmBytes w) 2 4 = w.epoch := by simp [wmBytes, leAt_append_left, leAt_leBytes (n := 4) hepoch]
  have abdpn : leAt (wmBytes w) 6 6 = w.abdpn := by
    simp [wmBytes, leAt_append_left, leAt_append_right, leAt_leBytes (n := 6) habdpn]
  obtain ⟨holder, abd⟩ := wmBytes_flags w.holder w.abd
  have first : byteAt f 22 = byteAt (wmBytes w) 0 := byteOf (j := 0) (by decide)
  rw [wmOf, first, byteOf (j := 1) (by decide), numOf (j := 2) (m := 4) (by decide), numOf (j := 6) (m := 6) (by decide), llen,
    epoch, abdpn]
  exact congrArg₂ (fun u b => { w with holder := u, abd := b }) holder abd

@[simp] theorem length_cmdSlotBytes : (cmdSlotBytes h pn bits).length = 6 := by simp [cmdSlotBytes]

/-- A slot that stands where its hop's does passes its CRC-8. -/
theorem cmdSlotOk_of_slice (hs : slice f (42 + 6 * h) 6 = cmdSlotBytes h pn bits) (hp : byteAt f 4 = pn % 256) :
    cmdSlotOk f h = true := by
  simp [cmdSlotOk, hs, hp, cmdSlotBytes, ofNat_low_byte, crc8_mod, byteAt_append_right]

/-- The bits of a slot read back from where it stands. -/
theorem leAt_of_cmdSlot (hs : slice f i 6 = cmdSlotBytes h pn bits) (hb : bits < 2 ^ 40) : leAt f i 5 = bits := by
  have read := leAt_slice (bs := f) (i := i) (j := 0) (n := 5) (m := 6) (by decide)
  rw [hs, cmdSlotBytes, leAt_append_left (by simp), leAt_leBytes hb] at read
  exact read.symm

/-- A window of full length needs no padding. -/
theorem padWindow_full (hw : window.length = 128) : padWindow window = window := by
  simp [padWindow, hw, List.take_of_length_le]

end

/-- Settles O57: each part of a frame is read where it stands, and the checks stand behind what they cover. -/
theorem framesReadBack : Obligations.FramesReadBack := by
  intro type strand pn lofs n bflags t cfgd src relay w slot window htype hstrand hpn hlofs hn hbflags ht hcfgd hllen hepoch
    habdpn hslot hwindow f
  have hdr : cmdHeader type src relay strand pn lofs n bflags t cfgd <+: f := isPrefix_cmdFrame_hdr
  have hh : (cmdHeader type src relay strand pn lofs n bflags t cfgd).length = 22 := length_cmdHeader
  have hslots : ((List.range n).flatMap (fun h => cmdSlotBytes h pn (slot h))).length = 6 * n :=
    length_flatMap_range (fun _ => length_cmdSlotBytes)
  have full : padWindow window = window := padWindow_full hwindow
  have hpad : (padWindow window).length = 128 := full.symm ▸ hwindow
  have filled := length_cmdFrame_parts (w := w) hh hslots hpad
  have wm : slice f 22 20 = wmBytes w := slice_cmdFrame_wm hh
  have slotAt {h : Nat} (hn : h < n) : slice f (42 + 6 * h) 6 = cmdSlotBytes h pn (slot h) := by
    rw [← slice_slice (m := 6 * n) (by omega), slice_cmdFrame_slots hh hslots,
      slice_flatMap_range (fun _ => length_cmdSlotBytes) hn]
  obtain ⟨fsrc, ftype, frelay, fstrand, fpn, flofs, fncell, fbflags, ft, fcfgd⟩ :=
    cmdHeader_fields hdr htype hstrand hpn hlofs (by omega) hbflags ht hcfgd
  exact ⟨length_closeFrame.trans filled, hcrcOk_of_cmdHeader hdr, wcrcOk_of_prefix isPrefix_cmdFrame_wm hh,
    crc32Ok_closeFrame filled, wmOf_of_slice wm hllen hepoch habdpn, fsrc, ftype, frelay, fstrand, fpn, flofs, fncell, fbflags,
    ft, fcfgd,
    fun h hn => ⟨cmdSlotOk_of_slice (slotAt hn) (byteAt_four_of_cmdHeader hdr), leAt_of_cmdSlot (slotAt hn) (hslot h)⟩,
    (slice_cmdFrame_window hh hslots hpad).trans full⟩

/-! Status frames (R107 to R109, R115). -/

section

variable {strand pn n orig cfgd h bits : Nat} {toward : UnitId} {tail : Bool} {hdr slots body f : Bytes}

@[simp] theorem length_statHeader : (statHeader toward tail strand pn n orig cfgd).length = 26 := by
  simp [statHeader]

/-- The fields of a status frame's header read back in the frame it begins. -/
theorem statHeader_fields (hp : statHeader toward tail strand pn n orig cfgd <+: f) (hstrand : strand < 128) (hpn : pn < 2 ^ 48)
    (hn : n < 256) (horig : orig < 256) (hcfgd : cfgd < 2 ^ 32) :
    byteAt f 1 = 3 ∧ srcUnit f = toward ∧ bitAt (byteAt f 2) 6 = tail ∧ byteAt f 3 = strand ∧ framePn f = pn ∧
      byteAt f 10 = n ∧ byteAt f 11 = orig ∧ leAt f 12 4 = cfgd := by
  obtain ⟨rest, rfl⟩ := hp
  refine ⟨rfl, ?toward, ?tail, ?strand, ?pn, ?ncell, ?orig, ?cfgd⟩
  case toward => exact unitOfBit_unitFlag toward tail
  case tail => exact bitAt_unitFlag toward tail
  case strand => exact Nat.mod_eq_of_lt (by omega)
  case pn => simp [statHeader, framePn, leAt_append_left, leAt_leBytes (n := 6) hpn]
  case ncell => simp [statHeader, byteAt_append_right, Nat.mod_eq_of_lt hn]
  case orig => simp [statHeader, byteAt_append_right, Nat.mod_eq_of_lt horig]
  case cfgd => simp [statHeader, leAt_append_right, leAt_append_left, leAt_leBytes (n := 4) hcfgd]

/-- The check of a slot in a status frame takes the low byte of PN. -/
theorem byteAt_four_of_statHeader (hp : statHeader toward tail strand pn n orig cfgd <+: f) : byteAt f 4 = pn % 256 := by
  obtain ⟨rest, rfl⟩ := hp
  rfl

/-- A frame that begins with a status header passes its HCRC. -/
theorem statHcrcOk_of_statHeader (hp : statHeader toward tail strand pn n orig cfgd <+: f) : statHcrcOk f = true := by
  have length : 26 ≤ f.length := length_statHeader ▸ hp.length_le
  have check : crc16 (slice f 1 23) = leAt f 24 2 := crc16_of_prefix (as := [sof]) hp rfl (by simp)
  simp [statHcrcOk, length, check]

/-! Where the parts of a status frame stand. -/

theorem isPrefix_statFrame_slots : hdr ++ slots <+: statFrame hdr slots := isPrefix_closeFrame

theorem isPrefix_statFrame_hdr : hdr <+: statFrame hdr slots := (List.prefix_append _ _).trans isPrefix_statFrame_slots

/-- The parts and what closes a status frame fill its length. -/
theorem length_statFrame_parts (hh : hdr.length = 26) (hs : slots.length = 16 * n) : (hdr ++ slots).length + 6 = statLen n := by
  simp only [List.length_append, hh, hs, statLen]
  omega

/-! Status slots. -/

@[simp] theorem length_statSlotBytes : (statSlotBytes h pn bits).length = 16 := by simp [statSlotBytes]

/-- The check of a status slot takes the low byte of PN. -/
theorem statCrc_low_byte : statCrc h (pn % 256) body = statCrc h pn body := by
  simp only [statCrc, ofNat_low_byte]

theorem statCrc_lt : statCrc h pn body < 256 := crc8_lt

/-- A slot that stands where its hop's does passes its CRC-8. -/
theorem statSlotOk_of_slot (hs : statSlot f h = statSlotBytes h pn bits) (hp : byteAt f 4 = pn % 256) :
    statSlotOk f h = true := by
  simp [statSlotOk, hs, hp, statCrc_low_byte, statSlotBytes, byteAt_append_right, Nat.mod_eq_of_lt statCrc_lt]

/-- The bits of a status slot read back. -/
theorem leAt_statSlotBytes (hb : bits < 2 ^ 120) : leAt (statSlotBytes h pn bits) 0 15 = bits := by
  rw [statSlotBytes, leAt_append_left (by simp), leAt_leBytes hb]

/-- The check of an absent slot reads back as the complement of the correct one. -/
theorem byteAt_absentSlot : byteAt (absentSlot h pn) 15 = 255 - statCrc h pn (List.replicate 15 0) := by
  have lt : statCrc h pn (List.replicate 15 0) < 256 := statCrc_lt
  have byte : byteAt (absentSlot h pn) 15 = (255 - statCrc h pn (List.replicate 15 0)) % 256 := rfl
  omega

theorem absentSlot_absent (hs : statSlot f h = absentSlot h pn) (hp : byteAt f 4 = pn % 256) : statSlotAbsent f h = true := by
  have body : (absentSlot h pn).take 15 = List.replicate 15 0 := rfl
  have length : (absentSlot h pn).length = 16 := rfl
  simp only [statSlotAbsent, hs, hp, body, length, statCrc_low_byte, byteAt_absentSlot]
  simp

/-- A code and its complement differ: their sum, 255, is odd. -/
theorem absentSlot_not_ok (hs : statSlot f h = absentSlot h pn) (hp : byteAt f 4 = pn % 256) : statSlotOk f h = false := by
  have body : (absentSlot h pn).take 15 = List.replicate 15 0 := rfl
  have lt : statCrc h pn (List.replicate 15 0) < 256 := statCrc_lt
  have differ : statCrc h pn (List.replicate 15 0) ≠ 255 - statCrc h pn (List.replicate 15 0) := by omega
  simp only [statSlotOk, hs, hp, body, statCrc_low_byte, byteAt_absentSlot]
  rw [beq_false_of_ne differ, Bool.and_false]

end

/-- Settles O58: the same of a status frame; the check of an absent slot is the complement of the correct one. -/
theorem statusFramesReadBack : Obligations.StatusFramesReadBack := by
  refine ⟨?present, ?absent⟩
  case present =>
    intro toward tail strand pn n orig cfgd slot hstrand hpn hn horig hcfgd hslot f
    have hdr : statHeader toward tail strand pn n orig cfgd <+: f := isPrefix_statFrame_hdr
    have hh : (statHeader toward tail strand pn n orig cfgd).length = 26 := length_statHeader
    have hslots : ((List.range n).flatMap (fun h => statSlotBytes h pn (slot h))).length = 16 * n :=
      length_flatMap_range (fun _ => length_statSlotBytes)
    have filled := length_statFrame_parts hh hslots
    have slotAt {h : Nat} (hn : h < n) : statSlot f h = statSlotBytes h pn (slot h) := by
      rw [statSlot, ← slice_slice (m := 16 * n) (by omega), slice_of_prefix isPrefix_statFrame_slots hh hslots,
        slice_flatMap_range (fun _ => length_statSlotBytes) hn]
    obtain ⟨ftype, fsrc, ftail, fstrand, fpn, fncell, forig, fcfgd⟩ :=
      statHeader_fields hdr hstrand hpn (by omega) horig hcfgd
    exact ⟨length_closeFrame.trans filled, statHcrcOk_of_statHeader hdr, crc32Ok_closeFrame filled, ftype, fsrc, ftail, fstrand,
      fpn, fncell, forig, fcfgd,
      fun h hn => ⟨statSlotOk_of_slot (slotAt hn) (byteAt_four_of_statHeader hdr),
        (slotAt hn).symm ▸ leAt_statSlotBytes (hslot h)⟩⟩
  case absent =>
    intro f g h pn hg hs hp
    subst hg
    exact ⟨absentSlot_absent hs hp, absentSlot_not_ok hs hp⟩

end Sys2Proof.Machine
end

section
/-! PROOFS. What the strand ports of a unit do: frames, port states, enumeration (O28, O29). -/
namespace Sys2Proof.Machine

section

variable {x : UnitSt} {p pn h : Nat} {t : Instant} {bytes : Bytes}

/-! Frames of the strands (R107 to R128, R442 to R445). -/

/-- A port whose block works builds its frame. -/
theorem UnitSt.buildPort_on {lofs : Nat} (hon : x.portOn p = true) :
    x.buildPort p lofs =
      x.onPort p (fun q => { q with pre := x.ownPre p, built := x.ownFrame p lofs, blk := x.slotsBlocked p false }) :=
  if_neg (bnot_ne_true hon)

/-- A slot that passes its check is taken, and forwarded where it is to be. -/
theorem UnitSt.rxSlot_passes {fwd : Bool} (hpass : slotPasses h pn (statSlot bytes h) = true) :
    x.rxSlot p pn bytes fwd h =
      (fun y : UnitSt => if fwd then y.say (.status (x.port p).strand h (statSlot bytes h)) else y)
        (x.takeSlot ((x.port p).strand * 64 + h) pn false (statSlot bytes h)) :=
  if_pos hpass

/-- A frame to relay goes to the port of its strand. -/
theorem UnitSt.relayRx_port (hport : x.portOf (byteAt bytes 3 % 128) = some p) :
    x.relayRx bytes t =
      (fun y : UnitSt => (if (relayFrame bytes (x.relayLofs p)).2 then y.inc SPL_CNT2.MSGCRC else y).relayLaunch p t
        (relayFrame bytes (x.relayLofs p)).1)
        { x.syncFrame bytes with lse := { (x.syncFrame bytes).lse with relNow := true } } := by
  simp only [UnitSt.relayRx, hport]

/-- A port that carries frames launches what it relays. -/
theorem UnitSt.relayLaunch_relays {f : Bytes} (hon : x.portOn p = true) (hrelays : x.relays p = true) :
    x.relayLaunch p t f =
      ((x.onPort p (fun q => { q with relay := true, launched := some (t, f.length, []) })).set STRP_STAT.RELAY 1 p).emit
        (.frame p f) :=
  (if_neg (bnot_ne_true hon)).trans (if_neg (bnot_ne_true hrelays))

end

/-- Settles O28: each frame's step is told by the unit, its port and the frame's check as they stand. -/
theorem strandFrames : Obligations.StrandFrames := by
  refine ⟨?prefetchFreeze, ?frameBuild, ?buildPort, ?cmdFrameLaunch, ?launch, ?statusFrameLaunch, ?statusFrameRx, ?rxSlot,
    ?spliceStatusFwdRx, ?spliceStatusLow, ?relayEnd, ?relayFrameRx, ?relayRx, ?relayLaunch, ?partnerCmdFrameRx, ?stopReqRx⟩
  case prefetchFreeze => exact fun s u h => unitStep_eq (if_pos h)
  case frameBuild => exact fun s u h => unitStep_eq (if_pos h)
  case buildPort => exact fun x p lofs h => UnitSt.buildPort_on h
  case cmdFrameLaunch =>
    intro s u l h hbase hcounting
    exact unitStep_eq ((if_neg h).trans ((if_neg (ne_true_of_eq_false hbase)).trans (if_neg (ne_true_of_eq_false hcounting))))
  case launch => exact fun x p t bytes => rfl
  case statusFrameLaunch => exact fun s u l h => unitStep_eq (if_pos h)
  case statusFrameRx => exact fun s u p rx t cut h h3 => unitStep_eq ((if_neg h).trans (if_neg (not_not_intro h3)))
  case rxSlot => exact fun x p pn bytes fwd h hpass => UnitSt.rxSlot_passes hpass
  case spliceStatusFwdRx =>
    intro s u strand hop slot p hq hport hlow hpass hnew
    refine unitStep_eq ?_
    simp only [hq, hport, beq_false_of_ne hlow, hpass, hnew, Bool.false_eq_true, if_false, if_true]
  case spliceStatusLow =>
    intro s u strand hop slot p hq hport hlow hpass hnew
    refine unitStep_eq ?_
    simp only [hq, hport, beq_iff_eq, hlow, hpass, hnew, Bool.false_eq_true, if_false, if_true]
  case relayEnd =>
    intro s u strand p hport h
    refine unitStep_eq ?_
    simp only [hport]
    exact if_pos h
  case relayFrameRx => exact fun s u bytes t h => unitStep_eq (if_neg h)
  case relayRx => exact fun x bytes t p h => UnitSt.relayRx_port h
  case relayLaunch => exact fun x p t f hon hrelays => UnitSt.relayLaunch_relays hon hrelays
  case partnerCmdFrameRx => exact fun s u p rx t h => unitStep_eq (if_neg h)
  case stopReqRx => exact fun s u t h => unitStep_eq (if_neg (ne_true_of_eq_false h))

/-! The states of a port (R133, R136, R143). -/

section

variable {s : State} {u : UnitId} {n : Fin 100} {x : UnitSt} {p v : Nat} {t : Instant} {bytes : Bytes}

/-- A port that changes state shows it. -/
theorem UnitSt.setPstate_moves (h : x.pstate p ≠ v) :
    x.setPstate p v =
      (fun y : UnitSt => y.onPort p (fun q => { q with moved := q.moved && v != 5, clean := 0 }))
        (((x.set STRP_STAT.STATE v p).evtBit (0x100000 + 0x1000 * p) 1).set STRP_STAT.RATE (if v = 1 then 1 else 0) p) :=
  if_neg h

/-- An enumeration frame that fails its check was cut, or counts as a wrong CRC-32. -/
theorem UnitSt.enumBad_enum (h4 : byteAt bytes 1 = 4) :
    x.enumBad p bytes = if bytes.length < 110 then x.inc STRP_CNT2.ABORT p else x.inc STRP_CNT1.CRC32 p := by
  unfold UnitSt.enumBad
  by_cases hcut : bytes.length < 110
  · rw [if_pos (.inr ⟨h4, hcut⟩), if_pos hcut]
  · have whole : ¬ (bytes.length < 2 ∨ (byteAt bytes 1 = 4 ∧ bytes.length < 110)) := by omega
    rw [if_neg whole, if_neg hcut, if_neg (by omega), if_pos h4]

/-- A frame at a port that fails the check of an enumeration frame is counted as a bad one. -/
theorem execEnumFrameRx_bad (h : enumOk bytes = false) :
    execEnumFrameRx u n bytes t s = .next ((s.onUnit u (fun x => x.tick t)).onUnit u (fun x => x.enumBad n.val bytes)) :=
  if_pos (.inl (by simp [h]))

/-- The DISCOVER frame of a unit that comes back tells its reach, over Splice the partner's too. -/
theorem execEnumFrameRx_discover (hok : enumOk bytes = true) (h4 : byteAt bytes 1 = 4) (h1 : byteAt bytes 4 = 1)
    (hu : srcUnit bytes = u) (hback : bitAt (byteAt bytes 2) 6 = true) :
    execEnumFrameRx u n bytes t s = .next (
      let s1 := (s.onUnit u (fun x => x.tick t)).onUnit u (fun x => x.ownReach n.val (byteAt bytes 5) none)
      if ((s.onUnit u (fun x => x.tick t)).unit u).splUp then s1.onUnit u.other (fun y =>
        y.onStrand (((s.onUnit u (fun x => x.tick t)).unit u).port n.val).strand (fun y q => y.partReach q (byteAt bytes 5) none))
      else s1) :=
  (if_neg (by simp [hok, h4])).trans (if_pos ⟨h1, beq_iff_eq.mpr hu, hback⟩)

end

/-- Settles O29: each request's step is told by the state of its port, each frame's by its check. -/
theorem portStates : Obligations.PortStates := by
  refine ⟨?off, ?low, ?train, ?enum, ?active, ?assign, ?setPstate, ?measureDone, ?discover, ?bad⟩
  case off => exact fun s u q p h => unitStep_guard_allowed h
  case low => exact fun s u q p h => unitStep_guard_allowed h
  case train => exact fun s u q p h => unitStep_guard_allowed h
  case enum => exact fun s u q p t h => unitStep_eq (UnitSt.guard_allowed h)
  case active => exact fun s u q p h => unitStep_guard_allowed h
  case assign => exact fun s u q p v h => unitStep_guard_allowed h
  case setPstate => exact fun x p v h => UnitSt.setPstate_moves h
  case measureDone => exact fun s u p h => unitStep_eq (if_pos h)
  case discover => exact fun s u p bytes t hok h4 h1 hu hback => execEnumFrameRx_discover hok h4 h1 hu hback
  case bad =>
    intro s u p bytes t h h4
    simp only [exec_enumFrameRx, execEnumFrameRx_bad h, UnitSt.enumBad_enum h4]

end Sys2Proof.Machine
end

section
/-! PROOFS. What the entries of the management window and the enumeration frames do at a cell (O41). -/
namespace Sys2Proof.Machine

section

variable {s : State} {c : CellId} {x : CellSt}

/-! Entries (R101 to R106, R137, R182, R656). -/

/-- A cell that takes entries executes one. -/
theorem cellStep_takes {f g : CellSt → CellSt} (h : (s.cell c).takesEntries = true) (hf : f (s.cell c) = g (s.cell c)) :
    cellStep s c (fun x => x.ifEntries f) = .next (s.onCell c g) :=
  cellStep_eq ((if_pos h).trans hf)

/-- A rate change 2 periods ahead or more, at a multiple of 64, is taken. -/
theorem CellSt.entryRate_taken {addr data : Word}
    (h : ¬ (addr.toNat % 64 ≠ 0 ∨ (addr - BitVec.ofNat 32 (x.pn % 2 ^ 32)).toNat < 2 ∨
      2 ^ 31 ≤ (addr - BitVec.ofNat 32 (x.pn % 2 ^ 32)).toNat)) :
    x.entryRate addr data = (rcOk, { x with rate := some (addr.toNat, data.toNat % 2) }) :=
  if_neg h

/-- A bulk block that fits goes to the download buffer of a core that runs. -/
theorem CellSt.entryBulk_stored {len off : Nat} {data : Bytes} (h0 : len ≠ 0) (hfit : ¬ (112 < len ∨ cellSram < off + len))
    (hcore : x.islandOn .core = true) :
    x.entryBulk len off data =
      (rcOk, { x with mem := { x.mem with
        sram := (List.range len).foldl (fun m i => sset (fun _ => 0) m (off + i) (BitVec.ofNat 8 (byteAt data i)))
          x.mem.sram } }) :=
  (if_neg h0).trans ((if_neg hfit).trans (if_neg (bnot_ne_true hcore)))

/-! Enumeration frames (R130 to R132). -/

/-- A hearing port acts on a whole enumeration frame with the operation of the row. -/
theorem CellSt.enumRx_acts {side : Side} {bytes : Bytes} {eop : Nat} {f : CellSt → CellSt} (hh : x.hears side = true)
    (h4 : byteAt bytes 1 = 4) (hop : byteAt bytes 4 = eop) (hok : ¬ (bytes.length = 110 ∧ (!enumOk bytes) = true)) :
    x.enumRx side bytes (byteAt bytes 4 == eop) f = f x := by
  unfold CellSt.enumRx
  rw [if_neg (bnot_ne_true hh), if_neg (not_not_intro h4), if_neg hok, if_pos (beq_iff_eq.mpr hop)]

end

/-- Settles O41: each entry's and each frame's step is told by the cell as it stands. -/
theorem cellEntriesAndEnumeration : Obligations.CellEntriesAndEnumeration := by
  refine ⟨?read, ?write, ?bypass, ?rotate, ?sparecal, ?reload, ?inject, ?reset, ?rate, ?bulk, ?entryInject, ?entryRate,
    ?entryBulk, ?assign, ?echo, ?idreq, ?idrsp⟩
  case read => exact fun s c u tag addr h => cellStep_takes h rfl
  case write => exact fun s c u tag addr data mask t h => cellStep_takes h rfl
  case bypass => exact fun s c u tag data single holder h => cellStep_takes h rfl
  case rotate => exact fun s c u tag t h => cellStep_takes h rfl
  case sparecal => exact fun s c u tag h => cellStep_takes h rfl
  case reload => exact fun s c u tag h => cellStep_takes h rfl
  case inject => exact fun s c u tag data t h => cellStep_takes h rfl
  case reset => exact fun s c u tag data h => cellStep_takes h rfl
  case rate => exact fun s c u tag addr data h => cellStep_takes h rfl
  case bulk => exact fun s c u tag len off data h => cellStep_takes h rfl
  case entryInject => exact fun x data t => rfl
  case entryRate => exact fun x addr data h => CellSt.entryRate_taken h
  case entryBulk => exact fun x len off data h0 hfit hcore => CellSt.entryBulk_stored h0 hfit hcore
  case assign => exact fun s c side bytes hh h4 hop hok => cellStep_eq (CellSt.enumRx_acts hh h4 hop hok)
  case echo => exact fun s c side bytes hh h4 hop hok => cellStep_eq (CellSt.enumRx_acts hh h4 hop hok)
  case idreq => exact fun s c side bytes hh h4 hop hok => cellStep_eq (CellSt.enumRx_acts hh h4 hop hok)
  case idrsp =>
    intro s c u ch more hchal hcore
    refine cellStep_eq ?_
    simp only [hchal]
    exact if_neg (bnot_ne_true hcore)

end Sys2Proof.Machine
end

section
/-! PROOFS. What the decimators, windows, syncs and injections of a cell do (O36), and its spare in rotation (O37). -/
namespace Sys2Proof.Machine

section

variable {s : State} {c : CellId} {x : CellSt} {r : CellReq} {n m a slice : Nat} {raw z d : Int} {t : Instant}

/-- A register command of a powered cell whose island runs carries out the access and keeps its result. -/
theorem cellStep_access_on {k : CellSt → Nat × CellSt} (h0 : ¬ ((s.cell c).pow = .off ∨ (s.cell c).pow = .dormant))
    (h1 : cellHasReg a = true) (h2 : (s.cell c).islandOn (cellIsland a) = true) :
    cellStep s c (fun x => x.access r a k) = .next (s.onCell c (fun x => (k x).2.onReq r (fun q => { q with res := (k x).1 }))) :=
  cellStep_eq (CellSt.access_on h0 h1 h2)

/-! Outputs (R152, R155, R166). -/

/-- A division, exact or not, leaves the channels. -/
@[simp] theorem CellSt.divFree_chs : (x.divFree z d).2.chs = x.chs := by
  unfold CellSt.divFree
  split <;> rfl

@[simp] theorem CellSt.correct_chs : (x.correct slice n raw).2.chs = x.chs := CellSt.divFree_chs

@[simp] theorem CellSt.clip_chs : (x.clip z).2.chs = x.chs := by
  unfold CellSt.clip
  split
  · exact CellSt.err_chs ..
  · rfl

/-- Taking a sample leaves what every channel holds. -/
theorem CellSt.sample_ch {hist : List Int} : (x.sample slice n raw hist).2.2.ch m = x.ch m := by
  have chs : (x.sample slice n raw hist).2.2.chs = x.chs := CellSt.clip_chs.trans CellSt.correct_chs
  rw [CellSt.ch, chs, CellSt.ch]

/-! Windows (R163, R165). -/

/-- With no start waiting, no delay ends. -/
theorem CellSt.windowRestart_none (h : (x.ch n).starts = []) : x.windowRestart n = x := by
  simp only [CellSt.windowRestart, h]

/-- At the end of the delay of the one start that waits the decimator restarts. -/
theorem CellSt.windowRestart_one (h : (x.ch n).starts = [t]) :
    x.windowRestart n =
      ((x.onCh n (fun h => { h with starts := [] })).tick (t + x.fld CMEAS_WDLY.DELAY n * qns)).restart n
        (t + x.fld CMEAS_WDLY.DELAY n * qns) false := by
  simp only [CellSt.windowRestart, h, lastStart, List.range_zero, List.foldl_nil]

/-! Injections (R169, R172). -/

/-- A channel without a pending injection takes no result. -/
theorem CellSt.injReady_none (h : (x.ch n).inj = none) : x.injReady n raw = x := by
  simp only [CellSt.injReady, h]

/-- The registers of the injected results are registers of the cell. -/
theorem cellHasReg_injres (n : Fin 4) : cellHasReg (0x30E0 + 4 * n.val) = true := by
  revert n
  decide

end

/-- Settles O36: each output, start and injection is told by the channel as it stands; taking a sample leaves the channel. -/
theorem cellMeasurementOutputs : Obligations.CellMeasurementOutputs := by
  refine ⟨?output, ?silent, ?ready, ?overload, ?sampled, ?noStart, ?oneStart, ?syncReq, ?syncPin, ?injWrite, ?inject, ?noResult,
    ?result, ?read⟩
  case output => exact fun s c n raw t => rfl
  case silent => exact fun x n raw spare t h => if_pos h
  case ready => exact fun x n raw spare t h => if_neg (ne_true_of_eq_false h)
  case overload => exact fun x n raw t h => if_pos h
  case sampled =>
    intro x n raw t hin hwait
    have taken : ((x.sample (x.sliceOf n) n raw (x.ch n).hist).2.2.ch n).wait ≠ true := by
      rw [CellSt.sample_ch, hwait]
      exact Bool.false_ne_true
    exact (if_neg (ne_true_of_eq_false hin)).trans (if_neg taken)
  case noStart => exact fun s c n h => cellStep_eq (CellSt.windowRestart_none h)
  case oneStart => exact fun s c n t h => cellStep_eq (CellSt.windowRestart_one h)
  case syncReq => exact fun s c r h0 h2 => cellStep_access_on h0 (by decide) h2
  case syncPin => exact fun s c h => cellStep_eq (if_pos h)
  case injWrite => exact fun s c r v t h0 h2 => cellStep_eq (CellSt.access_on h0 (by decide) h2)
  case inject => exact fun x w t h => (if_neg h).trans rfl
  case noResult => exact fun s c n raw h => cellStep_eq (CellSt.injReady_none h)
  case result =>
    intro s c n raw p t hinj hrun
    refine cellStep_eq ?_
    simp only [CellSt.injReady, hinj, hrun]
  case read => exact fun s c r n h0 h2 => cellStep_access_on h0 (cellHasReg_injres n) h2

/-! Swaps (R177). -/

@[simp] theorem CellSt.setSlice_rot {x : CellSt} {n v : Nat} : (x.setSlice n v).rot = x.rot := by
  unfold CellSt.setSlice
  split <;> rfl

/-- The cell once spare and slice of the target have changed places, a deferred swap counted. -/
def CellSt.exchanged (x : CellSt) : CellSt :=
  let y := if x.rot.due.isSome then x.inc CMEAS_CNT.SWDEF else x
  ((y.setSlice x.target y.spare).set CMEAS_MAP.SPARE (x.sliceOf x.target)).onCh x.target (fun h => { h with hist := y.rot.hist })

/-- The exchange itself leaves the rotation as it stood. -/
theorem CellSt.exchanged_rot {x : CellSt} : x.exchanged.rot = x.rot := by
  have counted : (if x.rot.due.isSome then x.inc CMEAS_CNT.SWDEF else x).rot = x.rot := by
    split <;> rfl
  exact CellSt.setSlice_rot.trans counted

/-- Settles O37: each step of the rotation is told by the spare as it stands; the exchange of slices does not touch whether it is a takeover. -/
theorem cellSpareRotation : Obligations.CellSpareRotation := by
  refine ⟨?calib, ?stepStart, ?spareTo, ?settled, ?compare, ?disagree, ?swap, ?swapSkip, ?stepSkip, ?rotationSkip, ?retire⟩
  case calib => exact fun s c ofs gerr h => cellStep_eq (if_pos h)
  case stepStart => exact fun s c t h => cellStep_eq (if_pos h)
  case spareTo => exact fun x n => rfl
  case settled => exact fun s c h => cellStep_eq (if_pos h)
  case compare =>
    intro s c t h
    refine cellStep_eq ((if_pos h).trans ?_)
    unfold CellSt.compareDone
    cases (s.cell c).rot.doubt with
    | none => cases (s.cell c).disagree (s.cell c).rot.diffs <;> rfl
    | some n => cases (s.cell c).disagree (s.cell c).rot.diffs <;> rfl
  case disagree => exact fun x ds => rfl
  case swap =>
    intro s c t h hinj htake
    have free : ¬ ((s.cell c).ch (s.cell c).target).inj.isSome = true := by simp [hinj]
    have kept : ¬ (s.cell c).exchanged.rot.take = true := by simp [CellSt.exchanged_rot, htake]
    have swapped : (s.cell c).sliceSwap t = _ := (if_neg free).trans (if_neg kept)
    exact cellStep_eq ((if_pos h).trans (congrArg (fun y : CellSt => y.tick t) swapped))
  case swapSkip =>
    intro s c t d hdue h
    exact cellStep_eq (by simp only [hdue, if_pos h])
  case stepSkip => exact fun x => rfl
  case rotationSkip => exact fun s c t h => cellStep_eq (if_pos h)
  case retire => exact fun s c r v h0 h2 => cellStep_access_on h0 (by decide) h2

end Sys2Proof.Machine
end

section
/-! PROOFS. What the switching stage of a cell does: changes of its legs, gate calls, refreshes, the carrier, adoption, a boundary
and the writes of its page (O35). -/
namespace Sys2Proof.Machine

section

variable {s : State} {c : CellId} {x : CellSt} {i n : Nat} {t e due : Instant} {dt : Nat} {d : Chg} {cmd goal : Leg}
  {rest : List (Instant × Leg)} {last : Option Chg}

/-! Legs (R195 to R203). -/

/-- Without a gate call none falls due. -/
theorem CellSt.flushCalls_none (h : (x.leg i).calls = []) : x.flushCalls i t n = x := by
  cases n with
  | zero => rfl
  | succ n => simp only [CellSt.flushCalls, h]

/-- Where nothing is scheduled a leg stays commanded as it is, and no pulse is dropped. -/
theorem absorb_nil {w : Instant → Nat} {next : Instant → Option Chg} : absorb w next e n cmd last [] = (cmd, last, [], 0) := by
  cases n <;> rfl

/-- The gate call that falls due first turns on the gate its leg still wants, and counts as dropped otherwise. -/
theorem CellSt.gateCall_first (h : (x.leg i).calls = (due, goal) :: rest) :
    x.gateCall i =
      let y := x.setLeg i { (x.leg i) with calls := rest }
      if (x.leg i).wanted = goal then
        match gateOf i goal with
        | none => y
        | some g => if (y.gateOn g).isSome then y else y.gateUp g due
      else y.inc CSW_CNT2.LDROP := by
  simp only [CellSt.gateCall, h] <;> rfl

/-- One change that nothing follows takes effect at its instant: no pulse ends with it, so none is dropped, and without EAT none
is widened. -/
theorem CellSt.swChange_single (hsched : (x.leg i).sched = [d]) (hrefr : (x.leg i).refr = none) (hcalls : (x.leg i).calls = [])
    (hup : x.upcoming i d.at_ = []) (heat : x.eat = false) :
    x.swChange i =
      let y := (x.legGatesOff i).tick d.at_
      let y := y.setLeg i { (y.leg i) with
        cmd := d.leg, sched := []
        calls := (y.leg i).calls ++ (if d.leg = .off then [] else [(d.at_ + x.deadTime d.at_, d.leg)]) }
      (y.showLeg i).showCode (some d) := by
  unfold CellSt.swChange
  simp only [hsched, hrefr, hup, List.head?_nil, CellSt.flushCalls_none hcalls, heat, Bool.false_and, Bool.false_eq_true, if_false,
    absorb_nil]
  cases (gateOf i (x.leg i).cmd).bind fun g => x.gateOn g <;> rfl

/-- A refresh starts RINT after the on-edge of the upper gate, where it is due in the running period and nothing held stands
against it (R201, R202). -/
theorem CellSt.refreshStart_due (hon : x.gateOn (2 * i) = some t) (hrefr : (x.leg i).refr = none) (heat : x.eat = false)
    (hen : x.bit CSW_CFG.REFR = true) (hrint : CSW_REFR.RINT.get (x.refrWord (t + CSW_REFR.RINT.get (x.word 0x404C) 0 * us)) 0 ≠ 0)
    (hdue : x.tim.t0 ≤ t + CSW_REFR.RINT.get (x.word 0x404C) 0 * us) (hsched : (x.leg i).sched = [])
    (hup : x.upcoming i (t + CSW_REFR.RINT.get (x.word 0x404C) 0 * us) = []) :
    x.refreshStart i =
      let r := t + CSW_REFR.RINT.get (x.word 0x404C) 0 * us
      let y := ((x.gateOff (2 * i)).inc CSW_CNT4.REFR).tick r
      (y.setLeg i { (y.leg i) with
        refr := some (r, r + x.deadTime r + CSW_REFR.REFW.get (x.refrWord r) 0 * qns, x.deadTime r)
        calls := (y.leg i).calls ++ [(r + x.deadTime r, .lo)] }).showLeg i := by
  have running := not_lt.mpr hdue
  have enabled := beq_false_of_ne hrint
  simp only [CellSt.refreshStart, hon, hrefr, heat, Bool.false_eq_true, if_false, running, false_and, hup, hsched, hen, enabled,
    List.filter_nil, List.append_nil, List.any_nil, decide_false, Bool.not_true, Bool.or_self]

/-- No refresh starts of a leg whose upper gate is off. -/
theorem CellSt.refreshStart_off (h : x.gateOn (2 * i) = none) : x.refreshStart i = x := by
  simp only [CellSt.refreshStart, h]

/-- Without a refresh none ends. -/
theorem CellSt.refreshEnd_none (h : (x.leg i).refr = none) : x.refreshEnd i = x := by
  simp only [CellSt.refreshEnd, h]

/-- At the end of a refresh a leg without calls and changes follows the state it is commanded to (R203). -/
theorem CellSt.refreshEnd_quiet {r : Instant} (hrefr : (x.leg i).refr = some (r, e, dt)) (hcalls : (x.leg i).calls = [])
    (hsched : (x.leg i).sched = []) :
    x.refreshEnd i =
      let y := if (x.leg i).cmd = .lo then x else x.legGatesOff i
      let y := y.setLeg i { (x.leg i) with
        sched := [], refr := none, calls := if (x.leg i).cmd = .up then [(e + dt, .up)] else [] }
      (y.showLeg i).tick e := by
  have call : (if (x.leg i).cmd = .up then [(e + dt, (x.leg i).cmd)] else []) =
      if (x.leg i).cmd = .up then [(e + dt, Leg.up)] else [] :=
    if_ctx_congr Iff.rfl (fun h => by rw [h]) (fun _ => rfl)
  simp only [CellSt.refreshEnd, CellSt.showCode, hrefr, CellSt.flushCalls_none hcalls, hsched, absorb_nil, hcalls,
    List.nil_append, call]

/-! Adoption (R191, R192). -/

/-- Without an accepted slot the stage coasts on the last one. -/
theorem CellSt.adopt_none (h : x.acceptedSlot (x.pn + 1) = none) :
    x.adopt = { x with sw := { x.sw with
      adopted := some ⟨if x.sw.ran then some (x.pair CSW_LAST_LO.SLOT_LO CSW_LAST_HI.SLOT_HI) else none, true, x.adoptAt⟩ } } := by
  simp only [CellSt.adopt, h]

/-- An accepted slot whose states the bridge has is adopted, and counts no error. -/
theorem CellSt.adopt_some {w : Nat} (h : x.acceptedSlot (x.pn + 1) = some w)
    (hok : (x.bridge || !(cslotBstate w == 2 || cslotAlt w == 2)) = true) :
    x.adopt = { x with sw := { x.sw with adopted := some ⟨some w, false, x.adoptAt⟩, ever := true } } := by
  have good : (!x.bridge && (cslotBstate w == 2 || cslotAlt w == 2)) = false := by
    rw [← Bool.not_not (_ && _), Bool.not_and, Bool.not_not, hok, Bool.not_true]
  simp only [CellSt.adopt, h, good, Bool.false_eq_true, if_false]

/-! Writes (R188, R208, R214). -/

/-- A configuration whose ZSEL names a zero pair waits for the boundary. -/
theorem CellSt.cfgWrite_taken {w : Word} (h : CSW_CFG.ZSEL.get w 0 ≠ 3) :
    x.cfgWrite w =
      (rcOk, ({ x with sw := { x.sw with cfgPend := some (w &&& 0x000F3311) } } : CellSt).set CSW_STAT.CPEND 1) := by
  simp only [CellSt.cfgWrite, h, decide_false, Bool.false_eq_true, if_false]

end

/-- Settles O35: each change, call, refresh and write is told by the stage as it stands. -/
theorem cellSwitchingStage : Obligations.CellSwitchingStage := by
  refine ⟨?swChange, ?showCode, ?gateCall, ?refreshOff, ?refreshStart, ?noRefresh, ?refreshEnd, ?carrierEdge, ?transferQ, ?coast,
    ?adopt, ?boundary, ?newPeriod, ?cfg, ?cfgTaken, ?cper, ?cduty, ?ccmt, ?bypfire⟩
  case swChange => exact fun s c leg d h0 h1 h2 h3 h4 => cellStep_eq (CellSt.swChange_single h0 h1 h2 h3 h4)
  case showCode => exact fun x d h => if_neg (not_lt.mpr h)
  case gateCall =>
    intro s c leg due goal rest h
    refine cellStep_eq ?_
    simp only [h, CellSt.gateCall_first h] <;> rfl
  case refreshOff => exact fun s c leg h => cellStep_eq (CellSt.refreshStart_off h)
  case refreshStart =>
    exact fun s c leg t h0 h1 h2 h3 h4 h5 h6 h7 => cellStep_eq (CellSt.refreshStart_due h0 h1 h2 h3 h4 h5 h6 h7)
  case noRefresh => exact fun s c leg h => cellStep_eq (CellSt.refreshEnd_none h)
  case refreshEnd => exact fun s c leg r e dt h0 h1 h2 => cellStep_eq (CellSt.refreshEnd_quiet h0 h1 h2)
  case carrierEdge => exact fun s c t h => cellStep_eq (if_neg (ne_true_of_eq_false h))
  case transferQ =>
    intro s c p duty q h
    refine cellStep_eq ?_
    simp only [CellSt.transferQ, h]
  case coast =>
    intro s c h hnone
    exact cellStep_eq ((if_pos h).trans (by rw [CellSt.adopt_none hnone]))
  case adopt =>
    intro s c w h hslot hok
    exact cellStep_eq ((if_pos h).trans (by rw [CellSt.adopt_some hslot hok]))
  case boundary => exact fun s c h => cellStep_eq (if_pos h)
  case newPeriod => exact fun x => rfl
  case cfg => exact fun s c r v h0 h2 => cellStep_access_on h0 (by decide) h2
  case cfgTaken => exact fun x w h => CellSt.cfgWrite_taken h
  case cper => exact fun s c r v h0 h2 => cellStep_access_on h0 (by decide) h2
  case cduty => exact fun s c r v h0 h2 => cellStep_access_on h0 (by decide) h2
  case ccmt => exact fun s c r h0 h2 => cellStep_access_on h0 (by decide) h2
  case bypfire => exact fun s c r v h0 h2 => cellStep_access_on h0 (by decide) h2

end Sys2Proof.Machine
end

section
/-! PROOFS. The commands of a cell that complete, each with the effect its rule names (O60). What a statement of a family (O35,
O36, O40, O41) says of a command's step is taken from there. -/
namespace Sys2Proof.Machine

section

variable {s : State} {c : CellId} {x y : CellSt} {o : Host.Outcome State Fault Refusal} {f : CellSt → CellSt} {r : CellReq}

/-! What is said of a step of one cell. -/

/-- A step that changes one cell makes of it what its command says, and leaves the queue and both units. -/
theorem onCell_completes (h : o = .next (s.onCell c f)) :
    ∃ z, o = .next z ∧ z.cell c = f (s.cell c) ∧ z.pending = s.pending ∧ z.a = s.a ∧ z.b = s.b :=
  ⟨_, h, State.onCell_cell s c f, rfl, rfl, rfl⟩

/-- A step that changes one cell answers a state that holds what holds of any state with the cell it makes. -/
theorem onCell_shows {P : State → Prop} (h : o = .next (s.onCell c f)) (hP : ∀ z : State, z.cell c = f (s.cell c) → P z) :
    ∃ z, o = .next z ∧ P z :=
  ⟨_, h, hP _ (State.onCell_cell s c f)⟩

/-- What a requester holds reads back as changed. -/
theorem CellSt.req_onReq {g : ReqSt → ReqSt} : (x.onReq r g).req r = g (x.req r) := sget_sset

/-- Keeping a result changes no register. -/
theorem CellSt.fld_onReq {g : ReqSt → ReqSt} {k : Fld} {i : Nat} : (x.onReq r g).fld k i = x.fld k i := CellSt.fld_congr rfl rfl

/-- A register command of a powered cell whose island runs leaves its requester the result of its access. -/
theorem cellStep_access_result {a n : Nat} {k : CellSt → Nat × CellSt}
    (h0 : ¬ ((s.cell c).pow = .off ∨ (s.cell c).pow = .dormant)) (h1 : cellHasReg a = true)
    (h2 : (s.cell c).islandOn (cellIsland a) = true) (hk : (k (s.cell c)).1 = n) :
    ∃ z, cellStep s c (fun x => x.access r a k) = .next z ∧ ((z.cell c).req r).res = n := by
  refine onCell_shows (cellStep_access_on h0 h1 h2) (fun z hz => ?_)
  rw [hz, CellSt.req_onReq]
  exact hk

/-! Replies (R105). -/

/-- The reply queued last is the one just made. -/
theorem CellSt.reply_getLast {u : UnitId} {tag : Nat} {w : Word} {e : Bool} :
    (x.reply u tag w e).replies.getLast? = some { req := u, tag := tag, rdata := w, rerr := e, pn := x.pn } :=
  List.getLast?_concat

/-- An entry's step that ends in a reply queues that reply last. -/
theorem onCell_replies {u : UnitId} {tag : Nat} {w v : Word} {e : Bool} (h : o = .next (s.onCell c f))
    (hf : f (s.cell c) = y.reply u tag w e) (hw : w = v) :
    ∃ z, o = .next z ∧ ∃ a, (z.cell c).replies.getLast? = some a ∧ a.req = u ∧ a.tag = tag ∧ a.rdata = v ∧ a.rerr = e := by
  refine onCell_shows h (fun z hz => ?_)
  rw [hz, hf, CellSt.reply_getLast]
  exact ⟨_, rfl, rfl, rfl, hw, rfl⟩

/-- The code that a choice of results gives is the choice of their codes. -/
theorem code_ite {p : Prop} [Decidable p] {a b : Nat × CellSt} :
    BitVec.ofNat 32 (if p then a else b).1 = BitVec.ofNat 32 (if p then a.1 else b.1) := by
  rw [apply_ite Prod.fst]

/-! Power states (R238, R252). -/

/-- A cell that enters Dormant drives neither its supply nor ALIVE (R239, R255). -/
theorem CellSt.enterDormant_shows :
    x.enterDormant.pow = .dormant ∧ x.enterDormant.sup.drv = false ∧ x.enterDormant.prot.alive = .undriven := by
  unfold CellSt.enterDormant
  rw [CellSt.holdCheck_pow, CellSt.holdCheck_sup, CellSt.holdCheck_prot]
  exact ⟨rfl, rfl, rfl⟩

/-- CPROT_PWRREQ is granted below VDORM in Idle alone (R252). -/
theorem CellSt.pwrreqWrite_code {v : Word} :
    (x.pwrreqWrite v).1 = if v = 0xD0D0 ∧ x.pow = .idle ∧ x.belowDorm = true then rcOk else rcRefused := by
  unfold CellSt.pwrreqWrite
  by_cases hv : v = 0xD0D0
  · rw [if_neg (not_not_intro hv), apply_ite Prod.fst]
    exact if_congr (by simp [hv]) rfl rfl
  · rw [if_pos hv, if_neg (fun h => hv h.1)]

/-- Trip sources act in a cell that is on or in Idle. -/
theorem CellSt.protOn_iff : x.protOn = true ↔ x.pow = .on ∨ x.pow = .idle := by
  simp [CellSt.protOn]

/-- Where trip sources act, ALIVE is driven. -/
theorem CellSt.driven_of_protOn (h : x.protOn = true) : (x.pow != .dormant && x.pow != .off) = true := by
  obtain hp | hp := CellSt.protOn_iff.mp h
  · rw [hp]
    rfl
  · rw [hp]
    rfl

/-- Trip sources act wherever the core runs. -/
theorem CellSt.protOn_of_coreRuns {t : Instant} (h : x.coreRuns t = true) : x.protOn = true := by
  simp only [CellSt.coreRuns, Bool.or_eq_true, Bool.and_eq_true, beq_iff_eq] at h
  obtain hon | ⟨⟨hidle, -⟩, -⟩ := h
  · exact CellSt.protOn_iff.mpr (.inl hon)
  · exact CellSt.protOn_iff.mpr (.inr hidle)

/-- ALIVE that stops in a cell that drives it is low, and shows (R238). -/
theorem CellSt.stopAlive_shows (h : x.protOn = true) :
    x.stopAlive.fld CPROT_STAT.ALIVESTOP = 1 ∧ x.stopAlive.prot.alive = .low :=
  ⟨CellSt.fld_set _ _ _ (by decide), if_pos (CellSt.driven_of_protOn h)⟩

/-- ALIVE that stops changes ALIVESTOP's register alone. -/
theorem CellSt.fld_stopAlive_ne {g : Fld} {j : Nat} (h : g.addr j ≠ CPROT_STAT.ALIVESTOP.addr 0) :
    x.stopAlive.fld g j = x.fld g j :=
  (CellSt.fld_set_ne _ _ _ _ _ h).trans (CellSt.fld_congr rfl rfl)

/-- An error leaves whether trip sources act. -/
theorem CellSt.protOn_err {k : Fld} {i : Nat} : (x.err k i).protOn = x.protOn := by
  unfold CellSt.protOn
  rw [CellSt.err_pow]

/-! Trips and self-supply (R221 to R247). -/

/-- A source that becomes inactive is active since no instant, and its RAW bit clears. -/
theorem CellSt.sourceInactive_shows {n : Nat} :
    ((x.setRaw n false).setSince n none).activeSince n = none ∧
      ((x.setRaw n false).setSince n none).fld CPROT_STAT.RAW = (x.fld CPROT_STAT.RAW &&& (63 ^^^ (1 <<< n))) % 64 :=
  ⟨sget_sset, (CellSt.fld_congr (y := x.setRaw n false) rfl rfl).trans (CellSt.fld_set _ _ _ (by decide))⟩

/-- A count made or not leaves the supply. -/
theorem CellSt.ite_inc_sup {p : Prop} [Decidable p] {k : Fld} : (if p then x.inc k else x).sup = x.sup := by
  split <;> rfl

/-- VAUX above VOV stops the supply, and is an error (R245). -/
theorem supOvStop_stops {t : Instant}
    (h : ((s.cell c).protOn && !(s.cell c).sup.ovStop && (s.cell c).works 0x6000) = true) :
    ∃ z, execSupOvStop c t s = .next z ∧ (z.cell c).sup.drv = false ∧ (z.cell c).fld CSUP_ERR.OV = 1 := by
  refine cellStep_shows (if_pos h) (fun z hz => ?_)
  rw [hz, CellSt.tick_sup, CellSt.err_sup, CellSt.fld_tick (by decide) (by decide) (by decide),
    CellSt.fld_err (by decide) (by decide)]
  refine ⟨?_, rfl⟩
  cases hd : (s.cell c).sup.drv
  · exact hd
  · rfl

/-! The lease (R404). -/

/-- CPROT_LCLR clears a record that has expired or names no holder. -/
theorem CellSt.lclrWrite_code {v : Word} :
    (x.lclrWrite v).1 =
      if v = 0x1EA5 ∧ (x.bit CPROT_LEASE.EXP || x.fld CPROT_LEASE.HOLDER == 0) = true then rcOk else rcRefused := by
  unfold CellSt.lclrWrite
  by_cases hv : v = 0x1EA5
  · rw [if_neg (not_not_intro hv), apply_ite Prod.fst]
    exact if_congr (by simp [hv]) rfl rfl
  · rw [if_pos hv, if_neg (fun h => hv h.1)]

/-! Links. -/

/-- A field with one copy in a register stands at its least bit in each. -/
theorem Fld.lo_of_perReg_one {k : Fld} {i : Nat} (h : k.perReg = 1) : k.lo i = k.lsb := by
  rw [Fld.lo, h, Nat.mod_one, Nat.mul_zero, Nat.add_zero]

/-- The link of a side reads back as changed. -/
theorem CellSt.lnk_onLnk {side : Side} {g : CLnkSt → CLnkSt} : (x.onLnk side g).lnk side = g (x.lnk side) := by
  cases side <;> rfl

/-- A change of a link changes no register. -/
theorem CellSt.fld_onLnk {side : Side} {g : CLnkSt → CLnkSt} {k : Fld} {i : Nat} : (x.onLnk side g).fld k i = x.fld k i := by
  cases side <;> exact CellSt.fld_congr rfl rfl

/-- TAIL of a side reads back as set. -/
theorem CellSt.fld_set_tail {d : Side} {v : Nat} : (x.set CLNK_STAT.TAIL v (sideIx d)).fld CLNK_STAT.TAIL (sideIx d) = v % 2 :=
  CellSt.fld_set _ _ _ (by rw [Fld.lo_of_perReg_one rfl]; decide)

/-- LOCK of a port of a unit is shown in the pages of the ports. -/
theorem UnitSt.lock_shows {x : UnitSt} {p : Fin 100} {g : PortSt → PortSt} {t : Instant} :
    (((x.set STRP_STAT.LOCK 1 p.val).onPort p.val g).tick t).fld STRP_STAT.LOCK p.val = 1 := by
  have page : 0x100000 ≤ STRP_STAT.LOCK.addr p.val := Nat.le_add_right_of_le (Nat.le_add_right_of_le (by decide))
  have past {a : Nat} (h : a < 0x100000) : STRP_STAT.LOCK.addr p.val ≠ a := by omega
  rw [UnitSt.fld_tick (past (by decide)) (past (by decide)) (past (by decide))]
  exact (UnitSt.fld_congr (y := x.set STRP_STAT.LOCK 1 p.val) rfl rfl).trans
    (UnitSt.fld_set _ _ _ (by rw [Fld.lo_of_perReg_one rfl]; decide))

end

/-- Settles O60: each command's step is told by the cell, or the unit, as it stands. -/
theorem cellCommandsComplete : Obligations.CellCommandsComplete := by
  obtain ⟨swChange, -, gateCall, -, refreshStart, -, refreshEnd, carrierEdge, transferQ, coast, adopt, boundary, -, cfgWrite, -, -,
    -, ccmtWrite, -⟩ := cellSwitchingStage
  obtain ⟨output, -, -, -, -, -, windowRestart, syncReq, syncPin, injWrite, -, -, injResult, injRead⟩ := cellMeasurementOutputs
  obtain ⟨cmdFrame, -, statusLatch, servoLocked, servoHoldover, statusFrame, tailBecome, tailOriginate, tailEnd, stop, abort, -, -,
    lockCell, lockUnit, lossCell, -, search, lineSearch, rateCell, -⟩ := cellFrames
  obtain ⟨read, write, bypass, rotate, sparecal, reload, inject, reset, rate, bulk, -, -, -, assign, echo, idreq, idrsp⟩ :=
    cellEntriesAndEnumeration
  refine ⟨?swChange, ?gateCall, ?refreshStart, ?refreshEnd, ?carrierEdge, ?transferQ, ?coast, ?adopt, ?boundary, ?cfgWrite,
    ?cperWrite, ?cdutyWrite, ?ccmtWrite, ?bypfireWrite, ?output, ?windowRestart, ?syncReq, ?syncPin, ?injWrite, injResult, ?injRead,
    ?powerOn, ?powerLoss, ?rstWrite, ?pwrreqWrite, ?dormantTimeout, ?wakeLight, ?wakeCharge, ?strandReset, ?tripInput, ?blankEnd,
    ?sourceInactive, ?bypassDelay, ?tripclrWrite, ?coreWdog, ?clockFail, ?supTurnOn, ?supEndOfTon, ?supAtLimit, ?softStartEnd,
    ?supOvStop, ?holdupReq, ?holdupEnd, ?leaseExpire, ?orphanBlock, ?orphanBypass, ?leaseClear, ?cmdFrame, ?statusLatch,
    ?servoLocked, ?servoHoldover, ?statusFrame, ?tailBecome, ?tailOriginate, ?tailEnd, ?stop, ?abort, ?lockCell, ?lockUnit,
    ?lossCell, ?search, ?lineSearch, ?rateCell, ?read, ?write, ?bypass, ?rotate, ?sparecal, ?reload, ?inject, ?reset, ?rate, ?bulk,
    ?assign, ?echo, ?idreq, ?idrsp, ?faultLatch, ?latchClear, ?graceExpire, ?maskWindowEnd, ?ledgerReq, ?framAppend,
    ?ledgerDaily, ?patchActivate⟩
  case swChange => exact fun s c leg d h0 h1 h2 h3 h4 => onCell_completes (swChange s c leg d h0 h1 h2 h3 h4)
  case gateCall => exact fun s c leg due goal rest h => onCell_completes (gateCall s c leg due goal rest h)
  case refreshStart =>
    exact fun s c leg t h0 h1 h2 h3 h4 h5 h6 h7 => onCell_completes (refreshStart s c leg t h0 h1 h2 h3 h4 h5 h6 h7)
  case refreshEnd => exact fun s c leg r e dt h0 h1 h2 => onCell_completes (refreshEnd s c leg r e dt h0 h1 h2)
  case carrierEdge => exact fun s c t h => onCell_completes (carrierEdge s c t h)
  case transferQ => exact fun s c p duty q h => onCell_completes (transferQ s c p duty q h)
  case coast =>
    intro s c h hnone
    refine onCell_shows (coast s c h hnone) (fun z hz => ?_)
    rw [hz, CellSt.tick_sw]
    rfl
  case adopt =>
    intro s c w h hslot hok
    refine onCell_shows (adopt s c w h hslot hok) (fun z hz => ?_)
    rw [hz, CellSt.tick_sw]
    exact ⟨rfl, rfl⟩
  case boundary => exact fun s c h => onCell_completes (boundary s c h)
  case cfgWrite => exact fun s c r v h0 h2 => onCell_completes (cfgWrite s c r v h0 h2)
  case cperWrite => exact fun s c r v h0 h2 => cellStep_access_result h0 (by decide) h2 (apply_ite Prod.fst _ _ _)
  case cdutyWrite => exact fun s c r v h0 h2 => cellStep_access_result h0 (by decide) h2 (apply_ite Prod.fst _ _ _)
  case ccmtWrite =>
    intro s c r h0 h2
    refine onCell_shows (ccmtWrite s c r h0 h2) (fun z hz => ?_)
    rw [hz, CellSt.req_onReq]
    exact ⟨rfl, rfl⟩
  case bypfireWrite =>
    exact fun s c r v h0 h2 => cellStep_access_result h0 (by decide) h2
      ((apply_ite Prod.fst _ _ _).trans (if_congr Iff.rfl rfl (apply_ite Prod.fst _ _ _)))
  case output => exact fun s c n raw t => onCell_completes (output s c n raw t)
  case windowRestart => exact fun s c n t h => onCell_completes (windowRestart s c n t h)
  case syncReq =>
    intro s c r h0 h2
    refine onCell_shows (syncReq s c r h0 h2) (fun z hz => ?_)
    rw [hz, CellSt.req_onReq]
    exact ⟨rfl, rfl⟩
  case syncPin => exact fun s c h => onCell_shows (syncPin s c h) (fun z hz => by rw [hz])
  case injWrite => exact fun s c r v t h0 h2 => onCell_completes (injWrite s c r v t h0 h2)
  case injRead =>
    intro s c r n h0 h2
    refine onCell_shows (injRead s c r n h0 h2) (fun z hz => ?_)
    rw [hz, CellSt.fld_onReq, CellSt.fld_onReq, CellSt.req_onReq, CellSt.req_onReq]
    exact ⟨CellSt.fld_set _ _ _ (by rw [Fld.lo_of_perReg_one rfl]; decide), rfl, rfl⟩
  case powerOn => exact fun s c t => cellStep_completes rfl
  case powerLoss =>
    intro s c
    refine cellStep_shows rfl (fun z hz => ?_)
    rw [hz]
    exact ⟨rfl, rfl, rfl⟩
  case rstWrite => exact fun s c r v t h0 h2 => cellStep_completes (CellSt.access_on h0 (by decide) h2)
  case pwrreqWrite => exact fun s c r v h0 h2 => cellStep_access_result h0 (by decide) h2 CellSt.pwrreqWrite_code
  case dormantTimeout =>
    intro s c t a b ha hb h
    refine cellStep_shows (w := ((s.cell c).tick t).enterDormant) ?_ (fun z hz => ?_)
    · simp only [ha, hb, if_pos h]
    · rw [hz]
      exact CellSt.enterDormant_shows
  case wakeLight => exact fun s c t h => cellStep_completes (if_pos h)
  case wakeCharge => exact fun s c t h => cellStep_completes (if_pos h)
  case strandReset =>
    intro s c t p hp h
    exact cellStep_completes (by simp only [hp, if_pos h])
  case tripInput => exact fun s c n t h => cellStep_completes (if_neg (bnot_ne_true h))
  case blankEnd => exact fun s c n t h => cellStep_completes (if_pos h)
  case sourceInactive =>
    intro s c n
    refine cellStep_shows rfl (fun z hz => ?_)
    rw [hz]
    exact CellSt.sourceInactive_shows
  case bypassDelay =>
    intro s c n t t0 ht h hf
    refine cellStep_completes ?_
    simp only [ht, if_pos h]
    exact if_neg (ne_true_of_eq_false hf)
  case tripclrWrite => exact fun s c r v h0 h2 => cellStep_completes (CellSt.access_on h0 (by decide) h2)
  case coreWdog =>
    intro s w h
    have acts := CellSt.protOn_of_coreRuns (Bool.and_eq_true_iff.mp h).1
    obtain ⟨stopped, low⟩ := CellSt.stopAlive_shows (CellSt.protOn_err.trans acts)
    refine cellStep_shows (if_pos h) (fun z hz => ?_)
    rw [hz, CellSt.fld_stopAlive_ne (g := CPROT_ERR.WDOG) (by decide), CellSt.fld_err (by decide) (by decide)]
    exact ⟨stopped, rfl, low⟩
  case clockFail =>
    intro s c h
    refine cellStep_shows (if_pos h) (fun z hz => ?_)
    rw [hz]
    exact CellSt.stopAlive_shows h
  case supTurnOn =>
    intro s c vaux t h
    refine cellStep_shows (if_pos h) (fun z hz => ?_)
    rw [hz, CellSt.tick_sup]
    rfl
  case supEndOfTon =>
    intro s c v t hd hend
    refine cellStep_shows (if_pos (by simp [hd, hend])) (fun z hz => ?_)
    rw [hz, CellSt.ite_inc_sup, CellSt.tick_sup]
    exact ⟨rfl, min_eq_right hend⟩
  case supAtLimit =>
    intro s c v t hd hlim hleb hon
    refine cellStep_shows (if_pos (by simp [hd, hlim, hleb, hon])) (fun z hz => ?_)
    rw [hz, CellSt.ite_inc_sup, CellSt.tick_sup]
    exact ⟨rfl, min_eq_left hon.le⟩
  case softStartEnd => exact fun s c vaux t h => cellStep_completes (if_pos h)
  case supOvStop => exact fun s c t h => supOvStop_stops h
  case holdupReq => exact fun s c r v h0 h2 => cellStep_access_result h0 (by decide) h2 rfl
  case holdupEnd =>
    intro s c t v0 t0 hu h
    refine cellStep_completes ?_
    simp only [hu]
    exact if_pos h
  case leaseExpire => exact fun s c h => cellStep_completes (if_pos h)
  case orphanBlock =>
    intro s c h
    refine cellStep_shows (if_pos h) (fun z hz => ?_)
    rw [hz, CellSt.fld_holdCheck (by decide) (by decide)]
    exact CellSt.fld_set _ _ _ (by decide)
  case orphanBypass => exact fun s c t h => cellStep_completes (if_pos h)
  case leaseClear => exact fun s c r v h0 h2 => cellStep_access_result h0 (by decide) h2 CellSt.lclrWrite_code
  case cmdFrame => exact fun s c side rx stamp done t hh hc => onCell_completes (cmdFrame s c side rx stamp done t hh hc)
  case statusLatch => exact fun s c h => onCell_completes (statusLatch s c h)
  case servoLocked =>
    intro s c h
    refine onCell_shows (servoLocked s c h) (fun z hz => ?_)
    rw [hz, CellSt.fld_holdCheck (by decide) (by decide)]
    exact CellSt.fld_set _ _ _ (by decide)
  case servoHoldover =>
    intro s c h
    refine onCell_shows (servoHoldover s c h) (fun z hz => ?_)
    rw [hz]
    split
    · exact (CellSt.fld_holdCheck (by decide) (by decide)).trans (CellSt.fld_set _ _ _ (by decide))
    · exact CellSt.fld_set _ _ _ (by decide)
  case statusFrame => exact fun s c side bytes hh hc => onCell_completes (statusFrame s c side bytes hh hc)
  case tailBecome =>
    intro s c d h
    refine onCell_shows (tailBecome s c d h) (fun z hz => ?_)
    rw [hz, CellSt.fld_onLnk]
    exact CellSt.fld_set_tail
  case tailOriginate => exact fun s c d h => onCell_completes (tailOriginate s c d h)
  case tailEnd =>
    intro s c d h
    refine onCell_shows (tailEnd s c d h) (fun z hz => ?_)
    rw [hz]
    exact CellSt.fld_set_tail
  case stop => exact fun s c side o cut t hh ha => onCell_completes (stop s c side o cut t hh ha)
  case abort => exact fun s c side o cut hh hc => onCell_completes (abort s c side o cut hh hc)
  case lockCell => exact fun s c side low t hw hl => onCell_completes (lockCell s c side low t hw hl)
  case lockUnit =>
    intro s u p low t
    refine ⟨_, lockUnit s u p low t, ?_⟩
    rw [State.onUnit_unit]
    exact UnitSt.lock_shows
  case lossCell => exact fun s c side loss h => onCell_completes (lossCell s c side loss h)
  case search =>
    intro s c p h
    refine onCell_shows (search s c p h) (fun z hz => ?_)
    rw [hz, CellSt.lnk_onLnk]
    exact ⟨rfl, rfl⟩
  case lineSearch =>
    intro s c t a b ha hb h
    refine onCell_shows (lineSearch s c t a b ha hb h) (fun z hz => ?_)
    rw [hz]
    exact ⟨rfl, rfl, rfl, rfl⟩
  case rateCell => exact fun s c a r hr hpn => onCell_completes (rateCell s c a r hr hpn)
  case read => exact fun s c u tag addr h => onCell_replies (read s c u tag addr h) rfl rfl
  case write => exact fun s c u tag addr data mask t h => onCell_replies (write s c u tag addr data mask t h) rfl code_ite
  case bypass => exact fun s c u tag data single holder h => onCell_replies (bypass s c u tag data single holder h) rfl code_ite
  case rotate => exact fun s c u tag t h => onCell_replies (rotate s c u tag t h) rfl code_ite
  case sparecal => exact fun s c u tag h => onCell_replies (sparecal s c u tag h) rfl code_ite
  case reload =>
    intro s c u tag h
    refine onCell_shows (reload s c u tag h) (fun z hz => ?_)
    rw [hz, CellSt.reply_getLast]
    exact ⟨rfl, _, rfl, rfl, rfl, rfl, rfl⟩
  case inject => exact fun s c u tag data t h => onCell_replies (inject s c u tag data t h) rfl rfl
  case reset =>
    intro s c u tag data h hkey
    refine onCell_shows (reset s c u tag data h) (fun z hz => ?_)
    rw [hz, if_pos hkey]
    simp [CellSt.reply_getLast]
  case rate => exact fun s c u tag addr data h => onCell_replies (rate s c u tag addr data h) rfl rfl
  case bulk => exact fun s c u tag len off data h => onCell_replies (bulk s c u tag len off data h) rfl rfl
  case assign => exact fun s c side bytes hh h4 hop hok => onCell_completes (assign s c side bytes hh h4 hop hok)
  case echo =>
    exact fun s c side bytes hh h4 hop hok => onCell_shows (echo s c side bytes hh h4 hop hok) (fun z hz => by rw [hz])
  case idreq => exact fun s c side bytes hh h4 hop hok => onCell_completes (idreq s c side bytes hh h4 hop hok)
  case idrsp =>
    intro s c u ch more hchal hcore
    refine onCell_shows (idrsp s c u ch more hchal hcore) (fun z hz => ?_)
    rw [hz]
    exact ⟨rfl, rfl⟩
  case faultLatch => exact fun s c t cyc h => cellStep_completes (if_neg h)
  case latchClear => exact fun s c r v h0 h2 => cellStep_access_result h0 (by decide) h2 rfl
  case graceExpire =>
    intro s c n t m t0 hf h
    exact cellStep_completes (by simp only [hf, if_pos h])
  case maskWindowEnd => exact fun s c t cyc => cellStep_completes rfl
  case ledgerReq => exact fun s c r v h0 h2 => cellStep_access_result h0 (by decide) h2 rfl
  case framAppend =>
    intro s c ok req e ha hp
    refine cellStep_completes ?_
    simp only [ha]
    exact if_neg (not_not_intro hp)
  case ledgerDaily => exact fun s c h => cellStep_completes (if_pos h)
  case patchActivate => exact fun s c r h0 h2 => cellStep_access_result h0 (by decide) h2 rfl

end Sys2Proof.Machine
end

section
/-! PROOFS. The resets and power states of a cell (O38), its trips, ALIVE, self-supply and lease record (O39). -/
namespace Sys2Proof.Machine

/-- Settles O38: each reset, request and wake is told by the power state, the links and the reset pending as they stand. -/
theorem cellPowerAndResets : Obligations.CellPowerAndResets := by
  refine ⟨?powerOn, ?powerLoss, ?rstWrite, ?pwrreqWrite, ?dormantTimeout, ?wakeLight, ?wakeCharge, ?strandReset⟩
  case powerOn => exact fun s c t => rfl
  case powerLoss => exact fun s c => rfl
  case rstWrite => exact fun s c r v t h0 h2 => cellStep_access_on h0 (by decide) h2
  case pwrreqWrite => exact fun s c r v h0 h2 => cellStep_access_on h0 (by decide) h2
  case dormantTimeout =>
    intro s c t a b ha hb h
    exact cellStep_eq (by simp only [ha, hb, if_pos h])
  case wakeLight => exact fun s c t h => cellStep_eq (if_pos h)
  case wakeCharge => exact fun s c t h => cellStep_eq (if_pos h)
  case strandReset =>
    intro s c t p hp h
    exact cellStep_eq (by simp only [hp, if_pos h])

section

variable {x : CellSt} {w : Word} {n : Nat} {t : Instant}

/-! Trips (R222, R225). -/

/-- A source whose latch is clear latches, counts and reports its trip as it takes effect. -/
theorem CellSt.tripEffect_unlatched (h : bitAt (x.fld CPROT_LATCH.LATCH) n = false) :
    x.tripEffect n t =
      (fun y : CellSt => if y.tripAct n && y.fld CPROT_BYPDLY.BYPDLY == 0 then y.tripFire else y)
        ((fun z : CellSt => ({ z with prot := { z.prot with tripNew := true } } : CellSt).holdCheck)
          ((((((x.tick t).setSince n (some t)).set CPROT_LATCH.LATCH (orBit (x.fld CPROT_LATCH.LATCH) n)).set
            CPROT_STAT.TRIP 1).inc CPROT_CNT.TRIPS).ledger false
              (ledgerEntry 3 0 [BitVec.ofNat 8 (orBit (x.fld CPROT_LATCH.LATCH) n)]))) := by
  simp only [CellSt.tripEffect, h, Bool.false_eq_true, if_false]

/-- What CPROT_TRIPCLR does for one source it names: a latched one clears, unless it is still active. -/
def CellSt.tripclrSource (y : CellSt) (n : Nat) : CellSt :=
  if bitAt (y.fld CPROT_LATCH.LATCH) n = false then y
  else if y.rawOn n = true ∧ (n ≠ 5 ∨ y.tripEn 5 = true) then y.err CPROT_ERR.CLRREF
  else y.set CPROT_LATCH.LATCH (y.fld CPROT_LATCH.LATCH ^^^ (1 <<< n))

/-- A write of CPROT_TRIPCLR takes the sources it names in turn. -/
theorem CellSt.tripclrWrite_foldl :
    x.tripclrWrite w =
      (rcOk, (fun y : CellSt => (y.set CPROT_STAT.TRIP (b2n (y.bit CPROT_LATCH.LATCH))).holdCheck)
        ((bitsOf 6 w.toNat).foldl CellSt.tripclrSource x)) := by
  have source : CellSt.tripclrSource = fun y n =>
      if !bitAt (y.fld CPROT_LATCH.LATCH) n then y
      else if y.rawOn n && (n != 5 || y.tripEn 5) then y.err CPROT_ERR.CLRREF
      else y.set CPROT_LATCH.LATCH (y.fld CPROT_LATCH.LATCH ^^^ (1 <<< n)) := by
    funext y n
    exact if_congr (by simp) rfl (if_congr (by simp) rfl rfl)
  rw [source, CellSt.tripclrWrite]

/-! Self-supply (R243). -/

variable {s : State} {c : CellId} {v : SupSense}

/-- The supply turns off at the end of TON, and counts no current limit. -/
theorem execSupTurnOff_endOfTon (hd : (s.cell c).sup.drv = true)
    (hend : (s.cell c).sup.since + supSpan ((s.cell c).fld CSUP_TIME.TON) ≤ t) :
    execSupTurnOff c v t s = .next (s.onCell c (fun x =>
      (({ x with sup := { x.sup with
          drv := false, ready := false, since := x.sup.since + supSpan (x.fld CSUP_TIME.TON) } } : CellSt).showReg v.vaux).tick t)) := by
  refine cellStep_eq ?_
  simp only [hd, hend, not_lt.mpr hend, min_eq_right hend, decide_true, decide_false, Bool.and_false, Bool.or_true, Bool.and_true,
    Bool.false_eq_true, if_true, if_false]

/-- Before the end of TON the supply turns off at the current limit once LEB is over, and counts it. -/
theorem execSupTurnOff_limit (hd : (s.cell c).sup.drv = true) (hlim : (s.cell c).ipk16 t ≤ 16 * v.sscs)
    (hleb : (s.cell c).sup.since + supSpan ((s.cell c).fld CSUP_LIM.LEB) ≤ t)
    (hon : t < (s.cell c).sup.since + supSpan ((s.cell c).fld CSUP_TIME.TON)) :
    execSupTurnOff c v t s = .next (s.onCell c (fun x =>
      ((({ x with sup := { x.sup with drv := false, ready := false, since := t } } : CellSt).showReg v.vaux).tick t).inc
        CSUP_CNT.ILIM)) := by
  refine cellStep_eq ?_
  simp only [hd, hlim, hleb, hon, min_eq_left hon.le, decide_true, Bool.and_self, Bool.true_or, if_true]

end

/-- Settles O39: each trip, supply and lease step is told by the cell as it stands. -/
theorem cellTripsSupplyAndLease : Obligations.CellTripsSupplyAndLease := by
  refine ⟨?tripInput, ?tripEffect, ?blankEnd, ?sourceInactive, ?bypassDelay, ?tripclr, ?tripclrWrite, ?coreWdog, ?clockFail,
    ?supTurnOn, ?supEndOfTon, ?supAtLimit, ?softStartEnd, ?supOvStop, ?holdupReq, ?huWrite, ?noHoldup, ?holdupEnd, ?leaseExpire,
    ?orphanBlock, ?orphanBypass, ?leaseClear⟩
  case tripInput => exact fun s c n t h => cellStep_eq (if_neg (bnot_ne_true h))
  case tripEffect => exact fun x n t h => CellSt.tripEffect_unlatched h
  case blankEnd => exact fun s c n t h => cellStep_eq (if_pos h)
  case sourceInactive => exact fun s c n => rfl
  case bypassDelay =>
    intro s c n t t0 ht h hf
    refine cellStep_eq ?_
    simp only [ht, if_pos h]
    exact if_neg (ne_true_of_eq_false hf)
  case tripclr => exact fun s c r v h0 h2 => cellStep_access_on h0 (by decide) h2
  case tripclrWrite => exact fun x w => CellSt.tripclrWrite_foldl
  case coreWdog => exact fun s w h => cellStep_eq (if_pos h)
  case clockFail => exact fun s c h => cellStep_eq (if_pos h)
  case supTurnOn => exact fun s c vaux t h => cellStep_eq (if_pos h)
  case supEndOfTon => exact fun s c v t hd hend => execSupTurnOff_endOfTon hd hend
  case supAtLimit => exact fun s c v t hd hlim hleb hon => execSupTurnOff_limit hd hlim hleb hon
  case softStartEnd => exact fun s c vaux t h => cellStep_eq (if_pos h)
  case supOvStop => exact fun s c t h => cellStep_eq (if_pos h)
  case holdupReq => exact fun s c r v h0 h2 => cellStep_access_on h0 (by decide) h2
  case huWrite => exact fun x w h => if_neg h
  case noHoldup =>
    intro s c t h
    exact cellStep_eq (by simp only [h])
  case holdupEnd =>
    intro s c t v0 t0 hu h
    refine cellStep_eq ?_
    simp only [hu]
    exact if_pos h
  case leaseExpire => exact fun s c h => cellStep_eq (if_pos h)
  case orphanBlock => exact fun s c h => cellStep_eq (if_pos h)
  case orphanBypass => exact fun s c t h => cellStep_eq (if_pos h)
  case leaseClear => exact fun s c r v h0 h2 => cellStep_access_on h0 (by decide) h2

end Sys2Proof.Machine
end

section
/-! PROOFS. What a Caliper operation does from its write to its computation (O12), and what the stages of Caliper and Calender do
with the sub-steps, records and exclusions before them (O13). -/
namespace Sys2Proof.Machine

section

variable {s : State} {u : UnitId} {x : UnitSt} {o : ClpOp}

/-! Operations of Caliper (R269, R281, R282, R300). -/

/-- A change of a record leaves the operations that wait. -/
@[simp] theorem UnitSt.onRec_cmds {k : Nat} {f : ClpRec → ClpRec} : (x.onRec k f).clp.cmds = x.clp.cmds := rfl

/-- Carrying out an operation leaves those that still wait. -/
theorem UnitSt.clpApply_cmds : (x.clpApply o).clp.cmds = x.clp.cmds := by
  unfold UnitSt.clpApply
  split
  · rfl
  · rw [UnitSt.retireCell, UnitSt.err_clp, UnitSt.onRec_cmds]
  · rfl
  · rfl
  · rfl

/-- The one operation that waits is carried out when its computation has come, and an own one reports success. -/
theorem UnitSt.clpCommands_one (hcmds : x.clp.cmds = [o]) (hdue : o.pn ≤ x.pn) :
    x.clpCommands = (fun y : UnitSt => if o.own then y.set CLP_CMD.RES 1 else y)
      (({ x with clp := { x.clp with cmds := [] } } : UnitSt).clpApply o) := by
  have due : x.clp.cmds.filter (fun o => decide (o.pn ≤ x.pn)) = [o] := by simp [hcmds, hdue]
  have rest : x.clp.cmds.filter (fun o => !decide (o.pn ≤ x.pn)) = [] := by simp [hcmds, hdue]
  unfold UnitSt.clpCommands
  simp only [due, rest, List.foldl_cons, List.foldl_nil, UnitSt.clpApply_cmds]
  exact if_congr (by simp) rfl rfl

/-- A write of CLP_CMD on a configured cell queues each operation in range. -/
theorem unitStep_clpCmd {q : Requester} {op st h : Nat} (hal : (s.unit u).allowed q true 0x220F8 = true)
    (hst : st = (s.unit u).fld CLP_SEL.STRAND) (hh : h = (s.unit u).fld CLP_SEL.HOP) (hc : (s.unit u).isCell st h = true)
    (h0 : op ≠ 0) (h4 : ¬ 4 < op) :
    unitStep s u (fun x => x.guard q true 0x220F8 (fun x => x.clpCmd op)) = .next (s.onUnit u (fun x =>
      let o : ClpOp := { op := op, key := st * 64 + h, c := x.word 0x220F0, esr := x.word 0x220F4, pn := x.nextCompute, own := true }
      let y : UnitSt := { x.set CLP_CMD.RES 4 with clp := { x.clp with cmds := x.clp.cmds ++ [o] } }
      if y.splUp then y.emit (.splice (.clpCmd op st h o.c o.esr o.pn)) else y)) := by
  subst hst hh
  exact unitStep_eq ((UnitSt.guard_allowed hal).trans (UnitSt.clpCmd_cell h0 h4 hc))

/-! Sub-steps and wear (R265, R281). -/

/-- A sub-step whose mean has become available is integrated at its instant. -/
theorem execSubstepIntegrate_available {arm : Fin 6} {t a b : Instant} {pn : Nat} (hw : ((s.unit u).tick t).works 0x22000 = true)
    (hs : ((s.unit u).tick t).subStep (((s.unit u).tick t).clpFront arm.val) = some (pn, a, b))
    (hb : b + ((s.unit u).tick t).armLat arm.val ≤ t) :
    execSubstepIntegrate u arm t s = .next (s.onUnit u (fun x => (x.tick t).armStep arm.val)) := by
  refine unitStep_eq ((if_neg (bnot_ne_true hw)).trans ?_)
  rw [hs]
  exact if_pos hb

/-- Wear of a cell of an arm is judged while Caliper works, and Caliper's status follows. -/
theorem execWearRetire_of_arm {c : CellId} {arm : Nat} {y : UnitSt → UnitSt} (harm : (s.unit u).armOf c.key = some arm)
    (hw : (s.unit u).works 0x22000 = true) (hy : (s.unit u).wearRetire arm c.key = y (s.unit u)) :
    execWearRetire u c s = .next (s.onUnit u (fun x => (y x).showClp)) :=
  unitStep_eq (by simp only [harm, hw, if_true, hy])

end

/-- Settles O12: each write, message and read is told by the unit as it stands; an operation carried out leaves those that wait. -/
theorem caliperCommands : Obligations.CaliperCommands := by
  refine ⟨?seed, ?retire, ?unretire, ?clrchk, ?rx, ?rxAway, ?due, ?seedApplied, ?retireApplied, ?unretireApplied, ?clrchkApplied,
    ?recRead⟩
  case seed | retire | unretire | clrchk =>
    exact fun s u q st h hal hst hh hc => unitStep_clpCmd hal hst hh hc (by decide) (by decide)
  case rx => exact fun s u op c cp esr pn hq hw => unitStep_eq ((if_neg (ne_true_of_eq_false hq)).trans (if_neg (bnot_ne_true hw)))
  case rxAway =>
    intro s u op c cp esr pn hq hw
    exact unitStep_eq ((if_neg (ne_true_of_eq_false hq)).trans (if_pos (by simp [hw])))
  case due => exact fun x o hcmds hdue => UnitSt.clpCommands_one hcmds hdue
  case seedApplied => exact fun x k c esr pn own => rfl
  case retireApplied => exact fun x k c esr pn own => rfl
  case unretireApplied => exact fun x k c esr pn own => rfl
  case clrchkApplied => exact fun x k c esr pn own => rfl
  case recRead => exact fun s u q h => unitStep_eq (UnitSt.guardRead_allowed h)

/-- Settles O13: each stage's step is told by the unit, its record and its arm as they stand. -/
theorem caliperCalenderEvents : Obligations.CaliperCalenderEvents := by
  refine ⟨?substep, ?chkFail, ?wearPending, ?wearRetired, ?calenderRun, ?deadlineMiss, ?fxWrite⟩
  case substep => exact fun s u arm t pn a b hw hs hb => execSubstepIntegrate_available hw hs hb
  case chkFail => exact fun s u c h => unitStep_eq (if_neg (ne_true_of_eq_false h))
  case wearPending =>
    exact fun s u c arm harm hw hdue hneed => execWearRetire_of_arm harm hw (UnitSt.wearRetire_pending hdue hneed)
  case wearRetired =>
    exact fun s u c arm harm hw hdue hspare => execWearRetire_of_arm harm hw (UnitSt.wearRetire_retires hdue hspare)
  case calenderRun => exact fun s u h => unitStep_eq (if_neg (ne_true_of_eq_false h))
  case deadlineMiss => exact fun s u cal h => unitStep_eq (if_neg (bnot_ne_true h))
  case fxWrite => exact fun s u q v h hc => unitStep_eq ((UnitSt.guard_allowed h).trans (if_pos hc))

end Sys2Proof.Machine
end

section
/-! PROOFS. What the requests of the host and the partner do to the channels and swaps of the loop engines (O10), and what commits,
saturation times and masks do (O11). -/
namespace Sys2Proof.Machine

section

variable {s : State} {u : UnitId} {x : UnitSt} {m : MaskSt} {dwell : Nat}

/-! Swaps (R316, R317). -/

/-- The one swap that is queued leaves the queue at its PN and becomes due in its channel, where that runs. -/
theorem execSwapEffect_due {r : SwapReq} (hw : (s.unit u).works 0x23000 = true) (hq : (s.unit u).lpe.queue = [r])
    (hr : r.pn ≤ (s.unit u).pn)
    (hon : (({ (s.unit u) with lpe := { (s.unit u).lpe with queue := [] } } : UnitSt).chan r.ch).on = true) :
    execSwapEffect u s = .next (s.onUnit u (fun x => ({ x with lpe := { x.lpe with queue := [] } } : UnitSt).onChan r.ch (fun c =>
      { c with due := c.due ++ [r] }))) := by
  have due : [r].filter (fun q => decide (q.pn ≤ (s.unit u).pn)) = [r] := by simp [hr]
  have rest : [r].filter (fun q => decide ((s.unit u).pn < q.pn)) = [] := by simp [hr]
  refine unitStep_eq ((if_neg (bnot_ne_true hw)).trans ?_)
  dsimp only
  rw [hq, due, rest]
  exact if_pos hon

/-! Saturation time (R328). -/

/-- A threshold that counts, is reached and has not acted yet acts. -/
theorem threshold_acts {on acted : Bool} {t n : Nat} (hon : on = true) (ht : t ≠ 0) (hn : t ≤ n) (ha : acted = false) :
    (on && t != 0 && decide (t ≤ n) && !acted) = true := by
  simp only [hon, ha, bne_iff_ne.mpr ht, decide_eq_true hn, Bool.not_false, Bool.and_self]

/-! Envelope masks (R389). -/

/-- An armed mask counts an outside period that does not complete DWELL. -/
theorem maskNext_counts (hm : m.armed = true) (h : m.out + 1 < dwell) :
    maskNext m dwell true = ({ m with out := m.out + 1, inn := 0 }, false) :=
  (if_neg (fun v => absurd v.2 (Nat.not_le_of_lt h))).trans (if_neg (fun v => bnot_ne_true hm v.1))

/-- An armed mask is violated by the outside period that completes DWELL. -/
theorem maskNext_violated (hm : m.armed = true) (h : dwell ≤ m.out + 1) :
    maskNext m dwell true = ({ armed := false, out := 0, inn := 0 }, true) :=
  if_pos ⟨hm, h⟩

/-- A violated mask is armed again by the inside period that completes DWELL. -/
theorem maskNext_rearmed (hm : m.armed = false) (h : dwell ≤ m.inn + 1) :
    maskNext m dwell false = ({ armed := true, out := 0, inn := 0 }, false) :=
  (if_neg (fun v => ne_true_of_eq_false hm v.1)).trans (if_pos ⟨by rw [hm]; rfl, h⟩)

end

/-- Settles O10: each write, message and effect is told by the unit as it stands. -/
theorem loopRequests : Obligations.LoopRequests := by
  refine ⟨?enable, ?disable, ?swapReq, ?swapRx, ?swapRxRefused, ?refusalRx, ?swapEffect, ?move⟩
  case enable =>
    exact fun s u q c v h hoff hen hmay => unitStep_eq ((UnitSt.guard_allowed h).trans (UnitSt.chcfgWrite_enables hoff hen hmay))
  case disable =>
    exact fun s u q c v h hon hen hsame => unitStep_eq ((UnitSt.guard_allowed h).trans (UnitSt.chcfgWrite_disables hon hen hsame))
  case swapReq =>
    exact fun s u q v pn h hpn hc hup => unitStep_eq ((UnitSt.guard_allowed h).trans (UnitSt.swapWrite_accepted hpn hc hup))
  case swapRx => exact fun s u ch bank n pn hw hc => unitStep_eq ((if_neg (bnot_ne_true hw)).trans (if_pos hc))
  case swapRxRefused => exact fun s u ch bank n pn hw hc => unitStep_eq ((if_neg (bnot_ne_true hw)).trans (if_neg hc))
  case refusalRx => exact fun s u ch res h => unitStep_eq (if_pos h)
  case swapEffect => exact fun s u r hw hq hr hon => execSwapEffect_due hw hq hr hon
  case move => exact fun s u q v h hm => unitStep_eq ((UnitSt.guard_allowed h).trans (if_pos hm))

/-- Settles O11: each commit, threshold and mask is told by the unit and the mask as they stand. -/
theorem setpointsSaturationMasks : Obligations.SetpointsSaturationMasks := by
  refine ⟨?commitReq, ?commitRx, ?commitEffect, ?satWarn, ?satFault, ?masks, ?counts, ?violated, ?rearmed⟩
  case commitReq => exact fun s u q h hup => unitStep_eq ((UnitSt.guard_allowed h).trans (if_pos hup))
  case commitRx => exact fun s u pn vals hw => unitStep_eq (if_neg (bnot_ne_true hw))
  case commitEffect => exact fun s u hw => unitStep_eq (if_neg (bnot_ne_true hw))
  case satWarn => exact fun s u c hon ht hn ha => unitStep_eq (if_pos (threshold_acts hon ht hn ha))
  case satFault => exact fun s u c hon ht hn ha => unitStep_eq (if_pos (threshold_acts hon ht hn ha))
  case masks => exact fun s u h => unitStep_eq (if_pos h)
  case counts => exact fun m dwell hm _ h => maskNext_counts hm h
  case violated => exact fun m dwell hm h => maskNext_violated hm h
  case rearmed => exact fun m dwell hm h => maskNext_rearmed hm h

end Sys2Proof.Machine
end

section
/-! PROOFS. What an output, a clock, a stream and a sync do to the central inputs (O7, O8), and what a change of a trip input
does in Quiet and out of it (O9). -/
namespace Sys2Proof.Machine

section

variable {x : UnitSt} {n : Nat}

/-! Entry into fault (R356, R357). -/

/-- An input that was in no fault enters it: the reason, its bit, the error and the count show, and without FVAL a quiet NaN. -/
theorem UnitSt.inputFault_enters {bit err : Fld} (hon : (!(x.inp n).on || !x.works 0x30000) = false)
    (hcond : (x.inp n).cond = false) :
    x.inputFault n bit err =
      let y := ((((x.set bit 1 n).set MIN_CHSTAT.FLT 1 n).set MIN_FLT.FLT (x.fld MIN_FLT.FLT ||| (1 <<< n))).err err).inc
        MIN_CNT.FLTEV
      let y := y.onInp n (fun c => { c with cond := true })
      (if y.bit MIN_CHCFG.FVAL n then y else y.set MIN_CHRES.V 0x7FC00000 n).showInputs := by
  unfold UnitSt.inputFault
  simp only [hon, hcond, Bool.and_false, Bool.or_false, Bool.false_eq_true, if_false]

/-! Trip inputs (R361, R362). -/

variable {level : Bool} {t : Instant}

/-- MIN sees the change of a watched input outside Quiet. -/
theorem UnitSt.tripChange_seen {y : UnitSt} (hy : (x.tick t).set MIN_TRIPSTAT.LVL (putBit (x.fld MIN_TRIPSTAT.LVL) n level) = y)
    (hclass : ¬ y.tripClass n = 0) (hq : y.inQuiet = false) (hw : y.works 0x30000 = true) :
    x.tripChange n level t = y.tripSeen n level t := by
  subst hy
  exact (if_neg hclass).trans ((if_neg (ne_true_of_eq_false hq)).trans (if_pos hw))

/-- AON sees the change of a watched input in Quiet. -/
theorem UnitSt.tripChange_quiet {y : UnitSt} (hy : (x.tick t).set MIN_TRIPSTAT.LVL (putBit (x.fld MIN_TRIPSTAT.LVL) n level) = y)
    (hclass : ¬ y.tripClass n = 0) (hq : y.inQuiet = true) : x.tripChange n level t = y.tripQuiet n t := by
  subst hy
  exact (if_neg hclass).trans (if_pos hq)

end

/-- Settles O7: an output past settling of an input that shows no fault is delivered as measured; the delay and the end of a fault
are told by the unit as it stands. -/
theorem centralInputResults : Obligations.CentralInputResults := by
  refine ⟨?result, ?rtdNear, ?rtdFar, ?faultEnd⟩
  case result =>
    intro s u n sum hruns hsettled hflt
    have settled : decide (((s.unit u).inp n.val).idx + 1 ≤ ((s.unit u).inp n.val).order) = false :=
      decide_eq_false (Nat.not_le_of_lt hsettled)
    have noFault : ((s.unit u).tick (((s.unit u).inp n.val).nextEdge + (s.unit u).rtd n.val * (ns / 4) + 20 * ns)).bit
        MIN_CHSTAT.FLT n.val = false := hflt
    refine unitStep_eq ((if_neg (ne_true_of_eq_false hruns)).trans ?_)
    simp only [settled, noFault, Bool.false_and, Bool.or_false, Bool.false_eq_true, if_false]
    rfl
  case rtdNear =>
    exact fun s u n rtd h hmoved =>
      unitStep_eq ((if_neg (ne_true_of_eq_false h)).trans (if_neg (ne_true_of_eq_false hmoved)))
  case rtdFar =>
    exact fun s u n rtd h hmoved => unitStep_eq ((if_neg (ne_true_of_eq_false h)).trans (if_pos hmoved))
  case faultEnd => exact fun s u n t h => unitStep_eq (if_neg (ne_true_of_eq_false h))

/-- Settles O8: each fault, request and sync is told by the unit and the input as they stand. -/
theorem centralInputFaultsAndSync : Obligations.CentralInputFaultsAndSync := by
  refine ⟨?noclk, ?stuck, ?syncReq, ?syncRx, ?sync⟩
  case noclk =>
    exact fun s u n hsrc hmck hon hcond => unitStep_eq ((if_neg (by simp [hsrc, hmck])).trans (UnitSt.inputFault_enters hon hcond))
  case stuck => exact fun s u n hn hon hcond => unitStep_eq ((if_neg hn).trans (UnitSt.inputFault_enters hon hcond))
  case syncReq =>
    exact fun s u q t h hw hh => unitStep_eq ((UnitSt.guard_allowed h).trans
      ((if_neg (bnot_ne_true hw)).trans (if_neg (bnot_ne_true hh))))
  case syncRx => exact fun s u pn h => unitStep_eq (if_neg (ne_true_of_eq_false h))
  case sync => exact fun s u h => unitStep_eq (if_neg (ne_true_of_eq_false h))

/-- Settles O9: a watched change is seen by MIN outside Quiet and by AON in it. -/
theorem tripInputs : Obligations.TripInputs :=
  ⟨fun _ _ _ _ _ hclass hq hw => unitStep_eq (UnitSt.tripChange_seen rfl hclass hq hw),
    fun _ _ _ _ _ hclass hq => unitStep_eq (UnitSt.tripChange_quiet rfl hclass hq)⟩

end Sys2Proof.Machine
end

section
/-! PROOFS. What the commands of the host, the partner's trigger, the end of a period and the host ring do to Reel (O14). -/
namespace Sys2Proof.Machine

section

variable {s : State} {u : UnitId} {x : UnitSt}

/-- A START that no capture, ring or budget stands against is accepted: the capture begins at the next boundary (R379). -/
theorem UnitSt.reelStart_accepted (hcap : ¬ (x.fld REEL_STAT.CAP = 1 ∨ x.fld REEL_STAT.CAP = 2))
    (hring : ¬ x.fld REEL_RSIZE.SIZE = 0)
    (hplaced : ¬ (x.fld REEL_RSIZE.SIZE < 16 ∨ 2 ^ 20 < x.fld REEL_RSIZE.SIZE ∨ x.fld REEL_RBASE_LO.ADDR_LO % 4096 ≠ 0))
    (hfits : x.reelOver (x.fld TIM_PERIOD.T) = false) :
    x.reelStart = { x.set REEL_CMD.RES 1 with reel := { x.reel with start := true } } :=
  (if_neg hcap).trans ((if_neg hring).trans ((if_neg hplaced).trans (if_neg (ne_true_of_eq_false hfits))))

/-- The end of a captured period closes the set of its snapshot and takes the triggers (R371). -/
theorem execReelPeriodClose_captured {p : ReelSnap}
    (hruns : (!(s.unit u).works 0x31000 || !(s.unit u).tim.counting || (s.unit u).pn == 0) = false)
    (hsnap : (s.unit u).reel.snap = some p) (hown : ((s.unit u).capturing && p.pn + 1 == (s.unit u).pn) = true) :
    execReelPeriodClose u s = .next (s.onUnit u (fun x =>
      (fun y : UnitSt => ({ y with reel := { y.reel with snap := none, closed := y.pn - 1 } } : UnitSt).takeTriggers)
        (x.closeSet p))) := by
  refine unitStep_eq ((if_neg (ne_true_of_eq_false hruns)).trans ?_)
  simp only [hsnap, hown, if_true]

end

/-- Settles O14: each command is told by its guard and the capture as it stands, and a record that fits is written without a PAD. -/
theorem reelCommands : Obligations.ReelCommands := by
  refine ⟨?start, ?halt, ?mark, ?partner, ?periodClose, ?ringWrite⟩
  case start =>
    exact fun s u q h hcap hring hplaced hfits =>
      unitStep_eq ((UnitSt.guard_allowed h).trans (UnitSt.reelStart_accepted hcap hring hplaced hfits))
  case halt => exact fun s u q h hcap => unitStep_eq ((UnitSt.guard_allowed h).trans (if_pos hcap))
  case mark => exact fun s u q t h hcap => unitStep_eq ((UnitSt.guard_allowed h).trans (if_pos hcap))
  case partner => exact fun s u num qual frac fall time h => unitStep_eq (if_neg (ne_true_of_eq_false h))
  case periodClose => exact fun s u p hruns hsnap hown => execReelPeriodClose_captured hruns hsnap hown
  case ringWrite =>
    exact fun s u r rest h hhead hend hfree => unitStep_eq ((if_pos h).trans (UnitSt.ringWrite_fits hhead hend hfree))

end Sys2Proof.Machine
end

section
/-! PROOFS. What the lease takes from its partner (O15), what lanes and hand-overs do (O16, O19), and what the mirror record and a
resynchronisation do (O18). -/
namespace Sys2Proof.Machine

section

variable {s : State} {u : UnitId} {x : UnitSt}

/-! The record and a resynchronisation (R418, R421). -/

/-- A holder that streams a resynchronisation sends one block of it behind its record and the commit. -/
theorem UnitSt.mirrorSend_block {arm m blk : Nat} {data : Bytes} {rest : List (Nat × Nat × Bytes × Nat)} (hm : x.mirrors = true)
    (hrs : x.lse.rsTx = (arm, m, data, blk) :: rest) :
    x.mirrorSend =
      let seq := (x.lse.mirSeq + 1) % 2 ^ 32
      let r := x.mirrorRecord seq
      let y := (({ x with lse := { x.lse with mirSeq := seq } } : UnitSt).say (.mirror r)).say (.commit seq x.pn (leAt r 8188 4))
      let left := data.drop 4096
      ({ y with lse := { y.lse with rsTx := if left = [] then rest else (arm, m, left, blk + 1) :: rest } } : UnitSt).say
        (.resyncBlock arm m blk (data.take 4096)) := by
  simp only [UnitSt.mirrorSend, hm, Bool.not_true, Bool.false_eq_true, if_false, UnitSt.say, UnitSt.emit_lse, hrs]
  rfl

/-- The holder's record, COMMIT and block leave it, and its partner waits for the COMMIT. -/
theorem execMirrorSend_sends (hm : (s.unit u).mirrors = true) :
    execMirrorSend u s = .next ((s.onUnit u UnitSt.mirrorSend).onUnit u.other (fun y =>
      y.mirrorComes ((s.unit u).mirrorRecord (((s.unit u).lse.mirSeq + 1) % 2 ^ 32)))) := if_pos hm

/-- A step of a unit, known as it stands, before a step of its partner. -/
theorem onUnit_onUnit_congr {f g : UnitSt → UnitSt} {v : UnitId} {k : UnitSt → UnitSt} (h : f (s.unit u) = g (s.unit u)) :
    (s.onUnit u f).onUnit v k = (s.onUnit u g).onUnit v k := by
  simp only [State.onUnit, h]

end

/-- Settles O15: each message, judgement and evaluation is told by the unit and its partner as they stand. -/
theorem leaseEvidence : Obligations.LeaseEvidence := by
  refine ⟨?claim, ?quietEval, ?fence, ?send, ?sendAnnounce, ?rx, ?down⟩
  case claim => exact fun s u c hl h0 => unitStep_eq (UnitSt.claimLost_standby hl h0)
  case quietEval => exact fun s u pact h => unitStep_eq (if_pos h)
  case fence => exact fun s u h => unitStep_eq (if_neg (ne_true_of_eq_false h))
  case send =>
    intro s u hq ha
    exact unitStep_eq ((if_neg (ne_true_of_eq_false hq)).trans (by simp only [ha]; rfl))
  case sendAnnounce =>
    intro s u n hq ha
    exact unitStep_eq ((if_neg (ne_true_of_eq_false hq)).trans (by simp only [ha]; rfl))
  case rx =>
    intro s u m h
    exact unitStep_eq ((if_neg (ne_true_of_eq_false h)).trans (if_congr (and_congr_left' (Bool.not_eq_true' _).to_iff) rfl rfl))
  case down => exact fun s u h => unitStep_eq ((if_pos h).trans (UnitSt.splDown_up h.1))

/-- Settles O16: each retirement, move, request and answer is told by the unit as it stands. -/
theorem spliceLanesAndHandOver : Obligations.SpliceLanesAndHandOver := by
  refine ⟨?retire, ?move, ?moveLane, ?request, ?asked, ?acked⟩
  case retire =>
    intro s u n lost errs hq hbad hret
    refine unitStep_eq ((if_neg (ne_true_of_eq_false hq)).trans ?_)
    cases lost
    · exact (if_pos (of_decide_eq_true hbad)).trans (if_neg (ne_true_of_eq_false hret))
    · exact if_neg (ne_true_of_eq_false hret)
  case move => exact fun s u h => unitStep_eq (if_neg h)
  case moveLane =>
    intro x l n h
    simp only [UnitSt.moveLane, h]
  case request =>
    intro s u q v p h hv hp hh hr hpn
    subst hp
    refine unitStep_eq ((UnitSt.guard_allowed h).trans ((if_neg (bnot_ne_true hv)).trans ?_))
    rw [UnitSt.hovRequest_sent hh hr hpn]
  case asked => exact fun s u p hr hq => unitStep_eq (if_pos ⟨hr, by simp [hq]⟩)
  case acked => exact fun s u p hm hp ha hh ht => unitStep_eq (if_pos ⟨hm, hp, by simp [ha], hh, ht⟩)

/-- Settles O18: what the holder sends is told by the unit as it stands, and its partner waits for the COMMIT. -/
theorem mirrorAndResync : Obligations.MirrorAndResync := by
  refine ⟨?record, ?block, ?commit, ?request, ?blockFirst, ?blockNext, ?apply⟩
  case record =>
    intro s u hm hrs
    exact (execMirrorSend_sends hm).trans (congrArg _ (onUnit_onUnit_congr (UnitSt.mirrorSend_record hm hrs)))
  case block =>
    intro s u arm m blk data rest hm hrs
    exact (execMirrorSend_sends hm).trans (congrArg _ (onUnit_onUnit_congr (UnitSt.mirrorSend_block hm hrs)))
  case commit => exact fun s u record seq pn crc h => unitStep_eq (if_neg (ne_true_of_eq_false h))
  case request => exact fun s u arm h => unitStep_eq (if_neg (ne_true_of_eq_false h))
  case blockFirst => exact fun s u arm m data h => unitStep_eq ((if_neg (ne_true_of_eq_false h)).trans (if_pos rfl))
  case blockNext => exact fun s u arm m blk data h hb => unitStep_eq ((if_neg (ne_true_of_eq_false h)).trans (if_neg hb))
  case apply =>
    intro s u arm rx hf h
    exact unitStep_eq (by dsimp only; rw [hf]; exact if_neg h)

/-- Settles O19: the hand-over that stands decides what its deadline and its switch do. -/
theorem handOverEnd : Obligations.HandOverEnd := by
  refine ⟨?refused, ?blocks, ?gives, ?takes⟩
  case refused => exact fun s u p hp h he => unitStep_eq (by simp only [hp, h, he, and_self, if_true])
  case blocks => exact fun s u p n hp h he => unitStep_eq (by simp only [hp, h, he, and_self, if_true])
  case gives =>
    intro s u p hp ha hpn hm hh
    exact unitStep_eq (g := UnitSt.hovGive) (by
      simp only [hp, ha, hpn, hm, hh, Bool.not_true, Bool.false_eq_true, ne_eq, not_true, or_self, if_true, if_false])
  case takes =>
    intro s u p hp ha hpn hm h0
    exact unitStep_eq (g := UnitSt.hovTake) (by
      simp only [hp, ha, hpn, hm, h0, Bool.not_true, Bool.false_eq_true, ne_eq, not_true, or_self, if_true, if_false])

end Sys2Proof.Machine
end

section
/-! PROOFS. What a submission to Headbox, a timed release, missing replies, time-outs, a completion read and a flush do (O17). -/
namespace Sys2Proof.Machine

section

variable {x : UnitSt} {port : Nat} {d : Desc}

/-- An accepted transaction takes an ID and waits in its queue or the delay list; one for a cell that has been reset ends at once. -/
theorem UnitSt.submit_accepted (h : x.submitCode port d = 0) :
    x.submit port d = (0, (x.hbxId port).1,
      let y := (x.hbxId port).2
      let t : Txn := {
        id := (x.hbxId port).1, desc := d, subAt := y.now, strands := y.descStrands d,
        parts := (y.descCells d (y.descStrands d)).map (fun k => (k, PartSt.unsent)) }
      let z := if d.timed then { y with hbx := { y.hbx with delay := delayInsert (y.now / us) t y.hbx.delay } } else y.enqueue t
      if z.forGone t then z.hbxFinish t stGone 0 else z.hbxShow port d) := if_pos h

/-- An empty transaction completes at once. -/
theorem UnitSt.submit_empty (h : x.submitCode port d = 1) :
    x.submit port d = (1, (x.hbxId port).1, (x.hbxId port).2.hbxFinish { id := (x.hbxId port).1, desc := d } 1 0) :=
  (if_neg (by rw [h]; decide)).trans (if_pos h)

/-- A refused transaction is counted, and its port hears of it. -/
theorem UnitSt.submit_refused (h0 : x.submitCode port d ≠ 0) (h1 : x.submitCode port d ≠ 1) :
    x.submit port d = (x.submitCode port d, 0, let y := (x.inc HBX_CNT1.REFUSE).err HBX_ERR.REFUSE
      if port < 6 then y.evtBit 0x20000 (8 + port) else y) :=
  (if_neg h0).trans (if_neg h1)

end

/-- Settles O17: each command is told by its guard, its queues and the code of its submission. -/
theorem headboxSubmission : Obligations.HeadboxSubmission := by
  refine ⟨?submit, ?accepted, ?empty, ?refused, ?release, ?fenced, ?missing, ?timeout, ?readNone, ?read, ?flush⟩
  case submit => exact fun s u q port v h => unitStep_eq (UnitSt.guard_allowed h)
  case accepted => exact fun x port d h => UnitSt.submit_accepted h
  case empty => exact fun x port d h => UnitSt.submit_empty h
  case refused => exact fun x port d h0 h1 => UnitSt.submit_refused h0 h1
  case release =>
    intro s u t d hf hd hdue hroom hw
    refine unitStep_eq ?_
    simp only [hf, hw, Bool.false_eq_true, if_true, if_false]
    exact UnitSt.hbxRelease_one hd hdue hroom
  case fenced =>
    intro s u t hf hw
    exact unitStep_eq (by simp only [hf, hw, Bool.false_eq_true, if_true, if_false])
  case missing => exact fun s u h => unitStep_eq (if_pos h)
  case timeout => exact fun s u hm h => unitStep_eq ((if_pos h).trans (if_neg hm))
  case readNone =>
    exact fun s u q port h he => unitStep_eq ((UnitSt.guardRead_allowed h).trans (by simp only [UnitSt.cplRead, he]))
  case read =>
    exact fun s u q port c l h he => unitStep_eq ((UnitSt.guardRead_allowed h).trans (by simp only [UnitSt.cplRead, he]))
  case flush => exact fun s u q v h => unitStep_eq (UnitSt.guard_allowed h)

end Sys2Proof.Machine
end

section
/-! PROOFS. What PF1's session, the PCIe link and the mailboxes do (O20 to O22). -/
namespace Sys2Proof.Machine

section

variable {x : UnitSt} {k : UnitSt → UnitSt} {ch : Nat} {v : Word} {q : Requester}

/-! Sessions (R468 to R471). -/

/-- A command of PF1 that is allowed acts while no OPEN is verified. -/
theorem UnitSt.sessCmd_pf1 (h : x.allowed .pf1 true 0x10054 = true) (ho : x.host.opening.isNone = true) : x.sessCmd .pf1 k = k x :=
  (UnitSt.guard_allowed h).trans (if_pos ⟨rfl, ho⟩)

/-- An OPEN of PF1 in CHALLENGED with a challenge not used up and a key in its slot begins to be verified. -/
theorem UnitSt.sessOpen_starts {key : Nat} (hst : ¬ (x.fld PCIE_SESSSTAT.STATE ≠ 1 ∨ x.host.spent = true))
    (hkey : ¬ sget (fun _ => []) x.conf.mkeys key = []) :
    x.sessOpen key = (fun y : UnitSt => { y with host := { y.host with opening := some key } })
      (({ x with host := { x.host with spent := true } } : UnitSt).set PCIE_SESSCMD.RES 2) :=
  (if_neg hst).trans (if_neg hkey)

/-! Mailboxes (R481 to R483, R489). -/

/-- A post of 1 to 56 bytes into a slot that is not FULL is stored, and marks the slot FULL. -/
theorem UnitSt.post_stored (h0 : v.toNat % 64 ≠ 0) (h56 : v.toNat % 64 ≤ 56)
    (hfull : bitAt (x.fld (if (q.fn?).isSome then MBX_H2FFULL.FULL else MBX_F2HFULL.FULL)) ch = false) :
    x.post q ch v =
      let full := if (q.fn?).isSome then MBX_H2FFULL.FULL else MBX_F2HFULL.FULL
      let y := if (q.fn?).isSome then
          ((x.set MBXH_CTRL.TAG (v.toNat / 65536) ch).set MBXH_CTRL.LEN (v.toNat % 64) ch).set MBXH_EPOCH.EPOCH
            (x.fld MBX_HEPOCH.EPOCH (chanFn ch)) ch
        else
          ((x.set MBXF_CTRL.TAG (v.toNat / 65536) ch).set MBXF_CTRL.LEN (v.toNat % 64) ch).set MBXF_EPOCH.EPOCH
            (x.fld MBX_FEPOCH.EPOCH) ch
      let y := (y.set full (orBit (y.fld full) ch)).showStale
      (y.evt (if (q.fn?).isSome then MBX_EVT.HPOST else MBX_EVT.FPOST) (chanFn ch)).onReq q (fun r => { r with res := 1 }) :=
  (if_neg h0).trans ((if_neg (ne_true_of_eq_false hfull)).trans (if_neg (not_lt.mpr h56)))

/-- A core's read of the EPOCH of a FULL slot clears FULL. -/
theorem UnitSt.readEpoch_core {n : Fin 4} (hfull : bitAt (x.fld MBX_H2FFULL.FULL) ch = true) :
    x.readEpoch (.core n) ch =
      let y := x.answer (.core n) (BitVec.ofNat 32 (x.fld MBXH_EPOCH.EPOCH ch))
      let y := (y.set MBX_H2FFULL.FULL (y.fld MBX_H2FFULL.FULL ^^^ (1 <<< ch))).showStale
      let y : UnitSt := { y with host := { y.host with aged := y.host.aged.filter (· != ch + 0) } }
      y.evt MBX_EVT.HREAD (chanFn ch) := if_pos hfull

end

/-- Settles O20: each command is told by the state of the session. -/
theorem sessionCommands : Obligations.SessionCommands := by
  refine ⟨?chal, ?opens, ?close, ?openDone, ?chalTimeout, ?idle, ?lockoutEnd, ?ended⟩
  case chal => exact fun s u h ho hst => unitStep_eq ((UnitSt.sessCmd_pf1 h ho).trans (if_pos hst))
  case opens => exact fun s u key h ho hst hkey => unitStep_eq ((UnitSt.sessCmd_pf1 h ho).trans (UnitSt.sessOpen_starts hst hkey))
  case close => exact fun s u h ho hst => unitStep_eq ((UnitSt.sessCmd_pf1 h ho).trans (if_pos hst))
  case openDone =>
    intro s u key h
    refine unitStep_eq ?_
    beta_reduce
    rw [h]
    rfl
  case chalTimeout => exact fun s u h => unitStep_eq (if_pos h)
  case idle => exact fun s u h => unitStep_eq (if_pos h)
  case lockoutEnd => exact fun s u h => unitStep_eq (if_pos h)
  case ended => exact fun x => rfl

/-- Settles O21: each event of the link and its functions is told by the unit as it stands. -/
theorem pcieLinkEvents : Obligations.PcieLinkEvents := by
  refine ⟨?flr0, ?flr1Open, ?flr1, ?bme, ?down, ?up, ?published, ?pin1, ?pin0⟩
  case flr0 => exact fun s u => rfl
  case flr1Open => exact fun s u h => unitStep_eq (if_pos h)
  case flr1 => exact fun s u h => unitStep_eq (if_neg h)
  case bme => exact fun s u => rfl
  case down => exact fun s u => rfl
  case up => exact fun s u width speed bme => rfl
  case published =>
    intro s u b h
    exact unitStep_eq (by simp only [UnitSt.reamDone, h])
  case pin1 =>
    intro s u q v h hq
    subst hq
    exact unitStep_eq (UnitSt.guard_allowed h)
  case pin0 =>
    intro s u q v h hq
    subst hq
    exact unitStep_eq (UnitSt.guard_allowed h)

/-- Settles O22: each post, read, doorbell and re-arm is told by its guard and by whose side the requester is on. -/
theorem mailboxesAndDoorbells : Obligations.MailboxesAndDoorbells := by
  refine ⟨?hostPost, ?corePost, ?read, ?hepinc, ?age, ?doorbell, ?mask, ?rearm⟩
  case hostPost =>
    intro s u q ch v h hq h0 h56 hfull
    refine unitStep_eq ((UnitSt.guard_allowed h).trans ((UnitSt.post_stored h0 h56 (by rwa [if_pos hq])).trans ?_))
    simp only [hq, if_true]
    rfl
  case corePost =>
    intro s u q ch v h hq h0 h56 hfull
    refine unitStep_eq ((UnitSt.guard_allowed h).trans
      ((UnitSt.post_stored h0 h56 (by rwa [if_neg (ne_true_of_eq_false hq)])).trans ?_))
    simp only [hq, Bool.false_eq_true, if_false]
    rfl
  case read => exact fun s u k ch h hfull => unitStep_eq ((UnitSt.guardRead_allowed h).trans (UnitSt.readEpoch_core hfull))
  case hepinc =>
    intro s u q v f h hf hv
    exact unitStep_eq ((UnitSt.guard_allowed h).trans (by simp only [UnitSt.hepincWrite, hf, hv, if_true]))
  case age => exact fun s u h2f ch h => unitStep_eq (if_pos h)
  case doorbell =>
    intro s u q f v h hq
    refine unitStep_eq ((UnitSt.guard_allowed h).trans ?_)
    simp only [hq]
    rfl
  case mask => exact fun s u q h2f f v h hq => unitStep_eq ((UnitSt.guard_allowed h).trans (if_pos hq))
  case rearm =>
    intro s u q hi v f h hf
    exact unitStep_eq ((UnitSt.guard_allowed h).trans (by simp only [UnitSt.rearm, hf]))

end Sys2Proof.Machine
end

section
/-! PROOFS. What received frames, streams, GOOSE and the launch queues of the station ports do (O23 to O25). -/
namespace Sys2Proof.Machine

section

variable {s : State} {u : UnitId} {x : UnitSt} {p : Nat} {bs : Bytes} {t : Instant}

/-! Received frames (R498, R500). -/

/-- An enabled port counts a frame with a wrong FCS. -/
theorem UnitSt.netTake_badFcs (hen : x.netEn p = true) : x.netTake p bs false t = x.inc NET_CNT.FCS p :=
  (if_neg (bnot_ne_true hen)).trans (if_pos rfl)

/-- An enabled port drops a frame that is too short or too long. -/
theorem UnitSt.netTake_badLength (hen : x.netEn p = true) (hlen : bs.length < 64 ∨ 1522 < bs.length) :
    x.netTake p bs true t = x.inc NET_CNT.DROP p :=
  (if_neg (bnot_ne_true hen)).trans ((if_neg (by decide)).trans (if_pos hlen))

/-- An enabled port places a frame to the unit or to all stations in the ring. -/
theorem UnitSt.netTake_ring (hen : x.netEn p = true) (hlen : ¬ (bs.length < 64 ∨ 1522 < bs.length))
    (hsort : x.netSort (untag bs) = 3) : x.netTake p bs true t = x.netRingPut p (untag bs) (x.rxStamp p t) := by
  refine (if_neg (bnot_ne_true hen)).trans ((if_neg (by decide)).trans ((if_neg hlen).trans ?_))
  simp only [hsort]

/-! GOOSE (R516, R518 to R520). -/

/-- The first message of a subscription that is not valid is taken as new. -/
theorem UnitSt.gsTake_first {n st sq tal : Nat} {data : List (Option Bool)} {frame : Bytes}
    (hv : x.bit NET_GSSTAT.VALID n = false) :
    x.gsTake n st sq tal data frame t =
      let y := ((x.setGs n ⟨st, sq, t + tal * 1000 * us⟩).set NET_GSSTAT.VALID 1 n).set NET_GSSTAT.TALX 0 n
      let z := ((y.netSram (fun z => z.sramPut (z.fld NET_GSBASE.BASE + 1536 * n) (frame.take 1536))).set NET_GSSTN.STNUM st n).evt
        NET_EVT.GNEW
      if z.fld NET_GSCFG.FPOS n < 255 then z.setFast n ((data.getD (z.fld NET_GSCFG.FPOS n) none).getD (z.bit NET_GSCFG.FDEF n))
      else z := by
  simp only [UnitSt.gsTake, hv, Bool.not_false, Bool.true_or, Bool.not_true, Bool.false_eq_true, if_false, if_true]

/-- A new state of an enabled publication that may be sent is sent, with its next copy due T1 later. -/
theorem UnitSt.gpStart_sends {n : Nat} {y : UnitSt} (hen : x.bit NET_GPCFG.EN n = true)
    (hy : (fun z : UnitSt => z.set NET_GPSTN.STNUM ((z.fld NET_GPSTN.STNUM n + 1) % 2 ^ 32) n) (x.gpStop n) = y)
    (hmay : y.gpMay n = true) :
    x.gpStart n t =
      (y.setGp n (some ⟨1, t + y.fld NET_GPCFG.T1 n * 1000 * us, y.fld NET_GPCFG.T1 n, t, false⟩)).gpSend n 0 t := by
  subst hy
  exact (if_neg (bnot_ne_true hen)).trans (if_neg (bnot_ne_true hmay))

/-! Launch queues (R521 to R523). -/

/-- An access to the SRAM is carried out while both its islands run. -/
theorem UnitSt.netSram_on {k : UnitSt → UnitSt} (h0 : x.islandOn .mem0 = true) (h1 : x.islandOn .mem1 = true) :
    x.netSram k = k x := if_pos (by rw [h0, h1]; rfl)

variable {i : TxItem} {l : List TxItem}

/-- What the leaving of frame `i` does at port `p`. -/
def UnitSt.txLeave (x : UnitSt) (p : Nat) (t : Instant) (i : TxItem) : UnitSt :=
  (fun y : UnitSt => y.emit (.net p (y.netTag p i.bytes)))
    ((x.setTx p ((x.txQueue p).filter (fun j => j.id != i.id))).setBusy p (some (i, x.txStamp p t)))

/-- On a free port the first scheduled frame leaves when it is due. -/
theorem UnitSt.txLaunch_due (hfree : x.netFree p = true)
    (hdue : (firstTimed (x.txQueue p)).filter (fun j => decide (j.at_ * ns ≤ t)) = some i) : x.txLaunch p t = x.txLeave p t i := by
  refine (if_neg (bnot_ne_true hfree)).trans ?_
  simp only [hdue]
  rfl

/-- On a free port without a frame that is due, and without one of the unit's own, the head of the queue leaves when it may. -/
theorem UnitSt.txLaunch_head (hfree : x.netFree p = true)
    (hdue : (firstTimed (x.txQueue p)).filter (fun j => decide (j.at_ * ns ≤ t)) = none)
    (hown : (x.netWait p).filter x.jobMay = []) (hq : x.txQueue p = i :: l) (hat : i.at_ = 0)
    (hmay : x.netMay p i.bytes.length t = true) : x.txLaunch p t = x.txLeave p t i := by
  refine (if_neg (bnot_ne_true hfree)).trans ?_
  simp only [hdue, hown]
  simp only [hq]
  rw [if_pos ⟨hat, hmay⟩, UnitSt.txLeave, hq]

/-- The end of a submitted frame that was not scheduled frees the port and completes the frame. -/
theorem UnitSt.txEnd_submitted {stamp : Instant} (hbusy : x.netBusy p = some (i, stamp)) (hat : i.at_ = 0) (hid : i.id ≠ 0) :
    x.txEnd p t = (x.setBusy p none).txDone i.id (b2n i.late) (stamp / ns) := by
  simp only [UnitSt.txEnd, hbusy, hat, hid, if_true, if_false]

end

/-- Settles O23: a frame is told by its port, its length, its FCS and where it belongs. -/
theorem stationFrames : Obligations.StationFrames := by
  refine ⟨?badFcs, ?badLength, ?ring, ?ringFull, ?ringPut, ?sv, ?svLate, ?goose⟩
  case badFcs =>
    intro s u p bs fcs t hen hf
    subst hf
    exact unitStep_eq (congrArg (UnitSt.tick · t) (UnitSt.netTake_badFcs hen))
  case badLength =>
    intro s u p bs fcs t hen hf hlen
    subst hf
    exact unitStep_eq (congrArg (UnitSt.tick · t) (UnitSt.netTake_badLength hen hlen))
  case ring =>
    intro s u p bs fcs t hen hf hlen hsort
    subst hf
    exact unitStep_eq (congrArg (UnitSt.tick · t) (UnitSt.netTake_ring hen hlen hsort))
  case ringFull => exact fun x p bs t h => if_pos h
  case ringPut => exact fun x p bs t h => if_neg (ne_true_of_eq_false h)
  case sv =>
    intro s u p macl appid cnt sy vals t n hen hof
    refine unitStep_eq ((if_neg (bnot_ne_true hen)).trans ?_)
    simp only [hof, List.foldl_cons, List.foldl_nil]
  case svLate => exact fun x n cnt sy vals t h => if_pos h
  case goose =>
    intro s u p macl appid st sq tal data frame t n hen hof
    refine unitStep_eq ((if_neg (bnot_ne_true hen)).trans ?_)
    simp only [hof, List.foldl_cons, List.foldl_nil]

/-- Settles O24: each timed event is told by its stream, subscription or publication. -/
theorem gooseAndStreamTimes : Obligations.GooseAndStreamTimes := by
  refine ⟨?fault, ?expire, ?first, ?newState, ?copy⟩
  case fault => exact fun s u n t h => unitStep_eq (if_pos h)
  case expire => exact fun s u n t h => unitStep_eq (if_pos h)
  case first =>
    intro x n st sq tal data frame t hv
    have ms : tal * 1000 * us = tal * 65536000000 := Nat.mul_assoc ..
    rw [UnitSt.gsTake_first hv, ms]
  case newState =>
    intro s u q v t h hen hmay
    exact unitStep_eq ((UnitSt.guard_allowed h).trans (UnitSt.gpStart_sends hen rfl hmay))
  case copy =>
    intro s u n t g hg h
    refine unitStep_eq ?_
    simp only [hg, if_pos h]

/-- Settles O25: what leaves a port, and what completes, is told by its queues. -/
theorem launchQueues : Obligations.LaunchQueues := by
  refine ⟨?submit, ?due, ?head, ?complete, ?read⟩
  case submit => exact fun s u q v h h0 h1 => unitStep_eq ((UnitSt.guard_allowed h).trans (UnitSt.netSram_on h0 h1))
  case due =>
    intro s u p t i hfree hdue
    exact unitStep_eq (congrArg (UnitSt.tick · t) (UnitSt.txLaunch_due hfree hdue))
  case head =>
    intro s u p t i l hfree hdue hown hq hat hmay
    refine unitStep_eq (congrArg (UnitSt.tick · t) ((UnitSt.txLaunch_head hfree hdue hown hq hat hmay).trans ?_))
    rw [UnitSt.txLeave, hq]
  case complete =>
    intro s u p t i stamp hbusy hat hid
    exact unitStep_eq (congrArg (UnitSt.tick · t) (UnitSt.txEnd_submitted hbusy hat hid))
  case read =>
    intro s u q id st stamp l h hcpl
    exact unitStep_eq ((UnitSt.guardRead_allowed h).trans (by simp only [UnitSt.txCplRead, hcpl]))

end Sys2Proof.Machine
end

section
/-! PROOFS. What the messages of PTP, path delay exchanges, 1PPS and a station link do (O26, O27). -/
namespace Sys2Proof.Machine

/-- Settles O26: each message and time-out is told by its port and the selected master. -/
theorem ptpMessages : Obligations.PtpMessages := by
  refine ⟨?announce, ?announceTimeout, ?sync, ?followUp, ?offset, ?syncTimeout⟩
  case announce => exact fun s u p domain src gm p1 cls acc var p2 steps t h => unitStep_eq (if_pos h)
  case announceTimeout => exact fun s u p t h => unitStep_eq (if_pos h)
  case sync => exact fun s u p domain src seq t1 corr two t h => unitStep_eq (if_pos h)
  case followUp =>
    intro s u p domain src seq t1 corr t t2 c hsync h
    exact unitStep_eq (by simp only [hsync, if_pos h])
  case offset => exact fun x p t2 t1 corr => rfl
  case syncTimeout => exact fun s u t h => unitStep_eq (if_pos h)

/-- Settles O27: each exchange, edge and change is told by its port as it stands. -/
theorem pathDelayPpsAndLinks : Obligations.PathDelayPpsAndLinks := by
  refine ⟨?reqSend, ?reqRx, ?respRx, ?ppsOut, ?ppsIn, ?link⟩
  case reqSend => exact fun s u p t h => unitStep_eq (if_neg (bnot_ne_true h))
  case reqRx => exact fun s u p seq src t h => unitStep_eq (if_neg (bnot_ne_true h))
  case respRx =>
    intro s u p seq turn t t1 hreq h
    exact unitStep_eq (by simp only [hreq, if_pos h])
  case ppsOut => exact fun s u t h => unitStep_eq (if_pos h)
  case ppsIn => exact fun s u t h => unitStep_eq (if_pos h)
  case link =>
    intro s u p up hw hup hchg
    refine unitStep_eq ((if_neg ?_).trans ?_)
    · simp only [hw, hup, hchg, Bool.not_true, Bool.or_self, Bool.false_eq_true, not_false_eq_true]
    · cases up <;> rfl

end Sys2Proof.Machine
end

section
/-! PROOFS. What accesses by address do (O34), whom the guard turns away (O51, O52), how pairs are read (O55) and what a write leaves
of a word (O56). -/
namespace Sys2Proof.Machine

section

variable {x : UnitSt} {q : Requester} {a : Nat} {v : Word} {t : Instant}

/-! Reads by address (R606). -/

/-- A read by a requester that is not allowed answers 0 and leaves what the guard leaves of it. -/
theorem UnitSt.guardRead_refused {k : UnitSt → UnitSt} (h : x.allowed q false a = false) :
    x.guardRead q a k = (x.guard q false a (fun x => x)).answer q 0 := by
  simp only [UnitSt.guardRead, h, Bool.false_eq_true, if_false]

/-- Only an access that is not denied can be allowed. -/
theorem UnitSt.allowed_denied {w : Bool} (h : x.denied q w a = true) : x.allowed q w a = false := by
  simp only [UnitSt.allowed, h, Bool.not_true, Bool.false_and]

/-- A denied read answers 0 and leaves DENY and a count. -/
theorem UnitSt.guardRead_denied {k : UnitSt → UnitSt} (h : x.denied q false a = true) :
    x.guardRead q a k = x.deny.answer q 0 := by
  rw [UnitSt.guardRead_refused (UnitSt.allowed_denied h), UnitSt.guard_denied h]

/-- A read of a low word answers the live word and latches the others of its group. -/
theorem UnitSt.busRead_low {rest : List Nat} (h : groupOf unitPairs a = some rest) : x.busRead q a = x.onReq q (fun r =>
    { r with rdata := x.liveWord q a, latch := rest.map (fun o => (o, x.liveWord q o)) }) := by
  simp only [UnitSt.busRead, h]

/-- A read of a latched word answers the latch, which gives it up. -/
theorem UnitSt.busRead_latched {e : Nat × Word} (hg : groupOf unitPairs a = none)
    (hl : (x.req q).latch.find? (fun e => e.1 == a) = some e) :
    x.busRead q a = x.onReq q (fun r => { r with rdata := e.2, latch := r.latch.filter (fun e => e.1 != a) }) := by
  simp only [UnitSt.busRead, hg, hl]

/-! Writes by address (R604, R607). -/

/-- A function's write to its BAR 2 is denied. -/
theorem UnitSt.writeAt_bar2 (hb : inBar q a = true) (h2 : a / 2 ^ 24 = 2) : x.writeAt q a v t = x.deny :=
  (if_pos hb).trans (if_pos h2)

/-- An access at an address in no page, where it is not denied, is out of range. -/
theorem UnitSt.guard_unmapped {w : Bool} {k : UnitSt → UnitSt} (hd : x.denied q w a = false)
    (hp : (pageOf unitPages a).isNone = true) : x.guard q w a k = x.err GEN_ERR.RANGE :=
  (if_neg (ne_true_of_eq_false hd)).trans (if_pos hp)

/-- A write that does not cover an aligned word reaches no register. -/
theorem execRegWrite_unit_part {s : State} {u : UnitId} {b : BitVec 32} {be : BitVec 4} (h : ¬ (be = 0xF ∧ b.toNat % 4 = 0)) :
    execRegWrite (.unit u q) b v be t s =
      unitStep s u (fun x => if (q.fn?).isSome && x.islandOn .host then x.err PCIE_ERR.RANGE else x) := if_neg h

/-- A high word commits with the low word held for it. -/
theorem UnitSt.busWrite_eq : x.busWrite q a v t =
    if lowWord unitPairs a then x.writeLow q a v
    else if highWord unitPairs a then
      match (x.takeHold q a).1 with
      | some w => ((x.takeHold q a).2.regWrite q (a - 4) w t).regWrite q a v t
      | none => (x.takeHold q a).2.regWrite q a v t
    else x.regWrite q a v t := by
  unfold UnitSt.busWrite
  generalize x.takeHold q a = held
  obtain ⟨low, y⟩ := held
  cases low <;> rfl

/-! PF0 under PF0RO (R464). -/

/-- What PF0RO leaves PF0 to write, as R464 lists it. -/
theorem pf0roExempt_iff : pf0roExempt a = true ↔
    (0x12100 ≤ a ∧ a < 0x12500) ∨ (0x11080 ≤ a ∧ a < 0x11098) ∨ a = MBX_HEPINC.INC.addr 0 ∨ a = PCIE_REAMPIN.PIN0.addr 0 ∨
      a = PCIE_VACK_LO.VLO.addr 0 ∨ a = PCIE_VACK_HI.VHI.addr 0 ∨ a = REEL_RPTR.RPTR.addr 0 ∨ a = REEL_CMD.OP.addr 0 ∨
      (0x20300 ≤ a ∧ a < 0x20340) := by
  have hdb : (doorbellFn a == some 0) = true ↔ 0x11080 ≤ a ∧ a < 0x11098 := by
    rw [beq_iff_eq, doorbellFn]
    split_ifs with h0 h1 <;> simp [h0]
  have haddr : MBX_HEPINC.INC.addr 0 = 0x1104C ∧ PCIE_REAMPIN.PIN0.addr 0 = 0x1004C ∧ PCIE_VACK_LO.VLO.addr 0 = 0x100E0 ∧
      PCIE_VACK_HI.VHI.addr 0 = 0x100E4 ∧ REEL_RPTR.RPTR.addr 0 = 0x310B4 ∧ REEL_CMD.OP.addr 0 = 0x310C0 := by decide
  obtain ⟨e1, e2, e3, e4, e5, e6⟩ := haddr
  rw [e1, e2, e3, e4, e5, e6]
  simp only [pf0roExempt, Bool.or_eq_true, Bool.and_eq_true, decide_eq_true_eq, hdb, List.contains_iff_mem, List.mem_cons,
    List.not_mem_nil, or_false, or_assoc]

/-- A write of PF0 at a register that R464 does not list is denied while PF0RO is 1. -/
theorem UnitSt.denied_pf0ro (hro : x.bit PCIE_ACC.PF0RO = true) (he : pf0roExempt a = false) : x.denied .pf0 true a = true := by
  simp only [UnitSt.denied, hro, he, Bool.not_false, Bool.and_self, ite_self]

/-- The registers that R464 lists, by address. -/
theorem pf0roExempt_addr (he : pf0roExempt a = true) :
    (0x12100 ≤ a ∧ a < 0x12500) ∨ (0x11080 ≤ a ∧ a < 0x11098) ∨ a = 0x1104C ∨ a = 0x1004C ∨ a = 0x100E0 ∨ a = 0x100E4 ∨
      a = 0x310B4 ∨ a = 0x310C0 ∨ (0x20300 ≤ a ∧ a < 0x20340) := pf0roExempt_iff.mp he

/-- Of the slots R464 lists channels 0 to 15 of MBXH alone. -/
theorem slotChannel_exempt (he : pf0roExempt a = true) : slotChannel a = none ∨ ∃ c, slotChannel a = some c ∧ ¬ 16 ≤ c := by
  have ha := pf0roExempt_addr he
  unfold slotChannel
  split_ifs with h
  · exact .inr ⟨_, rfl, by omega⟩
  · exact .inl rfl

/-- Of the doorbells R464 lists those of PF0 alone. -/
theorem doorbellFn_exempt (he : pf0roExempt a = true) : ¬ doorbellFn a = some 1 := by
  have ha := pf0roExempt_addr he
  unfold doorbellFn
  split_ifs with h0 h1
  · simp
  · omega
  · simp

/-- A write of PF0 at a register that R464 lists falls under none of the other rules that deny it. -/
theorem UnitSt.denied_pf0_exempt (he : pf0roExempt a = true) : x.denied .pf0 true a = false := by
  have ha := pf0roExempt_addr he
  have hsess : sessionReg a = false := by
    simp only [sessionReg, Bool.or_eq_false_iff, beq_eq_false_iff_ne, Bool.and_eq_false_iff, decide_eq_false_iff_not]
    omega
  have hsec : ¬ (0x5000 ≤ a ∧ a < 0x9000) := by omega
  have hpf1 : ¬ (a = 0x10044 ∨ a = 0x1005C ∨ (0x10400 ≤ a ∧ a < 0x10800)) := by omega
  have hport : ¬ (0x20340 ≤ a ∧ a < 0x20380) := by omega
  have hdb := doorbellFn_exempt he
  obtain hs | ⟨c, hs, hc⟩ := slotChannel_exempt he
  · simp only [UnitSt.denied, hsess, hsec, hpf1, hs, hdb, hport, he, Bool.not_true, Bool.and_false, Bool.false_eq_true, if_false]
  · simp only [UnitSt.denied, hsess, hsec, hpf1, hs, hdb, hport, he, hc, Bool.not_true, Bool.and_false, Bool.false_eq_true,
      decide_false, if_false]

/-! Writes by the access codes (R604). -/

theorem getLsbD_ofNat_32 {n j : Nat} (hj : j < 32) : (BitVec.ofNat 32 n).getLsbD j = n.testBit j := by
  simp only [BitVec.getLsbD_ofNat, hj, decide_true, Bool.true_and]

/-- No bit is of both masks of a word. -/
theorem testBit_of_disjoint {set clear j : Nat} (hd : (set &&& clear) % 2 ^ 32 = 0) (hj : j < 32) (hs : set.testBit j = true) :
    clear.testBit j = false := by
  have h : ((set &&& clear) % 2 ^ 32).testBit j = false := by rw [hd, Nat.zero_testBit]
  simpa only [Nat.testBit_mod_two_pow, hj, decide_true, Bool.true_and, Nat.testBit_and, hs] using h

end

/-- Settles O34: each access is told by the definition of its side of the bus. -/
theorem registerAccesses : Obligations.RegisterAccesses := by
  refine ⟨?lowRead, ?lowReadCell, ?highRead, ?highReadCell, ?readAt, ?writeAt, ?busReadLow, ?busReadLatched, ?lowWrite, ?lowWriteCell,
    ?highWrite, ?highWriteCell, ?busWrite, ?regWrite, ?regWriteCell, ?regWritePart, ?flashprog⟩
  case lowRead => exact fun s u q a => rfl
  case lowReadCell => exact fun s c r a => rfl
  case highRead => exact fun s u q a => rfl
  case highReadCell => exact fun s c r a => rfl
  case readAt => exact fun x q a => rfl
  case writeAt => exact fun x q a v t => rfl
  case busReadLow => exact fun x q a rest h => UnitSt.busRead_low h
  case busReadLatched => exact fun x q a e hg hl => UnitSt.busRead_latched hg hl
  case lowWrite => exact fun s u q a v t => rfl
  case lowWriteCell => exact fun s c r a v t => rfl
  case highWrite => exact fun s u q a v t => rfl
  case highWriteCell => exact fun s c r a v t => rfl
  case busWrite =>
    intro x q a v t
    exact UnitSt.busWrite_eq
  case regWrite => exact fun s u q a v be t h => if_pos h
  case regWriteCell => exact fun s c r a v be t h => if_pos h
  case regWritePart => exact fun s u q a v be t h => execRegWrite_unit_part h
  case flashprog => exact fun s u wr sram addr data t h => unitStep_eq (if_pos h)

/-- Settles O51: the guard turns a denied access and one in no page away before any register is reached. -/
theorem deniedAndUnmappedAccess : Obligations.DeniedAndUnmappedAccess := by
  refine ⟨?read, ?write, ?bar2, ?unmapped, ?core⟩
  case read => exact fun s u q a hd hb => unitStep_eq ((UnitSt.readAt_reg hb).trans (UnitSt.guardRead_denied hd))
  case write =>
    intro s u q a v t hd hb h4
    exact (execRegWrite_unit_word h4).trans (unitStep_eq ((UnitSt.writeAt_reg hb).trans (UnitSt.guard_denied hd)))
  case bar2 => exact fun s u q a v t hb h2 h4 => (execRegWrite_unit_word h4).trans (unitStep_eq (UnitSt.writeAt_bar2 hb h2))
  case unmapped => exact fun x q w a k hd hp => UnitSt.guard_unmapped hd hp
  case core => exact fun x n w a => UnitSt.denied_core n

/-- Settles O52: what PF0RO leaves PF0 to write is R464's list, and no other rule denies it. -/
theorem pf0ReadOnly : Obligations.Pf0ReadOnly := by
  refine ⟨fun x a hro hlist => UnitSt.denied_pf0ro hro ?_, fun x a hlist => UnitSt.denied_pf0_exempt (pf0roExempt_iff.mpr hlist)⟩
  exact eq_false_of_ne_true (fun he => hlist (pf0roExempt_iff.mp he))

/-- Settles O55: the read of the low word leaves the high one in the latch, where the read of the high word finds it. -/
theorem pairsAreReadAsOne : Obligations.PairsAreReadAsOne := by
  intro x y q a b ha hb hy
  refine ⟨UnitSt.busRead_low ha, ?_⟩
  have hl : (y.req q).latch.find? (fun e => e.1 == b) = some (b, x.liveWord q b) := by
    rw [hy]
    exact List.find?_cons_of_pos (beq_self_eq_true b)
  rw [UnitSt.busRead_latched hb hl, UnitSt.onReq, hy]
  simp only [List.filter_cons, bne_self_eq_false, Bool.false_eq_true, if_false, List.filter_nil]

/-- Settles O56: the bit of each mask, by its mask. -/
theorem writesFollowTheAccessCodes : Obligations.WritesFollowTheAccessCodes := by
  intro old data set clear j hj hd
  have hdis := testBit_of_disjoint hd hj
  simp only [mergeWrite, BitVec.getLsbD_and, BitVec.getLsbD_or, BitVec.getLsbD_not, hj, decide_true, Bool.true_and,
    getLsbD_ofNat_32 hj]
  cases hs : set.testBit j with
  | true => simp only [hdis hs, Bool.not_true, Bool.and_false, Bool.and_true, Bool.false_or, Bool.not_false, if_true]
  | false => cases clear.testBit j <;> simp

end Sys2Proof.Machine
end

section
/-! PROOFS. The JTAG instructions (O1), the clock's events (O2), power requests (O3), and the fault collector, resets and locks, and a
cell's faults and ledger (O30, O31, O42, O53). -/
namespace Sys2Proof.Machine

/-- Settles O1: each instruction is told by the part it is shifted into. -/
theorem jtagInstructions : Obligations.JtagInstructions := by
  refine ⟨?extest, ?idcode, ?sample, ?highz, ?clamp, ?flashprog, ?flashprogRefused, ?flashprogCell, ?debug, ?debugRefused, ?bypass⟩
  case extest => exact fun s p low => by cases low <;> rfl
  case idcode => exact fun s p => rfl
  case sample => exact fun s p pins load => rfl
  case highz => exact fun s p low => by cases low <;> rfl
  case clamp => exact fun s p low => by cases low <;> rfl
  case flashprog =>
    intro s u h
    simp only [exec_jtagFlashprog, execJtagFlashprog, h, if_true]
    rfl
  case flashprogRefused =>
    intro s u h
    simp only [exec_jtagFlashprog, execJtagFlashprog, h, Bool.false_eq_true, if_false]
    rfl
  case flashprogCell => exact fun s c => rfl
  case debug =>
    intro s p h
    simp only [exec_jtagDebug, execJtagDebug, h, Bool.false_eq_true, if_false]
    rfl
  case debugRefused =>
    intro s p h
    simp only [exec_jtagDebug, execJtagDebug, h, if_true]
    rfl
  case bypass =>
    intro s p code h
    simp only [exec_jtagBypass, execJtagBypass, h, Bool.false_eq_true, if_false]
    rfl

/-- Settles O2: each event is told by the unit as it stands. -/
theorem clockEvents : Obligations.ClockEvents := by
  refine ⟨?loss, ?back, ?pll, ?temperature⟩
  case loss => exact fun s u t h => unitStep_eq (if_neg (ne_true_of_eq_false h))
  case back =>
    intro s u t hp hh
    refine unitStep_eq ((if_neg (ne_true_of_eq_false hp)).trans ?_)
    rw [if_pos hh]
    rfl
  case pll =>
    intro s u n h
    refine unitStep_eq ?_
    dsimp only
    rw [if_pos h]
  case temperature =>
    intro s u tj hpeak hhi hcrit
    refine unitStep_eq ?_
    dsimp only
    rw [if_pos hpeak, if_neg (not_lt.mpr hhi), if_neg (not_lt.mpr hcrit)]

/-- Settles O3: each request is told by the unit's state. -/
theorem powerRequests : Obligations.PowerRequests := by
  refine ⟨?run, ?hold, ?holdFromQuiet, ?quiet, ?enter⟩
  case run => exact fun s u q h hc => unitStep_eq ((UnitSt.guard_allowed h).trans (if_pos hc))
  case hold => exact fun s u q h hr => unitStep_eq ((UnitSt.guard_allowed h).trans (if_pos hr))
  case holdFromQuiet =>
    exact fun s u q h hr hq => unitStep_eq ((UnitSt.guard_allowed h).trans ((if_neg (ne_true_of_eq_false hr)).trans (if_pos hq)))
  case quiet => exact fun s u q h hp => unitStep_eq ((UnitSt.guard_allowed h).trans (if_pos hp))
  case enter => exact fun s u h => unitStep_eq (if_pos h)

end Sys2Proof.Machine
end

section
/-! PROOFS. The fault collector, resets and locks (O30, O31, O53), and a cell's faults and ledger (O42). -/
namespace Sys2Proof.Machine

section

variable {x : UnitSt} {w n : Nat}

/-! Writes of the latch (R532). -/

/-- A word of one bit names that bit alone. -/
theorem bitsOf_two_pow (h : n < w) : bitsOf w (2 ^ n) = [n] := by
  have hp : (fun i => (2 ^ n).testBit i) = fun i => i == n := by
    funext i
    rw [Nat.testBit_two_pow, Bool.eq_iff_iff, decide_eq_true_eq, beq_iff_eq, eq_comm]
  rw [bitsOf, hp, List.filter_beq, List.count_eq_one_of_mem List.nodup_range (List.mem_range.mpr h), List.replicate_one]

/-- A write of 1 to a latched bit clears it where its line carries none, and sets CLRREF otherwise. -/
theorem UnitSt.fltLatchClear_bit (hn : n < 29) (hl : bitAt (x.fld FLT_LATCH_LO.LATCH) n = true) :
    x.fltLatchClear (2 ^ n) = if x.srcLine n = 0 then
        (x.set FLT_LATCH_LO.LATCH (x.fld FLT_LATCH_LO.LATCH ^^^ (1 <<< n))).set FLT_LCLS.CLS 0 n
      else x.err FLT_ERR.CLRREF := by
  rw [UnitSt.fltLatchClear, bitsOf_two_pow hn, List.foldl_cons, List.foldl_nil, hl]
  rfl

end

section

variable {x : CellSt} {w : Word}

/-! The ledger of a cell (R550). -/

/-- A request of the ledger of KIND 0x10 is refused while one is busy, and otherwise appended. -/
theorem CellSt.lreqWrite_event (h : CFLT_LREQ3.KIND.get w 0 = 0x10) : x.lreqWrite w =
    if x.ledgerBusy = true then (rcRefused, x.set CFLT_LREQ3.RES 2)
    else (rcOk, (x.set CFLT_LREQ3.RES 0).ledger true (ledgerEntry 0x10 (CFLT_LREQ3.SUB.get w 0)
      ((List.range 3).flatMap (fun i => leBytes 4 (x.fld CFLT_LREQ0.DATA i))))) :=
  (if_neg (by rw [h]; decide)).trans (if_neg (not_not_intro h))

end

/-- Settles O30: each cycle, write, timer and record is told by the unit as it stands. -/
theorem faultCollectorAndWatchdogs : Obligations.FaultCollectorAndWatchdogs := by
  refine ⟨?latch, ?clear, ?fault, ?grace, ?kick, ?expire, ?health, ?healthRx, ?window, ?partnerReset⟩
  case latch => exact fun s u t cyc h => unitStep_eq (if_neg h)
  case clear => exact fun s u q v h => unitStep_guard_allowed h
  case fault => exact fun x => rfl
  case grace => exact fun s u t h => unitStep_eq (if_neg h)
  case kick => exact fun s u q n v t h => unitStep_guard_allowed h
  case expire => exact fun s u n t h => unitStep_eq (if_pos h)
  case health => exact fun s u t tj eyes spleye h => unitStep_eq (if_neg h)
  case healthRx => exact fun s u record h => unitStep_eq (if_neg (bnot_ne_true h))
  case window => exact fun s u t cyc => rfl
  case partnerReset =>
    intro s u hi hr
    rw [exec_partnerResetRx, execPartnerResetRx_resets hi hr]
    rfl

/-- Settles O31: each reset, lock, error and row is told by its guard and by the table of rows. -/
theorem blockResetsLocksAndRows : Obligations.BlockResetsLocksAndRows := by
  refine ⟨?reset, ?resetCell, ?lock, ?lockCell, ?ecc, ?eccCell, ?scrub, ?retire, ?rowCopy, ?switch, ?age, ?request⟩
  case reset =>
    intro s u q a en t ha h
    rw [exec_blockReset, execBlockReset_unit ha]
    exact unitStep_guard_allowed h
  case resetCell =>
    intro s c r a en t ha
    rw [exec_blockReset, execBlockReset_cell ha]
    rfl
  case lock =>
    intro s u q a v t ha h
    rw [exec_lockWrite, execLockWrite_unit ha]
    exact unitStep_guard_allowed h
  case lockCell =>
    intro s c r a v t ha
    rw [exec_lockWrite, execLockWrite_cell ha]
    rfl
  case ecc => exact fun s u addr d t h => unitStep_eq (if_neg (bnot_ne_true h))
  case eccCell => exact fun s c addr d t h => cellStep_eq (if_neg h)
  case scrub => exact fun s u h => unitStep_eq (if_pos h)
  case retire => exact fun s u row h => unitStep_eq (if_pos h)
  case rowCopy => exact fun x row req h => if_neg (ne_true_of_eq_false h)
  case switch =>
    intro s u row t r req hf h
    exact unitStep_eq (by dsimp only; rw [hf]; exact if_neg (ne_true_of_eq_false h))
  case age => exact fun s u row t h => unitStep_eq (if_pos h)
  case request => exact fun s u q v h => unitStep_guard_allowed h

/-- Settles O42: each cycle, write, timer and entry is told by the cell as it stands. -/
theorem cellFaultsAndLedger : Obligations.CellFaultsAndLedger := by
  refine ⟨?collect, ?clear, ?grace, ?window, ?request, ?refused, ?latchClear, ?empty, ?busy, ?entry, ?append, ?daily, ?patch,
    ?patchWrite⟩
  case collect => exact fun s c t cyc h => cellStep_eq (if_neg h)
  case clear => exact fun s c r v h0 h2 => cellStep_access_on h0 (by decide) h2
  case grace =>
    intro s c n t m t0 hf h
    exact cellStep_eq (by dsimp only; rw [hf]; exact if_pos h)
  case window => exact fun s c t cyc => rfl
  case request => exact fun s c r v h0 h2 => cellStep_access_on h0 (by decide) h2
  case refused => exact fun x w h0 h10 => (if_neg h0).trans (if_pos h10)
  case latchClear => exact fun x bits => by simp only [CellSt.latchClear, Bool.not_eq_true']
  case empty => exact fun x w h => if_pos h
  case busy => exact fun x w h hb => (CellSt.lreqWrite_event h).trans (if_pos hb)
  case entry => exact fun x w h hb => (CellSt.lreqWrite_event h).trans (if_neg (ne_true_of_eq_false hb))
  case append =>
    intro s c ok req e ha hp
    exact cellStep_eq (by dsimp only; rw [ha]; exact if_neg (not_not_intro hp))
  case daily => exact fun s c h => cellStep_eq (if_pos h)
  case patch => exact fun s c r h0 h2 => cellStep_access_on h0 (by decide) h2
  case patchWrite =>
    intro x
    have hact : ¬ CGEN_PATCH.ACT.get 0x80000000 0 = 0 := by decide
    simp only [CellSt.patchWrite, if_neg hact, Bool.or_eq_true, bne_iff_ne, Bool.not_eq_true']

/-- Settles O53: the write names one bit, and its line says what becomes of it. -/
theorem faultLatchClear : Obligations.FaultLatchClear := by
  intro s u q n h hl
  have hb : (BitVec.ofNat 32 (2 ^ n.val)).toNat = 2 ^ n.val := by
    rw [BitVec.toNat_ofNat, Nat.mod_eq_of_lt (Nat.pow_lt_pow_right (by decide) (by omega))]
  refine unitStep_eq ((UnitSt.guard_allowed h).trans ?_)
  rw [hb, UnitSt.fltLatchClear_bit n.isLt hl]

end Sys2Proof.Machine
end

section
/-! PROOFS. The security engine and the flash loader (O33), and the minimum version (O54). -/
namespace Sys2Proof.Machine

section

variable {s : State} {u : UnitId} {x : UnitSt} {q : Requester} {v : Word}

/-! Commands of the security engine (R567, R595). -/

/-- While a verification runs a command is out of range. -/
theorem UnitSt.secCmd_busy (h : x.verif.isSome = true) : x.secCmd v = x.err SEC_ERR.RANGE := if_pos h

/-- An idle engine verifies with the key at VKEY. -/
theorem UnitSt.secCmd_verify (h : x.verif.isSome = false) : x.secCmd 1 = x.secVerify false := if_neg (ne_true_of_eq_false h)

/-- An idle engine verifies with the key of the CA. -/
theorem UnitSt.secCmd_verifyCa (h : x.verif.isSome = false) : x.secCmd 0x11 = x.secVerify true := if_neg (ne_true_of_eq_false h)

theorem UnitSt.secCmd_raise (h : x.verif.isSome = false) : x.secCmd 2 = x.secRaise := if_neg (ne_true_of_eq_false h)

theorem UnitSt.secCmd_random (h : x.verif.isSome = false) : x.secCmd 3 = x.secRandom := if_neg (ne_true_of_eq_false h)

/-- A verification of a message inside the SRAM, which runs, begins with the answer that it will show. -/
theorem UnitSt.secVerify_starts {ca : Bool} (hlen : x.fld SEC_VLEN.VLEN ≠ 0)
    (hin : (sramRange (x.fld SEC_VMSG.VMSG) (x.fld SEC_VLEN.VLEN) && sramRange (x.fld SEC_VSIG.VSIG) 96 &&
      (ca || sramRange (x.fld SEC_VKEY.VKEY) 97)) = true) (hon : x.sramOn = true) :
    x.secVerify ca = { x.set SEC_VCMD.RES 2 with verif := some (
      if ca then Config.caVerify (x.sramBytes (x.fld SEC_VMSG.VMSG) (x.fld SEC_VLEN.VLEN)) (x.sramBytes (x.fld SEC_VSIG.VSIG) 96)
      else Config.verify (x.sramBytes (x.fld SEC_VKEY.VKEY) 97) (x.sramBytes (x.fld SEC_VMSG.VMSG) (x.fld SEC_VLEN.VLEN))
        (x.sramBytes (x.fld SEC_VSIG.VSIG) 96)) } :=
  (if_neg hlen).trans ((if_neg (bnot_ne_true hin)).trans (if_neg (bnot_ne_true hon)))

/-- RANDOM writes 32 free bytes where the SRAM, which runs, takes them. -/
theorem UnitSt.secRandom_writes (hin : sramRange (x.fld SEC_VMSG.VMSG) 32 = true) (hon : x.sramOn = true) :
    x.secRandom = (x.draw.2.sramPut (x.fld SEC_VMSG.VMSG) (leBytes 32 x.draw.1)).set SEC_VCMD.RES 1 :=
  (if_neg (bnot_ne_true hin)).trans (if_neg (bnot_ne_true hon))

/-! Commands of the flash loader (R596). -/

/-- A command of an idle loader on bytes inside flash and SRAM and outside the booted slot begins. -/
theorem UnitSt.flsCmd_starts (hidle : x.fls.isSome = false) (hop : ¬ (v.toNat % 8 = 0 ∨ 4 < v.toNat % 8))
    (hlen : x.fld FLS_LEN.LEN ≠ 0)
    (hin : ¬ (flashSize < (flsSpan (v.toNat % 8) (x.fld FLS_ADDR.ADDR) (x.fld FLS_LEN.LEN)).2 ∨
      (2 ≤ v.toNat % 8 ∧ v.toNat % 8 ≤ 3 ∧ (!x.inSram (x.fld FLS_SRAM.SRAM) (x.fld FLS_LEN.LEN)) = true) ∨
      (v.toNat % 8 = 4 ∧ 2 * slotSize ≤ x.fld FLS_ADDR.ADDR)))
    (hslot : ¬ (v.toNat % 8 ≤ 2 ∧ x.boot = .up ∧
      (flsSpan (v.toNat % 8) (x.fld FLS_ADDR.ADDR) (x.fld FLS_LEN.LEN)).1 < slotBase (x.fld GEN_BOOT.SLOT) + slotSize ∧
      slotBase (x.fld GEN_BOOT.SLOT) < (flsSpan (v.toNat % 8) (x.fld FLS_ADDR.ADDR) (x.fld FLS_LEN.LEN)).2)) :
    x.flsCmd v = { x.set FLS_CMD.RES 2 with
      fls := some ⟨v.toNat % 8, x.fld FLS_ADDR.ADDR, x.fld FLS_SRAM.SRAM, x.fld FLS_LEN.LEN⟩ } :=
  (if_neg (ne_true_of_eq_false hidle)).trans ((if_neg hop).trans ((if_neg hlen).trans ((if_neg hin).trans (if_neg hslot))))

/-! Images (R565). -/

theorem UnitSt.byteAt_flashBytes {a n i : Nat} (h : i < n) : byteAt (x.flashBytes a n) i = (x.flashByte (a + i)).toNat := by
  simp [byteAt, UnitSt.flashBytes, h]

/-- The version stands in the first 512 bytes of a slot as in its header. -/
theorem UnitSt.slotVersion_header (k : Nat) : x.slotVersion k = leAt (x.flashBytes (slotBase k) 4096) 8 4 :=
  leAt_congr (fun j hj => by rw [UnitSt.byteAt_flashBytes (by omega), UnitSt.byteAt_flashBytes (by omega)])

/-- A choice one of whose ends is something, and whose other end is too, is something. -/
theorem isSome_ite {α : Type} {p : Prop} [Decidable p] {a : α} {o : Option α} (h : o.isSome = true) :
    (if p then some a else o).isSome = true := by
  split
  · rfl
  · exact h

/-- A slot whose version is below MINVER fails, if not before then at its version. -/
theorem UnitSt.slotFail_old {k : Nat} (h : x.slotVersion k < x.fld SEC_MINVER.MINVER) : (x.slotFail k).isSome = true := by
  rw [UnitSt.slotVersion_header] at h
  unfold UnitSt.slotFail
  dsimp only
  refine isSome_ite (isSome_ite (isSome_ite (isSome_ite (isSome_ite (isSome_ite ?_)))))
  rw [if_pos h]
  rfl

end

/-- Settles O33: each command is told by its engine's state, its range and its memory. -/
theorem securityAndFlashCommands : Obligations.SecurityAndFlashCommands := by
  refine ⟨?verify, ?verifyCa, ?busy, ?done, ?raise, ?random, ?erase, ?program, ?read, ?check, ?opDone⟩
  case verify =>
    intro s u q h hv hlen hin hon
    exact unitStep_eq ((UnitSt.guard_allowed h).trans ((UnitSt.secCmd_verify hv).trans (UnitSt.secVerify_starts hlen hin hon)))
  case verifyCa =>
    intro s u q h hv hlen hin hon
    refine unitStep_eq ((UnitSt.guard_allowed h).trans ((UnitSt.secCmd_verifyCa hv).trans (UnitSt.secVerify_starts hlen ?_ hon)))
    rw [hin, Bool.true_or, Bool.and_self]
  case busy => exact fun s u q ca h hv => unitStep_eq ((UnitSt.guard_allowed h).trans (UnitSt.secCmd_busy hv))
  case done =>
    intro s u ok h
    refine unitStep_eq ?_
    dsimp only
    rw [h]
    cases ok <;> rfl
  case raise =>
    intro s u q h hv ht
    exact unitStep_eq ((UnitSt.guard_allowed h).trans ((UnitSt.secCmd_raise hv).trans (if_neg (ne_true_of_eq_false ht))))
  case random =>
    intro s u q h hv hin hon
    exact unitStep_eq ((UnitSt.guard_allowed h).trans ((UnitSt.secCmd_random hv).trans (UnitSt.secRandom_writes hin hon)))
  case erase =>
    intro s u q h hidle hlen hin hslot
    refine unitStep_eq ((UnitSt.guard_allowed h).trans (UnitSt.flsCmd_starts hidle (by decide) hlen hin ?_))
    exact fun hb => hslot hb.2
  case program =>
    intro s u q h hidle hlen hin hslot
    refine unitStep_eq ((UnitSt.guard_allowed h).trans (UnitSt.flsCmd_starts hidle (by decide) hlen hin ?_))
    exact fun hb => hslot hb.2
  case read =>
    intro s u q h hidle hlen hin
    refine unitStep_eq ((UnitSt.guard_allowed h).trans (UnitSt.flsCmd_starts hidle (by decide) hlen hin ?_))
    exact fun hb => absurd hb.1 (by decide)
  case check =>
    intro s u q h hidle hlen hin
    refine unitStep_eq ((UnitSt.guard_allowed h).trans (UnitSt.flsCmd_starts hidle (by decide) hlen hin ?_))
    exact fun hb => absurd hb.1 (by decide)
  case opDone =>
    intro s u ecc o ho hon
    refine unitStep_eq ?_
    dsimp only
    rw [ho]
    exact if_neg (bnot_ne_true hon)

/-- Settles O54: RAISE is told by the trial, and a slot by its version. -/
theorem minimumVersion : Obligations.MinimumVersion := by
  refine ⟨?raise, ?trial, ?old⟩
  case raise =>
    intro s u q h hv ht
    refine unitStep_eq ((UnitSt.guard_allowed h).trans ((UnitSt.secCmd_raise (by rw [hv]; rfl)).trans ?_))
    exact if_neg (ne_true_of_eq_false ht)
  case trial =>
    intro s u q h hv ht
    exact unitStep_eq ((UnitSt.guard_allowed h).trans ((UnitSt.secCmd_raise (by rw [hv]; rfl)).trans (if_pos ht)))
  case old =>
    intro x k h
    rw [UnitSt.slotValid, Option.isNone_eq_false_iff]
    exact UnitSt.slotFail_old h

end Sys2Proof.Machine
end
